-- ==== Sys2Proof/Word.lean ====
section
/-!
DEFINITION. Word.lean: the two fixed-width words of the part.

Registers are 32 bits wide (R2); flash, fuse and bus traffic is counted in bytes.
-/
namespace Sys2Proof

/-- A 32-bit register value (R2). -/
abbrev Word := BitVec 32

/-- One byte of flash, of the Dawn fuses or of a bus transfer. -/
abbrev Byte := BitVec 8

end Sys2Proof
end

