-- ==== Sys2Proof/Syntax.lean ====
section
/-!
DEFINITION. Syntax.lean: the commands of the part and the data they carry.

The opcode table gives no row any bits, so a command's operands are what its rules say the step is about: the
requester port of a register access, the index of an instance, a measured quantity, the fields of a received frame.
-/
namespace Sys2Proof

/-- The supply pins of R38. -/
inductive SupplyPin where
  | vin48 | vin12 | vpack | vsol | chgIn | vbkp | vddio
  | vbank (b : Fin 8)
deriving DecidableEq, Repr

/-- The four causes of a channel trip that R138 counts separately. -/
inductive TripCause where
  | sc | oc | wire | soa
deriving DecidableEq, Repr

/-- The clock domains a missing-clock detector watches (R12), and a port's own clock. -/
inductive ClockDomain where
  | sys | pwm | adc (c : Fin 4) | nvm | bkp | port
deriving DecidableEq, Repr

/-- The three kinds of coach (R425). -/
inductive CoachKind where
  | read | write | service
deriving DecidableEq, Repr

/-- The conditions that move the charger through its cycle (R491). -/
inductive ChgEvent where
  | preReached | cvReached | terminated | topoffDone | recharge | tempOut | tempBack | inputLost | inputBack
deriving DecidableEq, Repr

/-- A full-rate chain frame: its header fields (R312) and its payload words. -/
structure Frame where
  typ : Nat
  bc : Bool
  dst : Nat
  noaddr : Bool
  src : Nat
  ttl : Nat
  seq : Nat
  hop : Bool
  path : Bool
  pay : List Nat
deriving DecidableEq, Repr


/-- The commands of the part: one constructor per row of the opcode table, with the row's operands. -/
inductive Instr where
  /-- R6, REGISTER_WRITE: A write to a register that has no row of its own, applying access codes, reserved-encoding and SEAL rules. -/
  | registerWrite (rq : Fin 24) (addr : Nat) (data : Word)
  /-- R3, READ_CLEAR: A read of a register with RC fields returns the value and returns those fields to zero or their named value. -/
  | readClear (rq : Fin 24) (addr : Nat)
  /-- R660, SNAPSHOT_READ: A read of a LO register of an RO 64-bit pair snapshots its HI register for the reading requester port. -/
  | snapshotRead (rq : Fin 24) (addr : Nat)
  /-- R38, SUPPLY_RISE: A supply pin crosses its rising threshold; the first start supply to do so defines t0. -/
  | supplyRise (pin : SupplyPin) (mv : Nat)
  /-- R38, SUPPLY_FALL: A supply pin crosses its falling threshold and its presence is lost. -/
  | supplyFall (pin : SupplyPin) (mv : Nat)
  /-- R44, DAWN_ENTRY: The part enters Dawn: it samples straps, arms rail supervisors and fuse monitors, applies channel Dawn states and starts the error pair. -/
  | dawnEntry (head : Bool) (twa : Fin 8) (vddioMv : Nat)
  /-- R47, DAWN_SC_TRIP: A Dawn short-circuit trip turns the channel off and latches it until the image is applied. -/
  | dawnScTrip (ch : Fin 64)
  /-- R49, MORNING_ENTRY: The SYS and PWM PLLs lock, the clock changes over and Morning starts reading the slot headers. -/
  | morningEntry (density : Option (Fin 3))
  /-- R49, PLL_LOCK_TIMEOUT: The PLLs have not locked 2 ms after Dawn entry, so PLL_LOCK is raised. -/
  | pllLockTimeout
  /-- R49, PLL_LOCK_RETRY: The 10 ms retry interval expires and the lock attempt restarts. -/
  | pllLockRetry
  /-- R79, SLOT_CHECK_DONE: The reading and checking of one slot completes with a pass or a result code, and the next slot is tried or defaults apply. -/
  | slotCheckDone (slot : Bool) (readErr : Bool)
  /-- R50, ENGINES_START: E0–E7 start and frames anchor; local admission, sequences, itinerary and chain training then begin. -/
  | enginesStart
  /-- R53, NOON_ENTRY: The unit enters Noon once engines run, the address and CT lock are held and E0 admits against chain shares. -/
  | noonEntry
  /-- R54, NOON_TIMEOUT: TOP.NOON.TIMEOUT expires without Noon, giving chain-solo Noon or NOON_LATE. -/
  | noonTimeout
  /-- R59, SUPPLY_LOW: The HK output falls below 4.6 V, so SUPPLY_LOW is raised and the power-fail record is begun. -/
  | supplyLow (hkMv : Nat)
  /-- R61, BROWN_OUT: The HK output falls below 4.2 V, causing a power-on reset with all gates low. -/
  | brownOut
  /-- R61, RST_N_RESET: RST_N held low for at least 1 µs resets the part and keeps qualifying channels on. -/
  | rstNReset (lowNs : Nat)
  /-- R67, SOFTWARE_RESET: A TOP.CTL write with SWRST and the correct key causes a software reset. -/
  | softwareReset (rq : Fin 24) (key : BitVec 16) (swrst : Bool)
  /-- R15, LOAD_WINDOW_END: A 1 ms local-timebase window ends and ENG[n].STAT.LOAD and PEAK are updated. -/
  | loadWindowEnd (loads : List Nat)
  /-- R14, LOCKSTEP_MISMATCH: An E0–E3 output differs from its shadow, so the engine halts and ENGn_LOCKSTEP is raised. -/
  | lockstepMismatch (e : Fin 4)
  /-- R12, MISSING_CLOCK: A missing-clock detector finds its watched clock absent and raises its CLK fault source. -/
  | missingClock (d : ClockDomain)
  /-- R86, UPD_OPEN: The OPEN update command claims the update session for the issuing requester port. -/
  | updOpen (rq : Fin 24) (slot : Bool)
  /-- R87, UPD_CLOSE: The CLOSE update command releases the session. -/
  | updClose (rq : Fin 24)
  /-- R87, UPD_ERASE: The ERASE update command starts a keyed erase of a 64 KiB sector in the target slot. -/
  | updErase (rq : Fin 24) (key : BitVec 16)
  /-- R87, UPD_PROGRAM: The PROGRAM update command starts a keyed program of UPD_BUF to the target slot. -/
  | updProgram (rq : Fin 24) (key : BitVec 16)
  /-- R87, UPD_READ: The READ update command starts a read of 256 bytes from the target slot into UPD_BUF. -/
  | updRead (rq : Fin 24)
  /-- R87, UPD_VERIFY: The VERIFY update command starts a full check of the target slot. -/
  | updVerify (rq : Fin 24)
  /-- R88, UPD_COMMAND_DONE: An erase, program, read or verify completes, clearing BUSY and setting ERR or VRES. -/
  | updCommandDone (devErr : Bool)
  /-- R86, UPD_SESSION_TIMEOUT: 5 s after the holder's last command, the update session ends. -/
  | updSessionTimeout
  /-- R113, CHN_MODE_OFF: A CTL.MODE write of off turns the channel off, withdraws its request or cancels its retry. -/
  | chnModeOff (ch : Fin 64)
  /-- R104, CHN_MODE_ON: A CTL.MODE write of on requests admission through PENDING or moves CREG/PRE/PWM toward ON. -/
  | chnModeOn (ch : Fin 64)
  /-- R103, CHN_MODE_PWM: A CTL.MODE write of PWM requests admission or switches a running channel to PWM. -/
  | chnModePwm (ch : Fin 64)
  /-- R103, CHN_MODE_CREG: A CTL.MODE write of current-regulated requests admission or switches a running channel to CREG. -/
  | chnModeCreg (ch : Fin 64)
  /-- R111, CHN_MODE_PRECHARGE: A CTL.MODE write of pre-charge requests admission for a pre-charge. -/
  | chnModePrecharge (ch : Fin 64)
  /-- R125, CHN_CLR_LATCH: A CTL.CLR_LATCH write moves a LATCHED channel to OFF. -/
  | chnClrLatch (ch : Fin 64)
  /-- R108, RAMP_COMPLETE: V_GS reaches 9.0 V, so the channel enters ON and records EDGE_CT. -/
  | rampComplete (ch : Fin 64)
  /-- R108, RAMP_TIME_LIMIT: RAMP lasts longer than SOA.TIME_MS and the channel trips with cause SOA. -/
  | rampTimeLimit (ch : Fin 64)
  /-- R109, SOA_SAMPLE: The 2 µs SOA tick adds V_DS × I and subtracts P_CONT from the accumulator. -/
  | soaSample (ch : Fin 64) (vdsMv : Nat) (iMa : Nat) (vbankMv : Nat)
  /-- R115, SC_TRIP: The short-circuit comparator trips, so the strong pull-down starts and the channel goes to WAIT or LATCHED. -/
  | scTrip (ch : Fin 64)
  /-- R118, OPEN_LOAD: In ON the current stays below OL_MA for OL_MS, setting OPEN_LOAD and raising CHnn_OL. -/
  | openLoad (ch : Fin 64)
  /-- R112, PRE_LIMIT: Pre-charge energy reaches PRE_E.MAX_MJ and the pre-charge ends without a turn-on. -/
  | preLimit (ch : Fin 64)
  /-- R113, RAMP_DOWN_COMPLETE: In RAMP_DOWN V_GS falls below 1.0 V and the strong pull-down completes the turn-off to OFF. -/
  | rampDownComplete (ch : Fin 64)
  /-- R114, PWM_PERIOD_START: A channel PWM period boundary starts, applying any new duty, period or phase. -/
  | pwmPeriodStart (ch : Fin 64)
  /-- R120, RETRY_READY: Every pending cause's retry delay has elapsed, so the channel enters PENDING to seek admission. -/
  | retryReady (ch : Fin 64)
  /-- R121, RETRY_REREQUEST: 1 ms after a refused retry, the channel repeats its admission request. -/
  | retryRerequest (ch : Fin 64)
  /-- R120, RETRY_COUNT_RESET: After 1 s running without a trip of cause c, r_c returns to 0. -/
  | retryCountReset (ch : Fin 64) (cause : TripCause)
  /-- R154, WIRE_MODEL_FRAME: A wire-model frame integrates the conductor and insulation temperatures of 32 channels. -/
  | wireModelFrame (half : Bool) (work : Nat)
  /-- R153, WIRE_STALE: A driven channel has had no current result for 4 ms, setting STALE and raising WIRE_STALE. -/
  | wireStale (ch : Fin 64)
  /-- R159, AMBIENT_FAULT: An ambient source's result is older than 10 ms or out of range, so the fallback is used. -/
  | ambientFault (k : Fin 16)
  /-- R165, WIRE_RETENTION_WRITE: The 10 ms timer writes the wire-model retention record to the backup domain. -/
  | wireRetentionWrite
  /-- R198, LOOP_ENABLE: A write of LOOP CTL.EN = 1 requests turn-on admission, or restarts a stopping loop. -/
  | loopEnable (l : Fin 4)
  /-- R198, LOOP_DISABLE: A write of LOOP CTL.EN = 0 turns the loop off at once or ramps it down in STOP. -/
  | loopDisable (l : Fin 4)
  /-- R198, LOOP_CLR_LATCH: A write of LOOP CTL.CLR_LATCH moves a LATCHED loop to OFF. -/
  | loopClrLatch (l : Fin 4)
  /-- R190, LOOP_CSEL_CHANGE: A write of CTL.CSEL selects a new coefficient set at the next sample. -/
  | loopCselChange (l : Fin 4) (sel : Fin 64)
  /-- R200, LOOP_VSET_WRITE: A write of LOOP VSET requests a raise, lowers VTGT or stores the value. -/
  | loopVsetWrite (l : Fin 4) (code : Fin 8192)
  /-- R199, SENSE_CHECK_DONE: The 5 µs sense check ends, passing to START or failing to OFF with SENSE_OPEN. -/
  | senseCheckDone (l : Fin 4) (openLine : Bool) (senseUv : Int)
  /-- R188, LOOP_SAMPLE: A 40 ns error sample runs the compensator, moves VREF and updates V_cmd and the duty. -/
  | loopSample (l : Fin 4) (voutUv : Int)
  /-- R184, LOOP_PERIOD_START: A loop period starts, latching on-times and re-spacing phases. -/
  | loopPeriodStart (l : Fin 4)
  /-- R193, IMON_SAMPLE: A phase IMON sample updates the phase current and applies the per-phase current limit. -/
  | imonSample (k : Fin 16) (code : BitVec 11) (onTime : Bool)
  /-- R194, BALANCE_UPDATE: The 1 µs balance step updates each active phase's trim b[k]. -/
  | balanceUpdate (l : Fin 4)
  /-- R194, BALANCE_LIMIT_TIMEOUT: A trim stays at its limit for 1 ms, setting BAL_LIM and raising LOOPn_IMBAL. -/
  | balanceLimitTimeout (k : Fin 16)
  /-- R195, PHASE_SHED_WINDOW: At the end of a 10 µs window, phases are added or dropped under the shedding rule. -/
  | phaseShedWindow (l : Fin 4) (iMa : Int)
  /-- R189, VIN_FALLBACK: A measured VIN is low or older than 100 µs, so FIX_MV is used and LOOPn_VIN is raised. -/
  | vinFallback (l : Fin 4)
  /-- R227, STEP_PIN_ACTIVE: An active edge on STEPn announces PIN_DI with ID 0x00. -/
  | stepPinActive (l : Fin 4)
  /-- R227, STEP_PIN_INACTIVE: An inactive edge on STEPn before the apply instant cancels ID 0x00. -/
  | stepPinInactive (l : Fin 4)
  /-- R228, ANN_CTL_ANNOUNCE: A LOOP ANN_CTL announce write is judged and accepted or rejected. -/
  | annCtlAnnounce (l : Fin 4) (id : BitVec 8) (di : BitVec 12)
  /-- R229, ANN_CTL_CANCEL: A LOOP ANN_CTL cancel write removes or ramps out the named announcement. -/
  | annCtlCancel (l : Fin 4) (id : BitVec 8)
  /-- R228, STEP_ANN_ANNOUNCE: A received STEP_ANN frame with CMD announce is judged against the loop. -/
  | stepAnnAnnounce (l : Fin 4) (id : BitVec 8) (di : BitVec 12) (ct : BitVec 64)
  /-- R229, STEP_ANN_CANCEL: A received STEP_ANN frame with CMD cancel cancels the named announcement. -/
  | stepAnnCancel (l : Fin 4) (id : BitVec 8)
  /-- R231, ANN_APPLY: An announcement's apply instant arrives and its feedforward shape enters ff_step. -/
  | annApply (l : Fin 4) (id : BitVec 8)
  /-- R235, BRAKE_TIMEOUT: Braking reaches TMAX samples, setting BRAKE_TMO and raising LOOPn_BRAKE. -/
  | brakeTimeout (l : Fin 4)
  /-- R237, HICCUP_ENTRY: RUN reaches OCL.N consecutive periods in limit and the loop enters HICCUP. -/
  | hiccupEntry (l : Fin 4)
  /-- R237, HICCUP_OFF_EXPIRY: HICCUP.OFF_MS expires and the loop restarts in START or enters LATCHED. -/
  | hiccupOffExpiry (l : Fin 4) (senseUv : Int)
  /-- R237, LOOP_HICCUP_COUNT_RESET: After 1 s in REG without hiccup, r returns to 0. -/
  | loopHiccupCountReset (l : Fin 4)
  /-- R261, REG_ENABLE: A write of REG CTL.EN = 1 requests admission for the regulator. -/
  | regEnable (r : Fin 8)
  /-- R261, REG_DISABLE: A write of REG CTL.EN = 0 stops the output stage and starts discharge. -/
  | regDisable (r : Fin 8)
  /-- R261, REG_CLR_LATCH: A write of REG CTL.CLR_LATCH moves LATCHED to OFF. -/
  | regClrLatch (r : Fin 8)
  /-- R263, REG_VSET_WRITE: A write of REG VSET requests a buck raise, lowers the target, or changes an LDO output. -/
  | regVsetWrite (r : Fin 8) (code : Fin 2048)
  /-- R261, REG_SS_COMPLETE: The soft-start reference reaches its target and the regulator enters ON. -/
  | regSsComplete (r : Fin 8)
  /-- R264, REG_LIMIT_CONDITION: The current limit persists for 512 cycles or 1 ms and the regulator enters HICCUP. -/
  | regLimitCondition (r : Fin 8)
  /-- R264, REG_HICCUP_RESTART: PROT.OFF_MS expires and the regulator restarts in SS or latches. -/
  | regHiccupRestart (r : Fin 8)
  /-- R261, REG_OVERTEMP: Stage temperature reaches 170 °C and the regulator enters THERM. -/
  | regOvertemp (r : Fin 8)
  /-- R261, REG_TEMP_RECOVER: Stage temperature falls to 155 °C and the regulator re-enters SS. -/
  | regTempRecover (r : Fin 8)
  /-- R262, REG_INPUT_LOSS: A regulator's input leaves its range, so its stage stops and NOIN is set. -/
  | regInputLoss (r : Fin 8)
  /-- R262, REG_INPUT_RETURN: The input returns to its range and the regulator re-enters SS. -/
  | regInputReturn (r : Fin 8)
  /-- R264, REG_OVERVOLTAGE: Buck FB exceeds 115 % of the reference, turning off the high side and setting EVT.OV. -/
  | regOvervoltage (r : Fin 8)
  /-- R264, REG_OV_RECOVER: Buck FB falls below 105 % and switching resumes. -/
  | regOvRecover (r : Fin 8)
  /-- R265, REG_PG_SET: The output has stayed in window 50 µs after ON, so PG becomes 1. -/
  | regPgSet (r : Fin 8)
  /-- R265, REG_PG_LOST: The output leaves the window for 2 µs, so PG falls and REGx_PG is raised. -/
  | regPgLost (r : Fin 8)
  /-- R264, REG_HICCUP_COUNT_RESET: After 1 s in ON without hiccup, r returns to 0. -/
  | regHiccupCountReset (r : Fin 8)
  /-- R281, SEQ_CMD_START: A SEQ.CMD start write starts the selected sequence. -/
  | seqCmdStart (q : Fin 16)
  /-- R281, SEQ_CMD_ABORT: A SEQ.CMD abort write stops the sequence and withdraws any outstanding request. -/
  | seqCmdAbort (q : Fin 16)
  /-- R278, SEQ_OP_ON: An ON step commands its rail on. -/
  | seqOpOn (q : Fin 16)
  /-- R278, SEQ_OP_OFF: An OFF step commands its rail off. -/
  | seqOpOff (q : Fin 16)
  /-- R278, SEQ_OP_WAIT_PG: A WAIT_PG step waits for its target's power-good condition. -/
  | seqOpWaitPg (q : Fin 16)
  /-- R278, SEQ_OP_WAIT_TIME: A WAIT_TIME step waits ARG × 10 µs. -/
  | seqOpWaitTime (q : Fin 16)
  /-- R278, SEQ_OP_WAIT_CT: A WAIT_CT step waits until CT reaches T_base + ARG × 10 µs. -/
  | seqOpWaitCt (q : Fin 16)
  /-- R283, SEQ_OP_OFF_WAIT: An OFF_WAIT step turns its rail off and puts its monitor in discharge mode. -/
  | seqOpOffWait (q : Fin 16)
  /-- R278, SEQ_OP_ARM: An ARM step arms or disarms a monitor. -/
  | seqOpArm (q : Fin 16)
  /-- R278, SEQ_OP_SET_V: A SET_V step writes VSET of a regulator or loop. -/
  | seqOpSetV (q : Fin 16)
  /-- R278, SEQ_OP_FLT: A FLT step drives SEQ_FLT low for the sequence or releases it. -/
  | seqOpFlt (q : Fin 16)
  /-- R279, SEQ_STEP_COMPLETE: A step's completion condition is met and the next step begins, or the sequence is DONE. -/
  | seqStepComplete (q : Fin 16)
  /-- R278, SEQ_STEP_TIMEOUT: A step's TMO expires, so the step fails with its code. -/
  | seqStepTimeout (q : Fin 16)
  /-- R278, SEQ_WAIT_EXPIRY: The instant of a WAIT_TIME or WAIT_CT step arrives and the step completes. -/
  | seqWaitExpiry (q : Fin 16)
  /-- R287, MON_ARM_WRITE: A write of MON CFG.ARM arms or disarms a monitor, refused in discharge mode. -/
  | monArmWrite (m : Fin 48) (arm : Bool)
  /-- R288, MON_CONDITION: An armed monitor's input is out of window for FILT µs, setting the event, raising the fault and driving SEQ_FLT or a sequence. -/
  | monCondition (m : Fin 48) (isOver : Bool)
  /-- R291, MON_CONDITION_CLEAR: With AUTO_REL, a monitor condition clears and its low drive of SEQ_FLT is released. -/
  | monConditionClear (m : Fin 48)
  /-- R292, SEQ_FLT_EXTERNAL: SEQ_FLT is held low externally for 2 µs, setting EXT_EVT and starting FLT_EXT sequences. -/
  | seqFltExternal
  /-- R291, SEQ_FLT_MIN_EXPIRY: The least low-drive time MIN_US ends and a released SEQ_FLT drive may lift. -/
  | seqFltMinExpiry
  /-- R310, PORT_TRAINED: A port receives 64 valid idle sets and trains. -/
  | portTrained (p : Fin 2)
  /-- R325, PORT_LINK_LOSS: A port declares loss of link, broadcasts LINK_STATE DOWN and raises LNK_DOWN. -/
  | portLinkLoss (p : Fin 2)
  /-- R311, NIGHT_LINK_LOSS: A Night-rate port sees no transition for 2 s and declares loss of link. -/
  | nightLinkLoss (p : Fin 2)
  /-- R316, FRAME_FORWARD: A received frame's SOF starts cut-through forwarding or delivery by route. -/
  | frameForward (p : Fin 2) (f : Frame) (bad : Bool)
  /-- R318, FRAME_TRANSMIT: A queued frame begins transmitting between frames in class priority order. -/
  | frameTransmit (p : Fin 2)
  /-- R319, ENUM_RX: An ENUM frame is received and the unit takes an address, forwards ENUM or sends ENUM_END or JOINED. -/
  | enumRx (p : Fin 2) (gen : BitVec 8) (single : Bool) (next : Nat)
  /-- R319, ENUM_END_RX: The head receives ENUM_END and concludes a line of N units. -/
  | enumEndRx (gen : BitVec 8) (isOver : Bool) (n : Nat)
  /-- R319, ENUM_DONE_RX: An ENUM_DONE broadcast sets N, TOPO and CHAIN_GEN. -/
  | enumDoneRx (gen : BitVec 8) (ring : Bool) (n : Nat)
  /-- R319, ENUM_WAIT_EXPIRY: DN has not trained within ENUM_WAIT, so the unit ends the line with ENUM_END. -/
  | enumWaitExpiry
  /-- R336, LNK_CMD_REENUMERATE: A LNK.CMD re-enumerate write on the head re-enumerates the chain. -/
  | lnkCmdReenumerate (rq : Fin 24)
  /-- R336, LNK_CMD_RESET_UNIT: A keyed LNK.CMD write sends a RESET to unit UNIT. -/
  | lnkCmdResetUnit (rq : Fin 24) (key : BitVec 16) (unit : Fin 32)
  /-- R336, LNK_CMD_BROADCAST_RESET: A keyed LNK.CMD write broadcasts a RESET. -/
  | lnkCmdBroadcastReset (rq : Fin 24) (key : BitVec 16)
  /-- R323, HELLO_SEND: Every 1 ms a trained port sends a hop-only LINK_STATE HELLO. -/
  | helloSend (p : Fin 2)
  /-- R323, LINK_STATE_HELLO_RX: A HELLO is received; an addressed unit offers an address to an unaddressed neighbour. -/
  | linkStateHelloRx (p : Fin 2) (gen : BitVec 8) (valid : Bool) (addr : Fin 32)
  /-- R325, LINK_STATE_DOWN_RX: A DOWN report marks the break, recomputes routes or clears REACH, and detaches if unit 0 is lost. -/
  | linkStateDownRx (addr : Fin 32) (port : Fin 2)
  /-- R326, LINK_STATE_UP_RX: An UP report starts the repair hold for the retrained hop. -/
  | linkStateUpRx (addr : Fin 32) (port : Fin 2)
  /-- R324, LINK_STATE_JOINED_RX: The head judges a JOINED, updates N and broadcasts ENUM_DONE, or re-enumerates. -/
  | linkStateJoinedRx (addr : Fin 32)
  /-- R326, REPAIR_HOLD_EXPIRY: A repaired hop stays trained for REPAIR_HOLD and primary routes or REACH are restored. -/
  | repairHoldExpiry (hop : Fin 32)
  /-- R329, RESET_RX: A keyed RESET frame resets the destination unit as a chain reset. -/
  | resetRx (p : Fin 2) (key : BitVec 16) (bc : Bool)
  /-- R328, REG_RD_RX: A REG_RD is carried out as coaches and answered with REG_RSP. -/
  | regRdRx (src : Fin 32) (tag : BitVec 16) (count : Fin 32) (addr : Nat)
  /-- R328, REG_WR_RX: A REG_WR is carried out as coaches and answered with REG_RSP. -/
  | regWrRx (src : Fin 32) (tag : BitVec 16) (count : Fin 32) (addr : Nat) (data : List Word)
  /-- R330, REG_RSP_RX: A REG_RSP completes the outstanding RACC access or is discarded as late. -/
  | regRspRx (tag : BitVec 16) (status : BitVec 8) (done : Fin 16) (data : List Word)
  /-- R330, RACC_READ: A RACC_CTL read command sends a REG_RD to RACC_ADDR.UNIT. -/
  | raccRead (rq : Fin 24) (count : Fin 16)
  /-- R330, RACC_WRITE: A RACC_CTL write command sends a REG_WR to RACC_ADDR.UNIT. -/
  | raccWrite (rq : Fin 24) (count : Fin 16)
  /-- R330, RACC_TIMEOUT: No REG_RSP within RSP_TMO, so RACC completes with CHAIN_TIMEOUT. -/
  | raccTimeout
  /-- R604, BEACON_RX_WAKE: A WAKE beacon is forwarded and the unit wakes with cause 0x04. -/
  | beaconRxWake (p : Fin 2) (src : Fin 32) (bseq : BitVec 8) (cause : BitVec 8)
  /-- R602, BEACON_RX_FAULT: A FAULT beacon is forwarded and records the sender's SAFE bit in REMOTE. -/
  | beaconRxFault (p : Fin 2) (src : Fin 32) (bseq : BitVec 8) (w0 : Word) (w1 : Word)
  /-- R353, BEACON_RX_TIME: A TIME beacon is forwarded and may step the holdover CT. -/
  | beaconRxTime (p : Fin 2) (src : Fin 32) (bseq : BitVec 8) (ct : BitVec 64)
  /-- R331, BEACON_RX_HELLO: A Night-rate HELLO beacon updates the neighbour's address and is not forwarded. -/
  | beaconRxHello (p : Fin 2) (src : Fin 32) (addr : Fin 32) (gen : BitVec 8)
  /-- R350, TIME_SYNC_SEND: The head broadcasts TIME_SYNC every SYNC_INT. -/
  | timeSyncSend
  /-- R351, TIME_SYNC_RX: A valid TIME_SYNC runs the servo, stepping or disciplining CT and changing the time state. -/
  | timeSyncRx (p : Fin 2) (seq : BitVec 16) (ctTx : BitVec 64) (corr : BitVec 32) (tRx : BitVec 64)
  /-- R348, TIME_HOLDOVER_ENTRY: No valid TIME_SYNC for 4 sync intervals, so the unit enters HOLDOVER. -/
  | timeHoldoverEntry
  /-- R349, DELAY_REQ_SEND: Every 1 ms a unit sends DELAY_REQ on each trained port. -/
  | delayReqSend (p : Fin 2)
  /-- R349, DELAY_REQ_RX: A DELAY_REQ is answered with DELAY_RSP carrying T2 and T3. -/
  | delayReqRx (p : Fin 2) (dseq : BitVec 16) (t1 : BitVec 64) (t2 : BitVec 64) (t3 : BitVec 64)
  /-- R349, DELAY_RSP_RX: A DELAY_RSP completes a hop-delay measurement and updates D. -/
  | delayRspRx (p : Fin 2) (dseq : BitVec 16) (t2 : BitVec 64) (t3 : BitVec 64) (t4 : BitVec 64)
  /-- R360, ITIN_ACTIVATE: A W3 write that sets EN resolves the first launch CT of an itinerary entry. -/
  | itinActivate (i : Fin 8192) (w3 : Word)
  /-- R361, ITIN_WITHDRAW: A W3 write that clears EN withdraws the entry and releases its reservation. -/
  | itinWithdraw (i : Fin 8192)
  /-- R362, ITIN_PREPARE: Preparation begins LEAD before launch and requests admission where needed. -/
  | itinPrepare (i : Fin 8192)
  /-- R354, ITIN_SLOT_LOAD: An admitted action is loaded into a free launch slot. -/
  | itinSlotLoad (i : Fin 8192)
  /-- R363, ITIN_LAUNCH_MISSED: An unloaded launch passes its late window, completing MISSED and raising ITIN_MISS. -/
  | itinLaunchMissed (i : Fin 8192)
  /-- R362, LOCAL_CONVOY_NO_COMMIT: A tentative local convoy reaches its launch CT uncommitted and completes NO_COMMIT. -/
  | localConvoyNoCommit (c : BitVec 8)
  /-- R356, ITIN_ACT_MODE: A launch strobe applies a channel MODE action. -/
  | itinActMode (i : Fin 8192)
  /-- R356, ITIN_ACT_DUTY: A launch strobe sets a channel's PWM duty. -/
  | itinActDuty (i : Fin 8192)
  /-- R356, ITIN_ACT_CREG: A launch strobe sets a channel's CREG target. -/
  | itinActCreg (i : Fin 8192)
  /-- R356, ITIN_ACT_ENABLE: A launch strobe enables or disables a regulator or loop. -/
  | itinActEnable (i : Fin 8192)
  /-- R356, ITIN_ACT_VSET: A launch strobe sets a regulator or loop voltage code. -/
  | itinActVset (i : Fin 8192)
  /-- R356, ITIN_ACT_SEQ: A launch strobe starts a sequence. -/
  | itinActSeq (i : Fin 8192)
  /-- R451, ITIN_ACT_ADC_TRIG: A launch strobe starts the named converter sequences as one common trigger. -/
  | itinActAdcTrig (i : Fin 8192)
  /-- R492, ITIN_ACT_CHG: A launch strobe issues a charger command. -/
  | itinActChg (i : Fin 8192)
  /-- R561, ITIN_ACT_PORT: A launch strobe issues a cabin-port command. -/
  | itinActPort (i : Fin 8192)
  /-- R403, ITIN_ACT_SHED: An itinerary SHED action sets the ledger shed level. -/
  | itinActShed (i : Fin 8192)
  /-- R356, ITIN_ACT_MARK: An itinerary MARK action writes a journal marker record. -/
  | itinActMark (i : Fin 8192)
  /-- R368, ITIN_ACT_ARM: An itinerary ARM entry on the head arms a chain-wide convoy. -/
  | itinActArm (i : Fin 8192)
  /-- R368, ITIN_ACT_COMMIT: An itinerary COMMIT entry on the head commits a held convoy. -/
  | itinActCommit (i : Fin 8192)
  /-- R371, ITIN_ACT_CANCEL: An itinerary CANCEL entry on the head cancels a convoy. -/
  | itinActCancel (i : Fin 8192)
  /-- R368, CVY_CMD_ARM: A CVY_CMD arm write on the head sends CONVOY_ARM. -/
  | cvyCmdArm (rq : Fin 24) (c : BitVec 8) (tent : Bool) (loc : Bool)
  /-- R368, CVY_CMD_COMMIT: A CVY_CMD commit write commits a held chain or local convoy. -/
  | cvyCmdCommit (rq : Fin 24) (c : BitVec 8) (loc : Bool)
  /-- R371, CVY_CMD_CANCEL: A CVY_CMD cancel write cancels a chain or local convoy. -/
  | cvyCmdCancel (rq : Fin 24) (c : BitVec 8) (loc : Bool)
  /-- R368, CONVOY_ARM_RX: A member receives CONVOY_ARM, requests admission and acknowledges, starting run-ahead if accepted. -/
  | convoyArmRx (c : BitVec 8) (tent : Bool) (armId : BitVec 16) (launch : BitVec 64) (members : Word)
  /-- R368, CONVOY_ACK_RX: The head records an acknowledgement and commits, holds or cancels the convoy. -/
  | convoyAckRx (src : Fin 32) (c : BitVec 8) (result : BitVec 8) (armId : BitVec 16) (resv : Word)
  /-- R368, CONVOY_ACK_DEADLINE: The acknowledgement deadline passes with an acknowledgement missing and the head cancels. -/
  | convoyAckDeadline (c : BitVec 8)
  /-- R368, CONVOY_HELD_EXPIRY: A tentative convoy still HELD at LAUNCH_CT − GUARD is cancelled with reason 0x03. -/
  | convoyHeldExpiry (c : BitVec 8)
  /-- R368, CONVOY_COMMIT_RX: A member holding the ARM_ID receives COMMIT and loads its slots. -/
  | convoyCommitRx (c : BitVec 8) (armId : BitVec 16) (launch : BitVec 64)
  /-- R370, CONVOY_CANCEL_RX: A member receives CANCEL, releases reservations, frees slots, stops run-ahead and returns entries to WAIT. -/
  | convoyCancelRx (c : BitVec 8) (reason : BitVec 8) (armId : BitVec 16)
  /-- R399, LEDGER_FRAME: The 10 µs ledger frame updates availability and claims, sheds, decides requests and releases borrowing. -/
  | ledgerFrame (work : Nat) (regMeas : List (Nat × Nat)) (portMeas : List (Nat × Nat × Nat))
  /-- R403, LEDG_SHED_LEVEL_WRITE: A write of LEDG.SHED.LEVEL sets or lifts the shed level. -/
  | ledgShedLevelWrite (rq : Fin 24) (lvl : Fin 16)
  /-- R400, LEDG_RESV_TIMEOUT: No LEDG_RESV_RSP within RESV_TMO, so the request is refused with 0x06. -/
  | ledgResvTimeout (f : Fin 16)
  /-- R400, LEDG_RESV_RSP_RX: A LEDG_RESV_RSP adds the grant to the share and admits, or refuses the request. -/
  | ledgResvRspRx (reqId : BitVec 16) (result : BitVec 8) (mw : Word)
  /-- R405, LEDG_RESV_RX: The head grants, refuses or records a release on a feed. -/
  | ledgResvRx (src : Fin 32) (release : Bool) (f : Fin 16) (reqId : BitVec 16) (mw : Word)
  /-- R406, LEDG_SHARE_RX: A unit adopts a newer share, or starts resynchronising on a share of −1. -/
  | ledgShareRx (gen : BitVec 16) (f : Fin 16) (mw : Word)
  /-- R405, LEDG_SHARE_SEND: Every SHARE_INT the head sends each unit its LEDG_SHARE. -/
  | ledgShareSend
  /-- R405, LEDG_REPORT_SEND: Every REPORT_INT a unit queues LEDG_REPORT for each feed. -/
  | ledgReportSend
  /-- R407, LEDG_REPORT_RX: The head takes a resynchronising unit's first report to set its grant. -/
  | ledgReportRx (src : Fin 32) (seq : BitVec 16) (f : Fin 16) (draw : Word) (resv : Word)
  /-- R407, LEDG_RESYNC_TIMEOUT: 4 × REPORT_INT passes without a report and the unit keeps BASE_MW. -/
  | ledgResyncTimeout (f : Fin 16) (u : Fin 32)
  /-- R428, COACH_ISSUE: A requester takes a tag and issues a coach, or stalls for a tag. -/
  | coachIssue (rq : Fin 24) (kind : CoachKind) (addr : Nat) (data : Word)
  /-- R430, COACH_EXECUTE: A target port carries out a queued coach and returns its completion. -/
  | coachExecute (t : Fin 32)
  /-- R433, COACH_TIMEOUT: A register coach outstanding for TMO_US declares its target hung. -/
  | coachTimeout (tag : Fin 1024)
  /-- R432, TARGET_RETURN: A reset target returns once earlier coaches are complete and DOWN clears. -/
  | targetReturn (k : Fin 128)
  /-- R456, ADC_POWER_UP: Setting an ADC.CTL.EN bit powers the converter and starts calibration. -/
  | adcPowerUp (c : Fin 4)
  /-- R456, ADC_POWER_DOWN: Clearing an EN bit, Night or clock loss powers down the converter, aborting runs as a target reset. -/
  | adcPowerDown (c : Fin 4)
  /-- R456, ADC_READY: Calibration ends, the converter becomes READY and pending AUTO starts run. -/
  | adcReady (c : Fin 4)
  /-- R451, ADC_SWTRIG: An ADC.SWTRIG write starts the named sequences as one common trigger. -/
  | adcSwtrig (mask : BitVec 16)
  /-- R452, ADC_TRIGGER_FIRE: A common trigger fires on its DIV+1-th source event and starts its sequences. -/
  | adcTriggerFire (t : Fin 4)
  /-- R453, ADC_CONVERSION_END: A conversion boundary allows pre-emption and advances the running sequence. -/
  | adcConversionEnd (c : Fin 4) (sample : Int)
  /-- R449, ADC_RESULT_PUBLISH: Results are published to result memory and forwarded to channels and the ledger. -/
  | adcResultPublish (c : Fin 4) (q : Fin 4)
  /-- R472, ADC_SEQ_CFG_WRITE: A write of SEQ CFG configures a sequence, or with EN = 0 disables and aborts it. -/
  | adcSeqCfgWrite (c : Fin 4) (q : Fin 4) (w : Word)
  /-- R459, CMP_OUTPUT_EDGE: A continuous-mode general comparator output changes in the selected direction. -/
  | cmpOutputEdge (k : Fin 16) (level : Bool)
  /-- R459, CMP_TICK: A frame-1 tick samples the sampled comparators and clears quiet latches. -/
  | cmpTick (work : Nat) (levels : BitVec 16)
  /-- R462, CMP_CAP_READ: A read of CAP_LO snapshots CAP_HI and clears CAPV. -/
  | cmpCapRead (rq : Fin 24) (k : Fin 16)
  /-- R464, CMP_SWAP_CHECK: Every SWAP_MS an in-use comparator has its inputs swapped for 2 µs and is checked for mismatch. -/
  | cmpSwapCheck (cmp : Fin 128) (differs : Bool)
  /-- R465, CMP_TIE_CHECK: Every SWAP_MS an unused comparator's input is tied below and above its threshold. -/
  | cmpTieCheck (cmp : Fin 128) (wrong : Bool)
  /-- R466, CMP_READBACK: Every RB_10US × 10 µs one threshold DAC is converted on ADC3 and compared. -/
  | cmpReadback (dac : Fin 176) (code : Nat) (expected : Nat)
  /-- R466, CMP_RB_STALL: Read-back has paused for 100 ms and CMP_RB_STALL is raised. -/
  | cmpRbStall
  /-- R491, CHG_START: Charger command 0x1 starts detection, or HOLD on a packless unit. -/
  | chgStart
  /-- R491, CHG_STOP: Charger command 0x2 moves the charger to OFF. -/
  | chgStop
  /-- R492, CHG_SET_CURRENT: Charger command 0x3 sets I_T, with admission for an increase. -/
  | chgSetCurrent (iset : Fin 4096)
  /-- R492, CHG_REF_CHARGE: Charger command 0x4 sets STAT.REF and starts or continues a reference charge. -/
  | chgRefCharge
  /-- R499, CHG_ARM_SUPPORT: Charger command 0x5 requests the support claim and arms support. -/
  | chgArmSupport
  /-- R500, CHG_DISARM_SUPPORT: Charger command 0x6 disarms support and releases its claim. -/
  | chgDisarmSupport
  /-- R499, CHG_START_SUPPORT: Charger command 0x7 triggers support when armed. -/
  | chgStartSupport
  /-- R500, CHG_END_SUPPORT: Charger command 0x8 ends support and keeps it armed. -/
  | chgEndSupport
  /-- R491, CHG_CLEAR_FAULT: Charger command 0x9 moves FAULT to OFF. -/
  | chgClearFault
  /-- R491, CHG_PHASE_CHANGE: A charge-cycle condition is met (PRE reached, CV reached, termination, top-off done, recharge, temperature) and the state changes. -/
  | chgPhaseChange (ev : ChgEvent)
  /-- R491, CHG_PAUSE_RETRY: Every 1 s in PAUSE the charger asks for admission again. -/
  | chgPauseRetry
  /-- R495, CHG_SAFETY_TIMER_TICK: The 1 s safety timer tick advances t by 1 or 0.5. -/
  | chgSafetyTimerTick (vpackMv : Nat) (vinMv : Nat) (pinDw : Nat) (iTen : Int)
  /-- R495, CHG_SAFETY_TIMER_EXPIRY: The safety timer reaches TIMER_H and the charger faults with CHG_TIMER. -/
  | chgSafetyTimerExpiry
  /-- R496, CHG_OVP_TRIP: The pack node exceeds 1.05 × CV, stopping switching and setting EVT.OVP. -/
  | chgOvpTrip (vpackMv : Nat)
  /-- R496, CHG_OVP_RESOLVE: 300 µs after an overvoltage trip, the charger returns to PENDING or faults with CHG_OVP. -/
  | chgOvpResolve (stillHigh : Bool)
  /-- R489, PACK_ABSENCE: A pack-absence indication holds 200 µs and confirms removal, moving to HOLD or OFF. -/
  | packAbsence
  /-- R497, PACK_ACCEPT: 200 µs without absence and a matching identity accepts or reinserts the pack. -/
  | packAccept (id : Fin 16) (vpackMv : Nat)
  /-- R498, CHG_HOLD_INPUT_LOSS: The input is lost in HOLD, so the converter stops and CHG_HOLD_IN is raised. -/
  | chgHoldInputLoss
  /-- R499, SUPPORT_TRIGGER: V(CHG_IN) falls below TRIG_MV while armed, so the converter boosts onto CHG_IN. -/
  | supportTrigger
  /-- R500, SUPPORT_TIMEOUT: SUP_T expires, ending and disarming support. -/
  | supportTimeout
  /-- R500, SUPPORT_CUTOFF: The pack node falls below SUP_CUT, stopping boost and disarming support. -/
  | supportCutoff
  /-- R500, SUPPORT_RECOVERED: CHG_IN stays above 1.05 × VSUP at low output for 1 ms and support ends, staying armed. -/
  | supportRecovered
  /-- R501, MPPT_TRACK: Every PER_MS the perturb-and-observe step moves v_ref on VSOL. -/
  | mpptTrack (pDw : Nat)
  /-- R501, MPPT_SWEEP: Every SWEEP_S an open-circuit sweep starts on VSOL. -/
  | mpptSweep
  /-- R501, MPPT_SWEEP_DONE: The 34 ms sweep ends, setting v_ref and VMPP and re-choosing the input. -/
  | mpptSweepDone (vocMv : Nat) (pDw : List Nat)
  /-- R503, IDEAL_DIODE_CONDUCT: BBUS falls 20 mV below VPACK and the ideal diode conducts. -/
  | idealDiodeConduct
  /-- R503, IDEAL_DIODE_BLOCK: A 10 mV reverse voltage blocks the ideal diode. -/
  | idealDiodeBlock
  /-- R506, STORAGE_ENTRY: A keyed STORE.GO write with no backbone supply enters Storage. -/
  | storageEntry (rq : Fin 24) (key : BitVec 16)
  /-- R506, STORAGE_EXIT_RESET: CHG_IN is above 8.5 V for 10 ms in Storage and the Storage exit reset follows. -/
  | storageExitReset
  /-- R520, GAUGE_ACC_UPDATE: Every 1 ms the coulomb counter adds the charge of that millisecond to ACC. -/
  | gaugeAccUpdate (shuntNv : Int)
  /-- R523, GAUGE_FRAME: The 100 ms gauge frame updates SoC, uncertainty, references, capacity and energy. -/
  | gaugeFrame (work : Nat) (ntcUv : Nat) (vpackMv : Nat) (supplyMv : Nat)
  /-- R533, GAUGE_RECORD_WRITE_DONE: A record write's read-back completes, passing or failing with a retry. -/
  | gaugeRecordWriteDone (ok : Bool)
  /-- R534, GAUGE_RETENTION_WRITE: Every 1 s the gauge retention record is written to the backup domain. -/
  | gaugeRetentionWrite
  /-- R561, PD_ENABLE: Port command 0x1 enables the port, with admission at the Type-C level. -/
  | pdEnable (n : Fin 2)
  /-- R561, PD_DISABLE: Port command 0x2 disables the port as a target reset. -/
  | pdDisable (n : Fin 2)
  /-- R555, PD_HARD_RESET_CMD: Port command 0x3 sends a USB PD Hard Reset. -/
  | pdHardResetCmd (n : Fin 2)
  /-- R557, PD_PR_SWAP_CMD: Port command 0x4 initiates a PR_Swap on PD1. -/
  | pdPrSwapCmd (n : Fin 2)
  /-- R561, PD_RESEND_CAPS: Port command 0x5 re-sends the source capabilities. -/
  | pdResendCaps (n : Fin 2)
  /-- R559, PD_EXIT_ALT_MODE: Port command 0x6 exits the alternate mode and drives MUX low. -/
  | pdExitAltMode (n : Fin 2)
  /-- R553, PD_CLEAR_LATCH: Port command 0x7 moves LATCHED to UNATTACHED. -/
  | pdClearLatch (n : Fin 2)
  /-- R549, PD_CAP_W_WRITE: A CAP_W write causes new Source_Capabilities within 10 ms. -/
  | pdCapWWrite (n : Fin 2) (capW : BitVec 8)
  /-- R547, PD_SINK_ATTACH: A debounced sink attach requests the Type-C level, entering SOURCE or NOPOWER. -/
  | pdSinkAttach (n : Fin 2) (flip : Bool) (ra : Bool)
  /-- R558, PD_DETACH: A detach withdraws outstanding requests and returns the port to UNATTACHED. -/
  | pdDetach (n : Fin 2)
  /-- R547, PD_NOPOWER_RETRY: Every 1 s in NOPOWER the port repeats the Default-level request. -/
  | pdNopowerRetry (n : Fin 2)
  /-- R548, PD_REQUEST_RX: A Request message is accepted, or needs admission, or is rejected with reduced capabilities. -/
  | pdRequestRx (n : Fin 2) (rdo : Word)
  /-- R548, PD_REOFFER: REOFFER_S after a rejection, the full capability set is offered again. -/
  | pdReoffer (n : Fin 2)
  /-- R552, PD_SOURCE_CAPS_RX: PD1 as sink evaluates received Source_Capabilities and requests a PDO. -/
  | pdSourceCapsRx (n : Fin 2) (pdos : List Word)
  /-- R552, PD_PS_RDY_RX: PD1 as sink closes its sink switch after PS_RDY. -/
  | pdPsRdyRx (n : Fin 2)
  /-- R557, PD_PR_SWAP_RX: A received PR_Swap is accepted or rejected according to CFG.SWAP. -/
  | pdPrSwapRx (n : Fin 2) (toSource : Bool)
  /-- R557, PD_PR_SWAP_DONE: A PR_Swap completes and the reservation is held or released per the new role. -/
  | pdPrSwapDone (n : Fin 2)
  /-- R555, PD_HARD_RESET_RX: A received Hard Reset restores vSafe5V, lowers the reservation and drives MUX low. -/
  | pdHardResetRx (n : Fin 2)
  /-- R543, PD_UNSUPPORTED_MESSAGE: An unsupported message is answered with Not_Supported or Reject. -/
  | pdUnsupportedMessage (n : Fin 2) (pd2 : Bool)
  /-- R551, PD_CABLE_IDENTITY: A SOP' Discover Identity reply sets CABLE and CABLE_5A. -/
  | pdCableIdentity (n : Fin 2) (vdo : Word)
  /-- R551, PD_DISCOVER_RETRY: SOP' Discover Identity is repeated, up to 20 times, while the cable does not answer. -/
  | pdDiscoverRetry (n : Fin 2)
  /-- R559, PD_DP_CONFIGURE_ACK: The partner acknowledges Enter Mode and DisplayPort Configure and MUX goes high. -/
  | pdDpConfigureAck (n : Fin 2)
  /-- R559, PD_ATTENTION_RX: An Attention or DisplayPort Status message updates PDn_HPD. -/
  | pdAttentionRx (n : Fin 2) (hpd : Bool)
  /-- R553, PD_OVP_TRIP: VBUS overvoltage opens the switch and the port enters RECOVERY. -/
  | pdOvpTrip (n : Fin 2)
  /-- R553, PD_OCP_FAST_TRIP: Fast overcurrent opens the switch and the port enters RECOVERY. -/
  | pdOcpFastTrip (n : Fin 2)
  /-- R553, PD_OCP_SLOW_TRIP: Overcurrent above 1.25 × for 10 ms trips the port. -/
  | pdOcpSlowTrip (n : Fin 2)
  /-- R553, PD_RCP_TRIP: Reverse current above 100 mA trips the port. -/
  | pdRcpTrip (n : Fin 2)
  /-- R554, PD_RECOVERY_END: 25 ms of RECOVERY end and the port re-attaches. -/
  | pdRecoveryEnd (n : Fin 2)
  /-- R571, FAULT_RAISE: A source report rises and the collector reacts per its severity. -/
  | faultRaise (src : Fin 640)
  /-- R570, BROKEN_PAIR: A report pair is non-complementary for two cycles, treated as raised with FLT_PAIR. -/
  | brokenPair (src : Fin 640)
  /-- R575, FAULT_COLLECTOR_RESET: RST_DLY after safe-state entry with FATAL_ACT = 1, a fault-collector reset occurs. -/
  | faultCollectorReset
  /-- R575, RSTS_CLEAR: 60 s in Noon with no fatal raise returns STAT.RSTS to 0. -/
  | rstsClear
  /-- R576, COLLECTOR_SCRUB: Every 10 µs collector registers are re-read, and a check error is a self-fault. -/
  | collectorScrub
  /-- R576, COLLECTOR_SELF_FAULT: A copy mismatch or check error raises FLT_SELF and enters the safe state directly. -/
  | collectorSelfFault
  /-- R578, RC_OSCILLATOR_LOSS: The RC oscillator is found absent, giving FLT_SELF and the fatal pattern. -/
  | rcOscillatorLoss
  /-- R580, HEARTBEAT_LOSS: No heartbeat for two half-periods sets the fatal pattern and the safe state. -/
  | heartbeatLoss
  /-- R579, ERROR_PAIR_TOGGLE: Each half-period the healthy error pair toggles in complement. -/
  | errorPairToggle
  /-- R581, FAULT_SUM_SEND: Every SUM_MS a unit broadcasts FAULT_SUM. -/
  | faultSumSend
  /-- R582, FAULT_SUM_RX: A FAULT_SUM records the sender's SAFE bit and may raise FLT_REMOTE. -/
  | faultSumRx (src : Fin 32) (w0 : Word) (w1 : Word)
  /-- R583, INJ_FABRIC: An injection of fabric coach check bits makes the next coach of a port DATA_ERR. -/
  | injFabric (rq : Fin 24) (key : BitVec 16) (sel : Fin 1024)
  /-- R583, INJ_PAIR: An injection inverts a report pair's negative leg for 1 µs. -/
  | injPair (rq : Fin 24) (key : BitVec 16) (sel : Fin 1024)
  /-- R583, INJ_COLLECTOR_REG: An injection inverts a SEV word's check bits for the next scrub. -/
  | injCollectorReg (rq : Fin 24) (key : BitVec 16) (sel : Fin 1024)
  /-- R583, INJ_LOCKSTEP: An injection makes one lockstep comparison of an engine mismatch. -/
  | injLockstep (rq : Fin 24) (key : BitVec 16) (sel : Fin 1024)
  /-- R583, INJ_HEARTBEAT: An injection suppresses heartbeats. -/
  | injHeartbeat (rq : Fin 24) (key : BitVec 16) (sel : Fin 1024)
  /-- R583, FAULT_FORCE: A keyed FLT.FORCE write raises the named source for one SYS cycle. -/
  | faultForce (rq : Fin 24) (key : BitVec 16) (sel : Fin 1024)
  /-- R597, PWR_REQ_EVENING: A PWR_CTL.REQ write of Evening moves Noon to Evening. -/
  | pwrReqEvening (rq : Fin 24)
  /-- R598, PWR_REQ_NIGHT: A PWR_CTL.REQ write of Night broadcasts RATE on the head or enters Night alone. -/
  | pwrReqNight (rq : Fin 24)
  /-- R597, PWR_REQ_NOON: A PWR_CTL.REQ write of Noon returns from Evening, or wakes from Night. -/
  | pwrReqNoon (rq : Fin 24)
  /-- R598, RATE_RX: A RATE broadcast schedules the switch to Night at its switch CT. -/
  | rateRx (night : Bool) (ct : BitVec 64)
  /-- R599, NIGHT_ENTRY: At the switch CT the unit enters Night, slows its ports, sheds and powers down blocks. -/
  | nightEntry
  /-- R600, NIGHT_SCAN: Every SCAN_MS ADC3 runs one Night scan of driven channels, ambients and one read-back. -/
  | nightScan (chans : List (Fin 64 × Int × Int)) (ambs : List (Fin 256 × Int)) (dac : Fin 176) (code : Nat) (expected : Nat)
  /-- R601, ITIN_WAKE: ITIN_WAKE before the earliest entry's preparation, cause 0x06 is raised. -/
  | itinWake
  /-- R602, BEACON_HELLO_SEND: Every 1 s a unit sends a HELLO beacon on each Night-rate port. -/
  | beaconHelloSend
  /-- R602, BEACON_TIME_SEND: Every TIME_S the head sends a TIME beacon. -/
  | beaconTimeSend
  /-- R602, BEACON_FAULT_SEND: A unit sends a FAULT beacon on a change or every FAULT_S. -/
  | beaconFaultSend
  /-- R605, WAKE_TO_NOON: Waking completes, restarting PLLs, converters and ports and entering Noon with WAKE sequences. -/
  | wakeToNoon
  /-- R609, RTC_SECOND: The prescaler reaches a second boundary and the calendar advances. -/
  | rtcSecond
  /-- R610, RTC_TIME_WRITE: A write of RTC.TIME sets the time and staged date and clears the prescaler. -/
  | rtcTimeWrite (rq : Fin 24) (w : Word)
  /-- R610, RTC_DATE_WRITE: A write of RTC.DATE stages a new date. -/
  | rtcDateWrite (rq : Fin 24) (w : Word)
  /-- R610, RTC_TIME_READ: A read of RTC.TIME snapshots DATE and SUB. -/
  | rtcTimeRead (rq : Fin 24)
  /-- R611, RTC_ADD_HOUR: RTC.CTL add-hour moves the calendar forward 3,600 s and sets DST. -/
  | rtcAddHour (rq : Fin 24)
  /-- R611, RTC_SUBTRACT_HOUR: RTC.CTL subtract-hour moves the calendar back 3,600 s and clears DST. -/
  | rtcSubtractHour (rq : Fin 24)
  /-- R616, RTC_ALM_WRITE: A write of ALM[k] sets an alarm, refused if unmasked fields are out of range. -/
  | rtcAlmWrite (rq : Fin 24) (k : Fin 2) (w : Word)
  /-- R613, PON_ASSERT: A PON.ASSERT write asserts PON_OUT. -/
  | ponAssert (rq : Fin 24)
  /-- R613, PON_RELEASE: A PON.RELEASE write releases PON_OUT. -/
  | ponRelease (rq : Fin 24)
  /-- R613, PON_PULSE_EXPIRY: PULSE_MS after assertion, PON_OUT is released. -/
  | ponPulseExpiry
  /-- R621, BUS_IDENT: The IDENT bus command returns part identity, address and ROM version. -/
  | busIdent (pec : Bool)
  /-- R621, BUS_STAGE: The STAGE bus command returns the stage, status and reset cause. -/
  | busStage (pec : Bool)
  /-- R621, BUS_FAULT: The FAULT bus command returns FLT.STAT and the GROUPS bitmap. -/
  | busFault (pec : Bool)
  /-- R621, BUS_WINDOW: The WINDOW bus command sets the register pointer. -/
  | busWindow (ptr : BitVec 24) (pec : Option Byte)
  /-- R623, BUS_RD_WORD: The RD_WORD bus command reads the register at the pointer. -/
  | busRdWord (pec : Bool)
  /-- R623, BUS_WR_WORD: The WR_WORD bus command writes the register at the pointer. -/
  | busWrWord (data : Word) (pec : Option Byte)
  /-- R623, BUS_RD_BLOCK: The RD_BLOCK bus command reads N registers from the pointer. -/
  | busRdBlock (n : Nat) (pec : Bool)
  /-- R623, BUS_WR_BLOCK: The WR_BLOCK bus command writes N registers from the pointer. -/
  | busWrBlock (n : Nat) (data : List Word) (pec : Option Byte)
  /-- R624, BUS_READ_ABANDON: A read phase abandoned for over 1 ms discards its data. -/
  | busReadAbandon
  /-- R628, BUS_ATTENTION_PULSE: After 50 µs idle or ATTN_RPT, the part pulses SDA low to request attention. -/
  | busAttentionPulse (collided : Bool)
  /-- R637, BUS_ATTN_SET: A write of ATTN_SET sets ATTN.SOFT. -/
  | busAttnSet (rq : Fin 24) (soft : Bool)
  /-- R629, BUS_SCL_TIMEOUT: SCL low for 25–35 ms abandons the transaction. -/
  | busSclTimeout
  /-- R630, OTP_PROGRAM: A keyed OTP_CTL.GO write programs one Dawn fuse word. -/
  | otpProgram (rq : Fin 24) (key : BitVec 16) (offset : Fin 128)
  /-- R630, OTP_PROGRAM_DONE: Fuse programming completes, clearing BUSY and setting ERR on mismatch. -/
  | otpProgramDone (bits : Word)
  /-- R645, JOURNAL_SCAN_DONE: The start scan finds the ring head and the journal becomes ready. -/
  | journalScanDone (answers : Bool) (page4k : Bool) (ppb128 : Bool) (blocks : Nat) (bad : List Nat)
  /-- R641, JOURNAL_REPEAT_WINDOW_CLOSE: A held record's 1 ms repeat window closes and it joins the page. -/
  | journalRepeatWindowClose
  /-- R643, JOURNAL_FLUSH_TIMER: FLUSH_MS after a page's first record, the page is programmed. -/
  | journalFlushTimer
  /-- R643, JOURNAL_PAGE_PROGRAM: A full, flushed or power-fail page is programmed. -/
  | journalPageProgram
  /-- R645, JOURNAL_PROGRAM_DONE: A page program completes, with the head record updated and the next block erased after a first page. -/
  | journalProgramDone (ok : Bool)
  /-- R640, JOURNAL_ERASE_DONE: A block erase completes or fails and the block is marked bad. -/
  | journalEraseDone (ok : Bool)
  /-- R648, JOURNAL_OP_TIMEOUT: A device operation not complete in 10 ms re-initialises the journal. -/
  | journalOpTimeout
  /-- R651, JRNL_CMD_FLUSH: A keyed JRNL.CTL flush command programs the current page. -/
  | jrnlCmdFlush (rq : Fin 24) (key : BitVec 16)
  /-- R648, JRNL_CMD_REINIT: A keyed JRNL.CTL reinitialise command re-initialises the device. -/
  | jrnlCmdReinit (rq : Fin 24) (key : BitVec 16)
  /-- R646, JRNL_READ: An RD_CTL read command searches for the next record from RD_SEQ. -/
  | jrnlRead (rq : Fin 24)
  /-- R646, JRNL_READ_DONE: The search completes, filling RD_DATA or setting END. -/
  | jrnlReadDone
  /-- R647, JRNL_FWD_RX: A JRNL_FWD frame is stored with a new SEQ or discarded. -/
  | jrnlFwdRx (words : List Word)
  /-- R552, PD1_SOURCE_ATTACH: A source partner attaches to PD1, which takes the sink role, reports its figure and closes PD1_SNK_G when no PD contract follows. -/
  | pd1SourceAttach (rp : Fin 3)
  /-- R292, SEQ_FLT_EXTERNAL_RELEASE: An external low on SEQ_FLT ends, clearing FLT_STAT.EXT and changing the line level that is journalled. -/
  | seqFltExternalRelease
  /-- R666, DIE_TEMP_CONVERSION: Every 1 ms the dedicated die-temperature converter produces a result that feeds ambient sources of type 0b01 and the charger's thermal limiting. -/
  | dieTempConversion (t16 : Int)
  /-- R571, FAULT_REPORT_FALL: A source's report returns to not raised, so RAW falls and its LAT bit becomes clearable. -/
  | faultReportFall (src : Fin 640)
deriving DecidableEq, Repr

end Sys2Proof
end

