-- ==== Sys2Proof/Machine/Bits.lean ====
section
/-!
DEFINITION. Machine/Bits.lean: bit fields, byte order, saturation, sign and check codes over natural numbers.
-/
namespace Sys2Proof.Machine

/-- Bits hi:lo of `v`. -/
def bitsOf (v hi lo : Nat) : Nat := v / 2 ^ lo % 2 ^ (hi + 1 - lo)

/-- The word with its bits hi:lo replaced by `v`, cut to their width. -/
def putBits (w v hi lo : Nat) : Nat := w - bitsOf w hi lo * 2 ^ lo + v % 2 ^ (hi + 1 - lo) * 2 ^ lo

/-- Bit `i` of `v`. -/
def bitOf (v i : Nat) : Bool := v / 2 ^ i % 2 == 1

/-- One when true. -/
def b2n (b : Bool) : Nat := if b then 1 else 0

/-- `v` with every bit that is 1 in `m` cleared, the write effect of W1C (R3). -/
def clearBits (v m : Nat) : Nat := v ^^^ (v &&& m)

/-- `v` read as a two's complement number of `w` bits. -/
def toSigned (w v : Nat) : Int := if v % 2 ^ w < 2 ^ (w - 1) then (v % 2 ^ w : Nat) else (v % 2 ^ w : Nat) - (2 ^ w : Nat)

/-- The two's complement of `x` in `w` bits. -/
def ofSigned (w : Nat) (x : Int) : Nat := (x % (2 ^ w : Nat)).toNat

/-- `x` kept within `lo` and `hi`. -/
def clampNat (lo hi x : Nat) : Nat := if x < lo then lo else if hi < x then hi else x

/-- `x` kept within `lo` and `hi`. -/
def clampInt (lo hi x : Int) : Int := if x < lo then lo else if hi < x then hi else x

/-- The quotient rounded up. -/
def ceilDiv (a b : Nat) : Nat := (a + b - 1) / b

/-- A value of 0 taken as 1. -/
def atLeast1 (x : Nat) : Nat := if x = 0 then 1 else x

/-- The `n` bytes of `v`, least significant first. -/
def leBytes : Nat → Nat → List Nat
  | 0, _ => []
  | n + 1, v => v % 256 :: leBytes n (v / 256)

/-- The number whose bytes, least significant first, are given. -/
def leNat : List Nat → Nat
  | [] => 0
  | b :: bs => b % 256 + 256 * leNat bs

/-- The number whose bytes, most significant first, are given. -/
def beNat (bs : List Nat) : Nat := bs.foldl (fun a b => a * 256 + b % 256) 0

/-- Bytes taken four at a time as little-endian words. -/
def leWords : List Nat → List Nat
  | a :: b :: c :: d :: r => leNat [a, b, c, d] :: leWords r
  | [] => []
  | r => [leNat r]

/-- One bit step of a reflected CRC with polynomial `p`. -/
def crcBit (p c : Nat) : Nat := if c % 2 = 1 then (c / 2) ^^^ p else c / 2

/-- Eight bit steps. -/
def crcByte (p c b : Nat) : Nat :=
  let x := c ^^^ (b % 256)
  crcBit p (crcBit p (crcBit p (crcBit p (crcBit p (crcBit p (crcBit p (crcBit p x)))))))

/-- CRC-32C of a byte string (R45, R78, R312, R641). -/
def crc32c (bs : List Nat) : Nat := (bs.foldl (crcByte 0x82F63B78) 0xFFFFFFFF) ^^^ 0xFFFFFFFF

/-- The SMBus packet error code: CRC-8 with polynomial x^8 + x^2 + x + 1, most significant bit first (R625). -/
def crc8 (bs : List Nat) : Nat :=
  bs.foldl (fun c b =>
    (List.range 8).foldl (fun x _ => if x ≥ 128 then ((x * 2) % 256) ^^^ 7 else (x * 2) % 256) (c ^^^ (b % 256))) 0

end Sys2Proof.Machine
end

