-- ==== Sys2Proof/Config.lean ====
section
/-!
DEFINITION. Config.lean: what one implementation fixes and the values the spec leaves open.

Every constant here is opaque: nothing in Lean can evaluate it, so a statement holds for every value it may have.
-/
namespace Sys2Proof

/-- R62: the silicon revision TOP.ID.REV, "per silicon". -/
opaque Config.siliconRev : Byte

/-- R26: the ROM firmware version ENG.ID.ROM_VER. -/
opaque Config.romVersion : BitVec 16

/-- A free value of the spec (a value it leaves unstated), drawn for the counter that State.free holds. -/
opaque Config.freeNat : Nat → Nat

/-- A free yes or no of the spec, drawn for the counter that State.free holds. -/
opaque Config.freeBool : Nat → Bool

/-- A free choice of rounding: is a quotient of these two numbers, whose rounding the spec does not state, rounded up? -/
opaque Config.roundUp : Nat → Nat → Bool

/-- R166: the binary32 bit pattern of exp(-x) for the binary32 bit pattern x, whose rounding the spec does not state. -/
opaque Config.expNeg : Nat → Nat

/-- R488: the pack temperature in 1/16 degrees Celsius for a thermistor ratio and BETA, whose rounding the spec does not state. -/
opaque Config.thermistor : Nat → Nat → Int

end Sys2Proof
end

