-- ==== Sys2Proof/Machine/RegTypes.lean ====
section
/-!
DEFINITION. Machine/RegTypes.lean: the form of a register row: access codes (R3), fields and instance strides.
-/
namespace Sys2Proof.Machine

/-- The access codes of R3. -/
inductive Access where
  | ro | rw | w1c | wo | rc | sealed
deriving DecidableEq, Repr

/-- One field of a register row: its bits, access code, reset value, reserved encodings (closed ranges) and whether
its reset is "Retained" (R299). -/
structure FieldSpec where
  hi : Nat
  lo : Nat
  acc : Access
  rst : Nat
  rsv : List (Nat × Nat)
  retained : Bool
deriving DecidableEq, Repr

/-- One register row: the address of its first instance, up to two instance dimensions (count, stride), its fields. -/
structure RegSpec where
  base : Nat
  n1 : Nat
  s1 : Nat
  n2 : Nat
  s2 : Nat
  flds : List FieldSpec
deriving DecidableEq, Repr

/-- A register field by address and bits: where a value of the register space stands. -/
structure Fld where
  addr : Nat
  hi : Nat
  lo : Nat
deriving DecidableEq, Repr

/-- `n` fields of `w` bits each, from bit 0 up, all alike. -/
def fieldsOf (n w : Nat) (a : Access) (rst : Nat) (ret : Bool) : List FieldSpec :=
  (List.range n).map fun i => ⟨w * i + w - 1, w * i, a, rst, [], ret⟩

/-- Does the row hold the register at this address (R658)? -/
def regCovers (r : RegSpec) (a : Nat) : Bool :=
  let off := a - r.base
  let i := off / r.s1
  let rem := if r.n1 = 1 then off else off % r.s1
  decide (r.base ≤ a) && (r.n1 == 1 || decide (i < r.n1)) &&
    (if r.n2 = 1 then rem == 0 else rem % r.s2 == 0 && decide (rem / r.s2 < r.n2))

end Sys2Proof.Machine
end

