-- ==== Sys2Proof/Machine/RegMap.lean ====
section
/-!
DEFINITION. Machine/RegMap.lean: every register of the part, one row per register family, and every register field by name.

The rows are the register tables of the spec's chapters and of its register map (R657-R661): the address, the
instance strides, and for each field its bits, access code (R3), reset value (R8), reserved encodings (R5) and
whether the spec calls it Retained (R299). A field that the tables leave to the Dawn fuses ("OTP") or to sampling
("Sampled") has the reset value 0 here until Dawn entry loads it (assumption 5).
-/
namespace Sys2Proof.Machine



/-- Register rows of block 0x0000_0000. -/
def regsTop : List RegSpec := [
  -- R62 TOP.ID
  ⟨0x0, 1, 0x1, 1, 0x1, [⟨31, 16, .ro, 0x6480, [], false⟩,
    ⟨15, 8, .ro, Config.siliconRev.toNat, [], false⟩]⟩,
  -- R63 TOP.STAGE
  ⟨0x4, 1, 0x1, 1, 0x1, [⟨2, 0, .ro, 0, [], false⟩]⟩,
  -- R64 TOP.STATUS
  ⟨0x8, 1, 0x1, 1, 0x1, [⟨7, 7, .ro, 0, [], false⟩,
    ⟨6, 6, .ro, 0, [], false⟩,
    ⟨5, 5, .w1c, 0, [], false⟩,
    ⟨4, 4, .ro, 0, [], false⟩,
    ⟨3, 3, .ro, 0, [], false⟩,
    ⟨2, 2, .ro, 0, [], false⟩,
    ⟨1, 1, .ro, 0, [], false⟩,
    ⟨0, 0, .ro, 0, [], false⟩]⟩,
  -- R65 TOP.SUPPLY
  ⟨0xC, 1, 0x1, 1, 0x1, [⟨23, 16, .ro, 0, [], false⟩,
    ⟨9, 8, .ro, 0, [], false⟩,
    ⟨6, 6, .ro, 0, [], false⟩,
    ⟨5, 5, .ro, 0, [], false⟩,
    ⟨4, 4, .ro, 0, [], false⟩,
    ⟨3, 3, .ro, 0, [], false⟩,
    ⟨2, 2, .ro, 0, [], false⟩,
    ⟨1, 1, .ro, 0, [], false⟩,
    ⟨0, 0, .ro, 0, [], false⟩]⟩,
  -- R66 TOP.RST_CAUSE
  ⟨0x10, 1, 0x1, 1, 0x1, [⟨5, 5, .w1c, 0, [], false⟩,
    ⟨4, 4, .w1c, 0, [], false⟩,
    ⟨3, 3, .w1c, 0, [], false⟩,
    ⟨2, 2, .w1c, 0, [], false⟩,
    ⟨1, 1, .w1c, 0, [], false⟩,
    ⟨0, 0, .w1c, 1, [], false⟩]⟩,
  -- R67 TOP.CTL
  ⟨0x14, 1, 0x1, 1, 0x1, [⟨31, 16, .wo, 0, [], false⟩,
    ⟨0, 0, .wo, 0, [], false⟩]⟩,
  -- R68 TOP.NOON
  ⟨0x18, 1, 0x1, 1, 0x1, [⟨16, 16, .sealed, 0, [], false⟩,
    ⟨15, 0, .sealed, 0xc8, [], false⟩]⟩]

/-- Register rows of block 0x0001_0000. -/
def regsCfg : List RegSpec := [
  -- R89 CFG.STATUS
  ⟨0x10000, 1, 0x1, 1, 0x1, [⟨27, 24, .ro, 0, [], false⟩,
    ⟨23, 20, .ro, 0, [], false⟩,
    ⟨19, 18, .ro, 0, [], false⟩,
    ⟨2, 2, .ro, 0, [], false⟩,
    ⟨1, 1, .w1c, 0, [], false⟩,
    ⟨0, 0, .ro, 0, [], false⟩]⟩,
  -- R90 CFG.GEN_A
  ⟨0x10004, 1, 0x1, 1, 0x1, [⟨31, 0, .ro, 0, [], false⟩]⟩,
  -- R90 CFG.GEN_B
  ⟨0x10008, 1, 0x1, 1, 0x1, [⟨31, 0, .ro, 0, [], false⟩]⟩,
  -- R91 CFG.APPLIED
  ⟨0x1000C, 1, 0x1, 1, 0x1, [⟨31, 0, .ro, 0, [], false⟩]⟩,
  -- R92 CFG.FAIL
  ⟨0x10010, 1, 0x1, 1, 0x1, [⟨31, 31, .ro, 0, [], false⟩,
    ⟨30, 20, .ro, 0x7ff, [], false⟩,
    ⟨15, 0, .ro, 0, [], false⟩]⟩,
  -- R93 CFG.UPD_CTL
  ⟨0x10020, 1, 0x1, 1, 0x1, [⟨31, 16, .wo, 0, [], false⟩,
    ⟨4, 4, .wo, 0, [], false⟩,
    ⟨3, 0, .wo, 0, [], false⟩]⟩,
  -- R94 CFG.UPD_ADDR
  ⟨0x10024, 1, 0x1, 1, 0x1, [⟨22, 8, .rw, 0, [], false⟩]⟩,
  -- R95 CFG.UPD_STAT
  ⟨0x10028, 1, 0x1, 1, 0x1, [⟨27, 24, .ro, 0, [], false⟩,
    ⟨23, 16, .ro, 0xff, [], false⟩,
    ⟨7, 4, .w1c, 0, [], false⟩,
    ⟨2, 2, .ro, 0, [], false⟩,
    ⟨1, 1, .ro, 0, [], false⟩,
    ⟨0, 0, .ro, 0, [], false⟩]⟩,
  -- R96 CFG.UPD_BUF
  ⟨0x10100, 64, 0x4, 1, 0x1, [⟨31, 0, .rw, 0, [], false⟩]⟩]

/-- Register rows of block 0x0002_0000. -/
def regsChn0 : List RegSpec := [
  -- R125 CHN.CTL
  ⟨0x20000, 64, 0x100, 1, 0x1, [⟨8, 8, .wo, 0, [], false⟩,
    ⟨2, 0, .rw, 0, [(5, 7)], false⟩]⟩,
  -- R126 CHN.STAT
  ⟨0x20004, 64, 0x100, 1, 0x1, [⟨31, 28, .ro, 0, [], false⟩,
    ⟨27, 25, .ro, 0, [], false⟩,
    ⟨24, 21, .ro, 0, [], false⟩,
    ⟨20, 20, .ro, 0, [], false⟩,
    ⟨19, 19, .ro, 0, [], false⟩,
    ⟨18, 18, .ro, 0, [], false⟩,
    ⟨17, 17, .ro, 0, [], false⟩,
    ⟨16, 16, .ro, 0, [], false⟩,
    ⟨15, 8, .ro, 0, [], false⟩]⟩,
  -- R127 CHN.EVT
  ⟨0x20008, 64, 0x100, 1, 0x1, [⟨10, 10, .w1c, 0, [], false⟩,
    ⟨9, 9, .w1c, 0, [], false⟩,
    ⟨8, 8, .w1c, 0, [], false⟩,
    ⟨7, 7, .w1c, 0, [], false⟩,
    ⟨6, 6, .w1c, 0, [], false⟩,
    ⟨5, 5, .w1c, 0, [], false⟩,
    ⟨4, 4, .w1c, 0, [], false⟩,
    ⟨3, 3, .w1c, 0, [], false⟩,
    ⟨2, 2, .w1c, 0, [], false⟩,
    ⟨1, 1, .w1c, 0, [], false⟩,
    ⟨0, 0, .w1c, 0, [], false⟩]⟩,
  -- R128 CHN.CFG
  ⟨0x2000C, 64, 0x100, 1, 0x1, [⟨9, 9, .ro, 0, [], false⟩,
    ⟨8, 8, .sealed, 0, [], false⟩,
    ⟨5, 4, .sealed, 1, [], false⟩,
    ⟨3, 3, .sealed, 1, [], false⟩,
    ⟨2, 2, .rw, 0, [], false⟩,
    ⟨1, 1, .sealed, 0, [], false⟩,
    ⟨0, 0, .sealed, 1, [], false⟩]⟩,
  -- R129 CHN.SHUNT
  ⟨0x20010, 64, 0x100, 1, 0x1, [⟨15, 0, .sealed, 0x3e8, [], false⟩]⟩,
  -- R130 CHN.TURNON
  ⟨0x20014, 64, 0x100, 1, 0x1, [⟨23, 23, .rw, 0, [], false⟩,
    ⟨22, 16, .rw, 0xa, [], false⟩,
    ⟨15, 0, .rw, 0x3e8, [], false⟩]⟩,
  -- R131 CHN.CREG
  ⟨0x20018, 64, 0x100, 1, 0x1, [⟨15, 0, .rw, 0x3e8, [], false⟩]⟩,
  -- R132 CHN.PRE
  ⟨0x2001C, 64, 0x100, 1, 0x1, [⟨22, 16, .rw, 0x50, [], false⟩,
    ⟨15, 0, .rw, 0x3e8, [], false⟩]⟩,
  -- R133 CHN.PRE_E
  ⟨0x20020, 64, 0x100, 1, 0x1, [⟨31, 16, .ro, 0, [], false⟩,
    ⟨15, 0, .sealed, 0x64, [], false⟩]⟩,
  -- R134 CHN.PWM_PER
  ⟨0x20024, 64, 0x100, 1, 0x1, [⟨21, 0, .rw, 0x2710, [], false⟩]⟩,
  -- R135 CHN.PWM_DUTY
  ⟨0x20028, 64, 0x100, 1, 0x1, [⟨27, 16, .rw, 0, [], false⟩,
    ⟨12, 0, .rw, 0, [], false⟩]⟩,
  -- R136 CHN.SC
  ⟨0x2002C, 64, 0x100, 1, 0x1, [⟨9, 8, .sealed, 0, [], false⟩,
    ⟨7, 0, .sealed, 0, [], false⟩]⟩]

def regsChn1 : List RegSpec := [
  -- R137 CHN.OC
  ⟨0x20030, 64, 0x100, 1, 0x1, [⟨31, 16, .sealed, 0x1388, [], false⟩,
    ⟨15, 0, .sealed, 0x400, [], false⟩]⟩,
  -- R138 CHN.RETRY
  ⟨0x20034, 64, 0x100, 1, 0x1, [⟨16, 16, .sealed, 0, [], false⟩,
    ⟨15, 4, .sealed, 0x3e8, [], false⟩,
    ⟨3, 0, .sealed, 1, [], false⟩]⟩,
  -- R138 CHN.RETRY
  ⟨0x20038, 64, 0x100, 1, 0x1, [⟨16, 16, .sealed, 0, [], false⟩,
    ⟨15, 4, .sealed, 0x1f4, [], false⟩,
    ⟨3, 0, .sealed, 3, [], false⟩]⟩,
  -- R138 CHN.RETRY
  ⟨0x2003C, 64, 0x100, 1, 0x1, [⟨16, 16, .sealed, 0, [], false⟩,
    ⟨15, 4, .sealed, 0x3e8, [], false⟩,
    ⟨3, 0, .sealed, 0xf, [], false⟩]⟩,
  -- R138 CHN.RETRY
  ⟨0x20040, 64, 0x100, 1, 0x1, [⟨16, 16, .sealed, 0, [], false⟩,
    ⟨15, 4, .sealed, 0x1f4, [], false⟩,
    ⟨3, 0, .sealed, 2, [], false⟩]⟩,
  -- R140 CHN.SOA
  ⟨0x20044, 64, 0x100, 1, 0x1, [⟨31, 16, .sealed, 0x32, [], false⟩,
    ⟨15, 0, .sealed, 0xc8, [], false⟩]⟩,
  -- R141 CHN.SOA_P
  ⟨0x20048, 64, 0x100, 1, 0x1, [⟨31, 16, .ro, 0, [], false⟩,
    ⟨7, 0, .sealed, 5, [], false⟩]⟩,
  -- R142 CHN.OL
  ⟨0x2004C, 64, 0x100, 1, 0x1, [⟨23, 16, .rw, 0, [], false⟩,
    ⟨15, 0, .rw, 0, [], false⟩]⟩,
  -- R143 CHN.LEDG
  ⟨0x20050, 64, 0x100, 1, 0x1, [⟨31, 31, .ro, 0, [], false⟩,
    ⟨30, 24, .ro, 0, [], false⟩,
    ⟨23, 0, .ro, 0, [], false⟩]⟩,
  -- R144 CHN.MEAS_I
  ⟨0x20054, 64, 0x100, 1, 0x1, [⟨19, 0, .ro, 0, [], false⟩]⟩,
  -- R145 CHN.MEAS_V
  ⟨0x20058, 64, 0x100, 1, 0x1, [⟨31, 16, .ro, 0, [], false⟩,
    ⟨15, 0, .ro, 0, [], false⟩]⟩,
  -- R146 CHN.I2T_ACC
  ⟨0x2005C, 64, 0x100, 1, 0x1, [⟨23, 0, .ro, 0, [], false⟩]⟩]

def regsChn2 : List RegSpec := [
  -- R147 CHN.CNT
  ⟨0x20060, 64, 0x100, 1, 0x1, [⟨31, 24, .rc, 0, [], false⟩,
    ⟨23, 16, .rc, 0, [], false⟩,
    ⟨15, 8, .rc, 0, [], false⟩,
    ⟨7, 0, .rc, 0, [], false⟩]⟩,
  -- R148 CHN.EDGE_CT_LO
  ⟨0x20064, 64, 0x100, 1, 0x1, [⟨31, 0, .ro, 0, [], false⟩]⟩,
  -- R148 CHN.EDGE_CT_HI
  ⟨0x20068, 64, 0x100, 1, 0x1, [⟨31, 0, .ro, 0, [], false⟩]⟩,
  -- R149 CHN.BANK
  ⟨0x24000, 8, 0x4, 1, 0x1, [⟨0, 0, .sealed, 0, [], false⟩]⟩,
  -- R150 CHN.ON_MAP
  ⟨0x24020, 2, 0x4, 1, 0x1, [⟨31, 0, .ro, 0, [], false⟩]⟩,
  -- R150 CHN.LATCH_MAP
  ⟨0x24028, 2, 0x4, 1, 0x1, [⟨31, 0, .ro, 0, [], false⟩]⟩]

/-- Register rows of block 0x0002_0000. -/
def regsChn : List RegSpec := regsChn0 ++ regsChn1 ++ regsChn2

/-- Register rows of block 0x0003_0000. -/
def regsWire0 : List RegSpec := [
  -- R168 WIRE.CFG
  ⟨0x30000, 64, 0x20, 1, 0x1, [⟨23, 16, .sealed, 0x40, [], false⟩,
    ⟨12, 12, .sealed, 0, [], false⟩,
    ⟨11, 8, .sealed, 0, [], false⟩,
    ⟨7, 0, .sealed, 0, [], false⟩]⟩,
  -- R169 WIRE.LIM
  ⟨0x30004, 64, 0x20, 1, 0x1, [⟨31, 16, .sealed, 0xa0, [], false⟩,
    ⟨15, 0, .sealed, 0x140, [], false⟩]⟩,
  -- R170 WIRE.COOL
  ⟨0x30008, 64, 0x20, 1, 0x1, [⟨15, 0, .sealed, 0x2710, [], false⟩]⟩,
  -- R171 WIRE.TEMP
  ⟨0x3000C, 64, 0x20, 1, 0x1, [⟨31, 16, .ro, 0, [], false⟩,
    ⟨15, 0, .ro, 0, [], false⟩]⟩,
  -- R172 WIRE.STAT
  ⟨0x30010, 64, 0x20, 1, 0x1, [⟨7, 6, .ro, 0, [], false⟩,
    ⟨5, 5, .ro, 0, [], false⟩,
    ⟨4, 4, .ro, 0, [], false⟩,
    ⟨3, 3, .ro, 0, [], false⟩,
    ⟨2, 2, .ro, 0, [], false⟩,
    ⟨1, 1, .ro, 0, [], false⟩,
    ⟨0, 0, .ro, 0, [], false⟩]⟩,
  -- R173 WIRE.PEAK
  ⟨0x30014, 64, 0x20, 1, 0x1, [⟨15, 0, .rc, 0x8000, [], false⟩]⟩,
  -- R174 WIRE.IRMS
  ⟨0x30018, 64, 0x20, 1, 0x1, [⟨19, 0, .ro, 0, [], false⟩]⟩,
  -- R175 WIRE.AMB.CTL
  ⟨0x30800, 16, 0x10, 1, 0x1, [⟨31, 30, .sealed, 0, [(3, 3)], false⟩,
    ⟨9, 0, .sealed, 0, [], false⟩]⟩,
  -- R176 WIRE.AMB.GAIN
  ⟨0x30804, 16, 0x10, 1, 0x1, [⟨31, 0, .sealed, 0, [], false⟩]⟩,
  -- R176 WIRE.AMB.OFFS
  ⟨0x30808, 16, 0x10, 1, 0x1, [⟨31, 0, .sealed, 0x42aa0000, [], false⟩]⟩,
  -- R177 WIRE.AMB.VAL
  ⟨0x3080C, 16, 0x10, 1, 0x1, [⟨31, 16, .sealed, 0x550, [], false⟩,
    ⟨15, 0, .ro, 0, [], false⟩]⟩,
  -- R178 WIRE.COLD
  ⟨0x30900, 1, 0x1, 1, 0x1, [⟨16, 16, .sealed, 1, [], false⟩,
    ⟨15, 0, .sealed, 0xa0, [], false⟩]⟩]

def regsWire1 : List RegSpec := [
  -- R179 WIRE.RET
  ⟨0x30904, 1, 0x1, 1, 0x1, [⟨1, 1, .ro, 0, [], false⟩,
    ⟨0, 0, .ro, 0, [], false⟩]⟩,
  -- R180 WIRE.RET_AGE
  ⟨0x30908, 1, 0x1, 1, 0x1, [⟨31, 0, .ro, 0, [], false⟩]⟩]

/-- Register rows of block 0x0003_0000. -/
def regsWire : List RegSpec := regsWire0 ++ regsWire1

/-- Register rows of block 0x0004_0000. -/
def regsLoop0 : List RegSpec := [
  -- R204 LOOP.CTL
  ⟨0x40000, 4, 0x400, 1, 0x1, [⟨13, 8, .rw, 0, [], false⟩,
    ⟨4, 4, .wo, 0, [], false⟩,
    ⟨1, 1, .rw, 0, [], false⟩,
    ⟨0, 0, .rw, 0, [], false⟩]⟩,
  -- R205 LOOP.STAT
  ⟨0x40004, 4, 0x400, 1, 0x1, [⟨31, 28, .ro, 0, [], false⟩,
    ⟨27, 23, .ro, 0, [], false⟩,
    ⟨22, 22, .ro, 0, [], false⟩,
    ⟨21, 21, .ro, 0, [], false⟩,
    ⟨20, 20, .ro, 0, [], false⟩,
    ⟨19, 19, .ro, 0, [], false⟩,
    ⟨18, 18, .ro, 0, [], false⟩,
    ⟨17, 17, .ro, 0, [], false⟩,
    ⟨15, 8, .ro, 0, [], false⟩]⟩,
  -- R206 LOOP.EVT
  ⟨0x40008, 4, 0x400, 1, 0x1, [⟨5, 5, .w1c, 0, [], false⟩,
    ⟨4, 4, .w1c, 0, [], false⟩,
    ⟨3, 3, .w1c, 0, [], false⟩,
    ⟨2, 2, .w1c, 0, [], false⟩,
    ⟨1, 1, .w1c, 0, [], false⟩,
    ⟨0, 0, .w1c, 0, [], false⟩]⟩,
  -- R207 LOOP.VSET
  ⟨0x4000C, 4, 0x400, 1, 0x1, [⟨12, 0, .rw, 0, [], false⟩]⟩,
  -- R208 LOOP.VREF
  ⟨0x40010, 4, 0x400, 1, 0x1, [⟨31, 19, .ro, 0, [], false⟩,
    ⟨18, 0, .ro, 0, [], false⟩]⟩,
  -- R209 LOOP.SLEW
  ⟨0x40014, 4, 0x400, 1, 0x1, [⟨25, 16, .rw, 0xa, [], false⟩,
    ⟨9, 0, .rw, 0x14, [], false⟩]⟩,
  -- R210 LOOP.PER
  ⟨0x40018, 4, 0x400, 1, 0x1, [⟨16, 0, .sealed, 0x7d00, [], false⟩]⟩,
  -- R211 LOOP.TMIN
  ⟨0x4001C, 4, 0x400, 1, 0x1, [⟨31, 16, .sealed, 0x800, [], false⟩,
    ⟨15, 0, .sealed, 0x400, [], false⟩]⟩,
  -- R212 LOOP.DLIM
  ⟨0x40020, 4, 0x400, 1, 0x1, [⟨31, 16, .sealed, 0xe000, [], false⟩,
    ⟨15, 0, .sealed, 0, [], false⟩]⟩,
  -- R213 LOOP.LL
  ⟨0x40024, 4, 0x400, 1, 0x1, [⟨31, 24, .rw, 0x10, [], false⟩,
    ⟨10, 0, .sealed, 0, [], false⟩]⟩,
  -- R214 LOOP.VIN_CFG
  ⟨0x40028, 4, 0x400, 1, 0x1, [⟨31, 30, .sealed, 0, [(2, 3)], false⟩,
    ⟨25, 16, .sealed, 0, [], false⟩,
    ⟨15, 0, .sealed, 0x2ee0, [], false⟩]⟩,
  -- R215 LOOP.VIN_GAIN
  ⟨0x4002C, 4, 0x400, 1, 0x1, [⟨15, 0, .sealed, 0, [], false⟩]⟩]

def regsLoop1 : List RegSpec := [
  -- R216 LOOP.SHED
  ⟨0x40030, 4, 0x400, 1, 0x1, [⟨31, 31, .rw, 0, [], false⟩,
    ⟨28, 24, .rw, 1, [], false⟩,
    ⟨23, 16, .rw, 0xa, [], false⟩,
    ⟨15, 8, .rw, 0x32, [], false⟩,
    ⟨7, 0, .rw, 0x28, [], false⟩]⟩,
  -- R217 LOOP.BAL
  ⟨0x40034, 4, 0x400, 1, 0x1, [⟨31, 31, .rw, 1, [], false⟩,
    ⟨23, 16, .rw, 0x80, [], false⟩,
    ⟨15, 0, .rw, 0x100, [], false⟩]⟩,
  -- R218 LOOP.MEAS_V
  ⟨0x40038, 4, 0x400, 1, 0x1, [⟨31, 16, .ro, 0, [], false⟩,
    ⟨15, 0, .ro, 0, [], false⟩]⟩,
  -- R219 LOOP.MEAS_I
  ⟨0x4003C, 4, 0x400, 1, 0x1, [⟨19, 0, .ro, 0, [], false⟩]⟩,
  -- R220 LOOP.ERR_PK
  ⟨0x40040, 4, 0x400, 1, 0x1, [⟨31, 16, .rc, 0, [], false⟩,
    ⟨15, 0, .rc, 0, [], false⟩]⟩,
  -- R221 LOOP.LEDG
  ⟨0x40044, 4, 0x400, 1, 0x1, [⟨31, 31, .ro, 0, [], false⟩,
    ⟨30, 24, .ro, 0, [], false⟩,
    ⟨23, 0, .ro, 0, [], false⟩]⟩,
  -- R221 LOOP.LEDG_V
  ⟨0x40048, 4, 0x400, 1, 0x1, [⟨12, 0, .ro, 0, [], false⟩]⟩,
  -- R222 LOOP.STEP_CT_LO
  ⟨0x4004C, 4, 0x400, 1, 0x1, [⟨31, 0, .ro, 0, [], false⟩]⟩,
  -- R222 LOOP.STEP_CT_HI
  ⟨0x40050, 4, 0x400, 1, 0x1, [⟨31, 0, .ro, 0, [], false⟩]⟩,
  -- R223 LOOP.PHS.CFG
  ⟨0x41000, 16, 0x10, 1, 0x1, [⟨31, 16, .sealed, 0x7d0, [], false⟩,
    ⟨15, 15, .ro, 0, [], false⟩,
    ⟨2, 0, .sealed, 0, [(4, 6)], false⟩]⟩,
  -- R224 LOOP.PHS.TRIM
  ⟨0x41004, 16, 0x10, 1, 0x1, [⟨10, 0, .sealed, 0, [], false⟩]⟩,
  -- R225 LOOP.PHS.MEAS
  ⟨0x41008, 16, 0x10, 1, 0x1, [⟨31, 20, .ro, 0, [], false⟩,
    ⟨19, 0, .ro, 0, [], false⟩]⟩]

def regsLoop2 : List RegSpec := [
  -- R241 LOOP.STEP_CFG
  ⟨0x40100, 4, 0x400, 1, 0x1, [⟨31, 31, .rw, 0, [], false⟩,
    ⟨30, 30, .sealed, 0, [], false⟩,
    ⟨29, 29, .sealed, 0, [], false⟩,
    ⟨27, 16, .sealed, 0, [], false⟩,
    ⟨15, 9, .sealed, 0, [], false⟩,
    ⟨8, 0, .sealed, 0xc8, [], false⟩]⟩,
  -- R242 LOOP.FF
  ⟨0x40104, 4, 0x400, 1, 0x1, [⟨31, 16, .sealed, 0, [], false⟩,
    ⟨15, 0, .sealed, 0x2000, [], false⟩]⟩,
  -- R243 LOOP.FF_SHAPE
  ⟨0x40108, 4, 0x400, 1, 0x1, [⟨29, 20, .sealed, 0x10, [], false⟩,
    ⟨19, 10, .sealed, 0, [], false⟩,
    ⟨7, 0, .sealed, 0x20, [], false⟩]⟩,
  -- R244 LOOP.ANN_CTL
  ⟨0x4010C, 4, 0x400, 1, 0x1, [⟨31, 30, .wo, 0, [], false⟩,
    ⟨23, 16, .wo, 0, [], false⟩,
    ⟨11, 0, .wo, 0, [], false⟩]⟩,
  -- R245 LOOP.ANN_CT_LO
  ⟨0x40110, 4, 0x400, 1, 0x1, [⟨31, 0, .rw, 0, [], false⟩]⟩,
  -- R245 LOOP.ANN_CT_HI
  ⟨0x40114, 4, 0x400, 1, 0x1, [⟨31, 0, .rw, 0, [], false⟩]⟩,
  -- R245 LOOP.LAST_CT_LO
  ⟨0x40120, 4, 0x400, 1, 0x1, [⟨31, 0, .ro, 0, [], false⟩]⟩,
  -- R245 LOOP.LAST_CT_HI
  ⟨0x40124, 4, 0x400, 1, 0x1, [⟨31, 0, .ro, 0, [], false⟩]⟩,
  -- R246 LOOP.ANN_STAT
  ⟨0x40118, 4, 0x400, 1, 0x1, [⟨31, 28, .ro, 0, [], false⟩,
    ⟨27, 20, .ro, 0, [], false⟩,
    ⟨3, 3, .ro, 0, [], false⟩,
    ⟨2, 0, .ro, 0, [], false⟩]⟩,
  -- R247 LOOP.ANN_EVT
  ⟨0x4011C, 4, 0x400, 1, 0x1, [⟨5, 5, .w1c, 0, [], false⟩,
    ⟨4, 4, .w1c, 0, [], false⟩,
    ⟨3, 3, .w1c, 0, [], false⟩,
    ⟨2, 2, .w1c, 0, [], false⟩,
    ⟨1, 1, .w1c, 0, [], false⟩,
    ⟨0, 0, .w1c, 0, [], false⟩]⟩,
  -- R248 LOOP.ANN_CNT
  ⟨0x40128, 4, 0x400, 1, 0x1, [⟨31, 16, .rc, 0, [], false⟩,
    ⟨15, 8, .rc, 0, [], false⟩,
    ⟨7, 0, .rc, 0, [], false⟩]⟩,
  -- R249 LOOP.BRAKE
  ⟨0x4012C, 4, 0x400, 1, 0x1, [⟨31, 31, .sealed, 0, [], false⟩,
    ⟨30, 30, .sealed, 0, [], false⟩,
    ⟨23, 16, .sealed, 0x19, [], false⟩,
    ⟨15, 8, .sealed, 8, [], false⟩,
    ⟨7, 0, .sealed, 0x30, [], false⟩]⟩]

def regsLoop3 : List RegSpec := [
  -- R250 LOOP.BRK_CNT
  ⟨0x40130, 4, 0x400, 1, 0x1, [⟨31, 16, .rc, 0, [], false⟩,
    ⟨15, 0, .rc, 0, [], false⟩]⟩,
  -- R251 LOOP.OCL
  ⟨0x40134, 4, 0x400, 1, 0x1, [⟨23, 16, .sealed, 8, [], false⟩,
    ⟨7, 0, .sealed, 0x50, [], false⟩]⟩,
  -- R252 LOOP.HICCUP
  ⟨0x40138, 4, 0x400, 1, 0x1, [⟨19, 10, .sealed, 0x14, [], false⟩,
    ⟨3, 0, .sealed, 3, [], false⟩]⟩,
  -- R253 LOOP.PROT_STAT
  ⟨0x4013C, 4, 0x400, 1, 0x1, [⟨31, 28, .ro, 0, [], false⟩,
    ⟨15, 8, .ro, 0, [], false⟩,
    ⟨0, 0, .ro, 0, [], false⟩]⟩,
  -- R254 LOOP.PROT_EVT
  ⟨0x40140, 4, 0x400, 1, 0x1, [⟨4, 4, .w1c, 0, [], false⟩,
    ⟨3, 3, .w1c, 0, [], false⟩,
    ⟨2, 2, .w1c, 0, [], false⟩,
    ⟨1, 1, .w1c, 0, [], false⟩,
    ⟨0, 0, .w1c, 0, [], false⟩]⟩,
  -- R255 LOOP.PROT_CNT
  ⟨0x40144, 4, 0x400, 1, 0x1, [⟨31, 16, .rc, 0, [], false⟩,
    ⟨15, 0, .rc, 0, [], false⟩]⟩,
  -- R255 LOOP.PH_LIM
  ⟨0x40148, 4, 0x400, 1, 0x1, fieldsOf 16 1 .rc 0 false⟩]

/-- Register rows of block 0x0004_0000. -/
def regsLoop : List RegSpec := regsLoop0 ++ regsLoop1 ++ regsLoop2 ++ regsLoop3

/-- Register rows of block 0x0005_0000. -/
def regsReg : List RegSpec := [
  -- R268 REG.CTL
  ⟨0x50000, 8, 0x40, 1, 0x1, [⟨8, 8, .wo, 0, [], false⟩,
    ⟨0, 0, .rw, 0, [], false⟩]⟩,
  -- R269 REG.STAT
  ⟨0x50004, 8, 0x40, 1, 0x1, [⟨31, 28, .ro, 0, [], false⟩,
    ⟨27, 27, .ro, 0, [], false⟩,
    ⟨26, 26, .ro, 0, [], false⟩,
    ⟨25, 25, .ro, 0, [], false⟩,
    ⟨24, 24, .ro, 0, [], false⟩,
    ⟨23, 23, .ro, 0, [], false⟩,
    ⟨22, 22, .ro, 0, [], false⟩,
    ⟨15, 8, .ro, 0, [], false⟩,
    ⟨7, 4, .ro, 0, [], false⟩]⟩,
  -- R270 REG.EVT
  ⟨0x50008, 8, 0x40, 1, 0x1, [⟨6, 6, .w1c, 0, [], false⟩,
    ⟨5, 5, .w1c, 0, [], false⟩,
    ⟨4, 4, .w1c, 0, [], false⟩,
    ⟨3, 3, .w1c, 0, [], false⟩,
    ⟨2, 2, .w1c, 0, [], false⟩,
    ⟨1, 1, .w1c, 0, [], false⟩,
    ⟨0, 0, .w1c, 0, [], false⟩]⟩,
  -- R271 REG.VSET
  ⟨0x5000C, 8, 0x40, 1, 0x1, [⟨26, 16, .ro, 0, [], false⟩,
    ⟨10, 0, .rw, 0, [], false⟩]⟩,
  -- R272 REG.MEAS
  ⟨0x50010, 8, 0x40, 1, 0x1, [⟨31, 16, .ro, 0, [], false⟩,
    ⟨15, 0, .ro, 0, [], false⟩]⟩,
  -- R273 REG.CFG
  ⟨0x50014, 8, 0x40, 1, 0x1, [⟨15, 15, .sealed, 1, [], false⟩,
    ⟨14, 12, .sealed, 2, [(6, 7)], false⟩,
    ⟨11, 10, .sealed, 1, [], false⟩,
    ⟨9, 8, .sealed, 3, [], false⟩,
    ⟨7, 6, .sealed, 1, [], false⟩]⟩,
  -- R274 REG.PROT
  ⟨0x50018, 8, 0x40, 1, 0x1, [⟨23, 16, .sealed, 0xa, [], false⟩,
    ⟨3, 0, .sealed, 3, [], false⟩]⟩,
  -- R275 REG.LEDG
  ⟨0x5001C, 8, 0x40, 1, 0x1, [⟨31, 31, .ro, 0, [], false⟩,
    ⟨30, 24, .ro, 0, [], false⟩,
    ⟨23, 0, .ro, 0, [], false⟩]⟩,
  -- R275 REG.LEDG_V
  ⟨0x50020, 8, 0x40, 1, 0x1, [⟨10, 0, .ro, 0, [], false⟩]⟩]

/-- Register rows of block 0x0006_0000. -/
def regsSeq0 : List RegSpec := [
  -- R295 SEQ.CMD
  ⟨0x60000, 1, 0x1, 1, 0x1, [⟨5, 4, .wo, 0, [], false⟩,
    ⟨3, 0, .wo, 0, [], false⟩]⟩,
  -- R296 SEQ.FLT_CFG
  ⟨0x60004, 1, 0x1, 1, 0x1, [⟨8, 8, .sealed, 0, [], false⟩,
    ⟨7, 0, .sealed, 0x64, [], false⟩]⟩,
  -- R297 SEQ.FLT_STAT
  ⟨0x60008, 1, 0x1, 1, 0x1, [⟨3, 3, .w1c, 0, [], false⟩,
    ⟨2, 2, .ro, 0, [], false⟩,
    ⟨1, 1, .ro, 1, [], false⟩,
    ⟨0, 0, .ro, 0, [], false⟩]⟩,
  -- R298 SEQ.JSTAT
  ⟨0x6000C, 1, 0x1, 1, 0x1, [⟨15, 0, .rc, 0, [], false⟩]⟩,
  -- R299 SEQ.PF_LAST
  ⟨0x60010, 1, 0x1, 1, 0x1, [⟨31, 31, .w1c, 0, [], true⟩,
    ⟨11, 8, .ro, 0, [], true⟩,
    ⟨5, 0, .ro, 0, [], true⟩]⟩,
  -- R300 SEQ.STAT
  ⟨0x60100, 16, 0x10, 1, 0x1, [⟨31, 28, .ro, 0, [], false⟩,
    ⟨27, 22, .ro, 0, [], false⟩,
    ⟨15, 8, .ro, 0, [], false⟩,
    ⟨0, 0, .ro, 0, [], false⟩]⟩,
  -- R301 SEQ.EVT
  ⟨0x60104, 16, 0x10, 1, 0x1, [⟨4, 4, .w1c, 0, [], false⟩,
    ⟨3, 3, .w1c, 0, [], false⟩,
    ⟨2, 2, .w1c, 0, [], false⟩,
    ⟨1, 1, .w1c, 0, [], false⟩,
    ⟨0, 0, .w1c, 0, [], false⟩]⟩,
  -- R302 SEQ.TIME
  ⟨0x60108, 16, 0x10, 1, 0x1, [⟨23, 0, .ro, 0, [], false⟩]⟩,
  -- R303 MON.CFG
  ⟨0x60400, 48, 0x10, 1, 0x1, [⟨31, 31, .rw, 0, [], false⟩,
    ⟨30, 30, .sealed, 0, [], false⟩,
    ⟨29, 29, .sealed, 0, [], false⟩,
    ⟨23, 20, .sealed, 0, [], false⟩,
    ⟨19, 18, .sealed, 2, [(3, 3)], false⟩,
    ⟨17, 16, .sealed, 0, [(2, 3)], false⟩,
    ⟨9, 8, .sealed, 0, [], false⟩,
    ⟨7, 0, .sealed, 0, [], false⟩]⟩,
  -- R304 MON.THR
  ⟨0x60404, 8, 0x10, 1, 0x1, [⟨29, 20, .sealed, 0x32, [], false⟩,
    ⟨19, 10, .sealed, 0, [], false⟩,
    ⟨9, 0, .sealed, 0, [], false⟩]⟩,
  -- R304 MON.THR
  ⟨0x60484, 40, 0x10, 1, 0x1, [⟨29, 20, .sealed, 0x32, [], false⟩,
    ⟨19, 10, .sealed, 0x3ff, [], false⟩,
    ⟨9, 0, .sealed, 0, [], false⟩]⟩,
  -- R305 MON.STAT
  ⟨0x60408, 48, 0x10, 1, 0x1, [⟨4, 3, .ro, 0, [], false⟩,
    ⟨2, 2, .ro, 0, [], false⟩,
    ⟨1, 1, .ro, 0, [], false⟩,
    ⟨0, 0, .ro, 0, [], false⟩]⟩]

def regsSeq1 : List RegSpec := [
  -- R306 MON.EVT
  ⟨0x6040C, 48, 0x10, 1, 0x1, [⟨1, 1, .w1c, 0, [], false⟩,
    ⟨0, 0, .w1c, 0, [], false⟩]⟩]

/-- Register rows of block 0x0006_0000. -/
def regsSeq : List RegSpec := regsSeq0 ++ regsSeq1

/-- Register rows of block 0x0007_0000. -/
def regsLnk0 : List RegSpec := [
  -- R333 LNK.CFG
  ⟨0x70000, 1, 0x1, 1, 0x1, [⟨31, 31, .sealed, 1, [], false⟩,
    ⟨30, 30, .sealed, 1, [], false⟩,
    ⟨29, 28, .sealed, 0, [(3, 3)], false⟩,
    ⟨27, 22, .sealed, 0, [], false⟩,
    ⟨21, 16, .sealed, 5, [], false⟩,
    ⟨15, 8, .sealed, 0xa, [], false⟩,
    ⟨7, 0, .sealed, 0xa, [], false⟩]⟩,
  -- R334 LNK.STAT
  ⟨0x70004, 1, 0x1, 1, 0x1, [⟨31, 27, .ro, 0, [], false⟩,
    ⟨26, 26, .ro, 0, [], false⟩,
    ⟨25, 25, .ro, 0, [], false⟩,
    ⟨24, 24, .ro, 0, [], false⟩,
    ⟨23, 22, .ro, 0, [], false⟩,
    ⟨21, 16, .ro, 0, [], false⟩,
    ⟨15, 8, .ro, 0, [], false⟩,
    ⟨7, 6, .ro, 0, [], false⟩,
    ⟨5, 5, .ro, 0, [], false⟩,
    ⟨4, 4, .ro, 0, [], false⟩]⟩,
  -- R335 LNK.EVT
  ⟨0x70008, 1, 0x1, 1, 0x1, [⟨8, 8, .w1c, 0, [], false⟩,
    ⟨7, 7, .w1c, 0, [], false⟩,
    ⟨6, 6, .w1c, 0, [], false⟩,
    ⟨5, 5, .w1c, 0, [], false⟩,
    ⟨4, 4, .w1c, 0, [], false⟩,
    ⟨3, 3, .w1c, 0, [], false⟩,
    ⟨2, 2, .w1c, 0, [], false⟩,
    ⟨1, 1, .w1c, 0, [], false⟩,
    ⟨0, 0, .w1c, 0, [], false⟩]⟩,
  -- R336 LNK.CMD
  ⟨0x7000C, 1, 0x1, 1, 0x1, [⟨31, 16, .wo, 0, [], false⟩,
    ⟨12, 8, .wo, 0, [], false⟩,
    ⟨1, 0, .wo, 0, [], false⟩]⟩,
  -- R337 LNK.REACH
  ⟨0x70010, 1, 0x1, 1, 0x1, fieldsOf 32 1 .ro 0 false⟩,
  -- R337 LNK.ROUTE
  ⟨0x70014, 1, 0x1, 1, 0x1, fieldsOf 32 1 .ro 0 false⟩,
  -- R338 LNK.QDROP
  ⟨0x70018, 1, 0x1, 1, 0x1, [⟨31, 24, .rc, 0, [], false⟩,
    ⟨23, 16, .rc, 0, [], false⟩,
    ⟨15, 0, .rc, 0, [], false⟩]⟩,
  -- R339 LNK.PORT.STAT
  ⟨0x70020, 2, 0x10, 1, 0x1, [⟨31, 30, .ro, 0, [], false⟩,
    ⟨29, 29, .ro, 0, [], false⟩,
    ⟨28, 28, .ro, 0, [], false⟩,
    ⟨27, 23, .ro, 0, [], false⟩]⟩,
  -- R340 LNK.PORT.ERR
  ⟨0x70024, 2, 0x10, 1, 0x1, [⟨31, 16, .rc, 0, [], false⟩,
    ⟨15, 0, .rc, 0, [], false⟩]⟩,
  -- R341 LNK.PORT.CNT
  ⟨0x70028, 2, 0x10, 1, 0x1, [⟨31, 16, .rc, 0, [], false⟩,
    ⟨15, 0, .rc, 0, [], false⟩]⟩,
  -- R342 LNK.RACC_CTL
  ⟨0x70100, 1, 0x1, 1, 0x1, [⟨31, 30, .wo, 0, [], false⟩,
    ⟨19, 16, .wo, 0, [], false⟩]⟩,
  -- R343 LNK.RACC_ADDR
  ⟨0x70104, 1, 0x1, 1, 0x1, [⟨28, 24, .rw, 0, [], false⟩,
    ⟨23, 0, .rw, 0, [], false⟩]⟩]

def regsLnk1 : List RegSpec := [
  -- R344 LNK.RACC_STAT
  ⟨0x70108, 1, 0x1, 1, 0x1, [⟨31, 24, .ro, 0, [], false⟩,
    ⟨23, 20, .ro, 0, [], false⟩,
    ⟨1, 1, .w1c, 0, [], false⟩,
    ⟨0, 0, .ro, 0, [], false⟩]⟩,
  -- R345 LNK.RACC_DATA
  ⟨0x70140, 15, 0x4, 1, 0x1, [⟨31, 0, .rw, 0, [], false⟩]⟩]

/-- Register rows of block 0x0007_0000. -/
def regsLnk : List RegSpec := regsLnk0 ++ regsLnk1

/-- Register rows of block 0x0008_0000. -/
def regsTime0 : List RegSpec := [
  -- R373 TIME.CFG
  ⟨0x80000, 1, 0x1, 1, 0x1, [⟨31, 24, .sealed, 0xa, [], false⟩,
    ⟨23, 16, .sealed, 0xa, [], false⟩,
    ⟨15, 8, .sealed, 6, [], false⟩,
    ⟨7, 0, .sealed, 0x14, [], false⟩]⟩,
  -- R374 TIME.STAT
  ⟨0x80004, 1, 0x1, 1, 0x1, [⟨31, 28, .ro, 0, [], false⟩,
    ⟨27, 27, .ro, 0, [], false⟩,
    ⟨15, 0, .ro, 0, [], false⟩]⟩,
  -- R375 TIME.EVT
  ⟨0x80008, 1, 0x1, 1, 0x1, [⟨3, 3, .w1c, 0, [], false⟩,
    ⟨2, 2, .w1c, 0, [], false⟩,
    ⟨1, 1, .w1c, 0, [], false⟩,
    ⟨0, 0, .w1c, 0, [], false⟩]⟩,
  -- R376 TIME.CT_LO
  ⟨0x8000C, 1, 0x1, 1, 0x1, [⟨31, 0, .ro, 0, [], false⟩]⟩,
  -- R376 TIME.CT_HI
  ⟨0x80010, 1, 0x1, 1, 0x1, [⟨31, 0, .ro, 0, [], false⟩]⟩,
  -- R377 TIME.OFFSET
  ⟨0x80014, 1, 0x1, 1, 0x1, [⟨31, 0, .ro, 0, [], false⟩]⟩,
  -- R377 TIME.RATE
  ⟨0x80018, 1, 0x1, 1, 0x1, [⟨31, 0, .ro, 0, [], false⟩]⟩,
  -- R377 TIME.HOLD_MS
  ⟨0x8001C, 1, 0x1, 1, 0x1, [⟨31, 0, .ro, 0, [], false⟩]⟩,
  -- R378 TIME.HOP
  ⟨0x80020, 2, 0x4, 1, 0x1, [⟨31, 31, .ro, 0, [], false⟩,
    ⟨30, 0, .ro, 0, [], false⟩]⟩,
  -- R379 TIME.ITIN_CFG
  ⟨0x80030, 1, 0x1, 1, 0x1, [⟨31, 16, .sealed, 0x3c, [], false⟩,
    ⟨15, 0, .sealed, 0x1f4, [], false⟩]⟩,
  -- R380 TIME.ITIN_STAT
  ⟨0x80034, 1, 0x1, 1, 0x1, [⟨31, 16, .ro, 0, [], false⟩,
    ⟨9, 0, .ro, 0, [], false⟩]⟩,
  -- R381 TIME.ITIN_WORST
  ⟨0x80038, 1, 0x1, 1, 0x1, [⟨28, 16, .rc, 0, [], false⟩,
    ⟨15, 0, .rc, 0, [], false⟩]⟩]

def regsTime1 : List RegSpec := [
  -- R382 TIME.ITIN_CNT
  ⟨0x8003C, 1, 0x1, 1, 0x1, [⟨31, 16, .rc, 0, [], false⟩,
    ⟨15, 8, .rc, 0, [], false⟩,
    ⟨7, 0, .rc, 0, [], false⟩]⟩,
  -- R383 TIME.ITIN_EVT
  ⟨0x80040, 1, 0x1, 1, 0x1, [⟨2, 2, .w1c, 0, [], false⟩,
    ⟨1, 1, .w1c, 0, [], false⟩,
    ⟨0, 0, .w1c, 0, [], false⟩]⟩,
  -- R384 TIME.CVY_CFG
  ⟨0x80050, 1, 0x1, 1, 0x1, [⟨31, 16, .sealed, 0xc8, [], false⟩,
    ⟨15, 0, .sealed, 0x3c, [], false⟩]⟩,
  -- R385 TIME.CVY_CMD
  ⟨0x80054, 1, 0x1, 1, 0x1, [⟨31, 30, .wo, 0, [], false⟩,
    ⟨29, 29, .wo, 0, [], false⟩,
    ⟨28, 28, .wo, 0, [], false⟩,
    ⟨7, 0, .wo, 0, [], false⟩]⟩,
  -- R386 TIME.CVY_LAUNCH_LO
  ⟨0x80058, 1, 0x1, 1, 0x1, [⟨31, 0, .rw, 0, [], false⟩]⟩,
  -- R386 TIME.CVY_LAUNCH_HI
  ⟨0x8005C, 1, 0x1, 1, 0x1, [⟨31, 0, .rw, 0, [], false⟩]⟩,
  -- R386 TIME.CVY_MEMB
  ⟨0x80060, 1, 0x1, 1, 0x1, [⟨31, 0, .rw, 0, [], false⟩]⟩,
  -- R387 TIME.CVY_SEL
  ⟨0x80064, 1, 0x1, 1, 0x1, [⟨8, 8, .rw, 0, [], false⟩,
    ⟨7, 0, .rw, 0, [], false⟩]⟩,
  -- R388 TIME.CVY_STAT
  ⟨0x80068, 1, 0x1, 1, 0x1, [⟨31, 28, .ro, 0, [], false⟩,
    ⟨27, 20, .ro, 0, [], false⟩,
    ⟨15, 0, .ro, 0, [], false⟩]⟩,
  -- R388 TIME.CVY_ACKS
  ⟨0x8006C, 1, 0x1, 1, 0x1, [⟨31, 0, .ro, 0, [], false⟩]⟩,
  -- R389 TIME.CVY_EVT
  ⟨0x80070, 1, 0x1, 1, 0x1, [⟨4, 4, .w1c, 0, [], false⟩,
    ⟨3, 3, .w1c, 0, [], false⟩,
    ⟨2, 2, .w1c, 0, [], false⟩,
    ⟨1, 1, .w1c, 0, [], false⟩,
    ⟨0, 0, .w1c, 0, [], false⟩]⟩,
  -- R390 TIME.ITIN_ST
  ⟨0x88000, 8192, 0x4, 1, 0x1, [⟨31, 28, .ro, 0, [], false⟩,
    ⟨27, 24, .ro, 0, [], false⟩,
    ⟨23, 16, .ro, 0, [], false⟩,
    ⟨15, 0, .ro, 0, [], false⟩]⟩]

/-- Register rows of block 0x0008_0000. -/
def regsTime : List RegSpec := regsTime0 ++ regsTime1

/-- Register rows of block 0x0009_0000. -/
def regsLedg0 : List RegSpec := [
  -- R411 LEDG.CFG
  ⟨0x90000, 1, 0x1, 1, 0x1, [⟨31, 31, .sealed, 0, [], false⟩,
    ⟨23, 16, .sealed, 0xa, [], false⟩,
    ⟨15, 8, .sealed, 0x1e, [], false⟩,
    ⟨7, 0, .sealed, 0xa, [], false⟩]⟩,
  -- R412 LEDG.CHAIN
  ⟨0x90004, 1, 0x1, 1, 0x1, [⟨31, 24, .sealed, 0xa, [], false⟩,
    ⟨23, 16, .sealed, 0xa, [], false⟩,
    ⟨15, 0, .sealed, 0xa, [], false⟩]⟩,
  -- R413 LEDG.STAT
  ⟨0x90008, 1, 0x1, 1, 0x1, [⟨31, 29, .ro, 0, [], false⟩,
    ⟨28, 28, .ro, 0, [], false⟩,
    ⟨15, 8, .ro, 0, [], false⟩,
    ⟨7, 0, .ro, 0, [], false⟩]⟩,
  -- R414 LEDG.EVT
  ⟨0x9000C, 1, 0x1, 1, 0x1, [⟨5, 5, .w1c, 0, [], false⟩,
    ⟨4, 4, .w1c, 0, [], false⟩,
    ⟨3, 3, .w1c, 0, [], false⟩,
    ⟨2, 2, .w1c, 0, [], false⟩,
    ⟨1, 1, .w1c, 0, [], false⟩,
    ⟨0, 0, .w1c, 0, [], false⟩]⟩,
  -- R415 LEDG.SHED
  ⟨0x90010, 1, 0x1, 1, 0x1, [⟨3, 0, .rw, 0, [], false⟩]⟩,
  -- R416 LEDG.LAST
  ⟨0x90014, 1, 0x1, 1, 0x1, [⟨31, 24, .ro, 0, [], false⟩,
    ⟨6, 0, .ro, 0, [], false⟩]⟩,
  -- R416 LEDG.CNT
  ⟨0x90018, 1, 0x1, 1, 0x1, [⟨31, 16, .rc, 0, [], false⟩,
    ⟨15, 8, .rc, 0, [], false⟩,
    ⟨7, 0, .rc, 0, [], false⟩]⟩,
  -- R417 LEDG.SRC.CFG
  ⟨0x90100, 16, 0x10, 1, 0x1, [⟨31, 24, .ro, 0, [], false⟩,
    ⟨23, 23, .ro, 0, [], false⟩,
    ⟨22, 22, .ro, 0, [], false⟩,
    ⟨19, 16, .ro, 0, [], false⟩]⟩,
  -- R417 LEDG.SRC.AVAIL
  ⟨0x90104, 16, 0x10, 1, 0x1, [⟨31, 0, .ro, 0, [], false⟩]⟩,
  -- R417 LEDG.SRC.CLAIM
  ⟨0x90108, 16, 0x10, 1, 0x1, [⟨31, 0, .ro, 0, [], false⟩]⟩,
  -- R417 LEDG.SRC.DRAW
  ⟨0x9010C, 16, 0x10, 1, 0x1, [⟨31, 0, .ro, 0, [], false⟩]⟩,
  -- R418 LEDG.FEED.SHARE
  ⟨0x90200, 16, 0x10, 1, 0x1, [⟨31, 0, .ro, 0, [], false⟩]⟩]

def regsLedg1 : List RegSpec := [
  -- R418 LEDG.FEED.BORROW
  ⟨0x90204, 16, 0x10, 1, 0x1, [⟨31, 0, .ro, 0, [], false⟩]⟩,
  -- R418 LEDG.FEED.STAT
  ⟨0x90208, 16, 0x10, 1, 0x1, [⟨31, 16, .ro, 0, [], false⟩,
    ⟨2, 2, .ro, 0, [], false⟩,
    ⟨1, 1, .ro, 0, [], false⟩,
    ⟨0, 0, .ro, 0, [], false⟩]⟩,
  -- R418 LEDG.FEED.POOL
  ⟨0x9020C, 16, 0x10, 1, 0x1, [⟨31, 0, .ro, 0, [], false⟩]⟩,
  -- R419 LEDG.CLASS
  ⟨0x90300, 16, 0x4, 1, 0x1, [⟨23, 0, .sealed, 0, [], false⟩]⟩,
  -- R420 LEDG.CONS.CFG
  ⟨0x91000, 128, 0x10, 1, 0x1, [⟨31, 28, .ro, 0, [], false⟩,
    ⟨27, 24, .ro, 0, [], false⟩,
    ⟨23, 20, .ro, 0, [], false⟩,
    ⟨19, 16, .ro, 0, [], false⟩,
    ⟨15, 8, .ro, 0, [], false⟩,
    ⟨7, 0, .ro, 0xff, [], false⟩]⟩,
  -- R420 LEDG.CONS.RSV
  ⟨0x91004, 128, 0x10, 1, 0x1, [⟨31, 0, .ro, 0, [], false⟩]⟩,
  -- R420 LEDG.CONS.DRAW
  ⟨0x91008, 128, 0x10, 1, 0x1, [⟨31, 0, .ro, 0, [], false⟩]⟩,
  -- R420 LEDG.CONS.CLAIM
  ⟨0x9100C, 128, 0x10, 1, 0x1, [⟨31, 0, .ro, 0, [], false⟩]⟩,
  -- R421 LEDG.GRANT
  ⟨0x94000, 16, 0x80, 32, 0x4, [⟨31, 0, .ro, 0, [], false⟩]⟩]

/-- Register rows of block 0x0009_0000. -/
def regsLedg : List RegSpec := regsLedg0 ++ regsLedg1

/-- Register rows of block 0x000A_0000. -/
def regsFab0 : List RegSpec := [
  -- R436 FAB.CFG
  ⟨0xA0000, 1, 0x1, 1, 0x1, [⟨15, 0, .sealed, 0x64, [], false⟩]⟩,
  -- R437 FAB.STAT
  ⟨0xA0004, 1, 0x1, 1, 0x1, [⟨26, 16, .rc, 0, [], false⟩,
    ⟨10, 0, .ro, 0, [], false⟩]⟩,
  -- R438 FAB.EVT
  ⟨0xA0008, 1, 0x1, 1, 0x1, [⟨3, 3, .w1c, 0, [], false⟩,
    ⟨2, 2, .w1c, 0, [], false⟩,
    ⟨1, 1, .w1c, 0, [], false⟩,
    ⟨0, 0, .w1c, 0, [], false⟩]⟩,
  -- R439 FAB.CNT
  ⟨0xA000C, 1, 0x1, 1, 0x1, [⟨31, 16, .rc, 0, [], false⟩,
    ⟨15, 8, .rc, 0, [], false⟩,
    ⟨7, 0, .rc, 0, [], false⟩]⟩,
  -- R440 FAB.LAST
  ⟨0xA0010, 1, 0x1, 1, 0x1, [⟨31, 24, .ro, 0, [], false⟩,
    ⟨23, 19, .ro, 0, [], false⟩,
    ⟨18, 12, .ro, 0, [], false⟩]⟩,
  -- R441 FAB.REQ.CFG
  ⟨0xA0100, 8, 0x8, 1, 0x1, [⟨26, 16, .sealed, 0x100, [], false⟩,
    ⟨10, 0, .sealed, 0x40, [], false⟩]⟩,
  -- R441 FAB.REQ.CFG
  ⟨0xA0140, 1, 0x1, 1, 0x1, [⟨26, 16, .sealed, 0x200, [], false⟩,
    ⟨10, 0, .sealed, 0x80, [], false⟩]⟩,
  -- R441 FAB.REQ.CFG
  ⟨0xA0148, 1, 0x1, 1, 0x1, [⟨26, 16, .sealed, 4, [], false⟩,
    ⟨10, 0, .sealed, 4, [], false⟩]⟩,
  -- R441 FAB.REQ.CFG
  ⟨0xA0150, 2, 0x8, 1, 0x1, [⟨26, 16, .sealed, 0x10, [], false⟩,
    ⟨10, 0, .sealed, 0x10, [], false⟩]⟩,
  -- R441 FAB.REQ.CFG
  ⟨0xA0160, 1, 0x1, 1, 0x1, [⟨26, 16, .sealed, 0x40, [], false⟩,
    ⟨10, 0, .sealed, 0x40, [], false⟩]⟩,
  -- R441 FAB.REQ.CFG
  ⟨0xA0168, 1, 0x1, 1, 0x1, [⟨26, 16, .sealed, 0x40, [], false⟩,
    ⟨10, 0, .sealed, 0x10, [], false⟩]⟩,
  -- R441 FAB.REQ.CFG
  ⟨0xA0170, 10, 0x8, 1, 0x1, [⟨26, 16, .sealed, 0, [], false⟩,
    ⟨10, 0, .sealed, 0, [], false⟩]⟩]

def regsFab1 : List RegSpec := [
  -- R442 FAB.REQ.STAT
  ⟨0xA0104, 24, 0x8, 1, 0x1, [⟨31, 31, .ro, 0, [], false⟩,
    ⟨26, 16, .rc, 0, [], false⟩,
    ⟨10, 0, .ro, 0, [], false⟩]⟩,
  -- R443 FAB.TGT
  ⟨0xA0400, 128, 0x4, 1, 0x1, [⟨15, 8, .rc, 0, [], false⟩,
    ⟨4, 4, .ro, 0, [], false⟩,
    ⟨3, 0, .ro, 0, [], false⟩]⟩]

/-- Register rows of block 0x000A_0000. -/
def regsFab : List RegSpec := regsFab0 ++ regsFab1

/-- Register rows of block 0x000B_0000. -/
def regsAdc0 : List RegSpec := [
  -- R470 ADC.CTL
  ⟨0xB0000, 1, 0x1, 1, 0x1, [⟨3, 0, .rw, 0, [], false⟩]⟩,
  -- R470 ADC.STAT
  ⟨0xB0004, 1, 0x1, 1, 0x1, [⟨15, 12, .ro, 0, [], false⟩,
    ⟨11, 8, .ro, 0, [], false⟩,
    ⟨7, 4, .ro, 0, [], false⟩,
    ⟨3, 0, .ro, 0, [], false⟩]⟩,
  -- R470 ADC.SWTRIG
  ⟨0xB0008, 1, 0x1, 1, 0x1, [⟨15, 0, .wo, 0, [], false⟩]⟩,
  -- R471 ADC.TRG.CFG
  ⟨0xB0010, 4, 0x8, 1, 0x1, [⟨31, 29, .rw, 0, [(5, 7)], false⟩,
    ⟨21, 16, .rw, 0, [], false⟩,
    ⟨7, 0, .rw, 0, [], false⟩]⟩,
  -- R471 ADC.TRG.PARAM
  ⟨0xB0014, 4, 0x8, 1, 0x1, [⟨23, 0, .rw, 0, [], false⟩]⟩,
  -- R472 ADC.SEQ.CFG
  ⟨0xB0100, 16, 0x80, 1, 0x1, [⟨31, 31, .rw, 0, [], false⟩,
    ⟨30, 30, .rw, 0, [], false⟩,
    ⟨29, 27, .rw, 0, [(5, 7)], false⟩,
    ⟨26, 26, .rw, 0, [], false⟩,
    ⟨25, 24, .rw, 0, [], false⟩,
    ⟨19, 16, .rw, 0, [(9, 15)], false⟩,
    ⟨11, 8, .rw, 0, [(9, 15)], false⟩,
    ⟨4, 0, .rw, 1, [(0, 0), (17, 31)], false⟩]⟩,
  -- R473 ADC.SEQ.STAT
  ⟨0xB0104, 16, 0x80, 1, 0x1, [⟨31, 30, .ro, 0, [], false⟩,
    ⟨23, 20, .ro, 0, [], false⟩,
    ⟨16, 8, .ro, 0, [], false⟩]⟩,
  -- R473 ADC.SEQ.EVT
  ⟨0xB0108, 16, 0x80, 1, 0x1, [⟨3, 3, .w1c, 0, [], false⟩,
    ⟨2, 2, .w1c, 0, [], false⟩,
    ⟨1, 1, .w1c, 0, [], false⟩,
    ⟨0, 0, .w1c, 0, [], false⟩]⟩,
  -- R473 ADC.SEQ.CNT
  ⟨0xB0114, 16, 0x80, 1, 0x1, [⟨31, 16, .rc, 0, [], false⟩,
    ⟨15, 0, .rc, 0, [], false⟩]⟩,
  -- R474 ADC.SEQ.START_CT_LO
  ⟨0xB010C, 16, 0x80, 1, 0x1, [⟨31, 0, .ro, 0, [], false⟩]⟩,
  -- R474 ADC.SEQ.START_CT_HI
  ⟨0xB0110, 16, 0x80, 1, 0x1, [⟨31, 0, .ro, 0, [], false⟩]⟩,
  -- R475 ADC.SEQ.ENT
  ⟨0xB0140, 12, 0x80, 16, 0x4, [⟨13, 11, .rw, 0, [], false⟩,
    ⟨10, 8, .rw, 0, [(6, 7)], false⟩,
    ⟨7, 0, .rw, 0xd4, [(213, 255)], false⟩]⟩]

def regsAdc1 : List RegSpec := [
  -- R475 ADC.SEQ.ENT
  ⟨0xB0740, 4, 0x80, 16, 0x4, [⟨13, 11, .rw, 0, [], false⟩,
    ⟨10, 8, .rw, 0, [(6, 7)], false⟩,
    ⟨7, 0, .rw, 0xd4, [(213, 222), (224, 255)], false⟩]⟩,
  -- R476 ADC.RES
  ⟨0xB1000, 256, 0x4, 1, 0x1, [⟨31, 28, .ro, 0, [], false⟩,
    ⟨27, 27, .ro, 0, [], false⟩,
    ⟨23, 0, .ro, 0, [], false⟩]⟩]

/-- Register rows of block 0x000B_0000. -/
def regsAdc : List RegSpec := regsAdc0 ++ regsAdc1

/-- Register rows of block 0x000C_0000. -/
def regsCmp : List RegSpec := [
  -- R478 CMP.TICK
  ⟨0xC0000, 1, 0x1, 1, 0x1, [⟨23, 0, .sealed, 0x2710, [], false⟩]⟩,
  -- R478 CMP.NIGHT
  ⟨0xC0004, 1, 0x1, 1, 0x1, [⟨15, 0, .sealed, 0x21, [], false⟩]⟩,
  -- R479 CMP.CHK
  ⟨0xC0008, 1, 0x1, 1, 0x1, [⟨31, 30, .sealed, 0, [(3, 3)], false⟩,
    ⟨15, 8, .sealed, 0xa, [], false⟩,
    ⟨7, 0, .sealed, 0xa, [], false⟩]⟩,
  -- R480 CMP.CHK_STAT
  ⟨0xC000C, 1, 0x1, 1, 0x1, [⟨31, 24, .ro, 0, [], false⟩,
    ⟨23, 16, .ro, 0, [], false⟩,
    ⟨3, 3, .w1c, 0, [], false⟩,
    ⟨2, 2, .w1c, 0, [], false⟩,
    ⟨1, 1, .w1c, 0, [], false⟩,
    ⟨0, 0, .w1c, 0, [], false⟩]⟩,
  -- R481 CMP.FAILMAP
  ⟨0xC0010, 4, 0x4, 1, 0x1, fieldsOf 32 1 .w1c 0 false⟩,
  -- R482 CMP.GEN.CFG
  ⟨0xC0100, 16, 0x20, 1, 0x1, [⟨31, 30, .rw, 0, [(3, 3)], false⟩,
    ⟨29, 28, .rw, 0, [(3, 3)], false⟩,
    ⟨27, 26, .rw, 0, [], false⟩,
    ⟨25, 25, .rw, 0, [], false⟩,
    ⟨24, 24, .rw, 0, [], false⟩,
    ⟨23, 23, .rw, 0, [], false⟩,
    ⟨22, 22, .rw, 0, [], false⟩,
    ⟨9, 0, .rw, 0, [], false⟩]⟩,
  -- R483 CMP.GEN.STAT
  ⟨0xC0104, 16, 0x20, 1, 0x1, [⟨3, 3, .ro, 0, [], false⟩,
    ⟨2, 2, .w1c, 0, [], false⟩,
    ⟨1, 1, .w1c, 0, [], false⟩,
    ⟨0, 0, .ro, 0, [], false⟩]⟩,
  -- R483 CMP.GEN.CNT
  ⟨0xC0110, 16, 0x20, 1, 0x1, [⟨15, 0, .rc, 0, [], false⟩]⟩,
  -- R484 CMP.GEN.CAP_LO
  ⟨0xC0108, 16, 0x20, 1, 0x1, [⟨31, 0, .ro, 0, [], false⟩]⟩,
  -- R484 CMP.GEN.CAP_HI
  ⟨0xC010C, 16, 0x20, 1, 0x1, [⟨31, 0, .ro, 0, [], false⟩]⟩]

/-- Register rows of block 0x000D_0000. -/
def regsChg0 : List RegSpec := [
  -- R507 CHG.CTL
  ⟨0xD0000, 1, 0x1, 1, 0x1, [⟨31, 28, .wo, 0, [], false⟩,
    ⟨11, 0, .wo, 0, [], false⟩]⟩,
  -- R508 CHG.STAT
  ⟨0xD0004, 1, 0x1, 1, 0x1, [⟨31, 28, .ro, 0, [], false⟩,
    ⟨27, 26, .ro, 0, [], false⟩,
    ⟨25, 25, .ro, 0, [], false⟩,
    ⟨24, 24, .ro, 0, [], false⟩,
    ⟨23, 23, .ro, 0, [], false⟩,
    ⟨22, 22, .ro, 0, [], false⟩,
    ⟨21, 21, .ro, 0, [], false⟩,
    ⟨20, 20, .ro, 0, [], false⟩,
    ⟨19, 16, .ro, 0xf, [], false⟩,
    ⟨15, 8, .ro, 0, [], false⟩,
    ⟨3, 0, .ro, 0, [], false⟩]⟩,
  -- R509 CHG.EVT
  ⟨0xD0008, 1, 0x1, 1, 0x1, [⟨11, 11, .w1c, 0, [], false⟩,
    ⟨10, 10, .w1c, 0, [], false⟩,
    ⟨9, 9, .w1c, 0, [], false⟩,
    ⟨8, 8, .w1c, 0, [], false⟩,
    ⟨7, 7, .w1c, 0, [], false⟩,
    ⟨6, 6, .w1c, 0, [], false⟩,
    ⟨5, 5, .w1c, 0, [], false⟩,
    ⟨4, 4, .w1c, 0, [], false⟩,
    ⟨3, 3, .w1c, 0, [], false⟩,
    ⟨2, 2, .w1c, 0, [], false⟩,
    ⟨1, 1, .w1c, 0, [], false⟩,
    ⟨0, 0, .w1c, 0, [], false⟩]⟩,
  -- R510 CHG.CFG
  ⟨0xD000C, 1, 0x1, 1, 0x1, [⟨4, 4, .sealed, 1, [], false⟩,
    ⟨3, 3, .sealed, 0, [], false⟩,
    ⟨2, 2, .sealed, 0, [], false⟩,
    ⟨1, 0, .sealed, 1, [(3, 3)], false⟩]⟩,
  -- R511 CHG.PACK
  ⟨0xD0010, 1, 0x1, 1, 0x1, [⟨31, 30, .sealed, 0, [(2, 3)], false⟩,
    ⟨26, 24, .sealed, 0, [(1, 2), (6, 7)], false⟩,
    ⟨19, 16, .sealed, 0xf, [], false⟩,
    ⟨7, 0, .sealed, 0x8a, [], false⟩]⟩,
  -- R512 CHG.VCELL
  ⟨0xD0014, 1, 0x1, 1, 0x1, [⟨31, 16, .sealed, 0xe10, [], false⟩,
    ⟨15, 0, .sealed, 0xd48, [], false⟩]⟩,
  -- R512 CHG.VCELL2
  ⟨0xD0018, 1, 0x1, 1, 0x1, [⟨31, 16, .sealed, 0xaf0, [], false⟩,
    ⟨15, 0, .sealed, 0xd16, [], false⟩]⟩,
  -- R513 CHG.ICHG
  ⟨0xD001C, 1, 0x1, 1, 0x1, [⟨31, 16, .sealed, 0x7d0, [], false⟩,
    ⟨15, 0, .sealed, 0x1f4, [], false⟩]⟩,
  -- R513 CHG.TERM
  ⟨0xD0020, 1, 0x1, 1, 0x1, [⟨31, 16, .sealed, 0xc8, [], false⟩,
    ⟨15, 8, .sealed, 0, [], false⟩,
    ⟨4, 0, .sealed, 4, [], false⟩]⟩,
  -- R514 CHG.TEMP
  ⟨0xD0024, 1, 0x1, 1, 0x1, [⟨31, 16, .sealed, 0xd6b, [], false⟩,
    ⟨15, 8, .sealed, 0x2d, [], false⟩,
    ⟨7, 0, .sealed, 0, [], false⟩]⟩,
  -- R514 CHG.MPPT
  ⟨0xD0028, 1, 0x1, 1, 0x1, [⟨31, 16, .sealed, 0x12c, [], false⟩,
    ⟨15, 8, .sealed, 0xa, [], false⟩,
    ⟨7, 0, .sealed, 0xa, [], false⟩]⟩,
  -- R515 CHG.SUP
  ⟨0xD002C, 1, 0x1, 1, 0x1, [⟨31, 16, .sealed, 0x2af8, [], false⟩,
    ⟨15, 0, .sealed, 0x2ee0, [], false⟩]⟩]

def regsChg1 : List RegSpec := [
  -- R515 CHG.SUP2
  ⟨0xD0030, 1, 0x1, 1, 0x1, [⟨31, 16, .sealed, 0x1f4, [], false⟩,
    ⟨9, 0, .sealed, 0, [], false⟩]⟩,
  -- R516 CHG.LIM
  ⟨0xD0034, 1, 0x1, 1, 0x1, [⟨31, 16, .sealed, 0, [], false⟩,
    ⟨15, 0, .sealed, 0xb54, [], false⟩]⟩,
  -- R516 CHG.INLIM
  ⟨0xD0038, 1, 0x1, 1, 0x1, [⟨31, 16, .sealed, 0x2328, [], false⟩,
    ⟨15, 0, .sealed, 0x1770, [], false⟩]⟩,
  -- R517 CHG.MEAS
  ⟨0xD003C, 1, 0x1, 1, 0x1, [⟨31, 16, .ro, 0, [], false⟩,
    ⟨15, 0, .ro, 0, [], false⟩]⟩,
  -- R517 CHG.MEAS_IN
  ⟨0xD0040, 1, 0x1, 1, 0x1, [⟨31, 16, .ro, 0, [], false⟩,
    ⟨15, 0, .ro, 0, [], false⟩]⟩,
  -- R517 CHG.MPP
  ⟨0xD0044, 1, 0x1, 1, 0x1, [⟨31, 16, .ro, 0, [], false⟩,
    ⟨15, 0, .ro, 0, [], false⟩]⟩,
  -- R518 CHG.PROG
  ⟨0xD0048, 1, 0x1, 1, 0x1, [⟨31, 20, .ro, 0, [], false⟩,
    ⟨16, 0, .ro, 0, [], false⟩]⟩,
  -- R518 CHG.STORE
  ⟨0xD004C, 1, 0x1, 1, 0x1, [⟨31, 16, .wo, 0, [], false⟩,
    ⟨0, 0, .wo, 0, [], false⟩]⟩,
  -- R519 CHG.LEDG
  ⟨0xD0050, 1, 0x1, 1, 0x1, [⟨31, 31, .ro, 0, [], false⟩,
    ⟨30, 24, .ro, 0, [], false⟩,
    ⟨23, 0, .ro, 0, [], false⟩]⟩,
  -- R519 CHG.CNT
  ⟨0xD0054, 1, 0x1, 1, 0x1, [⟨31, 16, .rc, 0, [], false⟩,
    ⟨15, 8, .rc, 0, [], false⟩,
    ⟨7, 0, .rc, 0, [], false⟩]⟩]

/-- Register rows of block 0x000D_0000. -/
def regsChg : List RegSpec := regsChg0 ++ regsChg1

/-- Register rows of block 0x000E_0000. -/
def regsGauge0 : List RegSpec := [
  -- R538 GAUGE.CFG
  ⟨0xE0000, 1, 0x1, 1, 0x1, [⟨31, 31, .sealed, 0, [], false⟩,
    ⟨30, 30, .sealed, 1, [], false⟩,
    ⟨29, 29, .sealed, 1, [], false⟩,
    ⟨15, 0, .sealed, 0x1f4, [], false⟩]⟩,
  -- R538 GAUGE.REST
  ⟨0xE0004, 1, 0x1, 1, 0x1, [⟨31, 16, .sealed, 0x708, [], false⟩,
    ⟨15, 0, .sealed, 0x64, [], false⟩]⟩,
  -- R538 GAUGE.UNC_CFG
  ⟨0xE0008, 1, 0x1, 1, 0x1, [⟨31, 24, .sealed, 0x32, [], false⟩,
    ⟨23, 16, .sealed, 0x32, [], false⟩,
    ⟨15, 0, .sealed, 0x32, [], false⟩]⟩,
  -- R538 GAUGE.UNC_LIM
  ⟨0xE000C, 1, 0x1, 1, 0x1, [⟨31, 16, .sealed, 0x3e8, [], false⟩,
    ⟨15, 0, .sealed, 0x64, [], false⟩]⟩,
  -- R538 GAUGE.REF
  ⟨0xE0010, 1, 0x1, 1, 0x1, [⟨28, 16, .sealed, 0, [], false⟩,
    ⟨15, 8, .sealed, 0x18, [], false⟩,
    ⟨7, 0, .sealed, 0x1e, [], false⟩]⟩,
  -- R538 GAUGE.LEARN
  ⟨0xE0014, 1, 0x1, 1, 0x1, [⟨31, 24, .sealed, 0x28, [], false⟩,
    ⟨23, 16, .sealed, 5, [], false⟩,
    ⟨15, 0, .sealed, 0x2328, [], false⟩]⟩,
  -- R539 GAUGE.STAT
  ⟨0xE0020, 1, 0x1, 1, 0x1, [⟨7, 7, .ro, 0, [], false⟩,
    ⟨6, 6, .ro, 0, [], false⟩,
    ⟨5, 5, .ro, 0, [], false⟩,
    ⟨4, 4, .ro, 0, [], false⟩,
    ⟨3, 3, .ro, 0, [], false⟩,
    ⟨2, 2, .ro, 0, [], false⟩,
    ⟨1, 1, .ro, 0, [], false⟩,
    ⟨0, 0, .ro, 0, [], false⟩]⟩,
  -- R540 GAUGE.EVT
  ⟨0xE0024, 1, 0x1, 1, 0x1, [⟨9, 9, .w1c, 0, [], false⟩,
    ⟨8, 8, .w1c, 0, [], false⟩,
    ⟨7, 7, .w1c, 0, [], false⟩,
    ⟨6, 6, .w1c, 0, [], false⟩,
    ⟨5, 5, .w1c, 0, [], false⟩,
    ⟨4, 4, .w1c, 0, [], false⟩,
    ⟨3, 3, .w1c, 0, [], false⟩,
    ⟨2, 2, .w1c, 0, [], false⟩,
    ⟨1, 1, .w1c, 0, [], false⟩,
    ⟨0, 0, .w1c, 0, [], false⟩]⟩,
  -- R541 GAUGE.SOC
  ⟨0xE0028, 1, 0x1, 1, 0x1, [⟨31, 16, .ro, 0, [], false⟩,
    ⟨15, 0, .ro, 0, [], false⟩]⟩,
  -- R541 GAUGE.RM
  ⟨0xE002C, 1, 0x1, 1, 0x1, [⟨31, 16, .ro, 0, [], false⟩,
    ⟨15, 0, .ro, 0, [], false⟩]⟩,
  -- R541 GAUGE.QMAX
  ⟨0xE0030, 1, 0x1, 1, 0x1, [⟨31, 16, .ro, 0, [], false⟩,
    ⟨15, 0, .ro, 0, [], false⟩]⟩,
  -- R541 GAUGE.EREM
  ⟨0xE0034, 1, 0x1, 1, 0x1, [⟨31, 0, .ro, 0, [], false⟩]⟩]

def regsGauge1 : List RegSpec := [
  -- R541 GAUGE.CURR
  ⟨0xE0038, 1, 0x1, 1, 0x1, [⟨31, 0, .ro, 0, [], false⟩]⟩,
  -- R541 GAUGE.ACC_LO
  ⟨0xE003C, 1, 0x1, 1, 0x1, [⟨31, 0, .ro, 0, [], false⟩]⟩,
  -- R541 GAUGE.ACC_HI
  ⟨0xE0040, 1, 0x1, 1, 0x1, [⟨31, 0, .ro, 0, [], false⟩]⟩,
  -- R541 GAUGE.TEMP
  ⟨0xE0044, 1, 0x1, 1, 0x1, [⟨15, 0, .ro, 0, [], false⟩]⟩,
  -- R541 GAUGE.CYC
  ⟨0xE0048, 1, 0x1, 1, 0x1, [⟨31, 16, .ro, 0, [], false⟩]⟩,
  -- R541 GAUGE.REC
  ⟨0xE004C, 1, 0x1, 1, 0x1, [⟨31, 0, .ro, 0, [], false⟩]⟩,
  -- R542 GAUGE.REC_STAT
  ⟨0xE0050, 1, 0x1, 1, 0x1, [⟨1, 1, .ro, 0, [], false⟩,
    ⟨0, 0, .ro, 0, [], false⟩]⟩,
  -- R542 GAUGE.CNT
  ⟨0xE0054, 1, 0x1, 1, 0x1, [⟨31, 16, .rc, 0, [], false⟩,
    ⟨15, 8, .rc, 0, [], false⟩,
    ⟨7, 0, .rc, 0, [], false⟩]⟩]

/-- Register rows of block 0x000E_0000. -/
def regsGauge : List RegSpec := regsGauge0 ++ regsGauge1

/-- Register rows of block 0x000F_0000. -/
def regsPd0 : List RegSpec := [
  -- R561 PD.CTL
  ⟨0xF0000, 2, 0x100, 1, 0x1, [⟨31, 28, .wo, 0, [], false⟩]⟩,
  -- R561 PD.STAT
  ⟨0xF0004, 2, 0x100, 1, 0x1, [⟨31, 28, .ro, 0, [], false⟩,
    ⟨27, 27, .ro, 0, [], false⟩,
    ⟨26, 26, .ro, 0, [], false⟩,
    ⟨25, 25, .ro, 0, [], false⟩,
    ⟨24, 24, .ro, 0, [], false⟩,
    ⟨23, 23, .ro, 0, [], false⟩,
    ⟨22, 22, .ro, 0, [], false⟩,
    ⟨21, 21, .ro, 0, [], false⟩,
    ⟨20, 19, .ro, 0, [], false⟩,
    ⟨15, 8, .ro, 0, [], false⟩]⟩,
  -- R562 PD.EVT
  ⟨0xF0008, 2, 0x100, 1, 0x1, [⟨7, 7, .w1c, 0, [], false⟩,
    ⟨6, 6, .w1c, 0, [], false⟩,
    ⟨5, 5, .w1c, 0, [], false⟩,
    ⟨4, 4, .w1c, 0, [], false⟩,
    ⟨3, 3, .w1c, 0, [], false⟩,
    ⟨2, 2, .w1c, 0, [], false⟩,
    ⟨1, 1, .w1c, 0, [], false⟩,
    ⟨0, 0, .w1c, 0, [], false⟩]⟩,
  -- R563 PD.CFG
  ⟨0xF000C, 1, 0x1, 1, 0x1, [⟨31, 31, .sealed, 0, [], false⟩,
    ⟨30, 30, .sealed, 1, [], false⟩,
    ⟨29, 29, .sealed, 0, [], false⟩,
    ⟨28, 27, .sealed, 3, [(0, 0)], false⟩,
    ⟨17, 10, .sealed, 0x3c, [], false⟩,
    ⟨9, 0, .sealed, 0x384, [], false⟩]⟩,
  -- R563 PD.CFG
  ⟨0xF010C, 1, 0x1, 1, 0x1, [⟨31, 31, .sealed, 0, [], false⟩,
    ⟨30, 30, .sealed, 1, [], false⟩,
    ⟨29, 29, .sealed, 0, [], false⟩,
    ⟨28, 27, .sealed, 3, [(0, 0)], false⟩,
    ⟨26, 25, .sealed, 0, [(3, 3)], false⟩,
    ⟨24, 23, .sealed, 0, [(3, 3)], false⟩,
    ⟨22, 21, .sealed, 0, [], false⟩,
    ⟨17, 10, .sealed, 0x3c, [], false⟩,
    ⟨9, 0, .sealed, 0x384, [], false⟩]⟩,
  -- R564 PD.CAP
  ⟨0xF0010, 2, 0x100, 1, 0x1, [⟨15, 8, .sealed, 0x3c, [], false⟩,
    ⟨7, 0, .rw, 0x3c, [], false⟩]⟩,
  -- R564 PD.SNK
  ⟨0xF0014, 1, 0x1, 1, 0x1, []⟩,
  -- R564 PD.SNK
  ⟨0xF0114, 1, 0x1, 1, 0x1, [⟨31, 24, .sealed, 0x32, [], false⟩,
    ⟨23, 16, .sealed, 0xc8, [], false⟩,
    ⟨7, 0, .sealed, 0x3c, [], false⟩]⟩,
  -- R564 PD.PROT
  ⟨0xF0018, 2, 0x100, 1, 0x1, [⟨19, 16, .sealed, 3, [], false⟩,
    ⟨15, 0, .sealed, 0x2710, [], false⟩]⟩,
  -- R565 PD.PDO
  ⟨0xF0020, 2, 0x100, 1, 0x1, [⟨31, 0, .sealed, 0x1912c, [], false⟩]⟩,
  -- R565 PD.PDO
  ⟨0xF0024, 2, 0x100, 6, 0x4, [⟨31, 0, .sealed, 0, [], false⟩]⟩,
  -- R565 PD.CABLE
  ⟨0xF0048, 2, 0x100, 1, 0x1, [⟨31, 0, .ro, 0, [], false⟩]⟩]

def regsPd1 : List RegSpec := [
  -- R566 PD.CONTR
  ⟨0xF0040, 2, 0x100, 1, 0x1, [⟨21, 10, .ro, 0, [], false⟩,
    ⟨9, 0, .ro, 0, [], false⟩]⟩,
  -- R566 PD.MEAS
  ⟨0xF0044, 2, 0x100, 1, 0x1, [⟨31, 16, .ro, 0, [], false⟩,
    ⟨15, 0, .ro, 0, [], false⟩]⟩,
  -- R567 PD.CNT
  ⟨0xF004C, 2, 0x100, 1, 0x1, [⟨31, 24, .rc, 0, [], false⟩,
    ⟨23, 16, .rc, 0, [], false⟩,
    ⟨15, 8, .rc, 0, [], false⟩,
    ⟨7, 0, .rc, 0, [], false⟩]⟩,
  -- R567 PD.LEDG
  ⟨0xF0050, 2, 0x100, 1, 0x1, [⟨31, 31, .ro, 0, [], false⟩,
    ⟨30, 24, .ro, 0, [], false⟩,
    ⟨23, 0, .ro, 0, [], false⟩]⟩]

/-- Register rows of block 0x000F_0000. -/
def regsPd : List RegSpec := regsPd0 ++ regsPd1

/-- Register rows of block 0x0010_0000. -/
def regsItin : List RegSpec := [
  -- R357 ITIN.W0
  ⟨0x100000, 8192, 0x10, 1, 0x1, [⟨31, 0, .rw, 0, [], false⟩]⟩,
  -- R358 ITIN.W1
  ⟨0x100004, 8192, 0x10, 1, 0x1, [⟨31, 16, .rw, 0, [], false⟩,
    ⟨15, 12, .rw, 0, [], false⟩,
    ⟨11, 11, .rw, 0, [], false⟩,
    ⟨7, 0, .rw, 0, [], false⟩]⟩,
  -- R359 ITIN.W2
  ⟨0x100008, 8192, 0x10, 1, 0x1, [⟨31, 24, .rw, 0, [(4, 7), (10, 15), (17, 23), (25, 31), (33, 39), (41, 47), (49, 55), (57, 63), (67, 255)], false⟩,
    ⟨23, 16, .rw, 0, [], false⟩,
    ⟨15, 0, .rw, 0, [], false⟩]⟩,
  -- R359 ITIN.W3
  ⟨0x10000C, 8192, 0x10, 1, 0x1, [⟨31, 31, .rw, 0, [], false⟩,
    ⟨30, 30, .rw, 0, [], false⟩,
    ⟨29, 29, .rw, 0, [], false⟩,
    ⟨28, 27, .rw, 0, [], false⟩,
    ⟨26, 11, .rw, 0, [], false⟩,
    ⟨10, 0, .rw, 0, [], false⟩]⟩]

/-- Register rows of block 0x0012_0000. -/
def regsFlt0 : List RegSpec := [
  -- R587 FLT.CFG
  ⟨0x120000, 1, 0x1, 1, 0x1, [⟨31, 31, .sealed, 0, [], false⟩,
    ⟨30, 30, .sealed, 0, [], false⟩,
    ⟨23, 16, .sealed, 0x64, [], false⟩,
    ⟨15, 12, .sealed, 3, [], false⟩,
    ⟨11, 11, .sealed, 1, [], false⟩,
    ⟨7, 4, .sealed, 0, [], false⟩,
    ⟨3, 0, .sealed, 0xa, [], false⟩]⟩,
  -- R588 FLT.STAT
  ⟨0x120004, 1, 0x1, 1, 0x1, [⟨31, 31, .ro, 0, [], false⟩,
    ⟨30, 29, .ro, 0, [], false⟩,
    ⟨28, 28, .ro, 0, [], false⟩,
    ⟨25, 16, .ro, 0, [], false⟩,
    ⟨15, 12, .ro, 0, [], true⟩]⟩,
  -- R589 FLT.EVT
  ⟨0x120008, 1, 0x1, 1, 0x1, [⟨6, 6, .w1c, 0, [], false⟩,
    ⟨5, 5, .w1c, 0, [], false⟩,
    ⟨4, 4, .w1c, 0, [], false⟩,
    ⟨3, 3, .w1c, 0, [], false⟩,
    ⟨2, 2, .w1c, 0, [], false⟩,
    ⟨1, 1, .w1c, 0, [], false⟩,
    ⟨0, 0, .w1c, 0, [], false⟩]⟩,
  -- R590 FLT.FIRST
  ⟨0x12000C, 1, 0x1, 1, 0x1, [⟨31, 31, .w1c, 0, [], true⟩,
    ⟨9, 0, .ro, 0, [], true⟩]⟩,
  -- R590 FLT.FIRST_CT_LO
  ⟨0x120010, 1, 0x1, 1, 0x1, [⟨31, 0, .ro, 0, [], true⟩]⟩,
  -- R590 FLT.FIRST_CT_HI
  ⟨0x120014, 1, 0x1, 1, 0x1, [⟨31, 0, .ro, 0, [], true⟩]⟩,
  -- R591 FLT.LAST
  ⟨0x120018, 1, 0x1, 1, 0x1, [⟨31, 30, .ro, 0, [], false⟩,
    ⟨29, 29, .ro, 0, [], false⟩,
    ⟨28, 28, .ro, 0, [], false⟩,
    ⟨9, 0, .ro, 0, [], false⟩]⟩,
  -- R591 FLT.CNT
  ⟨0x12001C, 1, 0x1, 1, 0x1, [⟨31, 16, .rc, 0, [], false⟩,
    ⟨15, 8, .rc, 0, [], false⟩,
    ⟨7, 0, .rc, 0, [], false⟩]⟩,
  -- R592 FLT.INJ
  ⟨0x120020, 1, 0x1, 1, 0x1, [⟨31, 16, .wo, 0, [], false⟩,
    ⟨15, 13, .wo, 0, [], false⟩,
    ⟨9, 0, .wo, 0, [], false⟩]⟩,
  -- R592 FLT.FORCE
  ⟨0x120024, 1, 0x1, 1, 0x1, [⟨31, 16, .wo, 0, [], false⟩,
    ⟨15, 13, .wo, 0, [], false⟩,
    ⟨9, 0, .wo, 0, [], false⟩]⟩,
  -- R593 FLT.REMOTE
  ⟨0x120028, 1, 0x1, 1, 0x1, fieldsOf 32 1 .ro 0 false⟩,
  -- R593 FLT.SAFE_KEEP
  ⟨0x120030, 2, 0x4, 1, 0x1, fieldsOf 32 1 .sealed 0 false⟩]

def regsFlt1 : List RegSpec := [
  -- R594 FLT.SEV
  ⟨0x120100, 40, 0x4, 1, 0x1, fieldsOf 16 2 .sealed 0 false⟩,
  -- R595 FLT.RAW
  ⟨0x120200, 20, 0x4, 1, 0x1, fieldsOf 32 1 .ro 0 false⟩,
  -- R595 FLT.LAT
  ⟨0x120280, 20, 0x4, 1, 0x1, fieldsOf 32 1 .w1c 0 false⟩,
  -- R595 FLT.BRK
  ⟨0x120300, 20, 0x4, 1, 0x1, fieldsOf 32 1 .w1c 0 false⟩]

/-- Register rows of block 0x0012_0000. -/
def regsFlt : List RegSpec := regsFlt0 ++ regsFlt1

/-- Register rows of block 0x0013_0000. -/
def regsRtc : List RegSpec := [
  -- R614 RTC.TIME
  ⟨0x130000, 1, 0x1, 1, 0x1, [⟨20, 16, .rw, 0, [], true⟩,
    ⟨13, 8, .rw, 0, [], true⟩,
    ⟨5, 0, .rw, 0, [], true⟩]⟩,
  -- R614 RTC.DATE
  ⟨0x130004, 1, 0x1, 1, 0x1, [⟨31, 16, .rw, 0x7d0, [], true⟩,
    ⟨14, 12, .ro, 5, [], true⟩,
    ⟨11, 8, .rw, 1, [], true⟩,
    ⟨4, 0, .rw, 1, [], true⟩]⟩,
  -- R614 RTC.SUB
  ⟨0x130008, 1, 0x1, 1, 0x1, [⟨14, 0, .ro, 0, [], true⟩]⟩,
  -- R615 RTC.CTL
  ⟨0x13000C, 1, 0x1, 1, 0x1, [⟨1, 0, .wo, 0, [], false⟩]⟩,
  -- R615 RTC.STAT
  ⟨0x130010, 1, 0x1, 1, 0x1, [⟨4, 4, .ro, 0, [], true⟩,
    ⟨3, 3, .ro, 0, [], false⟩,
    ⟨2, 2, .ro, 0, [], true⟩,
    ⟨1, 1, .ro, 0, [], true⟩,
    ⟨0, 0, .ro, 0, [], true⟩]⟩,
  -- R615 RTC.EVT
  ⟨0x130014, 1, 0x1, 1, 0x1, [⟨3, 3, .w1c, 0, [], false⟩,
    ⟨2, 2, .w1c, 0, [], true⟩,
    ⟨1, 1, .w1c, 0, [], true⟩,
    ⟨0, 0, .w1c, 0, [], true⟩]⟩,
  -- R616 RTC.ALM
  ⟨0x130018, 2, 0x4, 1, 0x1, [⟨31, 31, .rw, 0, [], true⟩,
    ⟨30, 30, .rw, 0, [], true⟩,
    ⟨29, 29, .rw, 0, [], true⟩,
    ⟨28, 25, .rw, 0, [], true⟩,
    ⟨24, 20, .rw, 1, [], true⟩,
    ⟨19, 15, .rw, 0, [], true⟩,
    ⟨11, 6, .rw, 0, [], true⟩,
    ⟨5, 0, .rw, 0, [], true⟩]⟩,
  -- R617 RTC.PON
  ⟨0x130020, 1, 0x1, 1, 0x1, [⟨31, 31, .wo, 0, [], false⟩,
    ⟨30, 30, .wo, 0, [], false⟩,
    ⟨29, 29, .rw, 0, [], true⟩,
    ⟨15, 0, .rw, 0, [], true⟩]⟩,
  -- R617 RTC.WAKE
  ⟨0x130024, 1, 0x1, 1, 0x1, [⟨31, 31, .sealed, 1, [], false⟩,
    ⟨30, 30, .sealed, 0, [], false⟩,
    ⟨29, 29, .sealed, 1, [], false⟩,
    ⟨28, 24, .ro, 0, [], false⟩,
    ⟨23, 16, .rc, 0, [], false⟩,
    ⟨7, 0, .ro, 0, [], false⟩]⟩,
  -- R618 RTC.PWR_CTL
  ⟨0x130028, 1, 0x1, 1, 0x1, [⟨1, 0, .wo, 0, [], false⟩]⟩,
  -- R618 RTC.PWR_CFG
  ⟨0x13002C, 1, 0x1, 1, 0x1, [⟨31, 28, .sealed, 0, [], false⟩,
    ⟨27, 24, .sealed, 0, [], false⟩,
    ⟨23, 20, .sealed, 1, [], false⟩,
    ⟨19, 12, .sealed, 0xa, [], false⟩,
    ⟨11, 0, .sealed, 5, [], false⟩]⟩,
  -- R618 RTC.BCN
  ⟨0x130030, 1, 0x1, 1, 0x1, [⟨31, 16, .sealed, 1, [], false⟩,
    ⟨15, 0, .sealed, 0xa, [], false⟩]⟩]

/-- Register rows of block 0x0014_0000. -/
def regsBus : List RegSpec := [
  -- R632 BUS.CFG
  ⟨0x140000, 1, 0x1, 1, 0x1, [⟨15, 8, .sealed, 0xa, [], false⟩,
    ⟨6, 4, .rw, 0, [], false⟩,
    ⟨3, 3, .sealed, 1, [], false⟩,
    ⟨2, 2, .sealed, 1, [], false⟩,
    ⟨1, 1, .sealed, 0, [], false⟩,
    ⟨0, 0, .rw, 1, [], false⟩]⟩,
  -- R633 BUS.STAT
  ⟨0x140004, 1, 0x1, 1, 0x1, [⟨30, 24, .ro, 0, [], false⟩,
    ⟨23, 16, .ro, 0, [], false⟩,
    ⟨3, 3, .ro, 0, [], false⟩,
    ⟨2, 0, .ro, 0, [], false⟩]⟩,
  -- R634 BUS.EVT
  ⟨0x140008, 1, 0x1, 1, 0x1, [⟨6, 6, .w1c, 0, [], false⟩,
    ⟨5, 5, .w1c, 0, [], false⟩,
    ⟨4, 4, .w1c, 0, [], false⟩,
    ⟨3, 3, .w1c, 0, [], false⟩,
    ⟨2, 2, .w1c, 0, [], false⟩,
    ⟨1, 1, .w1c, 0, [], false⟩,
    ⟨0, 0, .w1c, 0, [], false⟩]⟩,
  -- R635 BUS.LAST
  ⟨0x14000C, 1, 0x1, 1, 0x1, [⟨31, 24, .ro, 0, [], false⟩,
    ⟨23, 0, .ro, 0, [], false⟩]⟩,
  -- R635 BUS.PTR
  ⟨0x140010, 1, 0x1, 1, 0x1, [⟨23, 0, .ro, 0, [], false⟩]⟩,
  -- R636 BUS.CNT
  ⟨0x140014, 1, 0x1, 1, 0x1, [⟨31, 16, .rc, 0, [], false⟩,
    ⟨15, 8, .rc, 0, [], false⟩,
    ⟨7, 4, .rc, 0, [], false⟩,
    ⟨3, 0, .rc, 0, [], false⟩]⟩,
  -- R637 BUS.ATTN
  ⟨0x140018, 1, 0x1, 1, 0x1, [⟨2, 2, .w1c, 0, [], false⟩,
    ⟨1, 1, .w1c, 0, [], false⟩,
    ⟨0, 0, .w1c, 0, [], false⟩]⟩,
  -- R637 BUS.ATTN_SET
  ⟨0x14001C, 1, 0x1, 1, 0x1, [⟨0, 0, .wo, 0, [], false⟩]⟩,
  -- R638 BUS.OTP_CTL
  ⟨0x140020, 1, 0x1, 1, 0x1, [⟨31, 16, .wo, 0, [], false⟩,
    ⟨15, 9, .rw, 4, [], false⟩,
    ⟨2, 2, .w1c, 0, [], false⟩,
    ⟨1, 1, .ro, 0, [], false⟩,
    ⟨0, 0, .wo, 0, [], false⟩]⟩,
  -- R638 BUS.OTP_DATA
  ⟨0x140024, 1, 0x1, 1, 0x1, [⟨31, 0, .rw, 0, [], false⟩]⟩]

/-- Register rows of block 0x0015_0000. -/
def regsJrnl0 : List RegSpec := [
  -- R651 JRNL.CFG
  ⟨0x150000, 1, 0x1, 1, 0x1, [⟨31, 31, .sealed, 1, [], false⟩,
    ⟨30, 30, .sealed, 0, [], false⟩,
    ⟨29, 29, .sealed, 0, [], false⟩,
    ⟨28, 24, .sealed, 0, [], false⟩,
    ⟨15, 0, .sealed, 0x64, [], false⟩]⟩,
  -- R651 JRNL.CTL
  ⟨0x150004, 1, 0x1, 1, 0x1, [⟨31, 16, .wo, 0, [], false⟩,
    ⟨1, 0, .wo, 0, [], false⟩]⟩,
  -- R652 JRNL.STAT
  ⟨0x150008, 1, 0x1, 1, 0x1, [⟨31, 28, .ro, 0, [], false⟩,
    ⟨8, 0, .ro, 0, [], false⟩]⟩,
  -- R652 JRNL.GEOM
  ⟨0x15000C, 1, 0x1, 1, 0x1, [⟨31, 31, .ro, 0, [], false⟩,
    ⟨30, 30, .ro, 0, [], false⟩,
    ⟨15, 0, .ro, 0, [], false⟩]⟩,
  -- R652 JRNL.BAD
  ⟨0x150010, 1, 0x1, 1, 0x1, [⟨15, 0, .ro, 0, [], false⟩]⟩,
  -- R653 JRNL.HEAD_LO
  ⟨0x150014, 1, 0x1, 1, 0x1, [⟨31, 0, .ro, 1, [], true⟩]⟩,
  -- R653 JRNL.HEAD_HI
  ⟨0x150018, 1, 0x1, 1, 0x1, [⟨15, 0, .ro, 0, [], true⟩]⟩,
  -- R653 JRNL.OLDEST_LO
  ⟨0x15001C, 1, 0x1, 1, 0x1, [⟨31, 0, .ro, 0, [], true⟩]⟩,
  -- R653 JRNL.OLDEST_HI
  ⟨0x150020, 1, 0x1, 1, 0x1, [⟨15, 0, .ro, 0, [], true⟩]⟩,
  -- R654 JRNL.CNT
  ⟨0x150024, 1, 0x1, 1, 0x1, [⟨31, 16, .rc, 0, [], false⟩,
    ⟨15, 0, .rc, 0, [], false⟩]⟩,
  -- R655 JRNL.RD_SEQ_LO
  ⟨0x150030, 1, 0x1, 1, 0x1, [⟨31, 0, .rw, 0, [], false⟩]⟩,
  -- R655 JRNL.RD_SEQ_HI
  ⟨0x150034, 1, 0x1, 1, 0x1, [⟨31, 0, .rw, 0, [], false⟩]⟩]

def regsJrnl1 : List RegSpec := [
  -- R655 JRNL.RD_CTL
  ⟨0x150038, 1, 0x1, 1, 0x1, [⟨0, 0, .wo, 0, [], false⟩]⟩,
  -- R655 JRNL.RD_STAT
  ⟨0x15003C, 1, 0x1, 1, 0x1, [⟨31, 16, .rc, 0, [], false⟩,
    ⟨3, 3, .w1c, 0, [], false⟩,
    ⟨2, 2, .ro, 0, [], false⟩,
    ⟨1, 1, .ro, 0, [], false⟩,
    ⟨0, 0, .ro, 0, [], false⟩]⟩,
  -- R656 JRNL.RD_DATA
  ⟨0x150040, 16, 0x4, 1, 0x1, [⟨31, 0, .ro, 0, [], false⟩]⟩]

/-- Register rows of block 0x0015_0000. -/
def regsJrnl : List RegSpec := regsJrnl0 ++ regsJrnl1

/-- Register rows of block 0x0016_0000. -/
def regsEng0 : List RegSpec := [
  -- R26 ENG.ID
  ⟨0x160000, 1, 0x1, 1, 0x1, [⟨31, 16, .ro, Config.romVersion.toNat, [], false⟩,
    ⟨7, 0, .ro, 0xff, [], false⟩]⟩,
  -- R27 ENG.STAT
  ⟨0x160100, 4, 0x40, 1, 0x1, [⟨31, 30, .ro, 0, [], false⟩,
    ⟨29, 29, .ro, 1, [], false⟩,
    ⟨7, 0, .ro, 0, [], false⟩]⟩,
  -- R27 ENG.STAT
  ⟨0x160200, 4, 0x40, 1, 0x1, [⟨31, 30, .ro, 0, [], false⟩,
    ⟨29, 29, .ro, 0, [], false⟩,
    ⟨7, 0, .ro, 0, [], false⟩]⟩,
  -- R28 ENG.PEAK
  ⟨0x160104, 8, 0x40, 1, 0x1, [⟨7, 0, .rc, 0, [], false⟩]⟩,
  -- R29 ENG.OVR
  ⟨0x160108, 8, 0x40, 1, 0x1, [⟨15, 0, .rc, 0, [], false⟩]⟩,
  -- R30 FRM.INFO
  ⟨0x160400, 1, 0x1, 1, 0x1, [⟨31, 28, .ro, 0, [], false⟩,
    ⟨23, 0, .ro, 0x3e8, [], false⟩]⟩,
  -- R30 FRM.INFO
  ⟨0x160420, 1, 0x1, 1, 0x1, [⟨31, 28, .ro, 0xf, [], false⟩,
    ⟨23, 0, .ro, 0x2710, [], false⟩]⟩,
  -- R30 FRM.INFO
  ⟨0x160440, 1, 0x1, 1, 0x1, [⟨31, 28, .ro, 4, [], false⟩,
    ⟨23, 0, .ro, 0x186a0, [], false⟩]⟩,
  -- R30 FRM.INFO
  ⟨0x160460, 1, 0x1, 1, 0x1, [⟨31, 28, .ro, 5, [], false⟩,
    ⟨23, 0, .ro, 0x186a0, [], false⟩]⟩,
  -- R30 FRM.INFO
  ⟨0x160480, 1, 0x1, 1, 0x1, [⟨31, 28, .ro, 3, [], false⟩,
    ⟨23, 0, .ro, 0x989680, [], false⟩]⟩,
  -- R31 FRM.LIMIT
  ⟨0x160404, 1, 0x1, 1, 0x1, [⟨23, 0, .sealed, 0x1f4, [], false⟩]⟩,
  -- R31 FRM.LIMIT
  ⟨0x160424, 1, 0x1, 1, 0x1, [⟨23, 0, .sealed, 0x1388, [], false⟩]⟩]

def regsEng1 : List RegSpec := [
  -- R31 FRM.LIMIT
  ⟨0x160444, 1, 0x1, 1, 0x1, [⟨23, 0, .sealed, 0xc350, [], false⟩]⟩,
  -- R31 FRM.LIMIT
  ⟨0x160464, 1, 0x1, 1, 0x1, [⟨23, 0, .sealed, 0xc350, [], false⟩]⟩,
  -- R31 FRM.LIMIT
  ⟨0x160484, 1, 0x1, 1, 0x1, [⟨23, 0, .sealed, 0x4c4b40, [], false⟩]⟩,
  -- R33 FRM.LAG
  ⟨0x160408, 5, 0x20, 1, 0x1, [⟨23, 0, .ro, 0, [], false⟩]⟩,
  -- R34 FRM.WORST
  ⟨0x16040C, 5, 0x20, 1, 0x1, [⟨23, 0, .rc, 0, [], false⟩]⟩,
  -- R35 FRM.CNT
  ⟨0x160410, 5, 0x20, 1, 0x1, [⟨31, 16, .rc, 0, [], false⟩,
    ⟨15, 0, .rc, 0, [], false⟩]⟩,
  -- R36 FRM.STAT
  ⟨0x160414, 5, 0x20, 1, 0x1, [⟨1, 1, .w1c, 0, [], false⟩,
    ⟨0, 0, .ro, 0, [], false⟩]⟩,
  -- R37 FRM.OVR
  ⟨0x160418, 5, 0x20, 1, 0x1, [⟨15, 0, .rc, 0, [], false⟩]⟩]

/-- Register rows of block 0x0016_0000. -/
def regsEng : List RegSpec := regsEng0 ++ regsEng1

/-- The rows of the block that holds an address (R657); a reserved block has none. -/
def regBlock : Nat → List RegSpec
  | 0x0 => regsTop
  | 0x1 => regsCfg
  | 0x2 => regsChn
  | 0x3 => regsWire
  | 0x4 => regsLoop
  | 0x5 => regsReg
  | 0x6 => regsSeq
  | 0x7 => regsLnk
  | 0x8 => regsTime
  | 0x9 => regsLedg
  | 0xA => regsFab
  | 0xB => regsAdc
  | 0xC => regsCmp
  | 0xD => regsChg
  | 0xE => regsGauge
  | 0xF => regsPd
  | 0x10 => regsItin
  | 0x12 => regsFlt
  | 0x13 => regsRtc
  | 0x14 => regsBus
  | 0x15 => regsJrnl
  | 0x16 => regsEng
  | 0x11 => regsItin
  | _ => []

/-! Named fields: `BLOCK.REGISTER.FIELD` of the spec, with its instance indices. -/

/-- R26: ENG.ID.ROM_VER. -/
abbrev ENG.ID.ROM_VER : Fld := ⟨0x160000, 31, 16⟩
/-- R26: ENG.ID.ENG_PRESENT. -/
abbrev ENG.ID.ENG_PRESENT : Fld := ⟨0x160000, 7, 0⟩
/-- R27: ENG.STAT.STATE. -/
abbrev ENG.STAT.STATE (n : Nat) : Fld := ⟨0x160100 + 0x40 * n, 31, 30⟩
/-- R27: ENG.STAT.LS. -/
abbrev ENG.STAT.LS (n : Nat) : Fld := ⟨0x160100 + 0x40 * n, 29, 29⟩
/-- R27: ENG.STAT.LOAD. -/
abbrev ENG.STAT.LOAD (n : Nat) : Fld := ⟨0x160100 + 0x40 * n, 7, 0⟩
/-- R28: ENG.PEAK.LOAD_PEAK. -/
abbrev ENG.PEAK.LOAD_PEAK (n : Nat) : Fld := ⟨0x160104 + 0x40 * n, 7, 0⟩
/-- R29: ENG.OVR.COUNT. -/
abbrev ENG.OVR.COUNT (n : Nat) : Fld := ⟨0x160108 + 0x40 * n, 15, 0⟩
/-- R30: FRM.INFO.OWNER. -/
abbrev FRM.INFO.OWNER (n : Nat) : Fld := ⟨0x160400 + 0x20 * n, 31, 28⟩
/-- R30: FRM.INFO.PERIOD. -/
abbrev FRM.INFO.PERIOD (n : Nat) : Fld := ⟨0x160400 + 0x20 * n, 23, 0⟩
/-- R31: FRM.LIMIT.LAG_LIMIT. -/
abbrev FRM.LIMIT.LAG_LIMIT (n : Nat) : Fld := ⟨0x160404 + 0x20 * n, 23, 0⟩
/-- R33: FRM.LAG.LAG. -/
abbrev FRM.LAG.LAG (n : Nat) : Fld := ⟨0x160408 + 0x20 * n, 23, 0⟩
/-- R34: FRM.WORST.WORST. -/
abbrev FRM.WORST.WORST (n : Nat) : Fld := ⟨0x16040C + 0x20 * n, 23, 0⟩
/-- R35: FRM.CNT.LATE. -/
abbrev FRM.CNT.LATE (n : Nat) : Fld := ⟨0x160410 + 0x20 * n, 31, 16⟩
/-- R35: FRM.CNT.LIMIT_EXC. -/
abbrev FRM.CNT.LIMIT_EXC (n : Nat) : Fld := ⟨0x160410 + 0x20 * n, 15, 0⟩
/-- R36: FRM.STAT.LAG_FLT. -/
abbrev FRM.STAT.LAG_FLT (n : Nat) : Fld := ⟨0x160414 + 0x20 * n, 1, 1⟩
/-- R36: FRM.STAT.CATCHING. -/
abbrev FRM.STAT.CATCHING (n : Nat) : Fld := ⟨0x160414 + 0x20 * n, 0, 0⟩
/-- R37: FRM.OVR.COUNT. -/
abbrev FRM.OVR.COUNT (n : Nat) : Fld := ⟨0x160418 + 0x20 * n, 15, 0⟩
/-- R62: TOP.ID.PART. -/
abbrev TOP.ID.PART : Fld := ⟨0x0, 31, 16⟩
/-- R62: TOP.ID.REV. -/
abbrev TOP.ID.REV : Fld := ⟨0x0, 15, 8⟩
/-- R63: TOP.STAGE.STAGE. -/
abbrev TOP.STAGE.STAGE : Fld := ⟨0x4, 2, 0⟩
/-- R64: TOP.STATUS.IO_1V8. -/
abbrev TOP.STATUS.IO_1V8 : Fld := ⟨0x8, 7, 7⟩
/-- R64: TOP.STATUS.HEAD. -/
abbrev TOP.STATUS.HEAD : Fld := ⟨0x8, 6, 6⟩
/-- R64: TOP.STATUS.NOON_LATE. -/
abbrev TOP.STATUS.NOON_LATE : Fld := ⟨0x8, 5, 5⟩
/-- R64: TOP.STATUS.SIG_CHECKED. -/
abbrev TOP.STATUS.SIG_CHECKED : Fld := ⟨0x8, 4, 4⟩
/-- R64: TOP.STATUS.SLOT. -/
abbrev TOP.STATUS.SLOT : Fld := ⟨0x8, 3, 3⟩
/-- R64: TOP.STATUS.OTP_BAD. -/
abbrev TOP.STATUS.OTP_BAD : Fld := ⟨0x8, 2, 2⟩
/-- R64: TOP.STATUS.SOLO. -/
abbrev TOP.STATUS.SOLO : Fld := ⟨0x8, 1, 1⟩
/-- R64: TOP.STATUS.CFG_DEFAULTS. -/
abbrev TOP.STATUS.CFG_DEFAULTS : Fld := ⟨0x8, 0, 0⟩
/-- R65: TOP.SUPPLY.VBANK. -/
abbrev TOP.SUPPLY.VBANK : Fld := ⟨0xC, 23, 16⟩
/-- R65: TOP.SUPPLY.OR_SEL. -/
abbrev TOP.SUPPLY.OR_SEL : Fld := ⟨0xC, 9, 8⟩
/-- R65: TOP.SUPPLY.CHG_IN. -/
abbrev TOP.SUPPLY.CHG_IN : Fld := ⟨0xC, 6, 6⟩
/-- R65: TOP.SUPPLY.VDDIO. -/
abbrev TOP.SUPPLY.VDDIO : Fld := ⟨0xC, 5, 5⟩
/-- R65: TOP.SUPPLY.VBKP. -/
abbrev TOP.SUPPLY.VBKP : Fld := ⟨0xC, 4, 4⟩
/-- R65: TOP.SUPPLY.VSOL. -/
abbrev TOP.SUPPLY.VSOL : Fld := ⟨0xC, 3, 3⟩
/-- R65: TOP.SUPPLY.VPACK. -/
abbrev TOP.SUPPLY.VPACK : Fld := ⟨0xC, 2, 2⟩
/-- R65: TOP.SUPPLY.VIN12. -/
abbrev TOP.SUPPLY.VIN12 : Fld := ⟨0xC, 1, 1⟩
/-- R65: TOP.SUPPLY.VIN48. -/
abbrev TOP.SUPPLY.VIN48 : Fld := ⟨0xC, 0, 0⟩
/-- R66: TOP.RST_CAUSE.STORE. -/
abbrev TOP.RST_CAUSE.STORE : Fld := ⟨0x10, 5, 5⟩
/-- R66: TOP.RST_CAUSE.FLT. -/
abbrev TOP.RST_CAUSE.FLT : Fld := ⟨0x10, 4, 4⟩
/-- R66: TOP.RST_CAUSE.CHAIN. -/
abbrev TOP.RST_CAUSE.CHAIN : Fld := ⟨0x10, 3, 3⟩
/-- R66: TOP.RST_CAUSE.SW. -/
abbrev TOP.RST_CAUSE.SW : Fld := ⟨0x10, 2, 2⟩
/-- R66: TOP.RST_CAUSE.PIN. -/
abbrev TOP.RST_CAUSE.PIN : Fld := ⟨0x10, 1, 1⟩
/-- R66: TOP.RST_CAUSE.POR. -/
abbrev TOP.RST_CAUSE.POR : Fld := ⟨0x10, 0, 0⟩
/-- R67: TOP.CTL.KEY. -/
abbrev TOP.CTL.KEY : Fld := ⟨0x14, 31, 16⟩
/-- R67: TOP.CTL.SWRST. -/
abbrev TOP.CTL.SWRST : Fld := ⟨0x14, 0, 0⟩
/-- R68: TOP.NOON.SOLO_EN. -/
abbrev TOP.NOON.SOLO_EN : Fld := ⟨0x18, 16, 16⟩
/-- R68: TOP.NOON.TIMEOUT. -/
abbrev TOP.NOON.TIMEOUT : Fld := ⟨0x18, 15, 0⟩
/-- R89: CFG.STATUS.A_RES. -/
abbrev CFG.STATUS.A_RES : Fld := ⟨0x10000, 27, 24⟩
/-- R89: CFG.STATUS.B_RES. -/
abbrev CFG.STATUS.B_RES : Fld := ⟨0x10000, 23, 20⟩
/-- R89: CFG.STATUS.DENSITY. -/
abbrev CFG.STATUS.DENSITY : Fld := ⟨0x10000, 19, 18⟩
/-- R89: CFG.STATUS.SEALED. -/
abbrev CFG.STATUS.SEALED : Fld := ⟨0x10000, 2, 2⟩
/-- R89: CFG.STATUS.ADDR_MISMATCH. -/
abbrev CFG.STATUS.ADDR_MISMATCH : Fld := ⟨0x10000, 1, 1⟩
/-- R89: CFG.STATUS.FLASH_BAD. -/
abbrev CFG.STATUS.FLASH_BAD : Fld := ⟨0x10000, 0, 0⟩
/-- R90: CFG.GEN_A.GEN. -/
abbrev CFG.GEN_A.GEN : Fld := ⟨0x10004, 31, 0⟩
/-- R90: CFG.GEN_B.GEN. -/
abbrev CFG.GEN_B.GEN : Fld := ⟨0x10008, 31, 0⟩
/-- R91: CFG.APPLIED.GEN. -/
abbrev CFG.APPLIED.GEN : Fld := ⟨0x1000C, 31, 0⟩
/-- R92: CFG.FAIL.SLOT. -/
abbrev CFG.FAIL.SLOT : Fld := ⟨0x10010, 31, 31⟩
/-- R92: CFG.FAIL.SEC_INDEX. -/
abbrev CFG.FAIL.SEC_INDEX : Fld := ⟨0x10010, 30, 20⟩
/-- R92: CFG.FAIL.SEC_TYPE. -/
abbrev CFG.FAIL.SEC_TYPE : Fld := ⟨0x10010, 15, 0⟩
/-- R93: CFG.UPD_CTL.KEY. -/
abbrev CFG.UPD_CTL.KEY : Fld := ⟨0x10020, 31, 16⟩
/-- R93: CFG.UPD_CTL.SLOT. -/
abbrev CFG.UPD_CTL.SLOT : Fld := ⟨0x10020, 4, 4⟩
/-- R93: CFG.UPD_CTL.CMD. -/
abbrev CFG.UPD_CTL.CMD : Fld := ⟨0x10020, 3, 0⟩
/-- R94: CFG.UPD_ADDR.OFFSET. -/
abbrev CFG.UPD_ADDR.OFFSET : Fld := ⟨0x10024, 22, 8⟩
/-- R95: CFG.UPD_STAT.VRES. -/
abbrev CFG.UPD_STAT.VRES : Fld := ⟨0x10028, 27, 24⟩
/-- R95: CFG.UPD_STAT.OWNER. -/
abbrev CFG.UPD_STAT.OWNER : Fld := ⟨0x10028, 23, 16⟩
/-- R95: CFG.UPD_STAT.ERR. -/
abbrev CFG.UPD_STAT.ERR : Fld := ⟨0x10028, 7, 4⟩
/-- R95: CFG.UPD_STAT.TARGET. -/
abbrev CFG.UPD_STAT.TARGET : Fld := ⟨0x10028, 2, 2⟩
/-- R95: CFG.UPD_STAT.OPEN. -/
abbrev CFG.UPD_STAT.OPEN : Fld := ⟨0x10028, 1, 1⟩
/-- R95: CFG.UPD_STAT.BUSY. -/
abbrev CFG.UPD_STAT.BUSY : Fld := ⟨0x10028, 0, 0⟩
/-- R96: CFG.UPD_BUF.DATA. -/
abbrev CFG.UPD_BUF.DATA (n : Nat) : Fld := ⟨0x10100 + 0x4 * n, 31, 0⟩
/-- R125: CHN.CTL.CLR_LATCH. -/
abbrev CHN.CTL.CLR_LATCH (n : Nat) : Fld := ⟨0x20000 + 0x100 * n, 8, 8⟩
/-- R125: CHN.CTL.MODE. -/
abbrev CHN.CTL.MODE (n : Nat) : Fld := ⟨0x20000 + 0x100 * n, 2, 0⟩
/-- R126: CHN.STAT.STATE. -/
abbrev CHN.STAT.STATE (n : Nat) : Fld := ⟨0x20004 + 0x100 * n, 31, 28⟩
/-- R126: CHN.STAT.CAUSE. -/
abbrev CHN.STAT.CAUSE (n : Nat) : Fld := ⟨0x20004 + 0x100 * n, 27, 25⟩
/-- R126: CHN.STAT.RTRY. -/
abbrev CHN.STAT.RTRY (n : Nat) : Fld := ⟨0x20004 + 0x100 * n, 24, 21⟩
/-- R126: CHN.STAT.LATCHED. -/
abbrev CHN.STAT.LATCHED (n : Nat) : Fld := ⟨0x20004 + 0x100 * n, 20, 20⟩
/-- R126: CHN.STAT.PENDING. -/
abbrev CHN.STAT.PENDING (n : Nat) : Fld := ⟨0x20004 + 0x100 * n, 19, 19⟩
/-- R126: CHN.STAT.WIRE_WARN. -/
abbrev CHN.STAT.WIRE_WARN (n : Nat) : Fld := ⟨0x20004 + 0x100 * n, 18, 18⟩
/-- R126: CHN.STAT.OPEN_LOAD. -/
abbrev CHN.STAT.OPEN_LOAD (n : Nat) : Fld := ⟨0x20004 + 0x100 * n, 17, 17⟩
/-- R126: CHN.STAT.BANK. -/
abbrev CHN.STAT.BANK (n : Nat) : Fld := ⟨0x20004 + 0x100 * n, 16, 16⟩
/-- R126: CHN.STAT.REFUSE_CODE. -/
abbrev CHN.STAT.REFUSE_CODE (n : Nat) : Fld := ⟨0x20004 + 0x100 * n, 15, 8⟩
/-- R127: CHN.EVT.LATCH. -/
abbrev CHN.EVT.LATCH (n : Nat) : Fld := ⟨0x20008 + 0x100 * n, 10, 10⟩
/-- R127: CHN.EVT.SHED. -/
abbrev CHN.EVT.SHED (n : Nat) : Fld := ⟨0x20008 + 0x100 * n, 9, 9⟩
/-- R127: CHN.EVT.OL. -/
abbrev CHN.EVT.OL (n : Nat) : Fld := ⟨0x20008 + 0x100 * n, 8, 8⟩
/-- R127: CHN.EVT.PRE_LIMIT. -/
abbrev CHN.EVT.PRE_LIMIT (n : Nat) : Fld := ⟨0x20008 + 0x100 * n, 7, 7⟩
/-- R127: CHN.EVT.PRE_STOP. -/
abbrev CHN.EVT.PRE_STOP (n : Nat) : Fld := ⟨0x20008 + 0x100 * n, 6, 6⟩
/-- R127: CHN.EVT.RETRY_REFUSED. -/
abbrev CHN.EVT.RETRY_REFUSED (n : Nat) : Fld := ⟨0x20008 + 0x100 * n, 5, 5⟩
/-- R127: CHN.EVT.REFUSED. -/
abbrev CHN.EVT.REFUSED (n : Nat) : Fld := ⟨0x20008 + 0x100 * n, 4, 4⟩
/-- R127: CHN.EVT.SOA. -/
abbrev CHN.EVT.SOA (n : Nat) : Fld := ⟨0x20008 + 0x100 * n, 3, 3⟩
/-- R127: CHN.EVT.WIRE. -/
abbrev CHN.EVT.WIRE (n : Nat) : Fld := ⟨0x20008 + 0x100 * n, 2, 2⟩
/-- R127: CHN.EVT.OC. -/
abbrev CHN.EVT.OC (n : Nat) : Fld := ⟨0x20008 + 0x100 * n, 1, 1⟩
/-- R127: CHN.EVT.SC. -/
abbrev CHN.EVT.SC (n : Nat) : Fld := ⟨0x20008 + 0x100 * n, 0, 0⟩
/-- R128: CHN.CFG.PRIV_ACT. -/
abbrev CHN.CFG.PRIV_ACT (n : Nat) : Fld := ⟨0x2000C + 0x100 * n, 9, 9⟩
/-- R128: CHN.CFG.PRIV. -/
abbrev CHN.CFG.PRIV (n : Nat) : Fld := ⟨0x2000C + 0x100 * n, 8, 8⟩
/-- R128: CHN.CFG.PWM_DRV. -/
abbrev CHN.CFG.PWM_DRV (n : Nat) : Fld := ⟨0x2000C + 0x100 * n, 5, 4⟩
/-- R128: CHN.CFG.OFF_HOLD. -/
abbrev CHN.CFG.OFF_HOLD (n : Nat) : Fld := ⟨0x2000C + 0x100 * n, 3, 3⟩
/-- R128: CHN.CFG.OFF_SLOW. -/
abbrev CHN.CFG.OFF_SLOW (n : Nat) : Fld := ⟨0x2000C + 0x100 * n, 2, 2⟩
/-- R128: CHN.CFG.B2B. -/
abbrev CHN.CFG.B2B (n : Nat) : Fld := ⟨0x2000C + 0x100 * n, 1, 1⟩
/-- R128: CHN.CFG.EN. -/
abbrev CHN.CFG.EN (n : Nat) : Fld := ⟨0x2000C + 0x100 * n, 0, 0⟩
/-- R129: CHN.SHUNT.MICRO_OHM. -/
abbrev CHN.SHUNT.MICRO_OHM (n : Nat) : Fld := ⟨0x20010 + 0x100 * n, 15, 0⟩
/-- R130: CHN.TURNON.PROFILE. -/
abbrev CHN.TURNON.PROFILE (n : Nat) : Fld := ⟨0x20014 + 0x100 * n, 23, 23⟩
/-- R130: CHN.TURNON.DVDT. -/
abbrev CHN.TURNON.DVDT (n : Nat) : Fld := ⟨0x20014 + 0x100 * n, 22, 16⟩
/-- R130: CHN.TURNON.INRUSH_MA. -/
abbrev CHN.TURNON.INRUSH_MA (n : Nat) : Fld := ⟨0x20014 + 0x100 * n, 15, 0⟩
/-- R131: CHN.CREG.TARGET_MA. -/
abbrev CHN.CREG.TARGET_MA (n : Nat) : Fld := ⟨0x20018 + 0x100 * n, 15, 0⟩
/-- R132: CHN.PRE.PCT. -/
abbrev CHN.PRE.PCT (n : Nat) : Fld := ⟨0x2001C + 0x100 * n, 22, 16⟩
/-- R132: CHN.PRE.I_MA. -/
abbrev CHN.PRE.I_MA (n : Nat) : Fld := ⟨0x2001C + 0x100 * n, 15, 0⟩
/-- R133: CHN.PRE_E.USED_MJ. -/
abbrev CHN.PRE_E.USED_MJ (n : Nat) : Fld := ⟨0x20020 + 0x100 * n, 31, 16⟩
/-- R133: CHN.PRE_E.MAX_MJ. -/
abbrev CHN.PRE_E.MAX_MJ (n : Nat) : Fld := ⟨0x20020 + 0x100 * n, 15, 0⟩
/-- R134: CHN.PWM_PER.PERIOD. -/
abbrev CHN.PWM_PER.PERIOD (n : Nat) : Fld := ⟨0x20024 + 0x100 * n, 21, 0⟩
/-- R135: CHN.PWM_DUTY.PHASE. -/
abbrev CHN.PWM_DUTY.PHASE (n : Nat) : Fld := ⟨0x20028 + 0x100 * n, 27, 16⟩
/-- R135: CHN.PWM_DUTY.DUTY. -/
abbrev CHN.PWM_DUTY.DUTY (n : Nat) : Fld := ⟨0x20028 + 0x100 * n, 12, 0⟩
/-- R136: CHN.SC.BLANK. -/
abbrev CHN.SC.BLANK (n : Nat) : Fld := ⟨0x2002C + 0x100 * n, 9, 8⟩
/-- R136: CHN.SC.THR. -/
abbrev CHN.SC.THR (n : Nat) : Fld := ⟨0x2002C + 0x100 * n, 7, 0⟩
/-- R137: CHN.OC.I_NOM_MA. -/
abbrev CHN.OC.I_NOM_MA (n : Nat) : Fld := ⟨0x20030 + 0x100 * n, 31, 16⟩
/-- R137: CHN.OC.I2T_LIM. -/
abbrev CHN.OC.I2T_LIM (n : Nat) : Fld := ⟨0x20030 + 0x100 * n, 15, 0⟩
/-- R138: CHN.RETRY.BACKOFF. -/
abbrev CHN.RETRY.BACKOFF (n : Nat) (m : Nat) : Fld := ⟨0x20034 + 0x100 * n + 0x4 * m, 16, 16⟩
/-- R138: CHN.RETRY.DELAY. -/
abbrev CHN.RETRY.DELAY (n : Nat) (m : Nat) : Fld := ⟨0x20034 + 0x100 * n + 0x4 * m, 15, 4⟩
/-- R138: CHN.RETRY.COUNT. -/
abbrev CHN.RETRY.COUNT (n : Nat) (m : Nat) : Fld := ⟨0x20034 + 0x100 * n + 0x4 * m, 3, 0⟩
/-- R140: CHN.SOA.TIME_MS. -/
abbrev CHN.SOA.TIME_MS (n : Nat) : Fld := ⟨0x20044 + 0x100 * n, 31, 16⟩
/-- R140: CHN.SOA.ENERGY_MJ. -/
abbrev CHN.SOA.ENERGY_MJ (n : Nat) : Fld := ⟨0x20044 + 0x100 * n, 15, 0⟩
/-- R141: CHN.SOA_P.ACC_MJ. -/
abbrev CHN.SOA_P.ACC_MJ (n : Nat) : Fld := ⟨0x20048 + 0x100 * n, 31, 16⟩
/-- R141: CHN.SOA_P.P_CONT. -/
abbrev CHN.SOA_P.P_CONT (n : Nat) : Fld := ⟨0x20048 + 0x100 * n, 7, 0⟩
/-- R142: CHN.OL.OL_MS. -/
abbrev CHN.OL.OL_MS (n : Nat) : Fld := ⟨0x2004C + 0x100 * n, 23, 16⟩
/-- R142: CHN.OL.OL_MA. -/
abbrev CHN.OL.OL_MA (n : Nat) : Fld := ⟨0x2004C + 0x100 * n, 15, 0⟩
/-- R143: CHN.LEDG.VALID. -/
abbrev CHN.LEDG.VALID (n : Nat) : Fld := ⟨0x20050 + 0x100 * n, 31, 31⟩
/-- R143: CHN.LEDG.CONS. -/
abbrev CHN.LEDG.CONS (n : Nat) : Fld := ⟨0x20050 + 0x100 * n, 30, 24⟩
/-- R143: CHN.LEDG.RESV_MW. -/
abbrev CHN.LEDG.RESV_MW (n : Nat) : Fld := ⟨0x20050 + 0x100 * n, 23, 0⟩
/-- R144: CHN.MEAS_I.I_MA. -/
abbrev CHN.MEAS_I.I_MA (n : Nat) : Fld := ⟨0x20054 + 0x100 * n, 19, 0⟩
/-- R145: CHN.MEAS_V.OUT_MV. -/
abbrev CHN.MEAS_V.OUT_MV (n : Nat) : Fld := ⟨0x20058 + 0x100 * n, 31, 16⟩
/-- R145: CHN.MEAS_V.VDS_MV. -/
abbrev CHN.MEAS_V.VDS_MV (n : Nat) : Fld := ⟨0x20058 + 0x100 * n, 15, 0⟩
/-- R146: CHN.I2T_ACC.ACC. -/
abbrev CHN.I2T_ACC.ACC (n : Nat) : Fld := ⟨0x2005C + 0x100 * n, 23, 0⟩
/-- R147: CHN.CNT.SC. -/
abbrev CHN.CNT.SC (n : Nat) : Fld := ⟨0x20060 + 0x100 * n, 31, 24⟩
/-- R147: CHN.CNT.OC. -/
abbrev CHN.CNT.OC (n : Nat) : Fld := ⟨0x20060 + 0x100 * n, 23, 16⟩
/-- R147: CHN.CNT.WIRE. -/
abbrev CHN.CNT.WIRE (n : Nat) : Fld := ⟨0x20060 + 0x100 * n, 15, 8⟩
/-- R147: CHN.CNT.SOA. -/
abbrev CHN.CNT.SOA (n : Nat) : Fld := ⟨0x20060 + 0x100 * n, 7, 0⟩
/-- R148: CHN.EDGE_CT_LO.CT. -/
abbrev CHN.EDGE_CT_LO.CT (n : Nat) : Fld := ⟨0x20064 + 0x100 * n, 31, 0⟩
/-- R148: CHN.EDGE_CT_HI.CT. -/
abbrev CHN.EDGE_CT_HI.CT (n : Nat) : Fld := ⟨0x20068 + 0x100 * n, 31, 0⟩
/-- R149: CHN.BANK.PACK. -/
abbrev CHN.BANK.PACK (n : Nat) : Fld := ⟨0x24000 + 0x4 * n, 0, 0⟩
/-- R150: CHN.ON_MAP.MAP. -/
abbrev CHN.ON_MAP.MAP (n : Nat) : Fld := ⟨0x24020 + 0x4 * n, 31, 0⟩
/-- R150: CHN.LATCH_MAP.MAP. -/
abbrev CHN.LATCH_MAP.MAP (n : Nat) : Fld := ⟨0x24028 + 0x4 * n, 31, 0⟩
/-- R168: WIRE.CFG.RIA_SCALE. -/
abbrev WIRE.CFG.RIA_SCALE (n : Nat) : Fld := ⟨0x30000 + 0x20 * n, 23, 16⟩
/-- R168: WIRE.CFG.EN. -/
abbrev WIRE.CFG.EN (n : Nat) : Fld := ⟨0x30000 + 0x20 * n, 12, 12⟩
/-- R168: WIRE.CFG.AMB. -/
abbrev WIRE.CFG.AMB (n : Nat) : Fld := ⟨0x30000 + 0x20 * n, 11, 8⟩
/-- R168: WIRE.CFG.TYPE. -/
abbrev WIRE.CFG.TYPE (n : Nat) : Fld := ⟨0x30000 + 0x20 * n, 7, 0⟩
/-- R169: WIRE.LIM.WARN_K. -/
abbrev WIRE.LIM.WARN_K (n : Nat) : Fld := ⟨0x30004 + 0x20 * n, 31, 16⟩
/-- R169: WIRE.LIM.REL_K. -/
abbrev WIRE.LIM.REL_K (n : Nat) : Fld := ⟨0x30004 + 0x20 * n, 15, 0⟩
/-- R170: WIRE.COOL.COOL_MS. -/
abbrev WIRE.COOL.COOL_MS (n : Nat) : Fld := ⟨0x30008 + 0x20 * n, 15, 0⟩
/-- R171: WIRE.TEMP.TC. -/
abbrev WIRE.TEMP.TC (n : Nat) : Fld := ⟨0x3000C + 0x20 * n, 31, 16⟩
/-- R171: WIRE.TEMP.TI. -/
abbrev WIRE.TEMP.TI (n : Nat) : Fld := ⟨0x3000C + 0x20 * n, 15, 0⟩
/-- R172: WIRE.STAT.HOLD_CAUSE. -/
abbrev WIRE.STAT.HOLD_CAUSE (n : Nat) : Fld := ⟨0x30010 + 0x20 * n, 7, 6⟩
/-- R172: WIRE.STAT.NOTYPE. -/
abbrev WIRE.STAT.NOTYPE (n : Nat) : Fld := ⟨0x30010 + 0x20 * n, 5, 5⟩
/-- R172: WIRE.STAT.STALE. -/
abbrev WIRE.STAT.STALE (n : Nat) : Fld := ⟨0x30010 + 0x20 * n, 4, 4⟩
/-- R172: WIRE.STAT.AMB_FB. -/
abbrev WIRE.STAT.AMB_FB (n : Nat) : Fld := ⟨0x30010 + 0x20 * n, 3, 3⟩
/-- R172: WIRE.STAT.HOLD. -/
abbrev WIRE.STAT.HOLD (n : Nat) : Fld := ⟨0x30010 + 0x20 * n, 2, 2⟩
/-- R172: WIRE.STAT.WARN. -/
abbrev WIRE.STAT.WARN (n : Nat) : Fld := ⟨0x30010 + 0x20 * n, 1, 1⟩
/-- R172: WIRE.STAT.RUN. -/
abbrev WIRE.STAT.RUN (n : Nat) : Fld := ⟨0x30010 + 0x20 * n, 0, 0⟩
/-- R173: WIRE.PEAK.TC_PEAK. -/
abbrev WIRE.PEAK.TC_PEAK (n : Nat) : Fld := ⟨0x30014 + 0x20 * n, 15, 0⟩
/-- R174: WIRE.IRMS.I_MA. -/
abbrev WIRE.IRMS.I_MA (n : Nat) : Fld := ⟨0x30018 + 0x20 * n, 19, 0⟩
/-- R175: WIRE.AMB.CTL.SRC. -/
abbrev WIRE.AMB.CTL.SRC (n : Nat) : Fld := ⟨0x30800 + 0x10 * n, 31, 30⟩
/-- R175: WIRE.AMB.CTL.RIDX. -/
abbrev WIRE.AMB.CTL.RIDX (n : Nat) : Fld := ⟨0x30800 + 0x10 * n, 9, 0⟩
/-- R176: WIRE.AMB.GAIN.GAIN. -/
abbrev WIRE.AMB.GAIN.GAIN (n : Nat) : Fld := ⟨0x30804 + 0x10 * n, 31, 0⟩
/-- R176: WIRE.AMB.OFFS.OFFS. -/
abbrev WIRE.AMB.OFFS.OFFS (n : Nat) : Fld := ⟨0x30808 + 0x10 * n, 31, 0⟩
/-- R177: WIRE.AMB.VAL.FB. -/
abbrev WIRE.AMB.VAL.FB (n : Nat) : Fld := ⟨0x3080C + 0x10 * n, 31, 16⟩
/-- R177: WIRE.AMB.VAL.T. -/
abbrev WIRE.AMB.VAL.T (n : Nat) : Fld := ⟨0x3080C + 0x10 * n, 15, 0⟩
/-- R178: WIRE.COLD.RET_EN. -/
abbrev WIRE.COLD.RET_EN : Fld := ⟨0x30900, 16, 16⟩
/-- R178: WIRE.COLD.ASSUME_K. -/
abbrev WIRE.COLD.ASSUME_K : Fld := ⟨0x30900, 15, 0⟩
/-- R179: WIRE.RET.NO_RECORD. -/
abbrev WIRE.RET.NO_RECORD : Fld := ⟨0x30904, 1, 1⟩
/-- R179: WIRE.RET.RESTORED. -/
abbrev WIRE.RET.RESTORED : Fld := ⟨0x30904, 0, 0⟩
/-- R180: WIRE.RET_AGE.AGE_MS. -/
abbrev WIRE.RET_AGE.AGE_MS : Fld := ⟨0x30908, 31, 0⟩
/-- R204: LOOP.CTL.CSEL. -/
abbrev LOOP.CTL.CSEL (n : Nat) : Fld := ⟨0x40000 + 0x400 * n, 13, 8⟩
/-- R204: LOOP.CTL.CLR_LATCH. -/
abbrev LOOP.CTL.CLR_LATCH (n : Nat) : Fld := ⟨0x40000 + 0x400 * n, 4, 4⟩
/-- R204: LOOP.CTL.OFF_MODE. -/
abbrev LOOP.CTL.OFF_MODE (n : Nat) : Fld := ⟨0x40000 + 0x400 * n, 1, 1⟩
/-- R204: LOOP.CTL.EN. -/
abbrev LOOP.CTL.EN (n : Nat) : Fld := ⟨0x40000 + 0x400 * n, 0, 0⟩
/-- R205: LOOP.STAT.STATE. -/
abbrev LOOP.STAT.STATE (n : Nat) : Fld := ⟨0x40004 + 0x400 * n, 31, 28⟩
/-- R205: LOOP.STAT.NPH_ACT. -/
abbrev LOOP.STAT.NPH_ACT (n : Nat) : Fld := ⟨0x40004 + 0x400 * n, 27, 23⟩
/-- R205: LOOP.STAT.SLEWING. -/
abbrev LOOP.STAT.SLEWING (n : Nat) : Fld := ⟨0x40004 + 0x400 * n, 22, 22⟩
/-- R205: LOOP.STAT.INREG. -/
abbrev LOOP.STAT.INREG (n : Nat) : Fld := ⟨0x40004 + 0x400 * n, 21, 21⟩
/-- R205: LOOP.STAT.ESAT_HI. -/
abbrev LOOP.STAT.ESAT_HI (n : Nat) : Fld := ⟨0x40004 + 0x400 * n, 20, 20⟩
/-- R205: LOOP.STAT.ESAT_LO. -/
abbrev LOOP.STAT.ESAT_LO (n : Nat) : Fld := ⟨0x40004 + 0x400 * n, 19, 19⟩
/-- R205: LOOP.STAT.PENDING. -/
abbrev LOOP.STAT.PENDING (n : Nat) : Fld := ⟨0x40004 + 0x400 * n, 18, 18⟩
/-- R205: LOOP.STAT.BAL_LIM. -/
abbrev LOOP.STAT.BAL_LIM (n : Nat) : Fld := ⟨0x40004 + 0x400 * n, 17, 17⟩
/-- R205: LOOP.STAT.REFUSE_CODE. -/
abbrev LOOP.STAT.REFUSE_CODE (n : Nat) : Fld := ⟨0x40004 + 0x400 * n, 15, 8⟩
/-- R206: LOOP.EVT.VIN_FB. -/
abbrev LOOP.EVT.VIN_FB (n : Nat) : Fld := ⟨0x40008 + 0x400 * n, 5, 5⟩
/-- R206: LOOP.EVT.IMBAL. -/
abbrev LOOP.EVT.IMBAL (n : Nat) : Fld := ⟨0x40008 + 0x400 * n, 4, 4⟩
/-- R206: LOOP.EVT.SAT. -/
abbrev LOOP.EVT.SAT (n : Nat) : Fld := ⟨0x40008 + 0x400 * n, 3, 3⟩
/-- R206: LOOP.EVT.SHED. -/
abbrev LOOP.EVT.SHED (n : Nat) : Fld := ⟨0x40008 + 0x400 * n, 2, 2⟩
/-- R206: LOOP.EVT.SENSE_OPEN. -/
abbrev LOOP.EVT.SENSE_OPEN (n : Nat) : Fld := ⟨0x40008 + 0x400 * n, 1, 1⟩
/-- R206: LOOP.EVT.REFUSED. -/
abbrev LOOP.EVT.REFUSED (n : Nat) : Fld := ⟨0x40008 + 0x400 * n, 0, 0⟩
/-- R207: LOOP.VSET.VSET. -/
abbrev LOOP.VSET.VSET (n : Nat) : Fld := ⟨0x4000C + 0x400 * n, 12, 0⟩
/-- R208: LOOP.VREF.VTGT. -/
abbrev LOOP.VREF.VTGT (n : Nat) : Fld := ⟨0x40010 + 0x400 * n, 31, 19⟩
/-- R208: LOOP.VREF.VREF. -/
abbrev LOOP.VREF.VREF (n : Nat) : Fld := ⟨0x40010 + 0x400 * n, 18, 0⟩
/-- R209: LOOP.SLEW.SS. -/
abbrev LOOP.SLEW.SS (n : Nat) : Fld := ⟨0x40014 + 0x400 * n, 25, 16⟩
/-- R209: LOOP.SLEW.SLEW. -/
abbrev LOOP.SLEW.SLEW (n : Nat) : Fld := ⟨0x40014 + 0x400 * n, 9, 0⟩
/-- R210: LOOP.PER.PER. -/
abbrev LOOP.PER.PER (n : Nat) : Fld := ⟨0x40018 + 0x400 * n, 16, 0⟩
/-- R211: LOOP.TMIN.TOFF_MIN. -/
abbrev LOOP.TMIN.TOFF_MIN (n : Nat) : Fld := ⟨0x4001C + 0x400 * n, 31, 16⟩
/-- R211: LOOP.TMIN.TON_MIN. -/
abbrev LOOP.TMIN.TON_MIN (n : Nat) : Fld := ⟨0x4001C + 0x400 * n, 15, 0⟩
/-- R212: LOOP.DLIM.DMAX. -/
abbrev LOOP.DLIM.DMAX (n : Nat) : Fld := ⟨0x40020 + 0x400 * n, 31, 16⟩
/-- R212: LOOP.DLIM.DMIN. -/
abbrev LOOP.DLIM.DMIN (n : Nat) : Fld := ⟨0x40020 + 0x400 * n, 15, 0⟩
/-- R213: LOOP.LL.REG_WIN. -/
abbrev LOOP.LL.REG_WIN (n : Nat) : Fld := ⟨0x40024 + 0x400 * n, 31, 24⟩
/-- R213: LOOP.LL.RLL. -/
abbrev LOOP.LL.RLL (n : Nat) : Fld := ⟨0x40024 + 0x400 * n, 10, 0⟩
/-- R214: LOOP.VIN_CFG.SRC. -/
abbrev LOOP.VIN_CFG.SRC (n : Nat) : Fld := ⟨0x40028 + 0x400 * n, 31, 30⟩
/-- R214: LOOP.VIN_CFG.RIDX. -/
abbrev LOOP.VIN_CFG.RIDX (n : Nat) : Fld := ⟨0x40028 + 0x400 * n, 25, 16⟩
/-- R214: LOOP.VIN_CFG.FIX_MV. -/
abbrev LOOP.VIN_CFG.FIX_MV (n : Nat) : Fld := ⟨0x40028 + 0x400 * n, 15, 0⟩
/-- R215: LOOP.VIN_GAIN.UV_PER_CODE. -/
abbrev LOOP.VIN_GAIN.UV_PER_CODE (n : Nat) : Fld := ⟨0x4002C + 0x400 * n, 15, 0⟩
/-- R216: LOOP.SHED.EN. -/
abbrev LOOP.SHED.EN (n : Nat) : Fld := ⟨0x40030 + 0x400 * n, 31, 31⟩
/-- R216: LOOP.SHED.N_MIN. -/
abbrev LOOP.SHED.N_MIN (n : Nat) : Fld := ⟨0x40030 + 0x400 * n, 28, 24⟩
/-- R216: LOOP.SHED.DWELL. -/
abbrev LOOP.SHED.DWELL (n : Nat) : Fld := ⟨0x40030 + 0x400 * n, 23, 16⟩
/-- R216: LOOP.SHED.I_ADD. -/
abbrev LOOP.SHED.I_ADD (n : Nat) : Fld := ⟨0x40030 + 0x400 * n, 15, 8⟩
/-- R216: LOOP.SHED.I_DROP. -/
abbrev LOOP.SHED.I_DROP (n : Nat) : Fld := ⟨0x40030 + 0x400 * n, 7, 0⟩
/-- R217: LOOP.BAL.EN. -/
abbrev LOOP.BAL.EN (n : Nat) : Fld := ⟨0x40034 + 0x400 * n, 31, 31⟩
/-- R217: LOOP.BAL.BAL_LIM. -/
abbrev LOOP.BAL.BAL_LIM (n : Nat) : Fld := ⟨0x40034 + 0x400 * n, 23, 16⟩
/-- R217: LOOP.BAL.KBAL. -/
abbrev LOOP.BAL.KBAL (n : Nat) : Fld := ⟨0x40034 + 0x400 * n, 15, 0⟩
/-- R218: LOOP.MEAS_V.VIN_MV. -/
abbrev LOOP.MEAS_V.VIN_MV (n : Nat) : Fld := ⟨0x40038 + 0x400 * n, 31, 16⟩
/-- R218: LOOP.MEAS_V.VOUT. -/
abbrev LOOP.MEAS_V.VOUT (n : Nat) : Fld := ⟨0x40038 + 0x400 * n, 15, 0⟩
/-- R219: LOOP.MEAS_I.ITOT. -/
abbrev LOOP.MEAS_I.ITOT (n : Nat) : Fld := ⟨0x4003C + 0x400 * n, 19, 0⟩
/-- R220: LOOP.ERR_PK.EMAX. -/
abbrev LOOP.ERR_PK.EMAX (n : Nat) : Fld := ⟨0x40040 + 0x400 * n, 31, 16⟩
/-- R220: LOOP.ERR_PK.EMIN. -/
abbrev LOOP.ERR_PK.EMIN (n : Nat) : Fld := ⟨0x40040 + 0x400 * n, 15, 0⟩
/-- R221: LOOP.LEDG.VALID. -/
abbrev LOOP.LEDG.VALID (n : Nat) : Fld := ⟨0x40044 + 0x400 * n, 31, 31⟩
/-- R221: LOOP.LEDG.CONS. -/
abbrev LOOP.LEDG.CONS (n : Nat) : Fld := ⟨0x40044 + 0x400 * n, 30, 24⟩
/-- R221: LOOP.LEDG.RESV_MW. -/
abbrev LOOP.LEDG.RESV_MW (n : Nat) : Fld := ⟨0x40044 + 0x400 * n, 23, 0⟩
/-- R221: LOOP.LEDG_V.VNOM. -/
abbrev LOOP.LEDG_V.VNOM (n : Nat) : Fld := ⟨0x40048 + 0x400 * n, 12, 0⟩
/-- R222: LOOP.STEP_CT_LO.CT. -/
abbrev LOOP.STEP_CT_LO.CT (n : Nat) : Fld := ⟨0x4004C + 0x400 * n, 31, 0⟩
/-- R222: LOOP.STEP_CT_HI.CT. -/
abbrev LOOP.STEP_CT_HI.CT (n : Nat) : Fld := ⟨0x40050 + 0x400 * n, 31, 0⟩
/-- R223: LOOP.PHS.CFG.GAIN. -/
abbrev LOOP.PHS.CFG.GAIN (n : Nat) : Fld := ⟨0x41000 + 0x10 * n, 31, 16⟩
/-- R223: LOOP.PHS.CFG.ACT. -/
abbrev LOOP.PHS.CFG.ACT (n : Nat) : Fld := ⟨0x41000 + 0x10 * n, 15, 15⟩
/-- R223: LOOP.PHS.CFG.LOOP. -/
abbrev LOOP.PHS.CFG.LOOP (n : Nat) : Fld := ⟨0x41000 + 0x10 * n, 2, 0⟩
/-- R224: LOOP.PHS.TRIM.OFFS. -/
abbrev LOOP.PHS.TRIM.OFFS (n : Nat) : Fld := ⟨0x41004 + 0x10 * n, 10, 0⟩
/-- R225: LOOP.PHS.MEAS.BAL. -/
abbrev LOOP.PHS.MEAS.BAL (n : Nat) : Fld := ⟨0x41008 + 0x10 * n, 31, 20⟩
/-- R225: LOOP.PHS.MEAS.I_MA. -/
abbrev LOOP.PHS.MEAS.I_MA (n : Nat) : Fld := ⟨0x41008 + 0x10 * n, 19, 0⟩
/-- R241: LOOP.STEP_CFG.EN. -/
abbrev LOOP.STEP_CFG.EN (n : Nat) : Fld := ⟨0x40100 + 0x400 * n, 31, 31⟩
/-- R241: LOOP.STEP_CFG.PIN_EN. -/
abbrev LOOP.STEP_CFG.PIN_EN (n : Nat) : Fld := ⟨0x40100 + 0x400 * n, 30, 30⟩
/-- R241: LOOP.STEP_CFG.PIN_POL. -/
abbrev LOOP.STEP_CFG.PIN_POL (n : Nat) : Fld := ⟨0x40100 + 0x400 * n, 29, 29⟩
/-- R241: LOOP.STEP_CFG.PIN_DI. -/
abbrev LOOP.STEP_CFG.PIN_DI (n : Nat) : Fld := ⟨0x40100 + 0x400 * n, 27, 16⟩
/-- R241: LOOP.STEP_CFG.LATE_MAX. -/
abbrev LOOP.STEP_CFG.LATE_MAX (n : Nat) : Fld := ⟨0x40100 + 0x400 * n, 15, 9⟩
/-- R241: LOOP.STEP_CFG.PIN_LEAD. -/
abbrev LOOP.STEP_CFG.PIN_LEAD (n : Nat) : Fld := ⟨0x40100 + 0x400 * n, 8, 0⟩
/-- R242: LOOP.FF.GAIN. -/
abbrev LOOP.FF.GAIN (n : Nat) : Fld := ⟨0x40104 + 0x400 * n, 31, 16⟩
/-- R242: LOOP.FF.FF_MAX. -/
abbrev LOOP.FF.FF_MAX (n : Nat) : Fld := ⟨0x40104 + 0x400 * n, 15, 0⟩
/-- R243: LOOP.FF_SHAPE.CANCEL. -/
abbrev LOOP.FF_SHAPE.CANCEL (n : Nat) : Fld := ⟨0x40108 + 0x400 * n, 29, 20⟩
/-- R243: LOOP.FF_SHAPE.DECAY. -/
abbrev LOOP.FF_SHAPE.DECAY (n : Nat) : Fld := ⟨0x40108 + 0x400 * n, 19, 10⟩
/-- R243: LOOP.FF_SHAPE.HOLD. -/
abbrev LOOP.FF_SHAPE.HOLD (n : Nat) : Fld := ⟨0x40108 + 0x400 * n, 7, 0⟩
/-- R244: LOOP.ANN_CTL.CMD. -/
abbrev LOOP.ANN_CTL.CMD (n : Nat) : Fld := ⟨0x4010C + 0x400 * n, 31, 30⟩
/-- R244: LOOP.ANN_CTL.ID. -/
abbrev LOOP.ANN_CTL.ID (n : Nat) : Fld := ⟨0x4010C + 0x400 * n, 23, 16⟩
/-- R244: LOOP.ANN_CTL.DI. -/
abbrev LOOP.ANN_CTL.DI (n : Nat) : Fld := ⟨0x4010C + 0x400 * n, 11, 0⟩
/-- R245: LOOP.ANN_CT_LO.CT. -/
abbrev LOOP.ANN_CT_LO.CT (n : Nat) : Fld := ⟨0x40110 + 0x400 * n, 31, 0⟩
/-- R245: LOOP.ANN_CT_HI.CT. -/
abbrev LOOP.ANN_CT_HI.CT (n : Nat) : Fld := ⟨0x40114 + 0x400 * n, 31, 0⟩
/-- R245: LOOP.LAST_CT_LO.CT. -/
abbrev LOOP.LAST_CT_LO.CT (n : Nat) : Fld := ⟨0x40120 + 0x400 * n, 31, 0⟩
/-- R245: LOOP.LAST_CT_HI.CT. -/
abbrev LOOP.LAST_CT_HI.CT (n : Nat) : Fld := ⟨0x40124 + 0x400 * n, 31, 0⟩
/-- R246: LOOP.ANN_STAT.REJ_CODE. -/
abbrev LOOP.ANN_STAT.REJ_CODE (n : Nat) : Fld := ⟨0x40118 + 0x400 * n, 31, 28⟩
/-- R246: LOOP.ANN_STAT.REJ_ID. -/
abbrev LOOP.ANN_STAT.REJ_ID (n : Nat) : Fld := ⟨0x40118 + 0x400 * n, 27, 20⟩
/-- R246: LOOP.ANN_STAT.ACTIVE. -/
abbrev LOOP.ANN_STAT.ACTIVE (n : Nat) : Fld := ⟨0x40118 + 0x400 * n, 3, 3⟩
/-- R246: LOOP.ANN_STAT.NPEND. -/
abbrev LOOP.ANN_STAT.NPEND (n : Nat) : Fld := ⟨0x40118 + 0x400 * n, 2, 0⟩
/-- R247: LOOP.ANN_EVT.CANCEL_POST. -/
abbrev LOOP.ANN_EVT.CANCEL_POST (n : Nat) : Fld := ⟨0x4011C + 0x400 * n, 5, 5⟩
/-- R247: LOOP.ANN_EVT.CANCEL_PRE. -/
abbrev LOOP.ANN_EVT.CANCEL_PRE (n : Nat) : Fld := ⟨0x4011C + 0x400 * n, 4, 4⟩
/-- R247: LOOP.ANN_EVT.REJECTED. -/
abbrev LOOP.ANN_EVT.REJECTED (n : Nat) : Fld := ⟨0x4011C + 0x400 * n, 3, 3⟩
/-- R247: LOOP.ANN_EVT.LATE. -/
abbrev LOOP.ANN_EVT.LATE (n : Nat) : Fld := ⟨0x4011C + 0x400 * n, 2, 2⟩
/-- R247: LOOP.ANN_EVT.SHORT. -/
abbrev LOOP.ANN_EVT.SHORT (n : Nat) : Fld := ⟨0x4011C + 0x400 * n, 1, 1⟩
/-- R247: LOOP.ANN_EVT.APPLIED. -/
abbrev LOOP.ANN_EVT.APPLIED (n : Nat) : Fld := ⟨0x4011C + 0x400 * n, 0, 0⟩
/-- R248: LOOP.ANN_CNT.APPLIED. -/
abbrev LOOP.ANN_CNT.APPLIED (n : Nat) : Fld := ⟨0x40128 + 0x400 * n, 31, 16⟩
/-- R248: LOOP.ANN_CNT.REJECTED. -/
abbrev LOOP.ANN_CNT.REJECTED (n : Nat) : Fld := ⟨0x40128 + 0x400 * n, 15, 8⟩
/-- R248: LOOP.ANN_CNT.CANCELLED. -/
abbrev LOOP.ANN_CNT.CANCELLED (n : Nat) : Fld := ⟨0x40128 + 0x400 * n, 7, 0⟩
/-- R249: LOOP.BRAKE.EN. -/
abbrev LOOP.BRAKE.EN (n : Nat) : Fld := ⟨0x4012C + 0x400 * n, 31, 31⟩
/-- R249: LOOP.BRAKE.ANN. -/
abbrev LOOP.BRAKE.ANN (n : Nat) : Fld := ⟨0x4012C + 0x400 * n, 30, 30⟩
/-- R249: LOOP.BRAKE.TMAX. -/
abbrev LOOP.BRAKE.TMAX (n : Nat) : Fld := ⟨0x4012C + 0x400 * n, 23, 16⟩
/-- R249: LOOP.BRAKE.EXIT. -/
abbrev LOOP.BRAKE.EXIT (n : Nat) : Fld := ⟨0x4012C + 0x400 * n, 15, 8⟩
/-- R249: LOOP.BRAKE.ENTER. -/
abbrev LOOP.BRAKE.ENTER (n : Nat) : Fld := ⟨0x4012C + 0x400 * n, 7, 0⟩
/-- R250: LOOP.BRK_CNT.BRAKES. -/
abbrev LOOP.BRK_CNT.BRAKES (n : Nat) : Fld := ⟨0x40130 + 0x400 * n, 31, 16⟩
/-- R250: LOOP.BRK_CNT.TMO. -/
abbrev LOOP.BRK_CNT.TMO (n : Nat) : Fld := ⟨0x40130 + 0x400 * n, 15, 0⟩
/-- R251: LOOP.OCL.N. -/
abbrev LOOP.OCL.N (n : Nat) : Fld := ⟨0x40134 + 0x400 * n, 23, 16⟩
/-- R251: LOOP.OCL.I_LIM. -/
abbrev LOOP.OCL.I_LIM (n : Nat) : Fld := ⟨0x40134 + 0x400 * n, 7, 0⟩
/-- R252: LOOP.HICCUP.OFF_MS. -/
abbrev LOOP.HICCUP.OFF_MS (n : Nat) : Fld := ⟨0x40138 + 0x400 * n, 19, 10⟩
/-- R252: LOOP.HICCUP.RETRY. -/
abbrev LOOP.HICCUP.RETRY (n : Nat) : Fld := ⟨0x40138 + 0x400 * n, 3, 0⟩
/-- R253: LOOP.PROT_STAT.RTRY. -/
abbrev LOOP.PROT_STAT.RTRY (n : Nat) : Fld := ⟨0x4013C + 0x400 * n, 31, 28⟩
/-- R253: LOOP.PROT_STAT.RUN. -/
abbrev LOOP.PROT_STAT.RUN (n : Nat) : Fld := ⟨0x4013C + 0x400 * n, 15, 8⟩
/-- R253: LOOP.PROT_STAT.BRAKING. -/
abbrev LOOP.PROT_STAT.BRAKING (n : Nat) : Fld := ⟨0x4013C + 0x400 * n, 0, 0⟩
/-- R254: LOOP.PROT_EVT.LATCH. -/
abbrev LOOP.PROT_EVT.LATCH (n : Nat) : Fld := ⟨0x40140 + 0x400 * n, 4, 4⟩
/-- R254: LOOP.PROT_EVT.HICCUP. -/
abbrev LOOP.PROT_EVT.HICCUP (n : Nat) : Fld := ⟨0x40140 + 0x400 * n, 3, 3⟩
/-- R254: LOOP.PROT_EVT.LIMIT. -/
abbrev LOOP.PROT_EVT.LIMIT (n : Nat) : Fld := ⟨0x40140 + 0x400 * n, 2, 2⟩
/-- R254: LOOP.PROT_EVT.BRAKE_TMO. -/
abbrev LOOP.PROT_EVT.BRAKE_TMO (n : Nat) : Fld := ⟨0x40140 + 0x400 * n, 1, 1⟩
/-- R254: LOOP.PROT_EVT.BRAKE. -/
abbrev LOOP.PROT_EVT.BRAKE (n : Nat) : Fld := ⟨0x40140 + 0x400 * n, 0, 0⟩
/-- R255: LOOP.PROT_CNT.HICCUPS. -/
abbrev LOOP.PROT_CNT.HICCUPS (n : Nat) : Fld := ⟨0x40144 + 0x400 * n, 31, 16⟩
/-- R255: LOOP.PROT_CNT.LIM_PER. -/
abbrev LOOP.PROT_CNT.LIM_PER (n : Nat) : Fld := ⟨0x40144 + 0x400 * n, 15, 0⟩
/-- R255: bit m of LOOP[n].PH_LIM. -/
abbrev LOOP.PH_LIM (n m : Nat) : Fld := ⟨0x40148 + 0x400 * n, m, m⟩
/-- R268: REG.CTL.CLR_LATCH. -/
abbrev REG.CTL.CLR_LATCH (n : Nat) : Fld := ⟨0x50000 + 0x40 * n, 8, 8⟩
/-- R268: REG.CTL.EN. -/
abbrev REG.CTL.EN (n : Nat) : Fld := ⟨0x50000 + 0x40 * n, 0, 0⟩
/-- R269: REG.STAT.STATE. -/
abbrev REG.STAT.STATE (n : Nat) : Fld := ⟨0x50004 + 0x40 * n, 31, 28⟩
/-- R269: REG.STAT.PG. -/
abbrev REG.STAT.PG (n : Nat) : Fld := ⟨0x50004 + 0x40 * n, 27, 27⟩
/-- R269: REG.STAT.NOIN. -/
abbrev REG.STAT.NOIN (n : Nat) : Fld := ⟨0x50004 + 0x40 * n, 26, 26⟩
/-- R269: REG.STAT.LIMIT. -/
abbrev REG.STAT.LIMIT (n : Nat) : Fld := ⟨0x50004 + 0x40 * n, 25, 25⟩
/-- R269: REG.STAT.PENDING. -/
abbrev REG.STAT.PENDING (n : Nat) : Fld := ⟨0x50004 + 0x40 * n, 24, 24⟩
/-- R269: REG.STAT.FOLD. -/
abbrev REG.STAT.FOLD (n : Nat) : Fld := ⟨0x50004 + 0x40 * n, 23, 23⟩
/-- R269: REG.STAT.SLEWING. -/
abbrev REG.STAT.SLEWING (n : Nat) : Fld := ⟨0x50004 + 0x40 * n, 22, 22⟩
/-- R269: REG.STAT.REFUSE_CODE. -/
abbrev REG.STAT.REFUSE_CODE (n : Nat) : Fld := ⟨0x50004 + 0x40 * n, 15, 8⟩
/-- R269: REG.STAT.RTRY. -/
abbrev REG.STAT.RTRY (n : Nat) : Fld := ⟨0x50004 + 0x40 * n, 7, 4⟩
/-- R270: REG.EVT.OV. -/
abbrev REG.EVT.OV (n : Nat) : Fld := ⟨0x50008 + 0x40 * n, 6, 6⟩
/-- R270: REG.EVT.THERM. -/
abbrev REG.EVT.THERM (n : Nat) : Fld := ⟨0x50008 + 0x40 * n, 5, 5⟩
/-- R270: REG.EVT.LATCH. -/
abbrev REG.EVT.LATCH (n : Nat) : Fld := ⟨0x50008 + 0x40 * n, 4, 4⟩
/-- R270: REG.EVT.HICCUP. -/
abbrev REG.EVT.HICCUP (n : Nat) : Fld := ⟨0x50008 + 0x40 * n, 3, 3⟩
/-- R270: REG.EVT.PG_LOST. -/
abbrev REG.EVT.PG_LOST (n : Nat) : Fld := ⟨0x50008 + 0x40 * n, 2, 2⟩
/-- R270: REG.EVT.SHED. -/
abbrev REG.EVT.SHED (n : Nat) : Fld := ⟨0x50008 + 0x40 * n, 1, 1⟩
/-- R270: REG.EVT.REFUSED. -/
abbrev REG.EVT.REFUSED (n : Nat) : Fld := ⟨0x50008 + 0x40 * n, 0, 0⟩
/-- R271: REG.VSET.VTGT. -/
abbrev REG.VSET.VTGT (n : Nat) : Fld := ⟨0x5000C + 0x40 * n, 26, 16⟩
/-- R271: REG.VSET.VSET. -/
abbrev REG.VSET.VSET (n : Nat) : Fld := ⟨0x5000C + 0x40 * n, 10, 0⟩
/-- R272: REG.MEAS.VOUT_MV. -/
abbrev REG.MEAS.VOUT_MV (n : Nat) : Fld := ⟨0x50010 + 0x40 * n, 31, 16⟩
/-- R272: REG.MEAS.I_MA. -/
abbrev REG.MEAS.I_MA (n : Nat) : Fld := ⟨0x50010 + 0x40 * n, 15, 0⟩
/-- R273: REG.CFG.DIS. -/
abbrev REG.CFG.DIS (n : Nat) : Fld := ⟨0x50014 + 0x40 * n, 15, 15⟩
/-- R273: REG.CFG.SS. -/
abbrev REG.CFG.SS (n : Nat) : Fld := ⟨0x50014 + 0x40 * n, 14, 12⟩
/-- R273: REG.CFG.SLEW. -/
abbrev REG.CFG.SLEW (n : Nat) : Fld := ⟨0x50014 + 0x40 * n, 11, 10⟩
/-- R273: REG.CFG.ILIM. -/
abbrev REG.CFG.ILIM (n : Nat) : Fld := ⟨0x50014 + 0x40 * n, 9, 8⟩
/-- R273: REG.CFG.COMP. -/
abbrev REG.CFG.COMP (n : Nat) : Fld := ⟨0x50014 + 0x40 * n, 7, 6⟩
/-- R274: REG.PROT.OFF_MS. -/
abbrev REG.PROT.OFF_MS (n : Nat) : Fld := ⟨0x50018 + 0x40 * n, 23, 16⟩
/-- R274: REG.PROT.RETRY. -/
abbrev REG.PROT.RETRY (n : Nat) : Fld := ⟨0x50018 + 0x40 * n, 3, 0⟩
/-- R275: REG.LEDG.VALID. -/
abbrev REG.LEDG.VALID (n : Nat) : Fld := ⟨0x5001C + 0x40 * n, 31, 31⟩
/-- R275: REG.LEDG.CONS. -/
abbrev REG.LEDG.CONS (n : Nat) : Fld := ⟨0x5001C + 0x40 * n, 30, 24⟩
/-- R275: REG.LEDG.RESV_MW. -/
abbrev REG.LEDG.RESV_MW (n : Nat) : Fld := ⟨0x5001C + 0x40 * n, 23, 0⟩
/-- R275: REG.LEDG_V.VNOM. -/
abbrev REG.LEDG_V.VNOM (n : Nat) : Fld := ⟨0x50020 + 0x40 * n, 10, 0⟩
/-- R295: SEQ.CMD.CMD. -/
abbrev SEQ.CMD.CMD : Fld := ⟨0x60000, 5, 4⟩
/-- R295: SEQ.CMD.SEL. -/
abbrev SEQ.CMD.SEL : Fld := ⟨0x60000, 3, 0⟩
/-- R296: SEQ.FLT_CFG.AUTO_REL. -/
abbrev SEQ.FLT_CFG.AUTO_REL : Fld := ⟨0x60004, 8, 8⟩
/-- R296: SEQ.FLT_CFG.MIN_US. -/
abbrev SEQ.FLT_CFG.MIN_US : Fld := ⟨0x60004, 7, 0⟩
/-- R297: SEQ.FLT_STAT.EXT_EVT. -/
abbrev SEQ.FLT_STAT.EXT_EVT : Fld := ⟨0x60008, 3, 3⟩
/-- R297: SEQ.FLT_STAT.EXT. -/
abbrev SEQ.FLT_STAT.EXT : Fld := ⟨0x60008, 2, 2⟩
/-- R297: SEQ.FLT_STAT.DRIVE. -/
abbrev SEQ.FLT_STAT.DRIVE : Fld := ⟨0x60008, 1, 1⟩
/-- R297: SEQ.FLT_STAT.LINE. -/
abbrev SEQ.FLT_STAT.LINE : Fld := ⟨0x60008, 0, 0⟩
/-- R298: SEQ.JSTAT.LOST. -/
abbrev SEQ.JSTAT.LOST : Fld := ⟨0x6000C, 15, 0⟩
/-- R299: SEQ.PF_LAST.VALID. -/
abbrev SEQ.PF_LAST.VALID : Fld := ⟨0x60010, 31, 31⟩
/-- R299: SEQ.PF_LAST.SEQ. -/
abbrev SEQ.PF_LAST.SEQ : Fld := ⟨0x60010, 11, 8⟩
/-- R299: SEQ.PF_LAST.STEP. -/
abbrev SEQ.PF_LAST.STEP : Fld := ⟨0x60010, 5, 0⟩
/-- R300: SEQ.STAT.STATE. -/
abbrev SEQ.STAT.STATE (n : Nat) : Fld := ⟨0x60100 + 0x10 * n, 31, 28⟩
/-- R300: SEQ.STAT.STEP. -/
abbrev SEQ.STAT.STEP (n : Nat) : Fld := ⟨0x60100 + 0x10 * n, 27, 22⟩
/-- R300: SEQ.STAT.FAIL_CODE. -/
abbrev SEQ.STAT.FAIL_CODE (n : Nat) : Fld := ⟨0x60100 + 0x10 * n, 15, 8⟩
/-- R300: SEQ.STAT.FLT_HOLD. -/
abbrev SEQ.STAT.FLT_HOLD (n : Nat) : Fld := ⟨0x60100 + 0x10 * n, 0, 0⟩
/-- R301: SEQ.EVT.IGNORED. -/
abbrev SEQ.EVT.IGNORED (n : Nat) : Fld := ⟨0x60104 + 0x10 * n, 4, 4⟩
/-- R301: SEQ.EVT.ABORTED. -/
abbrev SEQ.EVT.ABORTED (n : Nat) : Fld := ⟨0x60104 + 0x10 * n, 3, 3⟩
/-- R301: SEQ.EVT.FAILED. -/
abbrev SEQ.EVT.FAILED (n : Nat) : Fld := ⟨0x60104 + 0x10 * n, 2, 2⟩
/-- R301: SEQ.EVT.DONE. -/
abbrev SEQ.EVT.DONE (n : Nat) : Fld := ⟨0x60104 + 0x10 * n, 1, 1⟩
/-- R301: SEQ.EVT.STARTED. -/
abbrev SEQ.EVT.STARTED (n : Nat) : Fld := ⟨0x60104 + 0x10 * n, 0, 0⟩
/-- R302: SEQ.TIME.ELAPSED. -/
abbrev SEQ.TIME.ELAPSED (n : Nat) : Fld := ⟨0x60108 + 0x10 * n, 23, 0⟩
/-- R303: MON.CFG.ARM. -/
abbrev MON.CFG.ARM (n : Nat) : Fld := ⟨0x60400 + 0x10 * n, 31, 31⟩
/-- R303: MON.CFG.FLT_OUT. -/
abbrev MON.CFG.FLT_OUT (n : Nat) : Fld := ⟨0x60400 + 0x10 * n, 30, 30⟩
/-- R303: MON.CFG.SEQ_EN. -/
abbrev MON.CFG.SEQ_EN (n : Nat) : Fld := ⟨0x60400 + 0x10 * n, 29, 29⟩
/-- R303: MON.CFG.SEQ. -/
abbrev MON.CFG.SEQ (n : Nat) : Fld := ⟨0x60400 + 0x10 * n, 23, 20⟩
/-- R303: MON.CFG.RANGE. -/
abbrev MON.CFG.RANGE (n : Nat) : Fld := ⟨0x60400 + 0x10 * n, 19, 18⟩
/-- R303: MON.CFG.SRC. -/
abbrev MON.CFG.SRC (n : Nat) : Fld := ⟨0x60400 + 0x10 * n, 17, 16⟩
/-- R303: MON.CFG.LOOP. -/
abbrev MON.CFG.LOOP (n : Nat) : Fld := ⟨0x60400 + 0x10 * n, 9, 8⟩
/-- R303: MON.CFG.FILT. -/
abbrev MON.CFG.FILT (n : Nat) : Fld := ⟨0x60400 + 0x10 * n, 7, 0⟩
/-- R304: MON.THR.DIS. -/
abbrev MON.THR.DIS (n : Nat) : Fld := ⟨0x60404 + 0x10 * n, 29, 20⟩
/-- R304: MON.THR.OV. -/
abbrev MON.THR.OV (n : Nat) : Fld := ⟨0x60404 + 0x10 * n, 19, 10⟩
/-- R304: MON.THR.UV. -/
abbrev MON.THR.UV (n : Nat) : Fld := ⟨0x60404 + 0x10 * n, 9, 0⟩
/-- R305: MON.STAT.MODE. -/
abbrev MON.STAT.MODE (n : Nat) : Fld := ⟨0x60408 + 0x10 * n, 4, 3⟩
/-- R305: MON.STAT.ABOVE. -/
abbrev MON.STAT.ABOVE (n : Nat) : Fld := ⟨0x60408 + 0x10 * n, 2, 2⟩
/-- R305: MON.STAT.BELOW. -/
abbrev MON.STAT.BELOW (n : Nat) : Fld := ⟨0x60408 + 0x10 * n, 1, 1⟩
/-- R305: MON.STAT.DIS_BELOW. -/
abbrev MON.STAT.DIS_BELOW (n : Nat) : Fld := ⟨0x60408 + 0x10 * n, 0, 0⟩
/-- R306: MON.EVT.OV. -/
abbrev MON.EVT.OV (n : Nat) : Fld := ⟨0x6040C + 0x10 * n, 1, 1⟩
/-- R306: MON.EVT.UV. -/
abbrev MON.EVT.UV (n : Nat) : Fld := ⟨0x6040C + 0x10 * n, 0, 0⟩
/-- R333: LNK.CFG.RST_EN. -/
abbrev LNK.CFG.RST_EN : Fld := ⟨0x70000, 31, 31⟩
/-- R333: LNK.CFG.DUAL_EN. -/
abbrev LNK.CFG.DUAL_EN : Fld := ⟨0x70000, 30, 30⟩
/-- R333: LNK.CFG.TOPO_EXP. -/
abbrev LNK.CFG.TOPO_EXP : Fld := ⟨0x70000, 29, 28⟩
/-- R333: LNK.CFG.N_EXP. -/
abbrev LNK.CFG.N_EXP : Fld := ⟨0x70000, 27, 22⟩
/-- R333: LNK.CFG.ENUM_WAIT. -/
abbrev LNK.CFG.ENUM_WAIT : Fld := ⟨0x70000, 21, 16⟩
/-- R333: LNK.CFG.RSP_TMO. -/
abbrev LNK.CFG.RSP_TMO : Fld := ⟨0x70000, 15, 8⟩
/-- R333: LNK.CFG.REPAIR_HOLD. -/
abbrev LNK.CFG.REPAIR_HOLD : Fld := ⟨0x70000, 7, 0⟩
/-- R334: LNK.STAT.ADDR. -/
abbrev LNK.STAT.ADDR : Fld := ⟨0x70004, 31, 27⟩
/-- R334: LNK.STAT.ADDR_VALID. -/
abbrev LNK.STAT.ADDR_VALID : Fld := ⟨0x70004, 26, 26⟩
/-- R334: LNK.STAT.ATTACHED. -/
abbrev LNK.STAT.ATTACHED : Fld := ⟨0x70004, 25, 25⟩
/-- R334: LNK.STAT.HEAD. -/
abbrev LNK.STAT.HEAD : Fld := ⟨0x70004, 24, 24⟩
/-- R334: LNK.STAT.TOPO. -/
abbrev LNK.STAT.TOPO : Fld := ⟨0x70004, 23, 22⟩
/-- R334: LNK.STAT.N. -/
abbrev LNK.STAT.N : Fld := ⟨0x70004, 21, 16⟩
/-- R334: LNK.STAT.CHAIN_GEN. -/
abbrev LNK.STAT.CHAIN_GEN : Fld := ⟨0x70004, 15, 8⟩
/-- R334: LNK.STAT.RATE. -/
abbrev LNK.STAT.RATE : Fld := ⟨0x70004, 7, 6⟩
/-- R334: LNK.STAT.HEAD_CONFLICT. -/
abbrev LNK.STAT.HEAD_CONFLICT : Fld := ⟨0x70004, 5, 5⟩
/-- R334: LNK.STAT.OVER. -/
abbrev LNK.STAT.OVER : Fld := ⟨0x70004, 4, 4⟩
/-- R335: LNK.EVT.RSP_LATE. -/
abbrev LNK.EVT.RSP_LATE : Fld := ⟨0x70008, 8, 8⟩
/-- R335: LNK.EVT.DETACH. -/
abbrev LNK.EVT.DETACH : Fld := ⟨0x70008, 7, 7⟩
/-- R335: LNK.EVT.TOPO. -/
abbrev LNK.EVT.TOPO : Fld := ⟨0x70008, 6, 6⟩
/-- R335: LNK.EVT.HEAD2. -/
abbrev LNK.EVT.HEAD2 : Fld := ⟨0x70008, 5, 5⟩
/-- R335: LNK.EVT.ADDR_CHG. -/
abbrev LNK.EVT.ADDR_CHG : Fld := ⟨0x70008, 4, 4⟩
/-- R335: LNK.EVT.ENUM. -/
abbrev LNK.EVT.ENUM : Fld := ⟨0x70008, 3, 3⟩
/-- R335: LNK.EVT.REPAIR. -/
abbrev LNK.EVT.REPAIR : Fld := ⟨0x70008, 2, 2⟩
/-- R335: LNK.EVT.BREAK. -/
abbrev LNK.EVT.BREAK : Fld := ⟨0x70008, 1, 1⟩
/-- R335: LNK.EVT.OVER. -/
abbrev LNK.EVT.OVER : Fld := ⟨0x70008, 0, 0⟩
/-- R336: LNK.CMD.KEY. -/
abbrev LNK.CMD.KEY : Fld := ⟨0x7000C, 31, 16⟩
/-- R336: LNK.CMD.UNIT. -/
abbrev LNK.CMD.UNIT : Fld := ⟨0x7000C, 12, 8⟩
/-- R336: LNK.CMD.CMD. -/
abbrev LNK.CMD.CMD : Fld := ⟨0x7000C, 1, 0⟩
/-- R337: bit n of LNK.REACH, counted on over its words. -/
abbrev LNK.REACH (n : Nat) : Fld := ⟨0x70010 + 4 * (n / 32), n % 32, n % 32⟩
/-- R337: bit n of LNK.ROUTE, counted on over its words. -/
abbrev LNK.ROUTE (n : Nat) : Fld := ⟨0x70014 + 4 * (n / 32), n % 32, n % 32⟩
/-- R338: LNK.QDROP.C0. -/
abbrev LNK.QDROP.C0 : Fld := ⟨0x70018, 31, 24⟩
/-- R338: LNK.QDROP.C1. -/
abbrev LNK.QDROP.C1 : Fld := ⟨0x70018, 23, 16⟩
/-- R338: LNK.QDROP.C2. -/
abbrev LNK.QDROP.C2 : Fld := ⟨0x70018, 15, 0⟩
/-- R339: LNK.PORT.STAT.STATE. -/
abbrev LNK.PORT.STAT.STATE (n : Nat) : Fld := ⟨0x70020 + 0x10 * n, 31, 30⟩
/-- R339: LNK.PORT.STAT.SIG. -/
abbrev LNK.PORT.STAT.SIG (n : Nat) : Fld := ⟨0x70020 + 0x10 * n, 29, 29⟩
/-- R339: LNK.PORT.STAT.NB_VALID. -/
abbrev LNK.PORT.STAT.NB_VALID (n : Nat) : Fld := ⟨0x70020 + 0x10 * n, 28, 28⟩
/-- R339: LNK.PORT.STAT.NB_ADDR. -/
abbrev LNK.PORT.STAT.NB_ADDR (n : Nat) : Fld := ⟨0x70020 + 0x10 * n, 27, 23⟩
/-- R340: LNK.PORT.ERR.CODE. -/
abbrev LNK.PORT.ERR.CODE (n : Nat) : Fld := ⟨0x70024 + 0x10 * n, 31, 16⟩
/-- R340: LNK.PORT.ERR.CRC. -/
abbrev LNK.PORT.ERR.CRC (n : Nat) : Fld := ⟨0x70024 + 0x10 * n, 15, 0⟩
/-- R341: LNK.PORT.CNT.DOWNS. -/
abbrev LNK.PORT.CNT.DOWNS (n : Nat) : Fld := ⟨0x70028 + 0x10 * n, 31, 16⟩
/-- R341: LNK.PORT.CNT.TTL_DROP. -/
abbrev LNK.PORT.CNT.TTL_DROP (n : Nat) : Fld := ⟨0x70028 + 0x10 * n, 15, 0⟩
/-- R342: LNK.RACC_CTL.CMD. -/
abbrev LNK.RACC_CTL.CMD : Fld := ⟨0x70100, 31, 30⟩
/-- R342: LNK.RACC_CTL.COUNT. -/
abbrev LNK.RACC_CTL.COUNT : Fld := ⟨0x70100, 19, 16⟩
/-- R343: LNK.RACC_ADDR.UNIT. -/
abbrev LNK.RACC_ADDR.UNIT : Fld := ⟨0x70104, 28, 24⟩
/-- R343: LNK.RACC_ADDR.ADDR. -/
abbrev LNK.RACC_ADDR.ADDR : Fld := ⟨0x70104, 23, 0⟩
/-- R344: LNK.RACC_STAT.STATUS. -/
abbrev LNK.RACC_STAT.STATUS : Fld := ⟨0x70108, 31, 24⟩
/-- R344: LNK.RACC_STAT.DONE. -/
abbrev LNK.RACC_STAT.DONE : Fld := ⟨0x70108, 23, 20⟩
/-- R344: LNK.RACC_STAT.DONE_EVT. -/
abbrev LNK.RACC_STAT.DONE_EVT : Fld := ⟨0x70108, 1, 1⟩
/-- R344: LNK.RACC_STAT.BUSY. -/
abbrev LNK.RACC_STAT.BUSY : Fld := ⟨0x70108, 0, 0⟩
/-- R345: LNK.RACC_DATA.DATA. -/
abbrev LNK.RACC_DATA.DATA (n : Nat) : Fld := ⟨0x70140 + 0x4 * n, 31, 0⟩
/-- R357: ITIN.W0.LAUNCH_LO. -/
abbrev ITIN.W0.LAUNCH_LO (n : Nat) : Fld := ⟨0x100000 + 0x10 * n, 31, 0⟩
/-- R358: ITIN.W1.LAUNCH_HI. -/
abbrev ITIN.W1.LAUNCH_HI (n : Nat) : Fld := ⟨0x100004 + 0x10 * n, 31, 16⟩
/-- R358: ITIN.W1.WIN. -/
abbrev ITIN.W1.WIN (n : Nat) : Fld := ⟨0x100004 + 0x10 * n, 15, 12⟩
/-- R358: ITIN.W1.REL. -/
abbrev ITIN.W1.REL (n : Nat) : Fld := ⟨0x100004 + 0x10 * n, 11, 11⟩
/-- R358: ITIN.W1.CONVOY. -/
abbrev ITIN.W1.CONVOY (n : Nat) : Fld := ⟨0x100004 + 0x10 * n, 7, 0⟩
/-- R359: ITIN.W2.ACT. -/
abbrev ITIN.W2.ACT (n : Nat) : Fld := ⟨0x100008 + 0x10 * n, 31, 24⟩
/-- R359: ITIN.W2.TGT. -/
abbrev ITIN.W2.TGT (n : Nat) : Fld := ⟨0x100008 + 0x10 * n, 23, 16⟩
/-- R359: ITIN.W2.ARG. -/
abbrev ITIN.W2.ARG (n : Nat) : Fld := ⟨0x100008 + 0x10 * n, 15, 0⟩
/-- R359: ITIN.W3.EN. -/
abbrev ITIN.W3.EN (n : Nat) : Fld := ⟨0x10000C + 0x10 * n, 31, 31⟩
/-- R359: ITIN.W3.CHAIN. -/
abbrev ITIN.W3.CHAIN (n : Nat) : Fld := ⟨0x10000C + 0x10 * n, 30, 30⟩
/-- R359: ITIN.W3.TENT. -/
abbrev ITIN.W3.TENT (n : Nat) : Fld := ⟨0x10000C + 0x10 * n, 29, 29⟩
/-- R359: ITIN.W3.PUNIT. -/
abbrev ITIN.W3.PUNIT (n : Nat) : Fld := ⟨0x10000C + 0x10 * n, 28, 27⟩
/-- R359: ITIN.W3.PER. -/
abbrev ITIN.W3.PER (n : Nat) : Fld := ⟨0x10000C + 0x10 * n, 26, 11⟩
/-- R359: ITIN.W3.REPEAT. -/
abbrev ITIN.W3.REPEAT (n : Nat) : Fld := ⟨0x10000C + 0x10 * n, 10, 0⟩
/-- R373: TIME.CFG.SYNC_INT. -/
abbrev TIME.CFG.SYNC_INT : Fld := ⟨0x80000, 31, 24⟩
/-- R373: TIME.CFG.STEP_THR. -/
abbrev TIME.CFG.STEP_THR : Fld := ⟨0x80000, 23, 16⟩
/-- R373: TIME.CFG.LOCK_THR. -/
abbrev TIME.CFG.LOCK_THR : Fld := ⟨0x80000, 15, 8⟩
/-- R373: TIME.CFG.UNLOCK_THR. -/
abbrev TIME.CFG.UNLOCK_THR : Fld := ⟨0x80000, 7, 0⟩
/-- R374: TIME.STAT.STATE. -/
abbrev TIME.STAT.STATE : Fld := ⟨0x80004, 31, 28⟩
/-- R374: TIME.STAT.BEACON. -/
abbrev TIME.STAT.BEACON : Fld := ⟨0x80004, 27, 27⟩
/-- R374: TIME.STAT.SYNC_SEQ. -/
abbrev TIME.STAT.SYNC_SEQ : Fld := ⟨0x80004, 15, 0⟩
/-- R375: TIME.EVT.HOLD. -/
abbrev TIME.EVT.HOLD : Fld := ⟨0x80008, 3, 3⟩
/-- R375: TIME.EVT.RELOCK. -/
abbrev TIME.EVT.RELOCK : Fld := ⟨0x80008, 2, 2⟩
/-- R375: TIME.EVT.LOCK. -/
abbrev TIME.EVT.LOCK : Fld := ⟨0x80008, 1, 1⟩
/-- R375: TIME.EVT.STEP. -/
abbrev TIME.EVT.STEP : Fld := ⟨0x80008, 0, 0⟩
/-- R376: TIME.CT_LO.CT. -/
abbrev TIME.CT_LO.CT : Fld := ⟨0x8000C, 31, 0⟩
/-- R376: TIME.CT_HI.CT. -/
abbrev TIME.CT_HI.CT : Fld := ⟨0x80010, 31, 0⟩
/-- R377: TIME.OFFSET.OFF. -/
abbrev TIME.OFFSET.OFF : Fld := ⟨0x80014, 31, 0⟩
/-- R377: TIME.RATE.PPB. -/
abbrev TIME.RATE.PPB : Fld := ⟨0x80018, 31, 0⟩
/-- R377: TIME.HOLD_MS.MS. -/
abbrev TIME.HOLD_MS.MS : Fld := ⟨0x8001C, 31, 0⟩
/-- R378: TIME.HOP.VALID. -/
abbrev TIME.HOP.VALID (n : Nat) : Fld := ⟨0x80020 + 0x4 * n, 31, 31⟩
/-- R378: TIME.HOP.D. -/
abbrev TIME.HOP.D (n : Nat) : Fld := ⟨0x80020 + 0x4 * n, 30, 0⟩
/-- R379: TIME.ITIN_CFG.LEAD. -/
abbrev TIME.ITIN_CFG.LEAD : Fld := ⟨0x80030, 31, 16⟩
/-- R379: TIME.ITIN_CFG.LAG_LIMIT. -/
abbrev TIME.ITIN_CFG.LAG_LIMIT : Fld := ⟨0x80030, 15, 0⟩
/-- R380: TIME.ITIN_STAT.ACTIVE. -/
abbrev TIME.ITIN_STAT.ACTIVE : Fld := ⟨0x80034, 31, 16⟩
/-- R380: TIME.ITIN_STAT.SLOTS. -/
abbrev TIME.ITIN_STAT.SLOTS : Fld := ⟨0x80034, 9, 0⟩
/-- R381: TIME.ITIN_WORST.INDEX. -/
abbrev TIME.ITIN_WORST.INDEX : Fld := ⟨0x80038, 28, 16⟩
/-- R381: TIME.ITIN_WORST.LAG. -/
abbrev TIME.ITIN_WORST.LAG : Fld := ⟨0x80038, 15, 0⟩
/-- R382: TIME.ITIN_CNT.LATE. -/
abbrev TIME.ITIN_CNT.LATE : Fld := ⟨0x8003C, 31, 16⟩
/-- R382: TIME.ITIN_CNT.MISSED. -/
abbrev TIME.ITIN_CNT.MISSED : Fld := ⟨0x8003C, 15, 8⟩
/-- R382: TIME.ITIN_CNT.LIMIT_EXC. -/
abbrev TIME.ITIN_CNT.LIMIT_EXC : Fld := ⟨0x8003C, 7, 0⟩
/-- R383: TIME.ITIN_EVT.REFUSED. -/
abbrev TIME.ITIN_EVT.REFUSED : Fld := ⟨0x80040, 2, 2⟩
/-- R383: TIME.ITIN_EVT.MISS. -/
abbrev TIME.ITIN_EVT.MISS : Fld := ⟨0x80040, 1, 1⟩
/-- R383: TIME.ITIN_EVT.LAG_FLT. -/
abbrev TIME.ITIN_EVT.LAG_FLT : Fld := ⟨0x80040, 0, 0⟩
/-- R384: TIME.CVY_CFG.MIN_LEAD. -/
abbrev TIME.CVY_CFG.MIN_LEAD : Fld := ⟨0x80050, 31, 16⟩
/-- R384: TIME.CVY_CFG.GUARD. -/
abbrev TIME.CVY_CFG.GUARD : Fld := ⟨0x80050, 15, 0⟩
/-- R385: TIME.CVY_CMD.CMD. -/
abbrev TIME.CVY_CMD.CMD : Fld := ⟨0x80054, 31, 30⟩
/-- R385: TIME.CVY_CMD.TENT. -/
abbrev TIME.CVY_CMD.TENT : Fld := ⟨0x80054, 29, 29⟩
/-- R385: TIME.CVY_CMD.LOCAL. -/
abbrev TIME.CVY_CMD.LOCAL : Fld := ⟨0x80054, 28, 28⟩
/-- R385: TIME.CVY_CMD.CONVOY. -/
abbrev TIME.CVY_CMD.CONVOY : Fld := ⟨0x80054, 7, 0⟩
/-- R386: TIME.CVY_LAUNCH_LO.CT. -/
abbrev TIME.CVY_LAUNCH_LO.CT : Fld := ⟨0x80058, 31, 0⟩
/-- R386: TIME.CVY_LAUNCH_HI.CT. -/
abbrev TIME.CVY_LAUNCH_HI.CT : Fld := ⟨0x8005C, 31, 0⟩
/-- R386: TIME.CVY_MEMB.MAP. -/
abbrev TIME.CVY_MEMB.MAP : Fld := ⟨0x80060, 31, 0⟩
/-- R387: TIME.CVY_SEL.LOCAL. -/
abbrev TIME.CVY_SEL.LOCAL : Fld := ⟨0x80064, 8, 8⟩
/-- R387: TIME.CVY_SEL.CONVOY. -/
abbrev TIME.CVY_SEL.CONVOY : Fld := ⟨0x80064, 7, 0⟩
/-- R388: TIME.CVY_STAT.STATE. -/
abbrev TIME.CVY_STAT.STATE : Fld := ⟨0x80068, 31, 28⟩
/-- R388: TIME.CVY_STAT.REASON. -/
abbrev TIME.CVY_STAT.REASON : Fld := ⟨0x80068, 27, 20⟩
/-- R388: TIME.CVY_STAT.ARM_ID. -/
abbrev TIME.CVY_STAT.ARM_ID : Fld := ⟨0x80068, 15, 0⟩
/-- R388: TIME.CVY_ACKS.MAP. -/
abbrev TIME.CVY_ACKS.MAP : Fld := ⟨0x8006C, 31, 0⟩
/-- R389: TIME.CVY_EVT.LATE_CANCEL. -/
abbrev TIME.CVY_EVT.LATE_CANCEL : Fld := ⟨0x80070, 4, 4⟩
/-- R389: TIME.CVY_EVT.ORPHAN. -/
abbrev TIME.CVY_EVT.ORPHAN : Fld := ⟨0x80070, 3, 3⟩
/-- R389: TIME.CVY_EVT.PARTIAL. -/
abbrev TIME.CVY_EVT.PARTIAL : Fld := ⟨0x80070, 2, 2⟩
/-- R389: TIME.CVY_EVT.MISS. -/
abbrev TIME.CVY_EVT.MISS : Fld := ⟨0x80070, 1, 1⟩
/-- R389: TIME.CVY_EVT.CANCEL. -/
abbrev TIME.CVY_EVT.CANCEL : Fld := ⟨0x80070, 0, 0⟩
/-- R390: TIME.ITIN_ST.STATE. -/
abbrev TIME.ITIN_ST.STATE (n : Nat) : Fld := ⟨0x88000 + 0x4 * n, 31, 28⟩
/-- R390: TIME.ITIN_ST.RESULT. -/
abbrev TIME.ITIN_ST.RESULT (n : Nat) : Fld := ⟨0x88000 + 0x4 * n, 27, 24⟩
/-- R390: TIME.ITIN_ST.REASON. -/
abbrev TIME.ITIN_ST.REASON (n : Nat) : Fld := ⟨0x88000 + 0x4 * n, 23, 16⟩
/-- R390: TIME.ITIN_ST.LAG. -/
abbrev TIME.ITIN_ST.LAG (n : Nat) : Fld := ⟨0x88000 + 0x4 * n, 15, 0⟩
/-- R411: LEDG.CFG.UNLISTED. -/
abbrev LEDG.CFG.UNLISTED : Fld := ⟨0x90000, 31, 31⟩
/-- R411: LEDG.CFG.OVER_FR. -/
abbrev LEDG.CFG.OVER_FR : Fld := ⟨0x90000, 23, 16⟩
/-- R411: LEDG.CFG.RESV_TMO. -/
abbrev LEDG.CFG.RESV_TMO : Fld := ⟨0x90000, 15, 8⟩
/-- R411: LEDG.CFG.REPORT_INT. -/
abbrev LEDG.CFG.REPORT_INT : Fld := ⟨0x90000, 7, 0⟩
/-- R412: LEDG.CHAIN.SHARE_INT. -/
abbrev LEDG.CHAIN.SHARE_INT : Fld := ⟨0x90004, 31, 24⟩
/-- R412: LEDG.CHAIN.RET_MS. -/
abbrev LEDG.CHAIN.RET_MS : Fld := ⟨0x90004, 23, 16⟩
/-- R412: LEDG.CHAIN.QUANT_W. -/
abbrev LEDG.CHAIN.QUANT_W : Fld := ⟨0x90004, 15, 0⟩
/-- R413: LEDG.STAT.MODE. -/
abbrev LEDG.STAT.MODE : Fld := ⟨0x90008, 31, 29⟩
/-- R413: LEDG.STAT.SYNC. -/
abbrev LEDG.STAT.SYNC : Fld := ⟨0x90008, 28, 28⟩
/-- R413: LEDG.STAT.NPEND. -/
abbrev LEDG.STAT.NPEND : Fld := ⟨0x90008, 15, 8⟩
/-- R413: LEDG.STAT.NWAIT. -/
abbrev LEDG.STAT.NWAIT : Fld := ⟨0x90008, 7, 0⟩
/-- R414: LEDG.EVT.FEED_NEG. -/
abbrev LEDG.EVT.FEED_NEG : Fld := ⟨0x9000C, 5, 5⟩
/-- R414: LEDG.EVT.TIMEOUT. -/
abbrev LEDG.EVT.TIMEOUT : Fld := ⟨0x9000C, 4, 4⟩
/-- R414: LEDG.EVT.OVER_C0. -/
abbrev LEDG.EVT.OVER_C0 : Fld := ⟨0x9000C, 3, 3⟩
/-- R414: LEDG.EVT.SHED. -/
abbrev LEDG.EVT.SHED : Fld := ⟨0x9000C, 2, 2⟩
/-- R414: LEDG.EVT.OVER. -/
abbrev LEDG.EVT.OVER : Fld := ⟨0x9000C, 1, 1⟩
/-- R414: LEDG.EVT.REFUSED. -/
abbrev LEDG.EVT.REFUSED : Fld := ⟨0x9000C, 0, 0⟩
/-- R415: LEDG.SHED.LEVEL. -/
abbrev LEDG.SHED.LEVEL : Fld := ⟨0x90010, 3, 0⟩
/-- R416: LEDG.LAST.REASON. -/
abbrev LEDG.LAST.REASON : Fld := ⟨0x90014, 31, 24⟩
/-- R416: LEDG.LAST.CONS. -/
abbrev LEDG.LAST.CONS : Fld := ⟨0x90014, 6, 0⟩
/-- R416: LEDG.CNT.ADMIT. -/
abbrev LEDG.CNT.ADMIT : Fld := ⟨0x90018, 31, 16⟩
/-- R416: LEDG.CNT.REFUSE. -/
abbrev LEDG.CNT.REFUSE : Fld := ⟨0x90018, 15, 8⟩
/-- R416: LEDG.CNT.SHED. -/
abbrev LEDG.CNT.SHED : Fld := ⟨0x90018, 7, 0⟩
/-- R417: LEDG.SRC.CFG.KIND. -/
abbrev LEDG.SRC.CFG.KIND (n : Nat) : Fld := ⟨0x90100 + 0x10 * n, 31, 24⟩
/-- R417: LEDG.SRC.CFG.VALID. -/
abbrev LEDG.SRC.CFG.VALID (n : Nat) : Fld := ⟨0x90100 + 0x10 * n, 23, 23⟩
/-- R417: LEDG.SRC.CFG.CHAIN. -/
abbrev LEDG.SRC.CFG.CHAIN (n : Nat) : Fld := ⟨0x90100 + 0x10 * n, 22, 22⟩
/-- R417: LEDG.SRC.CFG.FEED. -/
abbrev LEDG.SRC.CFG.FEED (n : Nat) : Fld := ⟨0x90100 + 0x10 * n, 19, 16⟩
/-- R417: LEDG.SRC.AVAIL.MW. -/
abbrev LEDG.SRC.AVAIL.MW (n : Nat) : Fld := ⟨0x90104 + 0x10 * n, 31, 0⟩
/-- R417: LEDG.SRC.CLAIM.MW. -/
abbrev LEDG.SRC.CLAIM.MW (n : Nat) : Fld := ⟨0x90108 + 0x10 * n, 31, 0⟩
/-- R417: LEDG.SRC.DRAW.MW. -/
abbrev LEDG.SRC.DRAW.MW (n : Nat) : Fld := ⟨0x9010C + 0x10 * n, 31, 0⟩
/-- R418: LEDG.FEED.SHARE.MW. -/
abbrev LEDG.FEED.SHARE.MW (n : Nat) : Fld := ⟨0x90200 + 0x10 * n, 31, 0⟩
/-- R418: LEDG.FEED.BORROW.MW. -/
abbrev LEDG.FEED.BORROW.MW (n : Nat) : Fld := ⟨0x90204 + 0x10 * n, 31, 0⟩
/-- R418: LEDG.FEED.STAT.SHARE_GEN. -/
abbrev LEDG.FEED.STAT.SHARE_GEN (n : Nat) : Fld := ⟨0x90208 + 0x10 * n, 31, 16⟩
/-- R418: LEDG.FEED.STAT.SYNC. -/
abbrev LEDG.FEED.STAT.SYNC (n : Nat) : Fld := ⟨0x90208 + 0x10 * n, 2, 2⟩
/-- R418: LEDG.FEED.STAT.WAIT. -/
abbrev LEDG.FEED.STAT.WAIT (n : Nat) : Fld := ⟨0x90208 + 0x10 * n, 1, 1⟩
/-- R418: LEDG.FEED.STAT.VALID. -/
abbrev LEDG.FEED.STAT.VALID (n : Nat) : Fld := ⟨0x90208 + 0x10 * n, 0, 0⟩
/-- R418: LEDG.FEED.POOL.MW. -/
abbrev LEDG.FEED.POOL.MW (n : Nat) : Fld := ⟨0x9020C + 0x10 * n, 31, 0⟩
/-- R419: LEDG.CLASS.KEEP_MW. -/
abbrev LEDG.CLASS.KEEP_MW (n : Nat) : Fld := ⟨0x90300 + 0x4 * n, 23, 0⟩
/-- R420: LEDG.CONS.CFG.STATE. -/
abbrev LEDG.CONS.CFG.STATE (n : Nat) : Fld := ⟨0x91000 + 0x10 * n, 31, 28⟩
/-- R420: LEDG.CONS.CFG.CLASS. -/
abbrev LEDG.CONS.CFG.CLASS (n : Nat) : Fld := ⟨0x91000 + 0x10 * n, 27, 24⟩
/-- R420: LEDG.CONS.CFG.SRC. -/
abbrev LEDG.CONS.CFG.SRC (n : Nat) : Fld := ⟨0x91000 + 0x10 * n, 23, 20⟩
/-- R420: LEDG.CONS.CFG.TYPE. -/
abbrev LEDG.CONS.CFG.TYPE (n : Nat) : Fld := ⟨0x91000 + 0x10 * n, 19, 16⟩
/-- R420: LEDG.CONS.CFG.INST. -/
abbrev LEDG.CONS.CFG.INST (n : Nat) : Fld := ⟨0x91000 + 0x10 * n, 15, 8⟩
/-- R420: LEDG.CONS.CFG.PARENT. -/
abbrev LEDG.CONS.CFG.PARENT (n : Nat) : Fld := ⟨0x91000 + 0x10 * n, 7, 0⟩
/-- R420: LEDG.CONS.RSV.MW. -/
abbrev LEDG.CONS.RSV.MW (n : Nat) : Fld := ⟨0x91004 + 0x10 * n, 31, 0⟩
/-- R420: LEDG.CONS.DRAW.MW. -/
abbrev LEDG.CONS.DRAW.MW (n : Nat) : Fld := ⟨0x91008 + 0x10 * n, 31, 0⟩
/-- R420: LEDG.CONS.CLAIM.MW. -/
abbrev LEDG.CONS.CLAIM.MW (n : Nat) : Fld := ⟨0x9100C + 0x10 * n, 31, 0⟩
/-- R421: LEDG.GRANT.MW. -/
abbrev LEDG.GRANT.MW (n : Nat) (m : Nat) : Fld := ⟨0x94000 + 0x80 * n + 0x4 * m, 31, 0⟩
/-- R436: FAB.CFG.TMO_US. -/
abbrev FAB.CFG.TMO_US : Fld := ⟨0xA0000, 15, 0⟩
/-- R437: FAB.STAT.PEAK. -/
abbrev FAB.STAT.PEAK : Fld := ⟨0xA0004, 26, 16⟩
/-- R437: FAB.STAT.INFLIGHT. -/
abbrev FAB.STAT.INFLIGHT : Fld := ⟨0xA0004, 10, 0⟩
/-- R438: FAB.EVT.CFG. -/
abbrev FAB.EVT.CFG : Fld := ⟨0xA0008, 3, 3⟩
/-- R438: FAB.EVT.PAR. -/
abbrev FAB.EVT.PAR : Fld := ⟨0xA0008, 2, 2⟩
/-- R438: FAB.EVT.TMO. -/
abbrev FAB.EVT.TMO : Fld := ⟨0xA0008, 1, 1⟩
/-- R438: FAB.EVT.LOST. -/
abbrev FAB.EVT.LOST : Fld := ⟨0xA0008, 0, 0⟩
/-- R439: FAB.CNT.LOST. -/
abbrev FAB.CNT.LOST : Fld := ⟨0xA000C, 31, 16⟩
/-- R439: FAB.CNT.DOWN. -/
abbrev FAB.CNT.DOWN : Fld := ⟨0xA000C, 15, 8⟩
/-- R439: FAB.CNT.DISCARD. -/
abbrev FAB.CNT.DISCARD : Fld := ⟨0xA000C, 7, 0⟩
/-- R440: FAB.LAST.STATUS. -/
abbrev FAB.LAST.STATUS : Fld := ⟨0xA0010, 31, 24⟩
/-- R440: FAB.LAST.REQ. -/
abbrev FAB.LAST.REQ : Fld := ⟨0xA0010, 23, 19⟩
/-- R440: FAB.LAST.TGT. -/
abbrev FAB.LAST.TGT : Fld := ⟨0xA0010, 18, 12⟩
/-- R441: FAB.REQ.CFG.MAX. -/
abbrev FAB.REQ.CFG.MAX (n : Nat) : Fld := ⟨0xA0100 + 0x8 * n, 26, 16⟩
/-- R441: FAB.REQ.CFG.MIN. -/
abbrev FAB.REQ.CFG.MIN (n : Nat) : Fld := ⟨0xA0100 + 0x8 * n, 10, 0⟩
/-- R442: FAB.REQ.STAT.STALL. -/
abbrev FAB.REQ.STAT.STALL (n : Nat) : Fld := ⟨0xA0104 + 0x8 * n, 31, 31⟩
/-- R442: FAB.REQ.STAT.PEAK. -/
abbrev FAB.REQ.STAT.PEAK (n : Nat) : Fld := ⟨0xA0104 + 0x8 * n, 26, 16⟩
/-- R442: FAB.REQ.STAT.INFLIGHT. -/
abbrev FAB.REQ.STAT.INFLIGHT (n : Nat) : Fld := ⟨0xA0104 + 0x8 * n, 10, 0⟩
/-- R443: FAB.TGT.RESETS. -/
abbrev FAB.TGT.RESETS (n : Nat) : Fld := ⟨0xA0400 + 0x4 * n, 15, 8⟩
/-- R443: FAB.TGT.DOWN. -/
abbrev FAB.TGT.DOWN (n : Nat) : Fld := ⟨0xA0400 + 0x4 * n, 4, 4⟩
/-- R443: FAB.TGT.EPOCH. -/
abbrev FAB.TGT.EPOCH (n : Nat) : Fld := ⟨0xA0400 + 0x4 * n, 3, 0⟩
/-- R470: ADC.CTL.EN. -/
abbrev ADC.CTL.EN : Fld := ⟨0xB0000, 3, 0⟩
/-- R470: ADC.STAT.C3. -/
abbrev ADC.STAT.C3 : Fld := ⟨0xB0004, 15, 12⟩
/-- R470: ADC.STAT.C2. -/
abbrev ADC.STAT.C2 : Fld := ⟨0xB0004, 11, 8⟩
/-- R470: ADC.STAT.C1. -/
abbrev ADC.STAT.C1 : Fld := ⟨0xB0004, 7, 4⟩
/-- R470: ADC.STAT.C0. -/
abbrev ADC.STAT.C0 : Fld := ⟨0xB0004, 3, 0⟩
/-- R470: ADC.SWTRIG.MASK. -/
abbrev ADC.SWTRIG.MASK : Fld := ⟨0xB0008, 15, 0⟩
/-- R471: ADC.TRG.CFG.SRC. -/
abbrev ADC.TRG.CFG.SRC (n : Nat) : Fld := ⟨0xB0010 + 0x8 * n, 31, 29⟩
/-- R471: ADC.TRG.CFG.SEL. -/
abbrev ADC.TRG.CFG.SEL (n : Nat) : Fld := ⟨0xB0010 + 0x8 * n, 21, 16⟩
/-- R471: ADC.TRG.CFG.DIV. -/
abbrev ADC.TRG.CFG.DIV (n : Nat) : Fld := ⟨0xB0010 + 0x8 * n, 7, 0⟩
/-- R471: ADC.TRG.PARAM.VAL. -/
abbrev ADC.TRG.PARAM.VAL (n : Nat) : Fld := ⟨0xB0014 + 0x8 * n, 23, 0⟩
/-- R472: ADC.SEQ.CFG.EN. -/
abbrev ADC.SEQ.CFG.EN (n : Nat) : Fld := ⟨0xB0100 + 0x80 * n, 31, 31⟩
/-- R472: ADC.SEQ.CFG.AUTO. -/
abbrev ADC.SEQ.CFG.AUTO (n : Nat) : Fld := ⟨0xB0100 + 0x80 * n, 30, 30⟩
/-- R472: ADC.SEQ.CFG.TSRC. -/
abbrev ADC.SEQ.CFG.TSRC (n : Nat) : Fld := ⟨0xB0100 + 0x80 * n, 29, 27⟩
/-- R472: ADC.SEQ.CFG.NEXT_EN. -/
abbrev ADC.SEQ.CFG.NEXT_EN (n : Nat) : Fld := ⟨0xB0100 + 0x80 * n, 26, 26⟩
/-- R472: ADC.SEQ.CFG.NEXT. -/
abbrev ADC.SEQ.CFG.NEXT (n : Nat) : Fld := ⟨0xB0100 + 0x80 * n, 25, 24⟩
/-- R472: ADC.SEQ.CFG.AVG. -/
abbrev ADC.SEQ.CFG.AVG (n : Nat) : Fld := ⟨0xB0100 + 0x80 * n, 19, 16⟩
/-- R472: ADC.SEQ.CFG.SHIFT. -/
abbrev ADC.SEQ.CFG.SHIFT (n : Nat) : Fld := ⟨0xB0100 + 0x80 * n, 11, 8⟩
/-- R472: ADC.SEQ.CFG.LEN. -/
abbrev ADC.SEQ.CFG.LEN (n : Nat) : Fld := ⟨0xB0100 + 0x80 * n, 4, 0⟩
/-- R473: ADC.SEQ.STAT.STATE. -/
abbrev ADC.SEQ.STAT.STATE (n : Nat) : Fld := ⟨0xB0104 + 0x80 * n, 31, 30⟩
/-- R473: ADC.SEQ.STAT.ENTRY. -/
abbrev ADC.SEQ.STAT.ENTRY (n : Nat) : Fld := ⟨0xB0104 + 0x80 * n, 23, 20⟩
/-- R473: ADC.SEQ.STAT.RUN. -/
abbrev ADC.SEQ.STAT.RUN (n : Nat) : Fld := ⟨0xB0104 + 0x80 * n, 16, 8⟩
/-- R473: ADC.SEQ.EVT.ABORT. -/
abbrev ADC.SEQ.EVT.ABORT (n : Nat) : Fld := ⟨0xB0108 + 0x80 * n, 3, 3⟩
/-- R473: ADC.SEQ.EVT.SAT. -/
abbrev ADC.SEQ.EVT.SAT (n : Nat) : Fld := ⟨0xB0108 + 0x80 * n, 2, 2⟩
/-- R473: ADC.SEQ.EVT.OVR. -/
abbrev ADC.SEQ.EVT.OVR (n : Nat) : Fld := ⟨0xB0108 + 0x80 * n, 1, 1⟩
/-- R473: ADC.SEQ.EVT.DONE. -/
abbrev ADC.SEQ.EVT.DONE (n : Nat) : Fld := ⟨0xB0108 + 0x80 * n, 0, 0⟩
/-- R473: ADC.SEQ.CNT.DONE. -/
abbrev ADC.SEQ.CNT.DONE (n : Nat) : Fld := ⟨0xB0114 + 0x80 * n, 31, 16⟩
/-- R473: ADC.SEQ.CNT.OVR. -/
abbrev ADC.SEQ.CNT.OVR (n : Nat) : Fld := ⟨0xB0114 + 0x80 * n, 15, 0⟩
/-- R474: ADC.SEQ.START_CT_LO.CT. -/
abbrev ADC.SEQ.START_CT_LO.CT (n : Nat) : Fld := ⟨0xB010C + 0x80 * n, 31, 0⟩
/-- R474: ADC.SEQ.START_CT_HI.CT. -/
abbrev ADC.SEQ.START_CT_HI.CT (n : Nat) : Fld := ⟨0xB0110 + 0x80 * n, 31, 0⟩
/-- R475: ADC.SEQ.ENT.SMP. -/
abbrev ADC.SEQ.ENT.SMP (n : Nat) (m : Nat) : Fld := ⟨0xB0140 + 0x80 * n + 0x4 * m, 13, 11⟩
/-- R475: ADC.SEQ.ENT.GAIN. -/
abbrev ADC.SEQ.ENT.GAIN (n : Nat) (m : Nat) : Fld := ⟨0xB0140 + 0x80 * n + 0x4 * m, 10, 8⟩
/-- R475: ADC.SEQ.ENT.INPUT. -/
abbrev ADC.SEQ.ENT.INPUT (n : Nat) (m : Nat) : Fld := ⟨0xB0140 + 0x80 * n + 0x4 * m, 7, 0⟩
/-- R476: ADC.RES.CNT. -/
abbrev ADC.RES.CNT (n : Nat) : Fld := ⟨0xB1000 + 0x4 * n, 31, 28⟩
/-- R476: ADC.RES.SAT. -/
abbrev ADC.RES.SAT (n : Nat) : Fld := ⟨0xB1000 + 0x4 * n, 27, 27⟩
/-- R476: ADC.RES.VALUE. -/
abbrev ADC.RES.VALUE (n : Nat) : Fld := ⟨0xB1000 + 0x4 * n, 23, 0⟩
/-- R478: CMP.TICK.PERIOD. -/
abbrev CMP.TICK.PERIOD : Fld := ⟨0xC0000, 23, 0⟩
/-- R478: CMP.NIGHT.NPER. -/
abbrev CMP.NIGHT.NPER : Fld := ⟨0xC0004, 15, 0⟩
/-- R479: CMP.CHK.MODE. -/
abbrev CMP.CHK.MODE : Fld := ⟨0xC0008, 31, 30⟩
/-- R479: CMP.CHK.SWAP_MS. -/
abbrev CMP.CHK.SWAP_MS : Fld := ⟨0xC0008, 15, 8⟩
/-- R479: CMP.CHK.RB_10US. -/
abbrev CMP.CHK.RB_10US : Fld := ⟨0xC0008, 7, 0⟩
/-- R480: CMP.CHK_STAT.DAC_IDX. -/
abbrev CMP.CHK_STAT.DAC_IDX : Fld := ⟨0xC000C, 31, 24⟩
/-- R480: CMP.CHK_STAT.CMP_IDX. -/
abbrev CMP.CHK_STAT.CMP_IDX : Fld := ⟨0xC000C, 23, 16⟩
/-- R480: CMP.CHK_STAT.DAC. -/
abbrev CMP.CHK_STAT.DAC : Fld := ⟨0xC000C, 3, 3⟩
/-- R480: CMP.CHK_STAT.GEN. -/
abbrev CMP.CHK_STAT.GEN : Fld := ⟨0xC000C, 2, 2⟩
/-- R480: CMP.CHK_STAT.MON. -/
abbrev CMP.CHK_STAT.MON : Fld := ⟨0xC000C, 1, 1⟩
/-- R480: CMP.CHK_STAT.SC. -/
abbrev CMP.CHK_STAT.SC : Fld := ⟨0xC000C, 0, 0⟩
/-- R481: bit n of CMP.FAILMAP, counted on over its words. -/
abbrev CMP.FAILMAP (n : Nat) : Fld := ⟨0xC0010 + 4 * (n / 32), n % 32, n % 32⟩
/-- R482: CMP.GEN.CFG.MODE. -/
abbrev CMP.GEN.CFG.MODE (n : Nat) : Fld := ⟨0xC0100 + 0x20 * n, 31, 30⟩
/-- R482: CMP.GEN.CFG.EDGE. -/
abbrev CMP.GEN.CFG.EDGE (n : Nat) : Fld := ⟨0xC0100 + 0x20 * n, 29, 28⟩
/-- R482: CMP.GEN.CFG.HYS. -/
abbrev CMP.GEN.CFG.HYS (n : Nat) : Fld := ⟨0xC0100 + 0x20 * n, 27, 26⟩
/-- R482: CMP.GEN.CFG.LCLR. -/
abbrev CMP.GEN.CFG.LCLR (n : Nat) : Fld := ⟨0xC0100 + 0x20 * n, 25, 25⟩
/-- R482: CMP.GEN.CFG.CAPEN. -/
abbrev CMP.GEN.CFG.CAPEN (n : Nat) : Fld := ⟨0xC0100 + 0x20 * n, 24, 24⟩
/-- R482: CMP.GEN.CFG.ATTN. -/
abbrev CMP.GEN.CFG.ATTN (n : Nat) : Fld := ⟨0xC0100 + 0x20 * n, 23, 23⟩
/-- R482: CMP.GEN.CFG.WAKE. -/
abbrev CMP.GEN.CFG.WAKE (n : Nat) : Fld := ⟨0xC0100 + 0x20 * n, 22, 22⟩
/-- R482: CMP.GEN.CFG.THR. -/
abbrev CMP.GEN.CFG.THR (n : Nat) : Fld := ⟨0xC0100 + 0x20 * n, 9, 0⟩
/-- R483: CMP.GEN.STAT.CAPV. -/
abbrev CMP.GEN.STAT.CAPV (n : Nat) : Fld := ⟨0xC0104 + 0x20 * n, 3, 3⟩
/-- R483: CMP.GEN.STAT.CAP_OVR. -/
abbrev CMP.GEN.STAT.CAP_OVR (n : Nat) : Fld := ⟨0xC0104 + 0x20 * n, 2, 2⟩
/-- R483: CMP.GEN.STAT.LATCH. -/
abbrev CMP.GEN.STAT.LATCH (n : Nat) : Fld := ⟨0xC0104 + 0x20 * n, 1, 1⟩
/-- R483: CMP.GEN.STAT.OUT. -/
abbrev CMP.GEN.STAT.OUT (n : Nat) : Fld := ⟨0xC0104 + 0x20 * n, 0, 0⟩
/-- R483: CMP.GEN.CNT.EVENTS. -/
abbrev CMP.GEN.CNT.EVENTS (n : Nat) : Fld := ⟨0xC0110 + 0x20 * n, 15, 0⟩
/-- R484: CMP.GEN.CAP_LO.CT. -/
abbrev CMP.GEN.CAP_LO.CT (n : Nat) : Fld := ⟨0xC0108 + 0x20 * n, 31, 0⟩
/-- R484: CMP.GEN.CAP_HI.CT. -/
abbrev CMP.GEN.CAP_HI.CT (n : Nat) : Fld := ⟨0xC010C + 0x20 * n, 31, 0⟩
/-- R507: CHG.CTL.CMD. -/
abbrev CHG.CTL.CMD : Fld := ⟨0xD0000, 31, 28⟩
/-- R507: CHG.CTL.ISET. -/
abbrev CHG.CTL.ISET : Fld := ⟨0xD0000, 11, 0⟩
/-- R508: CHG.STAT.STATE. -/
abbrev CHG.STAT.STATE : Fld := ⟨0xD0004, 31, 28⟩
/-- R508: CHG.STAT.INSEL. -/
abbrev CHG.STAT.INSEL : Fld := ⟨0xD0004, 27, 26⟩
/-- R508: CHG.STAT.PACK_GONE. -/
abbrev CHG.STAT.PACK_GONE : Fld := ⟨0xD0004, 25, 25⟩
/-- R508: CHG.STAT.NOIN. -/
abbrev CHG.STAT.NOIN : Fld := ⟨0xD0004, 24, 24⟩
/-- R508: CHG.STAT.TLIM. -/
abbrev CHG.STAT.TLIM : Fld := ⟨0xD0004, 23, 23⟩
/-- R508: CHG.STAT.ILIM. -/
abbrev CHG.STAT.ILIM : Fld := ⟨0xD0004, 22, 22⟩
/-- R508: CHG.STAT.SUP_ARMED. -/
abbrev CHG.STAT.SUP_ARMED : Fld := ⟨0xD0004, 21, 21⟩
/-- R508: CHG.STAT.REF. -/
abbrev CHG.STAT.REF : Fld := ⟨0xD0004, 20, 20⟩
/-- R508: CHG.STAT.ID. -/
abbrev CHG.STAT.ID : Fld := ⟨0xD0004, 19, 16⟩
/-- R508: CHG.STAT.REFUSE_CODE. -/
abbrev CHG.STAT.REFUSE_CODE : Fld := ⟨0xD0004, 15, 8⟩
/-- R508: CHG.STAT.FCAUSE. -/
abbrev CHG.STAT.FCAUSE : Fld := ⟨0xD0004, 3, 0⟩
/-- R509: CHG.EVT.SUP_CUT. -/
abbrev CHG.EVT.SUP_CUT : Fld := ⟨0xD0008, 11, 11⟩
/-- R509: CHG.EVT.SUP_TMO. -/
abbrev CHG.EVT.SUP_TMO : Fld := ⟨0xD0008, 10, 10⟩
/-- R509: CHG.EVT.SUP_END. -/
abbrev CHG.EVT.SUP_END : Fld := ⟨0xD0008, 9, 9⟩
/-- R509: CHG.EVT.SUP_START. -/
abbrev CHG.EVT.SUP_START : Fld := ⟨0xD0008, 8, 8⟩
/-- R509: CHG.EVT.ID_MISMATCH. -/
abbrev CHG.EVT.ID_MISMATCH : Fld := ⟨0xD0008, 7, 7⟩
/-- R509: CHG.EVT.PACK_BACK. -/
abbrev CHG.EVT.PACK_BACK : Fld := ⟨0xD0008, 6, 6⟩
/-- R509: CHG.EVT.PACK_GONE. -/
abbrev CHG.EVT.PACK_GONE : Fld := ⟨0xD0008, 5, 5⟩
/-- R509: CHG.EVT.OVP. -/
abbrev CHG.EVT.OVP : Fld := ⟨0xD0008, 4, 4⟩
/-- R509: CHG.EVT.TIMER. -/
abbrev CHG.EVT.TIMER : Fld := ⟨0xD0008, 3, 3⟩
/-- R509: CHG.EVT.TERM. -/
abbrev CHG.EVT.TERM : Fld := ⟨0xD0008, 2, 2⟩
/-- R509: CHG.EVT.SHED. -/
abbrev CHG.EVT.SHED : Fld := ⟨0xD0008, 1, 1⟩
/-- R509: CHG.EVT.REFUSED. -/
abbrev CHG.EVT.REFUSED : Fld := ⟨0xD0008, 0, 0⟩
/-- R510: CHG.CFG.HOLD_EN. -/
abbrev CHG.CFG.HOLD_EN : Fld := ⟨0xD000C, 4, 4⟩
/-- R510: CHG.CFG.EN. -/
abbrev CHG.CFG.EN : Fld := ⟨0xD000C, 3, 3⟩
/-- R510: CHG.CFG.AUTO. -/
abbrev CHG.CFG.AUTO : Fld := ⟨0xD000C, 2, 2⟩
/-- R510: CHG.CFG.SEL. -/
abbrev CHG.CFG.SEL : Fld := ⟨0xD000C, 1, 0⟩
/-- R511: CHG.PACK.CHEM. -/
abbrev CHG.PACK.CHEM : Fld := ⟨0xD0010, 31, 30⟩
/-- R511: CHG.PACK.CELLS. -/
abbrev CHG.PACK.CELLS : Fld := ⟨0xD0010, 26, 24⟩
/-- R511: CHG.PACK.ID_EXP. -/
abbrev CHG.PACK.ID_EXP : Fld := ⟨0xD0010, 19, 16⟩
/-- R511: CHG.PACK.BUS_DV. -/
abbrev CHG.PACK.BUS_DV : Fld := ⟨0xD0010, 7, 0⟩
/-- R512: CHG.VCELL.CV_MV. -/
abbrev CHG.VCELL.CV_MV : Fld := ⟨0xD0014, 31, 16⟩
/-- R512: CHG.VCELL.FLOAT_MV. -/
abbrev CHG.VCELL.FLOAT_MV : Fld := ⟨0xD0014, 15, 0⟩
/-- R512: CHG.VCELL2.PRE_MV. -/
abbrev CHG.VCELL2.PRE_MV : Fld := ⟨0xD0018, 31, 16⟩
/-- R512: CHG.VCELL2.RECH_MV. -/
abbrev CHG.VCELL2.RECH_MV : Fld := ⟨0xD0018, 15, 0⟩
/-- R513: CHG.ICHG.ICC_MA. -/
abbrev CHG.ICHG.ICC_MA : Fld := ⟨0xD001C, 31, 16⟩
/-- R513: CHG.ICHG.IPRE_MA. -/
abbrev CHG.ICHG.IPRE_MA : Fld := ⟨0xD001C, 15, 0⟩
/-- R513: CHG.TERM.ITERM_MA. -/
abbrev CHG.TERM.ITERM_MA : Fld := ⟨0xD0020, 31, 16⟩
/-- R513: CHG.TERM.TOPOFF_MIN. -/
abbrev CHG.TERM.TOPOFF_MIN : Fld := ⟨0xD0020, 15, 8⟩
/-- R513: CHG.TERM.TIMER_H. -/
abbrev CHG.TERM.TIMER_H : Fld := ⟨0xD0020, 4, 0⟩
/-- R514: CHG.TEMP.BETA. -/
abbrev CHG.TEMP.BETA : Fld := ⟨0xD0024, 31, 16⟩
/-- R514: CHG.TEMP.T_MAX. -/
abbrev CHG.TEMP.T_MAX : Fld := ⟨0xD0024, 15, 8⟩
/-- R514: CHG.TEMP.T_MIN. -/
abbrev CHG.TEMP.T_MIN : Fld := ⟨0xD0024, 7, 0⟩
/-- R514: CHG.MPPT.SWEEP_S. -/
abbrev CHG.MPPT.SWEEP_S : Fld := ⟨0xD0028, 31, 16⟩
/-- R514: CHG.MPPT.STEP_MV. -/
abbrev CHG.MPPT.STEP_MV : Fld := ⟨0xD0028, 15, 8⟩
/-- R514: CHG.MPPT.PER_MS. -/
abbrev CHG.MPPT.PER_MS : Fld := ⟨0xD0028, 7, 0⟩
/-- R515: CHG.SUP.TRIG_MV. -/
abbrev CHG.SUP.TRIG_MV : Fld := ⟨0xD002C, 31, 16⟩
/-- R515: CHG.SUP.VSUP_MV. -/
abbrev CHG.SUP.VSUP_MV : Fld := ⟨0xD002C, 15, 0⟩
/-- R515: CHG.SUP2.SUP_T. -/
abbrev CHG.SUP2.SUP_T : Fld := ⟨0xD0030, 31, 16⟩
/-- R515: CHG.SUP2.SUP_W. -/
abbrev CHG.SUP2.SUP_W : Fld := ⟨0xD0030, 9, 0⟩
/-- R516: CHG.LIM.DSG_W. -/
abbrev CHG.LIM.DSG_W : Fld := ⟨0xD0034, 31, 16⟩
/-- R516: CHG.LIM.SUP_CUT_MV. -/
abbrev CHG.LIM.SUP_CUT_MV : Fld := ⟨0xD0034, 15, 0⟩
/-- R516: CHG.INLIM.VIN_MIN_MV. -/
abbrev CHG.INLIM.VIN_MIN_MV : Fld := ⟨0xD0038, 31, 16⟩
/-- R516: CHG.INLIM.IIN_MA. -/
abbrev CHG.INLIM.IIN_MA : Fld := ⟨0xD0038, 15, 0⟩
/-- R517: CHG.MEAS.VPACK_MV. -/
abbrev CHG.MEAS.VPACK_MV : Fld := ⟨0xD003C, 31, 16⟩
/-- R517: CHG.MEAS.I_10MA. -/
abbrev CHG.MEAS.I_10MA : Fld := ⟨0xD003C, 15, 0⟩
/-- R517: CHG.MEAS_IN.VIN_MV. -/
abbrev CHG.MEAS_IN.VIN_MV : Fld := ⟨0xD0040, 31, 16⟩
/-- R517: CHG.MEAS_IN.PIN_DW. -/
abbrev CHG.MEAS_IN.PIN_DW : Fld := ⟨0xD0040, 15, 0⟩
/-- R517: CHG.MPP.VMPP_MV. -/
abbrev CHG.MPP.VMPP_MV : Fld := ⟨0xD0044, 31, 16⟩
/-- R517: CHG.MPP.PMPP_DW. -/
abbrev CHG.MPP.PMPP_DW : Fld := ⟨0xD0044, 15, 0⟩
/-- R518: CHG.PROG.ITGT. -/
abbrev CHG.PROG.ITGT : Fld := ⟨0xD0048, 31, 20⟩
/-- R518: CHG.PROG.ELAPSED. -/
abbrev CHG.PROG.ELAPSED : Fld := ⟨0xD0048, 16, 0⟩
/-- R518: CHG.STORE.KEY. -/
abbrev CHG.STORE.KEY : Fld := ⟨0xD004C, 31, 16⟩
/-- R518: CHG.STORE.GO. -/
abbrev CHG.STORE.GO : Fld := ⟨0xD004C, 0, 0⟩
/-- R519: CHG.LEDG.VALID. -/
abbrev CHG.LEDG.VALID : Fld := ⟨0xD0050, 31, 31⟩
/-- R519: CHG.LEDG.CONS. -/
abbrev CHG.LEDG.CONS : Fld := ⟨0xD0050, 30, 24⟩
/-- R519: CHG.LEDG.RESV_MW. -/
abbrev CHG.LEDG.RESV_MW : Fld := ⟨0xD0050, 23, 0⟩
/-- R519: CHG.CNT.TERMS. -/
abbrev CHG.CNT.TERMS : Fld := ⟨0xD0054, 31, 16⟩
/-- R519: CHG.CNT.GONE. -/
abbrev CHG.CNT.GONE : Fld := ⟨0xD0054, 15, 8⟩
/-- R519: CHG.CNT.SUP. -/
abbrev CHG.CNT.SUP : Fld := ⟨0xD0054, 7, 0⟩
/-- R538: GAUGE.CFG.EN. -/
abbrev GAUGE.CFG.EN : Fld := ⟨0xE0000, 31, 31⟩
/-- R538: GAUGE.CFG.LEARN_EN. -/
abbrev GAUGE.CFG.LEARN_EN : Fld := ⟨0xE0000, 30, 30⟩
/-- R538: GAUGE.CFG.REQ_EN. -/
abbrev GAUGE.CFG.REQ_EN : Fld := ⟨0xE0000, 29, 29⟩
/-- R538: GAUGE.CFG.SHUNT_UOHM. -/
abbrev GAUGE.CFG.SHUNT_UOHM : Fld := ⟨0xE0000, 15, 0⟩
/-- R538: GAUGE.REST.REST_S. -/
abbrev GAUGE.REST.REST_S : Fld := ⟨0xE0004, 31, 16⟩
/-- R538: GAUGE.REST.REST_MA. -/
abbrev GAUGE.REST.REST_MA : Fld := ⟨0xE0004, 15, 0⟩
/-- R538: GAUGE.UNC_CFG.GERR. -/
abbrev GAUGE.UNC_CFG.GERR : Fld := ⟨0xE0008, 31, 24⟩
/-- R538: GAUGE.UNC_CFG.SLOPE_MIN. -/
abbrev GAUGE.UNC_CFG.SLOPE_MIN : Fld := ⟨0xE0008, 23, 16⟩
/-- R538: GAUGE.UNC_CFG.RATE. -/
abbrev GAUGE.UNC_CFG.RATE : Fld := ⟨0xE0008, 15, 0⟩
/-- R538: GAUGE.UNC_LIM.UNC_REQ. -/
abbrev GAUGE.UNC_LIM.UNC_REQ : Fld := ⟨0xE000C, 31, 16⟩
/-- R538: GAUGE.UNC_LIM.UNC_TERM. -/
abbrev GAUGE.UNC_LIM.UNC_TERM : Fld := ⟨0xE000C, 15, 0⟩
/-- R538: GAUGE.REF.REFENT. -/
abbrev GAUGE.REF.REFENT : Fld := ⟨0xE0010, 28, 16⟩
/-- R538: GAUGE.REF.REQ_HOLD. -/
abbrev GAUGE.REF.REQ_HOLD : Fld := ⟨0xE0010, 15, 8⟩
/-- R538: GAUGE.REF.TOPOFF_REF. -/
abbrev GAUGE.REF.TOPOFF_REF : Fld := ⟨0xE0010, 7, 0⟩
/-- R538: GAUGE.LEARN.DSOC. -/
abbrev GAUGE.LEARN.DSOC : Fld := ⟨0xE0014, 31, 24⟩
/-- R538: GAUGE.LEARN.QSTEP. -/
abbrev GAUGE.LEARN.QSTEP : Fld := ⟨0xE0014, 23, 16⟩
/-- R538: GAUGE.LEARN.WR_FLOOR_MV. -/
abbrev GAUGE.LEARN.WR_FLOOR_MV : Fld := ⟨0xE0014, 15, 0⟩
/-- R539: GAUGE.STAT.RUN. -/
abbrev GAUGE.STAT.RUN : Fld := ⟨0xE0020, 7, 7⟩
/-- R539: GAUGE.STAT.NOTAB. -/
abbrev GAUGE.STAT.NOTAB : Fld := ⟨0xE0020, 6, 6⟩
/-- R539: GAUGE.STAT.FROZEN. -/
abbrev GAUGE.STAT.FROZEN : Fld := ⟨0xE0020, 5, 5⟩
/-- R539: GAUGE.STAT.REST. -/
abbrev GAUGE.STAT.REST : Fld := ⟨0xE0020, 4, 4⟩
/-- R539: GAUGE.STAT.REF_REQ. -/
abbrev GAUGE.STAT.REF_REQ : Fld := ⟨0xE0020, 3, 3⟩
/-- R539: GAUGE.STAT.T_FB. -/
abbrev GAUGE.STAT.T_FB : Fld := ⟨0xE0020, 2, 2⟩
/-- R539: GAUGE.STAT.NOREC. -/
abbrev GAUGE.STAT.NOREC : Fld := ⟨0xE0020, 1, 1⟩
/-- R539: GAUGE.STAT.RESTORED. -/
abbrev GAUGE.STAT.RESTORED : Fld := ⟨0xE0020, 0, 0⟩
/-- R540: GAUGE.EVT.THAW. -/
abbrev GAUGE.EVT.THAW : Fld := ⟨0xE0024, 9, 9⟩
/-- R540: GAUGE.EVT.FREEZE. -/
abbrev GAUGE.EVT.FREEZE : Fld := ⟨0xE0024, 8, 8⟩
/-- R540: GAUGE.EVT.REC_FAIL. -/
abbrev GAUGE.EVT.REC_FAIL : Fld := ⟨0xE0024, 7, 7⟩
/-- R540: GAUGE.EVT.T_FB. -/
abbrev GAUGE.EVT.T_FB : Fld := ⟨0xE0024, 6, 6⟩
/-- R540: GAUGE.EVT.REQ_FAIL. -/
abbrev GAUGE.EVT.REQ_FAIL : Fld := ⟨0xE0024, 5, 5⟩
/-- R540: GAUGE.EVT.REQ. -/
abbrev GAUGE.EVT.REQ : Fld := ⟨0xE0024, 4, 4⟩
/-- R540: GAUGE.EVT.LEARN_REJ. -/
abbrev GAUGE.EVT.LEARN_REJ : Fld := ⟨0xE0024, 3, 3⟩
/-- R540: GAUGE.EVT.LEARN. -/
abbrev GAUGE.EVT.LEARN : Fld := ⟨0xE0024, 2, 2⟩
/-- R540: GAUGE.EVT.REF_OCV. -/
abbrev GAUGE.EVT.REF_OCV : Fld := ⟨0xE0024, 1, 1⟩
/-- R540: GAUGE.EVT.REF_TERM. -/
abbrev GAUGE.EVT.REF_TERM : Fld := ⟨0xE0024, 0, 0⟩
/-- R541: GAUGE.SOC.SOC. -/
abbrev GAUGE.SOC.SOC : Fld := ⟨0xE0028, 31, 16⟩
/-- R541: GAUGE.SOC.UNC. -/
abbrev GAUGE.SOC.UNC : Fld := ⟨0xE0028, 15, 0⟩
/-- R541: GAUGE.RM.RM_MAH. -/
abbrev GAUGE.RM.RM_MAH : Fld := ⟨0xE002C, 31, 16⟩
/-- R541: GAUGE.RM.FCC_MAH. -/
abbrev GAUGE.RM.FCC_MAH : Fld := ⟨0xE002C, 15, 0⟩
/-- R541: GAUGE.QMAX.QMAX_MAH. -/
abbrev GAUGE.QMAX.QMAX_MAH : Fld := ⟨0xE0030, 31, 16⟩
/-- R541: GAUGE.QMAX.SOH. -/
abbrev GAUGE.QMAX.SOH : Fld := ⟨0xE0030, 15, 0⟩
/-- R541: GAUGE.EREM.MWH. -/
abbrev GAUGE.EREM.MWH : Fld := ⟨0xE0034, 31, 0⟩
/-- R541: GAUGE.CURR.I_MA. -/
abbrev GAUGE.CURR.I_MA : Fld := ⟨0xE0038, 31, 0⟩
/-- R541: GAUGE.ACC_LO.ACC. -/
abbrev GAUGE.ACC_LO.ACC : Fld := ⟨0xE003C, 31, 0⟩
/-- R541: GAUGE.ACC_HI.ACC. -/
abbrev GAUGE.ACC_HI.ACC : Fld := ⟨0xE0040, 31, 0⟩
/-- R541: GAUGE.TEMP.T. -/
abbrev GAUGE.TEMP.T : Fld := ⟨0xE0044, 15, 0⟩
/-- R541: GAUGE.CYC.CYCLES. -/
abbrev GAUGE.CYC.CYCLES : Fld := ⟨0xE0048, 31, 16⟩
/-- R541: GAUGE.REC.SEQ. -/
abbrev GAUGE.REC.SEQ : Fld := ⟨0xE004C, 31, 0⟩
/-- R542: GAUGE.REC_STAT.PENDING. -/
abbrev GAUGE.REC_STAT.PENDING : Fld := ⟨0xE0050, 1, 1⟩
/-- R542: GAUGE.REC_STAT.SLOT. -/
abbrev GAUGE.REC_STAT.SLOT : Fld := ⟨0xE0050, 0, 0⟩
/-- R542: GAUGE.CNT.REFS. -/
abbrev GAUGE.CNT.REFS : Fld := ⟨0xE0054, 31, 16⟩
/-- R542: GAUGE.CNT.LEARNS. -/
abbrev GAUGE.CNT.LEARNS : Fld := ⟨0xE0054, 15, 8⟩
/-- R542: GAUGE.CNT.REQS. -/
abbrev GAUGE.CNT.REQS : Fld := ⟨0xE0054, 7, 0⟩
/-- R561: PD.CTL.CMD. -/
abbrev PD.CTL.CMD (n : Nat) : Fld := ⟨0xF0000 + 0x100 * n, 31, 28⟩
/-- R561: PD.STAT.STATE. -/
abbrev PD.STAT.STATE (n : Nat) : Fld := ⟨0xF0004 + 0x100 * n, 31, 28⟩
/-- R561: PD.STAT.CONTRACT. -/
abbrev PD.STAT.CONTRACT (n : Nat) : Fld := ⟨0xF0004 + 0x100 * n, 27, 27⟩
/-- R561: PD.STAT.PPS. -/
abbrev PD.STAT.PPS (n : Nat) : Fld := ⟨0xF0004 + 0x100 * n, 26, 26⟩
/-- R561: PD.STAT.FLIP. -/
abbrev PD.STAT.FLIP (n : Nat) : Fld := ⟨0xF0004 + 0x100 * n, 25, 25⟩
/-- R561: PD.STAT.VCONN. -/
abbrev PD.STAT.VCONN (n : Nat) : Fld := ⟨0xF0004 + 0x100 * n, 24, 24⟩
/-- R561: PD.STAT.MUX. -/
abbrev PD.STAT.MUX (n : Nat) : Fld := ⟨0xF0004 + 0x100 * n, 23, 23⟩
/-- R561: PD.STAT.HPD. -/
abbrev PD.STAT.HPD (n : Nat) : Fld := ⟨0xF0004 + 0x100 * n, 22, 22⟩
/-- R561: PD.STAT.CABLE_5A. -/
abbrev PD.STAT.CABLE_5A (n : Nat) : Fld := ⟨0xF0004 + 0x100 * n, 21, 21⟩
/-- R561: PD.STAT.RP. -/
abbrev PD.STAT.RP (n : Nat) : Fld := ⟨0xF0004 + 0x100 * n, 20, 19⟩
/-- R561: PD.STAT.REFUSE_CODE. -/
abbrev PD.STAT.REFUSE_CODE (n : Nat) : Fld := ⟨0xF0004 + 0x100 * n, 15, 8⟩
/-- R562: PD.EVT.SWAP_ABORT. -/
abbrev PD.EVT.SWAP_ABORT (n : Nat) : Fld := ⟨0xF0008 + 0x100 * n, 7, 7⟩
/-- R562: PD.EVT.LATCH. -/
abbrev PD.EVT.LATCH (n : Nat) : Fld := ⟨0xF0008 + 0x100 * n, 6, 6⟩
/-- R562: PD.EVT.RCP. -/
abbrev PD.EVT.RCP (n : Nat) : Fld := ⟨0xF0008 + 0x100 * n, 5, 5⟩
/-- R562: PD.EVT.OCP. -/
abbrev PD.EVT.OCP (n : Nat) : Fld := ⟨0xF0008 + 0x100 * n, 4, 4⟩
/-- R562: PD.EVT.OVP. -/
abbrev PD.EVT.OVP (n : Nat) : Fld := ⟨0xF0008 + 0x100 * n, 3, 3⟩
/-- R562: PD.EVT.SHED. -/
abbrev PD.EVT.SHED (n : Nat) : Fld := ⟨0xF0008 + 0x100 * n, 2, 2⟩
/-- R562: PD.EVT.REFUSED. -/
abbrev PD.EVT.REFUSED (n : Nat) : Fld := ⟨0xF0008 + 0x100 * n, 1, 1⟩
/-- R562: PD.EVT.CONTRACT. -/
abbrev PD.EVT.CONTRACT (n : Nat) : Fld := ⟨0xF0008 + 0x100 * n, 0, 0⟩
/-- R563: PD.CFG.EN. -/
abbrev PD.CFG.EN (n : Nat) : Fld := ⟨0xF000C + 0x100 * n, 31, 31⟩
/-- R563: PD.CFG.VCONN_EN. -/
abbrev PD.CFG.VCONN_EN (n : Nat) : Fld := ⟨0xF000C + 0x100 * n, 30, 30⟩
/-- R563: PD.CFG.ALT_EN. -/
abbrev PD.CFG.ALT_EN (n : Nat) : Fld := ⟨0xF000C + 0x100 * n, 29, 29⟩
/-- R563: PD.CFG.RP_DEF. -/
abbrev PD.CFG.RP_DEF (n : Nat) : Fld := ⟨0xF000C + 0x100 * n, 28, 27⟩
/-- R563: PD.CFG.ROLE. -/
abbrev PD.CFG.ROLE (n : Nat) : Fld := ⟨0xF000C + 0x100 * n, 26, 25⟩
/-- R563: PD.CFG.ROLE_PREF. -/
abbrev PD.CFG.ROLE_PREF (n : Nat) : Fld := ⟨0xF000C + 0x100 * n, 24, 23⟩
/-- R563: PD.CFG.SWAP. -/
abbrev PD.CFG.SWAP (n : Nat) : Fld := ⟨0xF000C + 0x100 * n, 22, 21⟩
/-- R563: PD.CFG.REOFFER_S. -/
abbrev PD.CFG.REOFFER_S (n : Nat) : Fld := ⟨0xF000C + 0x100 * n, 17, 10⟩
/-- R563: PD.CFG.EFF. -/
abbrev PD.CFG.EFF (n : Nat) : Fld := ⟨0xF000C + 0x100 * n, 9, 0⟩
/-- R564: PD.CAP.PORT_W. -/
abbrev PD.CAP.PORT_W (n : Nat) : Fld := ⟨0xF0010 + 0x100 * n, 15, 8⟩
/-- R564: PD.CAP.CAP_W. -/
abbrev PD.CAP.CAP_W (n : Nat) : Fld := ⟨0xF0010 + 0x100 * n, 7, 0⟩
/-- R564: PD.SNK.VMIN. -/
abbrev PD.SNK.VMIN (n : Nat) : Fld := ⟨0xF0014 + 0x100 * n, 31, 24⟩
/-- R564: PD.SNK.VMAX. -/
abbrev PD.SNK.VMAX (n : Nat) : Fld := ⟨0xF0014 + 0x100 * n, 23, 16⟩
/-- R564: PD.SNK.SNK_W. -/
abbrev PD.SNK.SNK_W (n : Nat) : Fld := ⟨0xF0014 + 0x100 * n, 7, 0⟩
/-- R564: PD.PROT.LATCH_N. -/
abbrev PD.PROT.LATCH_N (n : Nat) : Fld := ⟨0xF0018 + 0x100 * n, 19, 16⟩
/-- R564: PD.PROT.OCP_MA. -/
abbrev PD.PROT.OCP_MA (n : Nat) : Fld := ⟨0xF0018 + 0x100 * n, 15, 0⟩
/-- R565: PD.PDO.PDO. -/
abbrev PD.PDO.PDO (n : Nat) (m : Nat) : Fld := ⟨0xF0020 + 0x100 * n + 0x4 * m, 31, 0⟩
/-- R565: PD.CABLE.VDO. -/
abbrev PD.CABLE.VDO (n : Nat) : Fld := ⟨0xF0048 + 0x100 * n, 31, 0⟩
/-- R566: PD.CONTR.V. -/
abbrev PD.CONTR.V (n : Nat) : Fld := ⟨0xF0040 + 0x100 * n, 21, 10⟩
/-- R566: PD.CONTR.I. -/
abbrev PD.CONTR.I (n : Nat) : Fld := ⟨0xF0040 + 0x100 * n, 9, 0⟩
/-- R566: PD.MEAS.VBUS_MV. -/
abbrev PD.MEAS.VBUS_MV (n : Nat) : Fld := ⟨0xF0044 + 0x100 * n, 31, 16⟩
/-- R566: PD.MEAS.I_MA. -/
abbrev PD.MEAS.I_MA (n : Nat) : Fld := ⟨0xF0044 + 0x100 * n, 15, 0⟩
/-- R567: PD.CNT.HRST. -/
abbrev PD.CNT.HRST (n : Nat) : Fld := ⟨0xF004C + 0x100 * n, 31, 24⟩
/-- R567: PD.CNT.TRIPS. -/
abbrev PD.CNT.TRIPS (n : Nat) : Fld := ⟨0xF004C + 0x100 * n, 23, 16⟩
/-- R567: PD.CNT.REFUSE. -/
abbrev PD.CNT.REFUSE (n : Nat) : Fld := ⟨0xF004C + 0x100 * n, 15, 8⟩
/-- R567: PD.CNT.SWAPS. -/
abbrev PD.CNT.SWAPS (n : Nat) : Fld := ⟨0xF004C + 0x100 * n, 7, 0⟩
/-- R567: PD.LEDG.VALID. -/
abbrev PD.LEDG.VALID (n : Nat) : Fld := ⟨0xF0050 + 0x100 * n, 31, 31⟩
/-- R567: PD.LEDG.CONS. -/
abbrev PD.LEDG.CONS (n : Nat) : Fld := ⟨0xF0050 + 0x100 * n, 30, 24⟩
/-- R567: PD.LEDG.RESV_MW. -/
abbrev PD.LEDG.RESV_MW (n : Nat) : Fld := ⟨0xF0050 + 0x100 * n, 23, 0⟩
/-- R587: FLT.CFG.INJ_EN. -/
abbrev FLT.CFG.INJ_EN : Fld := ⟨0x120000, 31, 31⟩
/-- R587: FLT.CFG.FATAL_ACT. -/
abbrev FLT.CFG.FATAL_ACT : Fld := ⟨0x120000, 30, 30⟩
/-- R587: FLT.CFG.RST_DLY. -/
abbrev FLT.CFG.RST_DLY : Fld := ⟨0x120000, 23, 16⟩
/-- R587: FLT.CFG.RST_MAX. -/
abbrev FLT.CFG.RST_MAX : Fld := ⟨0x120000, 15, 12⟩
/-- R587: FLT.CFG.CONT_ATTN. -/
abbrev FLT.CFG.CONT_ATTN : Fld := ⟨0x120000, 11, 11⟩
/-- R587: FLT.CFG.CONT_SHED. -/
abbrev FLT.CFG.CONT_SHED : Fld := ⟨0x120000, 7, 4⟩
/-- R587: FLT.CFG.SUM_MS. -/
abbrev FLT.CFG.SUM_MS : Fld := ⟨0x120000, 3, 0⟩
/-- R588: FLT.STAT.SAFE. -/
abbrev FLT.STAT.SAFE : Fld := ⟨0x120004, 31, 31⟩
/-- R588: FLT.STAT.WORST. -/
abbrev FLT.STAT.WORST : Fld := ⟨0x120004, 30, 29⟩
/-- R588: FLT.STAT.INJ_ACT. -/
abbrev FLT.STAT.INJ_ACT : Fld := ⟨0x120004, 28, 28⟩
/-- R588: FLT.STAT.ACTIVE. -/
abbrev FLT.STAT.ACTIVE : Fld := ⟨0x120004, 25, 16⟩
/-- R588: FLT.STAT.RSTS. -/
abbrev FLT.STAT.RSTS : Fld := ⟨0x120004, 15, 12⟩
/-- R589: FLT.EVT.INJ. -/
abbrev FLT.EVT.INJ : Fld := ⟨0x120008, 6, 6⟩
/-- R589: FLT.EVT.REMOTE. -/
abbrev FLT.EVT.REMOTE : Fld := ⟨0x120008, 5, 5⟩
/-- R589: FLT.EVT.SELF. -/
abbrev FLT.EVT.SELF : Fld := ⟨0x120008, 4, 4⟩
/-- R589: FLT.EVT.BROKEN. -/
abbrev FLT.EVT.BROKEN : Fld := ⟨0x120008, 3, 3⟩
/-- R589: FLT.EVT.FATAL. -/
abbrev FLT.EVT.FATAL : Fld := ⟨0x120008, 2, 2⟩
/-- R589: FLT.EVT.CONTAINED. -/
abbrev FLT.EVT.CONTAINED : Fld := ⟨0x120008, 1, 1⟩
/-- R589: FLT.EVT.CORRECTED. -/
abbrev FLT.EVT.CORRECTED : Fld := ⟨0x120008, 0, 0⟩
/-- R590: FLT.FIRST.VALID. -/
abbrev FLT.FIRST.VALID : Fld := ⟨0x12000C, 31, 31⟩
/-- R590: FLT.FIRST.INDEX. -/
abbrev FLT.FIRST.INDEX : Fld := ⟨0x12000C, 9, 0⟩
/-- R590: FLT.FIRST_CT_LO.CT. -/
abbrev FLT.FIRST_CT_LO.CT : Fld := ⟨0x120010, 31, 0⟩
/-- R590: FLT.FIRST_CT_HI.CT. -/
abbrev FLT.FIRST_CT_HI.CT : Fld := ⟨0x120014, 31, 0⟩
/-- R591: FLT.LAST.SEV. -/
abbrev FLT.LAST.SEV : Fld := ⟨0x120018, 31, 30⟩
/-- R591: FLT.LAST.INJ. -/
abbrev FLT.LAST.INJ : Fld := ⟨0x120018, 29, 29⟩
/-- R591: FLT.LAST.BRK. -/
abbrev FLT.LAST.BRK : Fld := ⟨0x120018, 28, 28⟩
/-- R591: FLT.LAST.INDEX. -/
abbrev FLT.LAST.INDEX : Fld := ⟨0x120018, 9, 0⟩
/-- R591: FLT.CNT.CORR. -/
abbrev FLT.CNT.CORR : Fld := ⟨0x12001C, 31, 16⟩
/-- R591: FLT.CNT.CONT. -/
abbrev FLT.CNT.CONT : Fld := ⟨0x12001C, 15, 8⟩
/-- R591: FLT.CNT.BRK. -/
abbrev FLT.CNT.BRK : Fld := ⟨0x12001C, 7, 0⟩
/-- R592: FLT.INJ.KEY. -/
abbrev FLT.INJ.KEY : Fld := ⟨0x120020, 31, 16⟩
/-- R592: FLT.INJ.TGT. -/
abbrev FLT.INJ.TGT : Fld := ⟨0x120020, 15, 13⟩
/-- R592: FLT.INJ.SEL. -/
abbrev FLT.INJ.SEL : Fld := ⟨0x120020, 9, 0⟩
/-- R592: FLT.FORCE.KEY. -/
abbrev FLT.FORCE.KEY : Fld := ⟨0x120024, 31, 16⟩
/-- R592: FLT.FORCE.TGT. -/
abbrev FLT.FORCE.TGT : Fld := ⟨0x120024, 15, 13⟩
/-- R592: FLT.FORCE.SEL. -/
abbrev FLT.FORCE.SEL : Fld := ⟨0x120024, 9, 0⟩
/-- R593: bit n of FLT.REMOTE, counted on over its words. -/
abbrev FLT.REMOTE (n : Nat) : Fld := ⟨0x120028 + 4 * (n / 32), n % 32, n % 32⟩
/-- R593: bit n of FLT.SAFE_KEEP, counted on over its words. -/
abbrev FLT.SAFE_KEEP (n : Nat) : Fld := ⟨0x120030 + 4 * (n / 32), n % 32, n % 32⟩
/-- R594: severity of source n. -/
abbrev FLT.SEV (n : Nat) : Fld := ⟨0x120100 + 4 * (n / 16), 2 * (n % 16) + 1, 2 * (n % 16)⟩
/-- R595: bit n of FLT.RAW, counted on over its words. -/
abbrev FLT.RAW (n : Nat) : Fld := ⟨0x120200 + 4 * (n / 32), n % 32, n % 32⟩
/-- R595: bit n of FLT.LAT, counted on over its words. -/
abbrev FLT.LAT (n : Nat) : Fld := ⟨0x120280 + 4 * (n / 32), n % 32, n % 32⟩
/-- R595: bit n of FLT.BRK, counted on over its words. -/
abbrev FLT.BRK (n : Nat) : Fld := ⟨0x120300 + 4 * (n / 32), n % 32, n % 32⟩
/-- R614: RTC.TIME.HOUR. -/
abbrev RTC.TIME.HOUR : Fld := ⟨0x130000, 20, 16⟩
/-- R614: RTC.TIME.MIN. -/
abbrev RTC.TIME.MIN : Fld := ⟨0x130000, 13, 8⟩
/-- R614: RTC.TIME.SEC. -/
abbrev RTC.TIME.SEC : Fld := ⟨0x130000, 5, 0⟩
/-- R614: RTC.DATE.YEAR. -/
abbrev RTC.DATE.YEAR : Fld := ⟨0x130004, 31, 16⟩
/-- R614: RTC.DATE.WDAY. -/
abbrev RTC.DATE.WDAY : Fld := ⟨0x130004, 14, 12⟩
/-- R614: RTC.DATE.MONTH. -/
abbrev RTC.DATE.MONTH : Fld := ⟨0x130004, 11, 8⟩
/-- R614: RTC.DATE.DAY. -/
abbrev RTC.DATE.DAY : Fld := ⟨0x130004, 4, 0⟩
/-- R614: RTC.SUB.PRESC. -/
abbrev RTC.SUB.PRESC : Fld := ⟨0x130008, 14, 0⟩
/-- R615: RTC.CTL.CMD. -/
abbrev RTC.CTL.CMD : Fld := ⟨0x13000C, 1, 0⟩
/-- R615: RTC.STAT.PON. -/
abbrev RTC.STAT.PON : Fld := ⟨0x130010, 4, 4⟩
/-- R615: RTC.STAT.FEED. -/
abbrev RTC.STAT.FEED : Fld := ⟨0x130010, 3, 3⟩
/-- R615: RTC.STAT.OSC_FAIL. -/
abbrev RTC.STAT.OSC_FAIL : Fld := ⟨0x130010, 2, 2⟩
/-- R615: RTC.STAT.DST. -/
abbrev RTC.STAT.DST : Fld := ⟨0x130010, 1, 1⟩
/-- R615: RTC.STAT.SET. -/
abbrev RTC.STAT.SET : Fld := ⟨0x130010, 0, 0⟩
/-- R615: RTC.EVT.WAKE. -/
abbrev RTC.EVT.WAKE : Fld := ⟨0x130014, 3, 3⟩
/-- R615: RTC.EVT.OSC_FAIL. -/
abbrev RTC.EVT.OSC_FAIL : Fld := ⟨0x130014, 2, 2⟩
/-- R615: RTC.EVT.ALM1. -/
abbrev RTC.EVT.ALM1 : Fld := ⟨0x130014, 1, 1⟩
/-- R615: RTC.EVT.ALM0. -/
abbrev RTC.EVT.ALM0 : Fld := ⟨0x130014, 0, 0⟩
/-- R616: RTC.ALM.EN. -/
abbrev RTC.ALM.EN (n : Nat) : Fld := ⟨0x130018 + 0x4 * n, 31, 31⟩
/-- R616: RTC.ALM.PON. -/
abbrev RTC.ALM.PON (n : Nat) : Fld := ⟨0x130018 + 0x4 * n, 30, 30⟩
/-- R616: RTC.ALM.WAKE. -/
abbrev RTC.ALM.WAKE (n : Nat) : Fld := ⟨0x130018 + 0x4 * n, 29, 29⟩
/-- R616: RTC.ALM.MSK. -/
abbrev RTC.ALM.MSK (n : Nat) : Fld := ⟨0x130018 + 0x4 * n, 28, 25⟩
/-- R616: RTC.ALM.DAY. -/
abbrev RTC.ALM.DAY (n : Nat) : Fld := ⟨0x130018 + 0x4 * n, 24, 20⟩
/-- R616: RTC.ALM.HOUR. -/
abbrev RTC.ALM.HOUR (n : Nat) : Fld := ⟨0x130018 + 0x4 * n, 19, 15⟩
/-- R616: RTC.ALM.MIN. -/
abbrev RTC.ALM.MIN (n : Nat) : Fld := ⟨0x130018 + 0x4 * n, 11, 6⟩
/-- R616: RTC.ALM.SEC. -/
abbrev RTC.ALM.SEC (n : Nat) : Fld := ⟨0x130018 + 0x4 * n, 5, 0⟩
/-- R617: RTC.PON.ASSERT. -/
abbrev RTC.PON.ASSERT : Fld := ⟨0x130020, 31, 31⟩
/-- R617: RTC.PON.RELEASE. -/
abbrev RTC.PON.RELEASE : Fld := ⟨0x130020, 30, 30⟩
/-- R617: RTC.PON.WAKE. -/
abbrev RTC.PON.WAKE : Fld := ⟨0x130020, 29, 29⟩
/-- R617: RTC.PON.PULSE_MS. -/
abbrev RTC.PON.PULSE_MS : Fld := ⟨0x130020, 15, 0⟩
/-- R617: RTC.WAKE.EN_ITIN. -/
abbrev RTC.WAKE.EN_ITIN : Fld := ⟨0x130024, 31, 31⟩
/-- R617: RTC.WAKE.EN_FAULT. -/
abbrev RTC.WAKE.EN_FAULT : Fld := ⟨0x130024, 30, 30⟩
/-- R617: RTC.WAKE.EN_SUPPLY. -/
abbrev RTC.WAKE.EN_SUPPLY : Fld := ⟨0x130024, 29, 29⟩
/-- R617: RTC.WAKE.UNIT. -/
abbrev RTC.WAKE.UNIT : Fld := ⟨0x130024, 28, 24⟩
/-- R617: RTC.WAKE.CNT. -/
abbrev RTC.WAKE.CNT : Fld := ⟨0x130024, 23, 16⟩
/-- R617: RTC.WAKE.CAUSE. -/
abbrev RTC.WAKE.CAUSE : Fld := ⟨0x130024, 7, 0⟩
/-- R618: RTC.PWR_CTL.REQ. -/
abbrev RTC.PWR_CTL.REQ : Fld := ⟨0x130028, 1, 0⟩
/-- R618: RTC.PWR_CFG.EVE_LEVEL. -/
abbrev RTC.PWR_CFG.EVE_LEVEL : Fld := ⟨0x13002C, 31, 28⟩
/-- R618: RTC.PWR_CFG.NIGHT_LEVEL. -/
abbrev RTC.PWR_CFG.NIGHT_LEVEL : Fld := ⟨0x13002C, 27, 24⟩
/-- R618: RTC.PWR_CFG.SCAN_MS. -/
abbrev RTC.PWR_CFG.SCAN_MS : Fld := ⟨0x13002C, 23, 20⟩
/-- R618: RTC.PWR_CFG.NIGHT_LEAD. -/
abbrev RTC.PWR_CFG.NIGHT_LEAD : Fld := ⟨0x13002C, 19, 12⟩
/-- R618: RTC.PWR_CFG.ITIN_WAKE. -/
abbrev RTC.PWR_CFG.ITIN_WAKE : Fld := ⟨0x13002C, 11, 0⟩
/-- R618: RTC.BCN.TIME_S. -/
abbrev RTC.BCN.TIME_S : Fld := ⟨0x130030, 31, 16⟩
/-- R618: RTC.BCN.FAULT_S. -/
abbrev RTC.BCN.FAULT_S : Fld := ⟨0x130030, 15, 0⟩
/-- R632: BUS.CFG.ATTN_RPT. -/
abbrev BUS.CFG.ATTN_RPT : Fld := ⟨0x140000, 15, 8⟩
/-- R632: BUS.CFG.ATTN_MSK. -/
abbrev BUS.CFG.ATTN_MSK : Fld := ⟨0x140000, 6, 4⟩
/-- R632: BUS.CFG.TMO_EN. -/
abbrev BUS.CFG.TMO_EN : Fld := ⟨0x140000, 3, 3⟩
/-- R632: BUS.CFG.ATTN_EN. -/
abbrev BUS.CFG.ATTN_EN : Fld := ⟨0x140000, 2, 2⟩
/-- R632: BUS.CFG.PEC_REQ. -/
abbrev BUS.CFG.PEC_REQ : Fld := ⟨0x140000, 1, 1⟩
/-- R632: BUS.CFG.AINC. -/
abbrev BUS.CFG.AINC : Fld := ⟨0x140000, 0, 0⟩
/-- R633: BUS.STAT.ADDR. -/
abbrev BUS.STAT.ADDR : Fld := ⟨0x140004, 30, 24⟩
/-- R633: BUS.STAT.LAST_CMD. -/
abbrev BUS.STAT.LAST_CMD : Fld := ⟨0x140004, 23, 16⟩
/-- R633: BUS.STAT.ATTN_PEND. -/
abbrev BUS.STAT.ATTN_PEND : Fld := ⟨0x140004, 3, 3⟩
/-- R633: BUS.STAT.OUTST. -/
abbrev BUS.STAT.OUTST : Fld := ⟨0x140004, 2, 0⟩
/-- R634: BUS.EVT.ATTN_COLL. -/
abbrev BUS.EVT.ATTN_COLL : Fld := ⟨0x140008, 6, 6⟩
/-- R634: BUS.EVT.TIMEOUT. -/
abbrev BUS.EVT.TIMEOUT : Fld := ⟨0x140008, 5, 5⟩
/-- R634: BUS.EVT.NACK_BUSY. -/
abbrev BUS.EVT.NACK_BUSY : Fld := ⟨0x140008, 4, 4⟩
/-- R634: BUS.EVT.PEC_MISS. -/
abbrev BUS.EVT.PEC_MISS : Fld := ⟨0x140008, 3, 3⟩
/-- R634: BUS.EVT.PEC_ERR. -/
abbrev BUS.EVT.PEC_ERR : Fld := ⟨0x140008, 2, 2⟩
/-- R634: BUS.EVT.TGT_ERR. -/
abbrev BUS.EVT.TGT_ERR : Fld := ⟨0x140008, 1, 1⟩
/-- R634: BUS.EVT.ILLEGAL_STATE. -/
abbrev BUS.EVT.ILLEGAL_STATE : Fld := ⟨0x140008, 0, 0⟩
/-- R635: BUS.LAST.STATUS. -/
abbrev BUS.LAST.STATUS : Fld := ⟨0x14000C, 31, 24⟩
/-- R635: BUS.LAST.ADDR. -/
abbrev BUS.LAST.ADDR : Fld := ⟨0x14000C, 23, 0⟩
/-- R635: BUS.PTR.PTR. -/
abbrev BUS.PTR.PTR : Fld := ⟨0x140010, 23, 0⟩
/-- R636: BUS.CNT.XFER. -/
abbrev BUS.CNT.XFER : Fld := ⟨0x140014, 31, 16⟩
/-- R636: BUS.CNT.NACK. -/
abbrev BUS.CNT.NACK : Fld := ⟨0x140014, 15, 8⟩
/-- R636: BUS.CNT.PEC. -/
abbrev BUS.CNT.PEC : Fld := ⟨0x140014, 7, 4⟩
/-- R636: BUS.CNT.ILLEGAL. -/
abbrev BUS.CNT.ILLEGAL : Fld := ⟨0x140014, 3, 0⟩
/-- R637: BUS.ATTN.SOFT. -/
abbrev BUS.ATTN.SOFT : Fld := ⟨0x140018, 2, 2⟩
/-- R637: BUS.ATTN.FAULT. -/
abbrev BUS.ATTN.FAULT : Fld := ⟨0x140018, 1, 1⟩
/-- R637: BUS.ATTN.CMP. -/
abbrev BUS.ATTN.CMP : Fld := ⟨0x140018, 0, 0⟩
/-- R637: BUS.ATTN_SET.SOFT. -/
abbrev BUS.ATTN_SET.SOFT : Fld := ⟨0x14001C, 0, 0⟩
/-- R638: BUS.OTP_CTL.KEY. -/
abbrev BUS.OTP_CTL.KEY : Fld := ⟨0x140020, 31, 16⟩
/-- R638: BUS.OTP_CTL.OFFSET. -/
abbrev BUS.OTP_CTL.OFFSET : Fld := ⟨0x140020, 15, 9⟩
/-- R638: BUS.OTP_CTL.ERR. -/
abbrev BUS.OTP_CTL.ERR : Fld := ⟨0x140020, 2, 2⟩
/-- R638: BUS.OTP_CTL.BUSY. -/
abbrev BUS.OTP_CTL.BUSY : Fld := ⟨0x140020, 1, 1⟩
/-- R638: BUS.OTP_CTL.GO. -/
abbrev BUS.OTP_CTL.GO : Fld := ⟨0x140020, 0, 0⟩
/-- R638: BUS.OTP_DATA.DATA. -/
abbrev BUS.OTP_DATA.DATA : Fld := ⟨0x140024, 31, 0⟩
/-- R651: JRNL.CFG.EN. -/
abbrev JRNL.CFG.EN : Fld := ⟨0x150000, 31, 31⟩
/-- R651: JRNL.CFG.ACCEPT. -/
abbrev JRNL.CFG.ACCEPT : Fld := ⟨0x150000, 30, 30⟩
/-- R651: JRNL.CFG.FWD_EN. -/
abbrev JRNL.CFG.FWD_EN : Fld := ⟨0x150000, 29, 29⟩
/-- R651: JRNL.CFG.FWD_DST. -/
abbrev JRNL.CFG.FWD_DST : Fld := ⟨0x150000, 28, 24⟩
/-- R651: JRNL.CFG.FLUSH_MS. -/
abbrev JRNL.CFG.FLUSH_MS : Fld := ⟨0x150000, 15, 0⟩
/-- R651: JRNL.CTL.KEY. -/
abbrev JRNL.CTL.KEY : Fld := ⟨0x150004, 31, 16⟩
/-- R651: JRNL.CTL.CMD. -/
abbrev JRNL.CTL.CMD : Fld := ⟨0x150004, 1, 0⟩
/-- R652: JRNL.STAT.STATE. -/
abbrev JRNL.STAT.STATE : Fld := ⟨0x150008, 31, 28⟩
/-- R652: JRNL.STAT.QUEUE. -/
abbrev JRNL.STAT.QUEUE : Fld := ⟨0x150008, 8, 0⟩
/-- R652: JRNL.GEOM.PAGE4K. -/
abbrev JRNL.GEOM.PAGE4K : Fld := ⟨0x15000C, 31, 31⟩
/-- R652: JRNL.GEOM.PPB128. -/
abbrev JRNL.GEOM.PPB128 : Fld := ⟨0x15000C, 30, 30⟩
/-- R652: JRNL.GEOM.BLOCKS. -/
abbrev JRNL.GEOM.BLOCKS : Fld := ⟨0x15000C, 15, 0⟩
/-- R652: JRNL.BAD.COUNT. -/
abbrev JRNL.BAD.COUNT : Fld := ⟨0x150010, 15, 0⟩
/-- R653: JRNL.HEAD_LO.SEQ. -/
abbrev JRNL.HEAD_LO.SEQ : Fld := ⟨0x150014, 31, 0⟩
/-- R653: JRNL.HEAD_HI.SEQ. -/
abbrev JRNL.HEAD_HI.SEQ : Fld := ⟨0x150018, 15, 0⟩
/-- R653: JRNL.OLDEST_LO.SEQ. -/
abbrev JRNL.OLDEST_LO.SEQ : Fld := ⟨0x15001C, 31, 0⟩
/-- R653: JRNL.OLDEST_HI.SEQ. -/
abbrev JRNL.OLDEST_HI.SEQ : Fld := ⟨0x150020, 15, 0⟩
/-- R654: JRNL.CNT.LOST. -/
abbrev JRNL.CNT.LOST : Fld := ⟨0x150024, 31, 16⟩
/-- R654: JRNL.CNT.FWD_DROP. -/
abbrev JRNL.CNT.FWD_DROP : Fld := ⟨0x150024, 15, 0⟩
/-- R655: JRNL.RD_SEQ_LO.SEQ. -/
abbrev JRNL.RD_SEQ_LO.SEQ : Fld := ⟨0x150030, 31, 0⟩
/-- R655: JRNL.RD_SEQ_HI.SEQ. -/
abbrev JRNL.RD_SEQ_HI.SEQ : Fld := ⟨0x150034, 31, 0⟩
/-- R655: JRNL.RD_CTL.CMD. -/
abbrev JRNL.RD_CTL.CMD : Fld := ⟨0x150038, 0, 0⟩
/-- R655: JRNL.RD_STAT.SKIPPED. -/
abbrev JRNL.RD_STAT.SKIPPED : Fld := ⟨0x15003C, 31, 16⟩
/-- R655: JRNL.RD_STAT.OVERRUN. -/
abbrev JRNL.RD_STAT.OVERRUN : Fld := ⟨0x15003C, 3, 3⟩
/-- R655: JRNL.RD_STAT.END. -/
abbrev JRNL.RD_STAT.END : Fld := ⟨0x15003C, 2, 2⟩
/-- R655: JRNL.RD_STAT.BUSY. -/
abbrev JRNL.RD_STAT.BUSY : Fld := ⟨0x15003C, 1, 1⟩
/-- R655: JRNL.RD_STAT.VALID. -/
abbrev JRNL.RD_STAT.VALID : Fld := ⟨0x15003C, 0, 0⟩
/-- R656: JRNL.RD_DATA.DATA. -/
abbrev JRNL.RD_DATA.DATA (n : Nat) : Fld := ⟨0x150040 + 0x4 * n, 31, 0⟩

end Sys2Proof.Machine
end

