-- ==== Sys2Proof/Machine/Tab.lean ====
section
/-!
DEFINITION. Machine/Tab.lean: sparse tables, the one form in which State holds memories and indexed records.

A table is a list of (key, value) pairs. What an unlisted key reads as is a function `d` of the key. The canonical
form lists strictly rising keys and no value equal to what the unlisted key reads as, so equal tables are equal lists.
-/
namespace Sys2Proof.Machine

/-- The value at key `k`: the first listed one, else what an unlisted key reads as. -/
def tabGet {α : Type} (d : Nat → α) : List (Nat × α) → Nat → α
  | [], k => d k
  | (a, v) :: m, k => if a = k then v else tabGet d m k

/-- The table without key `k`. -/
def tabErase {α : Type} (k : Nat) : List (Nat × α) → List (Nat × α)
  | [] => []
  | (a, v) :: m => if a = k then tabErase k m else (a, v) :: tabErase k m

/-- The table with (k, v) placed before the first greater key; `k` is not listed before. -/
def tabInsert {α : Type} (k : Nat) (v : α) : List (Nat × α) → List (Nat × α)
  | [] => [(k, v)]
  | (a, w) :: m => if k < a then (k, v) :: (a, w) :: m else (a, w) :: tabInsert k v m

/-- Write `v` at key `k`, keeping the canonical form: a value equal to the unlisted reading is not listed. -/
def tabPut {α : Type} [DecidableEq α] (d : Nat → α) (m : List (Nat × α)) (k : Nat) (v : α) : List (Nat × α) :=
  if v = d k then tabErase k m else tabInsert k v (tabErase k m)

/-- Every key of the table is above `k`. -/
def tabAbove {α : Type} (k : Nat) (m : List (Nat × α)) : Bool := m.all fun e => decide (k < e.1)

/-- The canonical form: strictly rising keys, and no listed value equal to the unlisted reading. -/
def tabWf {α : Type} [DecidableEq α] (d : Nat → α) : List (Nat × α) → Bool
  | [] => true
  | (a, v) :: m => tabAbove a m && decide (v ≠ d a) && tabWf d m

end Sys2Proof.Machine
end

