-- ==== Sys2Proof/Machine/State.lean ====
section
/-!
DEFINITION. Machine/State.lean: everything the spec gives the machine to hold, as plain data, and the state after
power-on.

The registers stand in one table, one entry per register field (`regs`); what the spec gives the machine beside its
registers stands in one record per block. The queue of waiting commands is `pending`.
-/
namespace Sys2Proof.Machine

/-- Why a command stops with a fault. No command of this part does: every row of the table has an effect. -/
inductive Fault where
  /-- Raised by nothing: the spec names no condition in which the part itself stops. Safe. -/
  | none
deriving DecidableEq, Repr

/-- Why a command is refused. -/
inductive Refusal where
  /-- Raised by a command that has no meaning in the model yet. Safe: nothing can be proved of its effect. -/
  | notModelled (mnemonic : String)
deriving DecidableEq, Repr

/-- The completion of the last register access or command: its status code (R426) and the data it returned. -/
structure Completion where
  status : Nat := 0
  data : List Nat := []
deriving DecidableEq, Repr

/-- A periodic frame (R16-R20): its anchor, the index of its next nominal start, and the last start and end, in ns. -/
structure FrameX where
  fresh : Bool := true
  anchor : Nat := 0
  next : Nat := 0
  start : Nat := 0
  fin : Nat := 0
  /-- A frame has started since the engines did. -/
  ran : Bool := false
deriving DecidableEq, Repr

/-- What the error pair generator shows (R579). -/
inductive Pair where
  | fatal
  | healthy (high : Bool)
deriving DecidableEq, Repr

/-- The progress of the staged start (R44-R54) and the pins that follow it. -/
structure StartX where
  /-- Dawn has been entered since the last reset. -/
  dawn : Bool := false
  /-- The SYS and PWM PLLs are locked. -/
  pll : Bool := false
  /-- A lock attempt is running (R49). -/
  locking : Bool := false
  /-- Slots still to be checked, false for A and true for B, in the order of R80. -/
  cands : List Bool := []
  /-- A slot has failed in this Morning with a result other than 0x3 (R80). -/
  slotFail : Bool := false
  /-- Step 3 of R50 is done. -/
  applied : Bool := false
  /-- Steps 4 and 5 of R50 are done: E0-E7 run and E0 admits. -/
  running : Bool := false
  /-- The RC oscillator has been found absent in Dawn (R578). -/
  rcLost : Bool := false
  /-- The RC oscillator runs. -/
  rcRuns : Bool := false
  /-- A supply has crossed its threshold: t0 has passed (R38). -/
  t0 : Bool := false
  /-- The NVM clock runs (step 1 of R50). -/
  nvm : Bool := false
  /-- The 32.768 kHz oscillator runs, fed by VBKP or by the internal rail (R40). -/
  bkp : Bool := false
  /-- What the error pair generator shows (R579). -/
  pair : Pair := .fatal
  /-- PWM0-PWM15 are held high-impedance (R42, R574). -/
  pwmHiZ : Bool := true
deriving DecidableEq, Repr

/-- A journal record (R641). -/
structure JRec where
  typ : Nat
  flags : Nat
  ct : Nat
  unit : Nat
  rep : Nat
  sub : Nat
  event : Nat
  code : Nat
  vals : List Nat
  /-- The 1 ms repeat window of the record is open (R641). -/
  held : Bool
deriving DecidableEq, Repr

/-- What a stored record slot of a NAND page holds. -/
inductive JSlot where
  /-- Sixteen words of a stored record (R641). -/
  | record (seq : Nat) (words : List Nat)
  /-- A slot whose CRC fails or whose page is uncorrectable (R646). -/
  | torn
deriving DecidableEq, Repr

/-- What E7 is doing on the CS1 device. -/
inductive JOp where
  | idle
  | scan
  | program
  | erase
  | reinit
deriving DecidableEq, Repr

/-- The journal (R639-R650). -/
structure JrnlX where
  /-- The on-chip queue, oldest first (R643). -/
  queue : List JRec := []
  /-- Records were dropped since the last record queued (FLAGS.LOSS). -/
  loss : Bool := false
  /-- The page being filled, oldest first. -/
  page : List JRec := []
  /-- A program of the page has been asked for. -/
  flush : Bool := false
  /-- Records of the page whose program is in progress. -/
  prog : List JRec := []
  /-- The NAND device's pages: page number over the whole device, to the slots programmed there. -/
  nand : List (Nat × List JSlot) := []
  /-- Blocks known bad. -/
  bad : List Nat := []
  /-- The next page to write: block and page within it. -/
  blk : Nat := 8
  pg : Nat := 0
  op : JOp := .idle
  /-- Consecutive status failures (R648). -/
  fails : Nat := 0
  /-- The device answers and its geometry lies within R639. -/
  present : Bool := true
  /-- The backup domain's head record: block, page and next SEQ, when valid (R645). -/
  head : Option (Nat × Nat × Nat) := none
  /-- The read-out's start, while one runs (R646). -/
  reading : Option Nat := none
  /-- The block being erased. -/
  erasing : Nat := 0
  /-- The block under read-out was erased while the read ran (R649). -/
  overrun : Bool := false
deriving DecidableEq, Repr

/-- A Night-rate beacon (R331). -/
structure Beacon where
  btype : Nat
  src : Nat
  bseq : Nat
  data : List Nat
deriving DecidableEq, Repr

/-- The transmit queues of one port (R318). -/
structure PortQ where
  q0 : List Frame := []
  q1 : List Frame := []
  q2 : List Frame := []
  /-- Beacons waiting at Night rate. -/
  beacons : List Beacon := []
  /-- The last frame whose transmission began. -/
  last : Option Frame := none
  /-- Local times of the errors counted in the last 10 ms (R340). -/
  errs : List Nat := []
deriving DecidableEq, Repr

/-- A RACC access outstanding (R330). -/
structure Racc where
  tag : Nat
  write : Bool
  count : Nat
deriving DecidableEq, Repr

/-- The chain (R309-R332). -/
structure LnkX where
  up : PortQ := {}
  dn : PortQ := {}
  /-- The next SEQ of a frame this unit originates. -/
  seq : Nat := 0
  /-- The next BSEQ of a beacon this unit originates. -/
  bseq : Nat := 0
  /-- Per source, the last 64 SEQ values accepted, newest first (R317). -/
  seen : List (Nat × List Nat) := []
  /-- Per source, the BSEQ of the last beacon accepted. -/
  bseen : List (Nat × List Nat) := []
  /-- The last frame delivered to this unit. -/
  delivered : Option Frame := none
  /-- The head's enumeration runs, between its first ENUM and its ENUM_DONE (R324). -/
  enumRuns : Bool := false
  /-- The head's CHAIN_GEN of the present or last enumeration; 0 before the first since reset (R319). -/
  gen : Nat := 0
  /-- An ENUM waits for DN to train: its NEXT, CHAIN_GEN (R319). -/
  enumHeld : Option (Nat × Nat) := none
  /-- JOINED reports held until ENUM_DONE (R324). -/
  joined : List Nat := []
  /-- Broken hops: hop h joins unit h's DN to the next unit's UP; `old` are those from before the present enumeration. -/
  broken : List Nat := []
  old : List Nat := []
  /-- Hops under their repair hold (R326). -/
  holding : List Nat := []
  /-- An UP broadcast waits for the neighbour's address, per port (R326). -/
  upWait : List Nat := []
  racc : Option Racc := none
  tag : Nat := 0
deriving DecidableEq, Repr

/-- The two timebases and the servo (R346-R353). -/
structure TimeX where
  /-- The local timebase: ns since Morning entry. -/
  loc : Nat := 0
  /-- The internal or served CT in ns, 64 bits. -/
  ct : Nat := 0
  /-- The part of a nanosecond, in 10^-9, that the rate has still to add to CT. -/
  rem : Int := 0
  /-- The part of a 32.768 kHz cycle, in 10^-9, that RTC.SUB has still to count. -/
  bkp : Nat := 0
  /-- The servo's frequency term in ppb (R351). -/
  freq : Int := 0
  /-- Consecutive syncs within LOCK_THR and beyond UNLOCK_THR (R351). -/
  good : Nat := 0
  bad : Nat := 0
  /-- CT_TX of the last valid sync, and the head's measured interval in ns (R351). -/
  lastTx : Option Nat := none
  interval : Option Nat := none
  /-- Time in the present holdover, in ns. -/
  hold : Nat := 0
  /-- The head's next SYNC_SEQ (R350). -/
  syncSeq : Nat := 0
  /-- Per port, the last delay measurements, newest first, at most 8 (R349). -/
  hopUp : List Int := []
  hopDn : List Int := []
  /-- Per port, the DSEQ and T1 of the DELAY_REQ outstanding (R349). -/
  reqUp : Option (Nat × Nat) := none
  reqDn : Option (Nat × Nat) := none
  dseq : Nat := 0
deriving DecidableEq, Repr

/-- A load channel beside its registers (R101-R122). -/
structure ChanX where
  /-- Consecutive retries per cause, r_c (R120). -/
  rSc : Nat := 0
  rOc : Nat := 0
  rWire : Nat := 0
  rSoa : Nat := 0
  /-- Pending causes of a channel in WAIT. -/
  pSc : Bool := false
  pOc : Bool := false
  pWire : Bool := false
  pSoa : Bool := false
  /-- The latest ready time of the pending causes, on the local timebase (R120). -/
  ready : Nat := 0
  /-- The request outstanding is a retry (R121). -/
  retry : Bool := false
  /-- A Dawn short-circuit latch is held (R47). -/
  dawnLatch : Bool := false
  /-- The SOA accumulator in picojoule (R109). -/
  soa : Nat := 0
  /-- The energy of the present pre-charge in picojoule (R111). -/
  used : Nat := 0
  /-- The I2t accumulator in mA^2 ns (R116), and the local time of the last result. -/
  i2t : Nat := 0
  lastRes : Option Nat := none
  /-- The PWM period, duty and phase in use (R114). -/
  per : Nat := 0
  duty : Nat := 0
  phase : Nat := 0
  /-- ON is entered at the next PWM rising edge (R103). -/
  toOn : Bool := false
  /-- In SAFE, the gate holds its level at entry (R574). -/
  kept : Bool := false
deriving DecidableEq, Repr

/-- An itinerary entry beside its words and its ITIN_ST (R360-R367). -/
structure EntX where
  /-- The index of the next launch, its nominal instant and the instant it is placed at. -/
  k : Nat := 0
  nominal : Nat := 0
  placed : Nat := 0
  /-- What the entry asks of the ledger for its next launch, in mW; none where it needs no admission (R362). -/
  ask : Option Nat := none
  /-- The reservation the entry holds, in mW, and whether it holds one, which may be of 0 mW (R395). -/
  held : Nat := 0
  got : Bool := false
  /-- Prepared, waiting for a free slot (R354). -/
  waitSlot : Bool := false
  /-- Its tentative local convoy has been committed before admission (R385). -/
  commit : Bool := false
  /-- The next launch was moved by a step or at the first acquisition of CT: it has no lag (R364, R365). -/
  moved : Bool := false
  /-- A withdrawal came too late to prevent the launch (R361). -/
  gone : Bool := false
  /-- A member's entry has fired, or will not fire for the shed level, under the arm held (R372, R403). -/
  fired : Bool := false
  skip : Bool := false
deriving DecidableEq, Repr

/-- A launch slot in use: its target code, its entry and its launch CT (R354). -/
structure Slot where
  tgt : Nat
  entry : Nat
  ct : Nat
deriving DecidableEq, Repr

/-- A convoy as the head's coordinator or a member holds it (R368). -/
structure Cvy where
  conv : Nat
  armId : Nat := 0
  tent : Bool := false
  launch : Nat := 0
  members : Nat := 0
  acks : Nat := 0
  /-- 0 IDLE, 1 ARMING, 2 HELD, 3 COMMITTED, 4 LAUNCHED, 5 CANCELLED (R388). -/
  st : Nat := 0
  reason : Nat := 0
deriving DecidableEq, Repr

/-- Convoys: the head's, the member's and the local ones (R362, R368). -/
structure CvyX where
  head : List Cvy := []
  member : List Cvy := []
  loc : List Cvy := []
  nextArm : Nat := 1
deriving DecidableEq, Repr

/-- What a ledger request is for. -/
inductive ReqKind where
  | chan (n : Nat) (retry : Bool)
  | loopOn (n : Nat)
  | loopRaise (n code : Nat)
  | regOn (r : Nat)
  | regRaise (r code : Nat)
  | charge (ma : Nat) (start : Bool)
  | support
  | port (n : Nat) (level : Nat)
  | entries (is : List Nat)
  | member (c : Nat)
deriving DecidableEq, Repr

/-- A request before E0: what it is for, its amount, its arrival on the local timebase and, while it waits for the head,
what it holds by consumer, the LEDG_RESV outstanding for it by feed, and the answer to act on (R399, R400). -/
structure Req where
  kind : ReqKind
  mw : Nat
  arrival : Nat
  wait : Bool := false
  held : List (Nat × Nat) := []
  out : List (Nat × Nat) := []
  answer : Option Nat := none
deriving DecidableEq, Repr

/-- A source entry of the ledger section (R398). -/
structure SrcE where
  kind : Nat
  valid : Bool
  chain : Bool
  feed : Nat
  limit : Nat
  solo : Nat
deriving DecidableEq, Repr

/-- A consumer entry of the ledger section (R398). -/
structure ConsE where
  typ : Nat
  inst : Nat
  src : Nat
  cls : Nat
  resv : Nat
  vnom : Nat
  parent : Nat
  keep : Nat
  eff : Nat
deriving DecidableEq, Repr

/-- A feed entry of the ledger section (R398). -/
structure FeedE where
  feed : Nat
  total : Nat
  base : List Nat
deriving DecidableEq, Repr

/-- A common feed beside its registers (R400-R406). -/
structure FeedX where
  /-- The unit's base share, learnt from its first share (R406). -/
  base : Option Int := none
  /-- REQ_ID and amount of the LEDG_RESV outstanding, and whether it is a release. -/
  out : Option (Nat × Nat × Bool) := none
  /-- REQ_IDs no longer outstanding: a late grant is still added. -/
  late : List Nat := []
  /-- Since when room has stayed at or above QUANT while there is BORROW (R401). -/
  since : Option Nat := none
deriving DecidableEq, Repr

/-- A LEDG_RESV that has reached the head, and when (R405). -/
structure ResvIn where
  src : Nat
  release : Bool
  feed : Nat
  reqId : Nat
  mw : Int
  arrival : Nat
deriving DecidableEq, Repr

/-- A target without a consumer entry that counts in the ledger: its target index, state and draw (R395). -/
structure Unlisted where
  tgt : Nat
  st : Nat
  draw : Nat
deriving DecidableEq, Repr

/-- The ledger (R391-R408). -/
structure LedgX where
  srcs : List SrcE := []
  cons : List ConsE := []
  feedsE : List FeedE := []
  reqs : List Req := []
  unlisted : List Unlisted := []
  /-- Per source, consecutive frames that ended overdrawn (R402). -/
  overs : List (Nat × Nat) := []
  feeds : List (Nat × FeedX) := []
  /-- The head's requests received and not yet decided (R405). -/
  resvIn : List ResvIn := []
  /-- The head's SHARE_GEN per feed and unit: key 32 * f + u (R405). -/
  gens : List (Nat × Nat) := []
  /-- Units whose resynchronisation runs on the head: key 32 * f + u (R407). -/
  resync : List Nat := []
  /-- Units that have entered the head's REACH since its reset, and whether none has (R407). -/
  met : List Nat := []
  fresh : Bool := true
  /-- The frame count, and the next REQ_ID. -/
  frame : Nat := 0
  nextReq : Nat := 1
  /-- Reservations released and not yet taken off: target index and amount (R361, R409). -/
  rel : List (Nat × Nat) := []
  /-- The support claim held on the pack source, in mW (R499). -/
  sup : Nat := 0
  /-- A shed level has been set and not yet applied (R403). -/
  lvl : Bool := false
  /-- Per target index, the sum and number of the power figures measured since the last frame (R393). -/
  meas : List (Nat × (Nat × Nat)) := []
deriving DecidableEq, Repr

/-- A step of a sequence (R282). -/
structure Step where
  op : Nat
  tgt : Nat
  arg : Nat
  tmo : Nat
  mon : Nat
  sflags : Nat
deriving DecidableEq, Repr

/-- A sequence header (R282). -/
structure SeqH where
  first : Nat := 0
  count : Nat := 0
  trig : Nat := 0
  flags : Nat := 0
  failSeq : Nat := 0xFF
deriving DecidableEq, Repr

/-- A sequence beside its registers (R276-R285). -/
structure SeqX where
  /-- T_base (R278), in served ns. -/
  base : Nat := 0
  /-- The starts of the run and of the present step, on the local timebase. -/
  began : Nat := 0
  stepAt : Nat := 0
  /-- The present step's command has been issued. -/
  issued : Bool := false
  /-- The sequence was started by its SUPPLY_LOW trigger (R285). -/
  powerFail : Bool := false
deriving DecidableEq, Repr

/-- Sequences and SEQ_FLT (R276-R292). -/
structure SeqsX where
  heads : List SeqH := []
  steps : List Step := []
  seqs : List (Nat × SeqX) := []
  /-- Monitors in discharge mode are shown by MON.STAT.MODE; those whose condition persists stand here. -/
  cond : List Nat := []
  /-- A low drive of SEQ_FLT may not lift before its least time has ended (R291). -/
  minHold : Bool := false
  /-- The 64-entry sequencing record queue, oldest first (R293). -/
  recs : List JRec := []
deriving DecidableEq, Repr

/-- The collector's own state (R570-R584). -/
structure FltX where
  /-- Sources whose report pair is broken. -/
  pairs : List Nat := []
  /-- SEV words whose check bits an injection has inverted (R583). -/
  sevInj : List Nat := []
  /-- Requester ports whose next coach completes DATA_ERR (R583). -/
  fabInj : List Nat := []
  /-- Heartbeats are suppressed (R583). -/
  hbInj : Bool := false
  /-- A collector reset is armed by FATAL_ACT (R575). -/
  rstArmed : Bool := false
deriving DecidableEq, Repr

/-- Evening, Night and waking (R597-R605). -/
structure PwrX where
  /-- The switch CT of a Night entry that is awaited. -/
  rate : Option Nat := none
  /-- A wake cause raised before that switch, with its unit (R606). -/
  heldCause : Option (Nat × Nat) := none
  /-- A wake is in progress. -/
  waking : Bool := false
  /-- The shed levels at the entry to Evening and to Night. -/
  eveLevel : Nat := 0
  nightLevel : Nat := 0
  /-- Per unit, the STAGE of its latest FAULT_SUM (R598); unlisted 2, for Noon or none received. -/
  stages : List (Nat × Nat) := []
  /-- RTC.DATE as staged by a write, until the next write of RTC.TIME (R610). -/
  staged : Option Nat := none
  /-- The unit is in Storage (R506). -/
  storage : Bool := false
deriving DecidableEq, Repr

/-- The wire model of one channel (R151-R153): Tc, Ti and I^2 as binary32 patterns, the current results in milliampere
since the last frame took its inputs, the local time of the last of them, and when HOLD was set. -/
structure WireX where
  tc : Nat := 0
  ti : Nat := 0
  i2 : Nat := 0
  res : List Nat := []
  since : Nat := 0
  holdAt : Nat := 0
deriving DecidableEq, Repr

/-- A valid wire-type entry (R155): binary32 patterns, and T_LIM in 1/16 degrees Celsius. -/
structure WType where
  res20 : Nat
  alpha : Nat
  rthCi : Nat
  rthIa : Nat
  cthC : Nat
  cthI : Nat
  tLim : Int
deriving DecidableEq, Repr

/-- An ambient source (R159): is it faulty, and the last measured Ta as a binary32 pattern. -/
structure AmbX where
  faulty : Bool := false
  ta : Nat := 0
deriving DecidableEq, Repr

/-- The wire models (R151-R167). -/
structure WireS where
  /-- The valid entries of the wire-type table, by index. -/
  types : List (Nat × WType) := []
  chans : List (Nat × WireX) := []
  ambs : List (Nat × AmbX) := []
  /-- The last die temperature in 1/16 degrees Celsius, and its local time. -/
  die : Option (Int × Nat) := none
  /-- The retention record: the backup-domain count when it was written and each channel's two excesses in 1/16 K. -/
  record : Option (Nat × List (Int × Int)) := none
deriving DecidableEq, Repr

/-- A converter sequence beside its registers (R447-R454). -/
structure AdcSeqX where
  /-- The sum and saturation of each entry in the present accumulation. -/
  sums : List (Int × Bool) := []
  /-- Results whose publication is due. -/
  ready : Option (List (Int × Bool)) := none
  /-- The pending start is a chained one. -/
  chained : Bool := false
  /-- EN was cleared while it ran: it ends at the next conversion boundary (R468). -/
  stop : Bool := false
deriving DecidableEq, Repr

/-- The converters beside their registers (R444-R456). -/
structure AdcX where
  seqs : List (Nat × AdcSeqX) := []
  /-- Local time of the last publication of each result index. -/
  resAt : List (Nat × Option Nat) := []
  /-- Source events of each common trigger since its last firing. -/
  trg : List (Nat × Nat) := []
  /-- Converters that calibrate. -/
  cal : List Nat := []
  /-- The last mean result of each input that is a voltage (R445): its value in 1/8192 microvolt and its local time. -/
  last : List (Nat × Option (Int × Nat)) := []
deriving DecidableEq, Repr

/-- The comparators beside their registers (R457-R466). -/
structure CmpX where
  /-- General comparators with an event since the last tick. -/
  active : List Nat := []
  /-- Sampled comparators whose reference level is set. -/
  ref : List Nat := []
  /-- The mode each general comparator runs in, as its last write took effect (R459). -/
  mode : List (Nat × Nat) := []
  /-- Comparators whose last swap check mismatched without a recent result (R464). -/
  miss : List Nat := []
  /-- DACs whose last read-back differed (R466). -/
  dacMiss : List Nat := []
deriving DecidableEq, Repr

/-- A coach outstanding in the fabric (R425, R428, R432). -/
structure Coach where
  tag : Nat
  rq : Nat
  kind : CoachKind
  addr : Nat
  data : Nat
  tgt : Nat
  port : Nat
deriving DecidableEq, Repr

/-- The request fabric (R422-R434): the coaches outstanding, oldest first, and the requests stalled for a tag: the
requester port, the kind, the address and the data of each. -/
structure FabX where
  coaches : List Coach := []
  stalled : List (Nat × CoachKind × Nat × Nat) := []
deriving DecidableEq, Repr

/-- An announcement of a load step (R226-R231): its apply instant in served ns, the samples since it was applied, and the
ramp of a cancel: the value it began at and the samples since. -/
structure Ann where
  id : Nat
  di : Int
  arrival : Nat
  apply : Nat
  applied : Bool := false
  s : Nat := 0
  cancel : Option (Int × Nat) := none
deriving DecidableEq, Repr

/-- A set of compensator coefficients (R191). -/
structure Coef where
  kp : Int
  ki : Int
  kd : Int
  a1 : Int
  a2 : Int
deriving DecidableEq, Repr

/-- A loop beside its registers (R184-R238). Voltages are in microvolt. -/
structure LoopX where
  vref : Nat := 0
  /-- The compensator: integrator, poles, the last error and duties (R188). -/
  i : Int := 0
  y1 : Int := 0
  y2 : Int := 0
  ePrev : Int := 0
  dPrev : Int := 0
  anns : List Ann := []
  /-- Samples since braking was entered, whether the last sample met its entry condition, and until when entry is
  barred (R234, R235). -/
  brakeN : Nat := 0
  brakeHit : Bool := false
  brakeBar : Nat := 0
  /-- The consecutive hiccup count r, and when HICCUP was entered (R237). -/
  r : Nat := 0
  hiccupAt : Nat := 0
  /-- The last sample was one of a slew in progress (R222). -/
  slewing : Bool := false
  /-- Consecutive samples inside LL.REG_WIN (R205). -/
  inWin : Nat := 0
  /-- Window ends at which the drop condition has held since the last change of n (R195). -/
  dwell : Nat := 0
  /-- The fallback VIN is in use (R189). -/
  vinFb : Bool := false
  /-- The voltage sensed by the last check, and whether VREF has exceeded it, so that phases switch (R198). -/
  sensed : Nat := 0
  enabled : Bool := false
  /-- Samples and sums of VOUT and VIN in microvolt and of I_tot in mA since MEAS was last updated (R218, R219). -/
  nAcc : Nat := 0
  sumV : Int := 0
  sumVin : Nat := 0
  sumI : Int := 0
deriving DecidableEq, Repr

/-- A phase beside its registers (R185, R193, R194). Its on-time and its period's start are in fine steps. -/
structure PhaseX where
  trim : Int := 0
  /-- Sum and count of the IMON samples of this period, in 1/16 mA. -/
  sum : Int := 0
  cnt : Nat := 0
  /-- Negative IMON codes in a row (R197). -/
  neg : Nat := 0
  ton : Nat := 0
  begin : Nat := 0
  /-- The phase was limited in this period (R236). -/
  limited : Bool := false
  /-- Diode emulation holds the phase high-impedance until its next rising edge (R197). -/
  hiZ : Bool := false
deriving DecidableEq, Repr

/-- The loops and their phases, and the image's coefficient sets in order (R191). -/
structure LoopsX where
  loops : List (Nat × LoopX) := []
  phases : List (Nat × PhaseX) := []
  coefs : List Coef := []
deriving DecidableEq, Repr

/-- An integrated regulator beside its registers (R258-R265). -/
structure RegX where
  /-- Where the reference stood, in half microvolt, when its present move began, and the local time of that. -/
  refFrom : Nat := 0
  slewAt : Nat := 0
  /-- The consecutive hiccup count r, and when HICCUP was entered. -/
  r : Nat := 0
  hiccupAt : Nat := 0
  /-- The high-side switch is off for overvoltage. -/
  ov : Bool := false
deriving DecidableEq, Repr

/-- The charger beside its registers (R485-R506). -/
structure ChgX where
  /-- I_T in mA (R492). -/
  it : Nat := 0
  /-- The safety timer in half seconds (R495). -/
  timer : Nat := 0
  /-- An overvoltage trip is not yet resolved (R496). -/
  ovp : Bool := false
  /-- The identity learnt at the first acceptance since reset (R497). -/
  learned : Option Nat := none
  /-- A pack is accepted. -/
  accepted : Bool := false
  /-- SUSPEND was entered, or stays, for the pack temperature. -/
  tempOut : Bool := false
  /-- Local times of the support trigger and of the last end of support (R500). -/
  supAt : Nat := 0
  supEnd : Option Nat := none
  /-- v_ref of the MPPT in 1/3100 mV, the open-circuit voltage in mV, the last power, the direction and the local time of
  PMPP (R501). -/
  vref : Nat := 0
  voc : Nat := 0
  pPrev : Nat := 0
  up : Bool := false
  pmppAt : Option Nat := none
  sweeping : Bool := false
  /-- The ideal diode conducts (R503). -/
  diode : Bool := false
  /-- Local time of the last confirmed removal. -/
  goneAt : Nat := 0
deriving DecidableEq, Repr

/-- A valid capacity section (R526): design capacity, axes, the F table row by row and the OCV table. -/
structure GTab where
  design : Nat
  tAxis : List Int
  rAxis : List Nat
  f : List Nat
  ocv : List Nat
deriving DecidableEq, Repr

/-- A learned record (R532). -/
structure GRec where
  seq : Nat
  id : Nat
  desc : Nat
  design : Nat
  qmax : Nat
  cycles : Nat
  ct : Nat
deriving DecidableEq, Repr

/-- The gauge beside its registers (R520-R536). Figures of the frame are binary32 patterns: SoC and UNC in percent and
Q_max in mAh. -/
structure GaugeX where
  tab : Option GTab := none
  /-- ACC in µA s, and ACC at the previous frame. -/
  acc : Int := 0
  accPrev : Int := 0
  /-- What is left of the division by the shunt, carried to the next millisecond, in nV ms (R521). -/
  accRem : Int := 0
  soc : Nat := 0
  unc : Nat := 0
  qmax : Nat := 0
  /-- The local start and the discharge in µA s of each frame interval of the last 10 s, newest first (R525). -/
  hist : List (Nat × Nat) := []
  /-- Since when |I| has stayed below REST_MA, and the charger in a state of R528. -/
  quiet : Option Nat := none
  idle : Option Nat := none
  /-- The present rest has had its first frame in the temperature window. -/
  restUsed : Bool := false
  /-- The first thawed frame counts as a rest (R535). -/
  restNow : Bool := false
  /-- A termination, and a full reference, have arisen since the last frame (R527). -/
  term : Bool := false
  full : Bool := false
  /-- The learning point: SoC, UNC and ACC (R531). -/
  point : Option (Nat × Nat × Int) := none
  /-- Discharge counted towards CYCLES in µA s (R531). -/
  dis : Nat := 0
  /-- Local time of the last request (R530). -/
  reqAt : Option Nat := none
  /-- A request's entry has been enabled and its launch not yet judged. -/
  reqOut : Bool := false
  /-- The record slots on CS1, a write in progress (its slot and record) and its failed tries (R532, R533). -/
  slot0 : Option GRec := none
  slot1 : Option GRec := none
  writing : Option (Nat × GRec) := none
  tries : Nat := 0
  /-- The last temperature in range, in 1/16 degrees Celsius. -/
  temp : Int := 0
  /-- The retention record: SoC, UNC, identity, |I| in mA and the real-time clock in seconds (R534). -/
  kept : Option (Nat × Nat × Nat × Nat × Nat) := none
deriving DecidableEq, Repr

/-- A USB PD message that a port sends. -/
inductive PdMsg where
  | accept
  | reject
  | notSupported
  | sourceCaps (pdos : List Nat)
  | request (rdo : Nat)
  | hardReset
  | prSwap
  | discoverIdentity
  | exitMode
deriving DecidableEq, Repr

/-- A cabin port beside its registers (R543-R559). -/
structure PdX where
  /-- The reservation the port holds, in mW. -/
  resv : Nat := 0
  /-- What is asked of E0: 0 nothing, 1 the level of RP_DEF, 2 the Default level, 3 a Request, 4 a swap toward source. -/
  ask : Nat := 0
  /-- The Request that awaits admission: V in 20 mV, I in 50 mA, PPS, R in mW. -/
  req : Option (Nat × Nat × Bool × Nat) := none
  /-- The partner is attached as a sink (`false`) or as a source (`true`). -/
  partner : Option Bool := none
  /-- The sink attach showed Ra. -/
  ra : Bool := false
  /-- The Rp level in mA that a source partner advertises. -/
  rpMa : Nat := 0
  /-- The reduced capabilities are on offer (R548). -/
  reduced : Bool := false
  /-- The SOP' Discover Identity messages sent (R551). -/
  tries : Nat := 0
  /-- Local times of the guard trips of the last 10 s (R553). -/
  trips : List Nat := []
  /-- A PR_Swap under way: toward source, and begun by this port. -/
  swap : Option (Bool × Bool) := none
  /-- The contract that PD1 as sink has asked for: V in 20 mV, I in 50 mA and its power in mW. -/
  want : Option (Nat × Nat × Nat) := none
  /-- The figure for source kind 0x05 (R552), and the sink switch. -/
  sinkMw : Nat := 0
  sinkOn : Bool := false
  /-- The last message the port sent. -/
  sent : Option PdMsg := none
deriving DecidableEq, Repr

/-- An update command in progress (R87): its code, its byte offset in the target slot and the data to program. -/
structure Upd where
  cmd : Nat
  offset : Nat
  data : List Nat
deriving DecidableEq, Repr

/-- The KLR image and its update (R69-R96) beside the registers. -/
structure ImgX where
  /-- EXP_ADDR of the applied image (R74); 0xFF any. -/
  expAddr : Nat := 0xFF
  /-- The update command in progress. -/
  upd : Option Upd := none
deriving DecidableEq, Repr

/-- The Dawn fuses (R45, R630): 128 words, unlisted 0. -/
structure OtpX where
  /-- As programmed. -/
  fuses : List (Nat × Nat) := []
  /-- As read and checked at the last Dawn entry; the user fields are 0 where the CRC failed (R48). -/
  used : List (Nat × Nat) := []
  /-- The word offset and bits being programmed. -/
  busy : Option (Nat × Nat) := none
deriving DecidableEq, Repr

/-- The read phase of a transaction on the two-wire bus (R623, R624): the data bytes it will return. -/
structure BusX where
  reply : List Nat := []
deriving DecidableEq, Repr

/-- Everything the spec gives the machine to hold. -/
structure State where
  /-- The commands that are waiting, first in, first out. -/
  pending : List Instr := []
  /-- The register fields that differ from their reset values: key `32 * address + lowest bit`, value. -/
  regs : List (Nat × Nat) := []
  /-- Snapshots of HI registers: key `2^24 * requester port + address`, value (R660). -/
  snap : List (Nat × Nat) := []
  /-- The completion of the last access or command (R426). -/
  comp : Completion := {}
  /-- The model's own counter of free values drawn; the spec gives no such field. -/
  free : Nat := 0
  start : StartX := {}
  time : TimeX := {}
  /-- The periodic frames by number (R16). -/
  frames : List (Nat × FrameX) := []
  /-- The load channels by number (R97). -/
  chx : List (Nat × ChanX) := []
  /-- The itinerary entries by number (R354). -/
  itx : List (Nat × EntX) := []
  /-- The launch slots in use (R354). -/
  slots : List Slot := []
  cvy : CvyX := {}
  ldg : LedgX := {}
  sqs : SeqsX := {}
  lnk : LnkX := {}
  flt : FltX := {}
  jrn : JrnlX := {}
  pwr : PwrX := {}
  wire : WireS := {}
  adc : AdcX := {}
  cmp : CmpX := {}
  fab : FabX := {}
  lps : LoopsX := {}
  /-- The integrated regulators by index (R256). -/
  rgs : List (Nat × RegX) := []
  chg : ChgX := {}
  gau : GaugeX := {}
  /-- The cabin ports by number (R543). -/
  pds : List (Nat × PdX) := []
  img : ImgX := {}
  otp : OtpX := {}
  bus : BusX := {}
  /-- The CS0 flash, both slots (R69, R72): unlisted bytes read as erased, 0xFF. -/
  flash : List Host.Cell := []
deriving DecidableEq, Repr

/-- The machine at power-on: no supply present, Dawn not yet entered, every register at its Reset column. -/
def State.reset : State := {}

end Sys2Proof.Machine
end

