-- ==== Sys2Proof/Machine/Ops.lean ====
section
/-!
DEFINITION. Machine/Ops.lean: the named operations over State: register fields, flags and counters, free values, time.
-/
namespace Sys2Proof.Machine

/-- Where a field stands in the register table. -/
def fkey (f : Fld) : Nat := f.addr * 32 + f.lo

/-- The width of a field in bits. -/
def fwidth (f : Fld) : Nat := f.hi + 1 - f.lo

/-- The default severity of a fault source (R568). -/
def sevDefault (i : Nat) : Nat :=
  if i < 0x100 then 1 else if i < 0x140 then 2 else if i < 0x180 then 1 else if i < 0x1E0 then 2
  else if i < 0x1F0 then 0
  else if i < 0x20C then [1, 2, 2, 1, 1, 2, 2].getD ((i - 0x1F0) % 7) 0
  else if i < 0x22C then [1, 2, 2, 2].getD ((i - 0x20C) % 4) 0
  else if i < 0x234 then [2, 1, 2, 2].getD ((i - 0x22C) % 4) 0
  else [2, 2, 2, 2, 2, 1, 2, 1, 1, 1, 1, 1, 1, 1, 3, 3, 3, 3, 1, 1, 1, 1, 1, 3, 3, 2, 2, 1, 1,
        2, 2, 1, 2, 1, 2, 2, 2, 2, 2, 2, 1, 2, 2, 2, 2, 1, 2, 1, 2, 1, 1, 2, 1, 1, 1, 2, 1, 2, 1, 2,
        2, 1, 1, 2, 2, 2, 2, 2, 2, 2, 1, 2, 1, 2, 2, 3].getD (i - 0x234) 0

/-- The row that holds the register at an address, if the address is a register (R658). -/
def specAt (a : Nat) : Option RegSpec :=
  if a % 4 = 0 then (regBlock (a / 65536)).find? fun r => regCovers r a else none

/-- What an unlisted key of the register table reads as: the field's reset value. -/
def fieldReset (key : Nat) : Nat :=
  let a := key / 32
  let lo := key % 32
  if 0x120100 ≤ a ∧ a < 0x1201A0 then sevDefault ((a - 0x120100) / 4 * 16 + lo / 2)
  else match specAt a with
    | some r => match r.flds.find? fun f => f.lo == lo with
      | some f => f.rst
      | none => 0
    | none => 0

/-- The value a register field holds, within its width. -/
def fget (s : State) (f : Fld) : Nat := tabGet fieldReset s.regs (fkey f) % 2 ^ fwidth f

/-- The register field set to `v`, cut to the field's width. -/
def fset (s : State) (f : Fld) (v : Nat) : State :=
  { s with regs := tabPut fieldReset s.regs (fkey f) (v % 2 ^ fwidth f) }

/-- Is any bit of the field 1? -/
def fon (s : State) (f : Fld) : Bool := fget s f != 0

/-- A one-bit field set to a truth value. -/
def fsetB (s : State) (f : Fld) (b : Bool) : State := fset s f (b2n b)

/-- A counter field one higher, holding at its greatest value. -/
def finc (s : State) (f : Fld) : State :=
  if fget s f + 1 < 2 ^ fwidth f then fset s f (fget s f + 1) else s

/-- The field set to `v` where `v` is greater than what it holds. -/
def fmax (s : State) (f : Fld) (v : Nat) : State := if fget s f < v then fset s f v else s

/-- A signed field read. -/
def fgetI (s : State) (f : Fld) : Int := toSigned (fwidth f) (fget s f)

/-- A signed field written, in two's complement. -/
def fsetI (s : State) (f : Fld) (v : Int) : State := fset s f (ofSigned (fwidth f) v)

/-- A pair of 32-bit fields set to the low and high halves of a 64-bit value. -/
def fset64 (s : State) (lo hi : Fld) (v : Nat) : State := fset (fset s lo (v % 2 ^ 32)) hi (v / 2 ^ 32 % 2 ^ 32)

/-- A 64-bit value read from its two halves. -/
def fget64 (s : State) (lo hi : Fld) : Nat := fget s lo + 2 ^ 32 * fget s hi

/-- The completion of a command: its status code (R426). -/
def complete (s : State) (status : Nat) : State := { s with comp := ⟨status, []⟩ }

/-- The completion of a command that returns data. -/
def completeWith (s : State) (status : Nat) (data : List Nat) : State := { s with comp := ⟨status, data⟩ }

/-- R426: carried out. -/
def stOk : Nat := 0
/-- R426: legal in itself but not in the present state. -/
def stIllegal : Nat := 1
/-- R426: overridden in its SYS cycle. -/
def stPreempted : Nat := 2
/-- R426: the target was reset while the coach was outstanding. -/
def stLost : Nat := 3
/-- R426: the target was down when the coach arrived. -/
def stDown : Nat := 4
/-- R426: the address is not a register. -/
def stNoReg : Nat := 5
/-- R426: no REG_RSP within RSP_TMO. -/
def stChainTimeout : Nat := 6
/-- R426: a check error inside the fabric. -/
def stDataErr : Nat := 7

/-- R14: engine `e` is halted. -/
def halted (s : State) (e : Nat) : Bool := fget s (ENG.STAT.STATE e) == 2

/-- R14: what engine `e` does of its own accord in its service; a halted engine no longer provides it (assumption 281). -/
def byEngine (s : State) (e : Nat) (t : State) : State := if halted s e then s else t

/-- A free number of the spec, below `n`, and the state that has drawn it. -/
def drawNat (s : State) (n : Nat) : Nat × State := (Config.freeNat s.free % n, { s with free := s.free + 1 })

/-- A free yes or no of the spec, and the state that has drawn it. -/
def drawBool (s : State) : Bool × State := (Config.freeBool s.free, { s with free := s.free + 1 })

/-- R347: is a CT served to users? States LOCKED, HOLDOVER, MASTER and RELOCK. -/
def hasCT (s : State) : Bool := decide (2 ≤ fget s TIME.STAT.STATE)

/-- R347: the time served to every user: CT, or the local timebase of a unit without CT. -/
def served (s : State) : Nat := if hasCT s then s.time.ct else s.time.loc

/-- The local timebase (R347), by which the model measures every duration the part waits. -/
def localNs (s : State) : Nat := s.time.loc

/-- TOP.STAGE.STAGE: 0 Dawn, 1 Morning, 2 Noon, 3 Evening, 4 Night (R63). -/
def stage (s : State) : Nat := fget s TOP.STAGE.STAGE

/-- R590, R588: the safe state is held. -/
def safe (s : State) : Bool := fon s FLT.STAT.SAFE

/-- R84: the SEAL fields are sealed. -/
def sealedNow (s : State) : Bool := fon s CFG.STATUS.SEALED

/-- R334: the unit's chain address is valid. -/
def addressed (s : State) : Bool := fon s LNK.STAT.ADDR_VALID

/-- R334: the unit's chain address. -/
def myAddr (s : State) : Nat := fget s LNK.STAT.ADDR

/-- The register word at an address, assembled from its fields. -/
def regWord (s : State) (a : Nat) : Nat :=
  match specAt a with
  | some r => r.flds.foldl (fun v f => v + tabGet fieldReset s.regs (a * 32 + f.lo) % 2 ^ (f.hi + 1 - f.lo) * 2 ^ f.lo) 0
  | none => 0

/-- What the part holds of channel `n` beside its registers. -/
def chan (s : State) (n : Nat) : ChanX := tabGet (fun _ => {}) s.chx n

/-- What the part holds of channel `n` beside its registers, replaced. -/
def setChan (s : State) (n : Nat) (c : ChanX) : State := { s with chx := tabPut (fun _ => {}) s.chx n c }

/-- What the part holds of itinerary entry `i` beside its registers. -/
def ent (s : State) (i : Nat) : EntX := tabGet (fun _ => {}) s.itx i

/-- What the part holds of itinerary entry `i` beside its registers, replaced. -/
def setEnt (s : State) (i : Nat) (e : EntX) : State := { s with itx := tabPut (fun _ => {}) s.itx i e }

/-- R64: the unit is the head of its chain, as its strap was sampled at Dawn entry. -/
def isHead (s : State) : Bool := fon s TOP.STATUS.HEAD

end Sys2Proof.Machine
end

