-- ==== Sys2Proof/Machine/Send.lean ====
section
/-!
DEFINITION. Machine/Send.lean: the frame types of the chain and the transmit queues of the two ports (R312-R318).
-/
namespace Sys2Proof.Machine

/-- R314: the class of a frame type. -/
def frameClass (t : Nat) : Nat :=
  if t = 0x10 ∨ t = 0x11 ∨ t = 0x12 ∨ t = 0x60 then 2 else if 0x30 ≤ t ∧ t ≤ 0x43 then 1 else 0

/-- R314: the types that an intact ring carries by both routes. -/
def frameDual (t : Nat) : Bool :=
  t == 0x05 || t == 0x06 || decide (0x30 ≤ t ∧ t ≤ 0x33) || decide (0x40 ≤ t ∧ t ≤ 0x43) || t == 0x50 || t == 0x58

/-- R318: how many frames of a class one port's queue holds. -/
def queueCap (c : Nat) : Nat := if c = 0 then 8 else if c = 1 then 16 else 32

/-- The transmit queues of port `p`: 0 UP, 1 DN. -/
def portQ (s : State) (p : Nat) : PortQ := if p = 0 then s.lnk.up else s.lnk.dn

/-- The transmit queues of port `p` replaced. -/
def setPortQ (s : State) (p : Nat) (q : PortQ) : State :=
  if p = 0 then { s with lnk := { s.lnk with up := q } } else { s with lnk := { s.lnk with dn := q } }

/-- The queue of class `c`. -/
def classQ (q : PortQ) (c : Nat) : List Frame := if c = 0 then q.q0 else if c = 1 then q.q1 else q.q2

/-- The queue of class `c` replaced. -/
def setClassQ (q : PortQ) (c : Nat) (l : List Frame) : PortQ :=
  if c = 0 then { q with q0 := l } else if c = 1 then { q with q1 := l } else { q with q2 := l }

/-- R317, R325: the chain is a ring, broken or not. -/
def isRing (s : State) : Bool := decide (2 ≤ fget s LNK.STAT.TOPO)

/-- R317, R307: the hop at port `p` of the unit with address `a`: hop h joins unit h's DN to the next unit's UP, and the
closing hop of a ring joins the tail's DN to the head's UP. -/
def hopOf (s : State) (a p : Nat) : Option Nat :=
  if p = 1 then some a else if 0 < a then some (a - 1) else if isRing s then some (fget s LNK.STAT.N - 1) else none

/-- R326: a broken hop of a line carries no routed traffic until its repair has taken effect, save what rejoining and
enumeration need (assumption 51). -/
def heldOff (s : State) (p : Nat) (f : Frame) : Bool :=
  !f.hop && addressed s && !isRing s && !(f.typ == 2 || f.typ == 3 || f.typ == 4) &&
    (match hopOf s (myAddr s) p with
      | some h => s.lnk.broken.contains h
      | none => false)

/-- R318: one frame into its class queue of port `p`; a full queue drops it, counted in QDROP. The flag says that a
frame was dropped. A port that is not at full rate takes no frame (assumption 10). -/
def pushPort (s : State) (p : Nat) (f : Frame) : State × Bool :=
  if fget s (LNK.PORT.STAT.STATE p) ≠ 2 || heldOff s p f then (s, false) else
  let c := frameClass f.typ
  let q := portQ s p
  if (classQ q c).length < queueCap c then (setPortQ s p (setClassQ q c (classQ q c ++ [f])), false)
  else (finc s (if c = 0 then LNK.QDROP.C0 else if c = 1 then LNK.QDROP.C1 else LNK.QDROP.C2), true)

/-- R317: the port to unit `d`: the route in use where `d` is reachable, else the primary one. -/
def routePort (s : State) (d : Nat) : Nat :=
  if fon s (LNK.REACH d) then (if fon s (LNK.ROUTE d) then 0 else 1) else if d < myAddr s then 0 else 1

/-- R317: the chain is an intact ring and dual types go by both routes. -/
def dualNow (s : State) : Bool := fget s LNK.STAT.TOPO == 2 && fon s LNK.CFG.DUAL_EN

/-- A frame that this unit originates, before its SRC and SEQ are put in. -/
structure Out where
  typ : Nat
  bc : Bool := false
  dst : Nat := 0
  /-- A neighbour-only frame, and its port. -/
  hop : Option Nat := none
  /-- Sent before this unit has an address (R316, R319 step 3), with SRC 0, out of the port given. -/
  noaddr : Option Nat := none
  pay : List Nat
deriving DecidableEq, Repr

/-- The ports a frame leaves by, each with its PATH bit (R317). -/
def outPorts (s : State) (o : Out) : List (Nat × Bool) :=
  match o.noaddr, o.hop with
  | some p, _ => [(p, false)]
  | none, some p => [(p, false)]
  | none, none =>
    if o.bc then [(0, false), (1, false)]
    else if o.dst = myAddr s then []
    else
      let r := routePort s o.dst
      if frameDual o.typ && dualNow s then [(r, false), (1 - r, true)] else [(r, false)]

/-- The frame with this unit's SRC and SEQ (R312). -/
def outFrame (s : State) (o : Out) : Frame :=
  { typ := o.typ, bc := o.bc, dst := o.dst, noaddr := o.noaddr.isSome, src := if o.noaddr.isSome then 0 else myAddr s,
    ttl := 32, seq := s.lnk.seq, hop := o.hop.isSome, path := false, pay := o.pay }

/-- A frame pushed onto each of its ports. -/
def pushAll (s : State) (f : Frame) : List (Nat × Bool) → State × Bool
  | [] => (s, false)
  | (p, b) :: ps =>
    let r := pushPort s p { f with path := b }
    let t := pushAll r.1 f ps
    (t.1, r.2 || t.2)

/-- A frame that this unit originates, queued; the flag says that a copy was dropped. A unit without an address
originates no frame but those marked `noaddr` (R316). -/
def enqueue (s : State) (o : Out) : State × Bool :=
  if !addressed s && o.noaddr.isNone then (s, false)
  else
    let f := outFrame s o
    pushAll { s with lnk := { s.lnk with seq := (s.lnk.seq + 1) % 65536 } } f (outPorts s o)

/-- The low and high words of a 64-bit time. -/
def ctWords (t : Nat) : List Nat := [t % 2 ^ 32, t / 2 ^ 32 % 2 ^ 32]

end Sys2Proof.Machine
end

