-- ==== Sys2Proof/Machine/Journal.lean ====
section
/-!
DEFINITION. Machine/Journal.lean: journal records, the 256-record queue, the page being filled, forwarding (R641-R647).
-/
namespace Sys2Proof.Machine

/-- R643: the records the on-chip queue holds. -/
def jrnlDepth : Nat := 256

/-- R240, R571: the record types whose repeats inside 1 ms are counted in the record. -/
def jrnlRepeats (typ : Nat) : Bool := typ == 0x04 || typ == 0x0A

/-- R641: the first fifteen words of a record. -/
def jrecWords (seq : Nat) (r : JRec) : List Nat :=
  [seq % 2 ^ 32, seq / 2 ^ 32 % 2 ^ 16 + r.typ % 256 * 2 ^ 16 + r.flags % 256 * 2 ^ 24] ++ ctWords r.ct ++
  [r.unit % 256 + r.rep % 256 * 2 ^ 8 + r.sub % 65536 * 2 ^ 16, r.event % 256 + r.code % 256 * 2 ^ 8,
   r.vals.getD 0 0 % 2 ^ 32, r.vals.getD 1 0 % 2 ^ 32, r.vals.getD 2 0 % 2 ^ 32, r.vals.getD 3 0 % 2 ^ 32, 0, 0, 0, 0, 0]

/-- R641: the sixteen words of a record with its CRC-32C. -/
def jrecImage (seq : Nat) (r : JRec) : List Nat :=
  let w := jrecWords seq r
  w ++ [crc32c ((w.map (leBytes 4)).flatten)]

/-- R641: the records a page holds. -/
def pageRecs (s : State) : Nat := if fon s JRNL.GEOM.PAGE4K then 64 else 32

/-- Records leave the queue for the page in queue order, up to the page's room, while none is held for repeats. -/
def pageTake : Nat → List JRec → List JRec × List JRec
  | 0, q => ([], q)
  | _ + 1, [] => ([], [])
  | n + 1, r :: q => if r.held then ([], r :: q) else
    let t := pageTake n q
    (r :: t.1, t.2)

/-- R643: the page being filled takes records in queue order; a POWER_FAIL or SAFE record asks for its program. -/
def jrnlFill (s : State) : State :=
  if fget s JRNL.STAT.STATE = 3 then
    let t := pageTake (pageRecs s - s.jrn.page.length) s.jrn.queue
    { s with jrn := { s.jrn with
        queue := t.2, page := s.jrn.page ++ t.1,
        flush := s.jrn.flush || t.1.any fun r => r.typ == 0x01 || r.typ == 0x0B } }
  else s

/-- R647: the record just queued is also sent to CFG.FWD_DST; its SEQ is the storing journal's to give (assumption 11). -/
def jrnlForward (s : State) (r : JRec) : State :=
  if fon s JRNL.CFG.FWD_EN then
    (enqueue s { typ := 0x60, dst := fget s JRNL.CFG.FWD_DST, pay := jrecImage 0 r }).1
  else s

/-- Does record `r` have the TYPE, SUB and EVENT given, with its repeat window open? -/
def jrecSame (typ sub event : Nat) (r : JRec) : Bool :=
  r.held && r.typ == typ && r.sub == sub && r.event == event

/-- One more event in a held record; REPEAT holds at 255. -/
def jrecBump (typ sub event : Nat) : List JRec → List JRec
  | [] => []
  | r :: q => if jrecSame typ sub event r then { r with rep := if r.rep < 255 then r.rep + 1 else r.rep } :: q
    else r :: jrecBump typ sub event q

/-- R641: the record of an event at this instant. -/
def jrecNow (s : State) (typ sub event code : Nat) (vals : List Nat) : JRec :=
  { typ := typ, flags := b2n s.jrn.loss + (if hasCT s then 0 else 4), ct := served s,
    unit := if addressed s then myAddr s else 0x80, rep := 0, sub := sub, event := event, code := code, vals := vals,
    held := jrnlRepeats typ }

/-- R643, R644: a record into the queue, a POWER_FAIL record ahead of every other; a full queue drops it, counted. -/
def jrnlQueue (s : State) (r : JRec) : State :=
  if jrnlDepth ≤ s.jrn.queue.length then
    finc { s with jrn := { s.jrn with loss := true } } JRNL.CNT.LOST
  else
    let q := if r.typ = 0x01 then r :: s.jrn.queue else s.jrn.queue ++ [r]
    jrnlFill (jrnlForward { s with jrn := { s.jrn with queue := q, loss := false } } r)

/-- The journalling of one event. With no device, or the journal disabled, a record is only forwarded (R639, R649). -/
def journal (s : State) (typ sub event code : Nat) (vals : List Nat) : State :=
  if s.jrn.queue.any (jrecSame typ sub event) then
    { s with jrn := { s.jrn with queue := jrecBump typ sub event s.jrn.queue } }
  else
    let r := jrecNow s typ sub event code vals
    if fget s JRNL.STAT.STATE = 1 ∨ fget s JRNL.CFG.EN = 0 then jrnlForward s r else jrnlQueue s r

end Sys2Proof.Machine
end

