-- ==== Sys2Proof/Machine/Ledger.lean ====
section
/-!
DEFINITION. Machine/Ledger.lean: requests before E0 and the shed level (R399, R403).
-/
namespace Sys2Proof.Machine

/-- The shed level that requests and the ledger frame compare with. -/
def shedLevel (s : State) : Nat := fget s LEDG.SHED.LEVEL

/-- A request placed before E0, at this instant. -/
def request (s : State) (k : ReqKind) (mw : Nat) : State :=
  { s with ldg := { s.ldg with reqs := s.ldg.reqs ++ [{ kind := k, mw := mw, arrival := localNs s }] } }

/-- R122, R361: the requests that `p` names are withdrawn; a LEDG_RESV sent for one stays outstanding (R400). -/
def withdraw (s : State) (p : ReqKind → Bool) : State :=
  { s with ldg := { s.ldg with reqs := s.ldg.reqs.filter fun r => !p r.kind } }

/-- R393: a power figure of the target at index `tgt`, to be averaged by the next ledger frame. -/
def measure (s : State) (tgt v : Nat) : State :=
  let m := tabGet (fun _ => (0, 0)) s.ldg.meas tgt
  { s with ldg := { s.ldg with meas := tabPut (fun _ => (0, 0)) s.ldg.meas tgt (m.1 + v, m.2 + 1) } }

/-- R361, R409: a part of the reservation of the consumer at target index `tgt` is given back in the next ledger frame. -/
def release (s : State) (tgt mw : Nat) : State :=
  if mw = 0 then s else { s with ldg := { s.ldg with rel := s.ldg.rel ++ [(tgt, mw)] } }

/-- Is the request channel `n`'s? -/
def isChanReq (n : Nat) : ReqKind → Bool
  | .chan m _ => m == n
  | _ => false

/-- Is the request loop `n`'s? -/
def isLoopReq (n : Nat) : ReqKind → Bool
  | .loopOn m => m == n
  | .loopRaise m _ => m == n
  | _ => false

/-- Is the request regulator `r`'s? -/
def isRegReq (r : Nat) : ReqKind → Bool
  | .regOn m => m == r
  | .regRaise m _ => m == r
  | _ => false

/-- Is the request the charger's? -/
def isChgReq : ReqKind → Bool
  | .charge _ _ => true
  | .support => true
  | _ => false

/-- Is the request port `n`'s? -/
def isPortReq (n : Nat) : ReqKind → Bool
  | .port m _ => m == n
  | _ => false

/-- R403, R395: a write of the shed level; in Defaults mode it is ILLEGAL_STATE. A change is journalled. -/
def setShedLevel (s : State) (c : Nat) : State × Nat :=
  if fget s LEDG.STAT.MODE = 5 then (s, stIllegal)
  else
    let s1 := fset { s with ldg := { s.ldg with lvl := true } } LEDG.SHED.LEVEL c
    (if c = shedLevel s then s1 else journal s1 0x09 0xFFFF 0xE2 0 [0, 0, c], stOk)

end Sys2Proof.Machine
end

