-- ==== Sys2Proof/Machine/SeqCore.lean ====
section
/-!
DEFINITION. Machine/SeqCore.lean: starting and aborting sequences, the SEQ_FLT line and the sequencing records
(R276-R293).
-/
namespace Sys2Proof.Machine

/-- R282: the header of sequence `q`; a unit without a sequence section has unused sequences only. -/
def seqHead (s : State) (q : Nat) : SeqH := s.sqs.heads.getD q {}

/-- What the part holds of sequence `q` beside its registers. -/
def seqX (s : State) (q : Nat) : SeqX := tabGet (fun _ => {}) s.sqs.seqs q

/-- What the part holds of sequence `q` beside its registers, replaced. -/
def setSeqX (s : State) (q : Nat) (x : SeqX) : State :=
  { s with sqs := { s.sqs with seqs := tabPut (fun _ => {}) s.sqs.seqs q x } }

/-- An unused step. -/
def noStep : Step := ⟨0, 0, 0, 0, 0xFF, 0⟩

/-- R276: the present step of sequence `q`, from the pool. -/
def seqStep (s : State) (q : Nat) : Step :=
  s.sqs.steps.getD ((seqHead s q).first + fget s (SEQ.STAT.STEP q)) noStep

/-- R293: sequencing records leave their 64-entry queue for the journal while the journal's queue has room. -/
def seqDrain : Nat → State → State
  | 0, s => s
  | n + 1, s => match s.sqs.recs with
    | [] => s
    | r :: rs => if s.jrn.queue.length < jrnlDepth then
        seqDrain n (jrnlQueue { s with sqs := { s.sqs with recs := rs } } r) else s

/-- R293: a sequencing record into its 64-entry queue; a full queue drops it, counted in SEQ.JSTAT. -/
def seqRecord (s : State) (sub event code : Nat) (vals : List Nat) : State :=
  let r := jrecNow s 0x06 sub event code vals
  if fget s JRNL.STAT.STATE = 1 ∨ fget s JRNL.CFG.EN = 0 then jrnlForward s r
  else if s.sqs.recs.length < 64 then
    seqDrain 64 { s with sqs := { s.sqs with recs := s.sqs.recs ++ [r] } }
  else finc s SEQ.JSTAT.LOST

/-- R302: the present duration of sequence `q`'s run in microseconds. -/
def seqElapsed (s : State) (q : Nat) : Nat :=
  if fget s (SEQ.STAT.STATE q) = 1 then min ((localNs s - (seqX s q).began) / 1000) 0xFFFFFF
  else fget s (SEQ.TIME.ELAPSED q)

/-- R293: a record of sequence `q`, unless the present step has NOREC. -/
def seqJournal (s : State) (q event : Nat) : State :=
  let st := seqStep s q
  if bitOf st.sflags 1 then s
  else seqRecord s q event (fget s (SEQ.STAT.FAIL_CODE q))
    [fget s (SEQ.STAT.STEP q) * 2 ^ 16 + st.op * 2 ^ 8 + st.tgt, seqElapsed s q, st.mon, fget s SEQ.FLT_STAT.LINE]

/-- R291: the monitors that hold SEQ_FLT low: an event flag stands, and with AUTO_REL only while the condition does.
In Dawn and Morning monitors 0-7 do not drive it (R289). -/
def monDrives (s : State) : Bool :=
  (List.range 48).any fun m =>
    decide (8 ≤ m ∨ 2 ≤ stage s) && fon s (MON.CFG.FLT_OUT m) && (fon s (MON.EVT.OV m) || fon s (MON.EVT.UV m)) &&
      (!fon s SEQ.FLT_CFG.AUTO_REL || s.sqs.cond.contains m)

/-- R278, R279: a sequence holds SEQ_FLT low. -/
def seqDrives (s : State) : Bool := (List.range 16).any fun q => fon s (SEQ.STAT.FLT_HOLD q)

/-- R291: does the part have a reason to drive SEQ_FLT low? Before step 3 of R50 it drives it in any case. -/
def fltWanted (s : State) : Bool := (s.start.dawn && !s.start.applied) || monDrives s || seqDrives s

/-- R297: the level of the line follows the part's own drive and an external low; a change is recorded (R293). -/
def fltLine (s : State) : State :=
  let hi := !(fon s SEQ.FLT_STAT.DRIVE || fon s SEQ.FLT_STAT.EXT)
  if hi = fon s SEQ.FLT_STAT.LINE then s
  else
    let s1 := fsetB s SEQ.FLT_STAT.LINE hi
    seqRecord s1 0 (0xE2) 0 [0, 0, 0xFF, b2n hi]

/-- R291: the drive of SEQ_FLT follows its reasons, each low drive lasting at least MIN_US. While it drives the part
cannot see an external low (R292). -/
def fltUpdate (s : State) : State :=
  if fltWanted s then
    if fon s SEQ.FLT_STAT.DRIVE then s
    else
      let s1 := { s with sqs := { s.sqs with minHold := true } }
      fltLine (fsetB (fsetB s1 SEQ.FLT_STAT.DRIVE true) SEQ.FLT_STAT.EXT false)
  else if fon s SEQ.FLT_STAT.DRIVE && !s.sqs.minHold then fltLine (fsetB s SEQ.FLT_STAT.DRIVE false)
  else s

/-- R281: the request of an ON step is withdrawn as by the off command of its target, still awaiting admission. -/
def withdrawOn (s : State) (tgt : Nat) : State :=
  if tgt < 0x40 then
    if fget s (CHN.STAT.STATE tgt) = 3 then
      fset (fset (fset (withdraw s (isChanReq tgt)) (CHN.CTL.MODE tgt) 0) (CHN.STAT.STATE tgt) 0) (CHN.STAT.PENDING tgt) 0
    else s
  else if tgt < 0x48 then
    let r := tgt - 0x40
    if fget s (REG.STAT.STATE r) = 1 then
      fset (fset (fset (withdraw s (isRegReq r)) (REG.CTL.EN r) 0) (REG.STAT.STATE r) 0) (REG.STAT.PENDING r) 0
    else s
  else if tgt < 0x4C then
    let l := tgt - 0x48
    if fget s (LOOP.STAT.STATE l) = 1 then
      fset (fset (fset (withdraw s (isLoopReq l)) (LOOP.CTL.EN l) 0) (LOOP.STAT.STATE l) 0) (LOOP.STAT.PENDING l) 0
    else s
  else s

/-- R281: the request of a SET_V step is withdrawn by writing VSET with VTGT. -/
def withdrawSetV (s : State) (tgt : Nat) : State :=
  if 0x40 ≤ tgt ∧ tgt < 0x48 then
    let r := tgt - 0x40
    fset (fset (withdraw s (isRegReq r)) (REG.VSET.VSET r) (fget s (REG.VSET.VTGT r))) (REG.STAT.PENDING r) 0
  else if 0x48 ≤ tgt ∧ tgt < 0x4C then
    let l := tgt - 0x48
    fset (fset (withdraw s (isLoopReq l)) (LOOP.VSET.VSET l) (fget s (LOOP.VREF.VTGT l))) (LOOP.STAT.PENDING l) 0
  else s

/-- R284: an OFF_WAIT ends: its monitor leaves discharge mode and becomes unarmed. -/
def monUnarm (s : State) (m : Nat) : State := fset (fset s (MON.STAT.MODE m) 0) (MON.CFG.ARM m) 0

/-- Is a raise of the step's target awaiting admission? -/
def raisePending (s : State) (tgt : Nat) : Bool :=
  s.ldg.reqs.any fun r => match r.kind with
    | .regRaise m _ => m + 0x40 == tgt
    | .loopRaise m _ => m + 0x48 == tgt
    | _ => false

/-- R281: what an abort withdraws at the present step. -/
def abortStep (s : State) (st : Step) : State :=
  if st.op = 1 then withdrawOn s st.tgt
  else if st.op = 8 ∧ raisePending s st.tgt then withdrawSetV s st.tgt
  else if st.op = 6 then monUnarm s st.mon
  else s

/-- R281: a running sequence stops at its present step and moves to ABORTED. -/
def seqAbort (s : State) (q : Nat) : State :=
  if fget s (SEQ.STAT.STATE q) = 1 then
    let x := seqX s q
    let s1 := if x.issued then abortStep s (seqStep s q) else s
    let s2 := fset s1 (SEQ.TIME.ELAPSED q) (seqElapsed s1 q)
    let s3 := fset (fset s2 (SEQ.STAT.STATE q) 4) (SEQ.EVT.ABORTED q) 1
    seqJournal (setSeqX s3 q { x with issued := false }) q 0x03
  else s

/-- R281: a sequence with PREEMPT, when it starts, aborts every running sequence with PREEMPT = 0. -/
def seqPreempt (s : State) (q : Nat) : State :=
  if bitOf (seqHead s q).flags 0 then
    (List.range 16).foldl (fun t p => if bitOf (seqHead t p).flags 0 then t else seqAbort t p) s
  else s

/-- R276, R280, R281: sequence `q` starts with T_base `base`. Before step 5 of R50 and in the safe state (R574) a start
is ILLEGAL_STATE; an unused sequence does not start (R282; assumption 12); while it runs a start is only flagged. -/
def seqStart (s : State) (q base : Nat) (low : Bool) : State × Nat :=
  if fget s (SEQ.STAT.STATE q) = 1 then (fset s (SEQ.EVT.IGNORED q) 1, stIllegal)
  else if !s.start.running || safe s then (s, stIllegal)
  else if (seqHead s q).count = 0 then (s, stOk)
  else
    let s1 := seqPreempt s q
    let s2 := fset (fset (fset (fset s1 (SEQ.STAT.STATE q) 1) (SEQ.STAT.STEP q) 0) (SEQ.STAT.FAIL_CODE q) 0) (SEQ.EVT.STARTED q) 1
    let s3 := setSeqX s2 q { base := base, began := localNs s, stepAt := localNs s, powerFail := low }
    (seqJournal s3 q 0x00, stOk)

/-- R280: every sequence whose header has trigger bit `b` starts. -/
def seqTrigger (s : State) (b : Nat) : State :=
  (List.range 16).foldl (fun t q => if bitOf (seqHead t q).trig b then (seqStart t q (served t) (b == 2)).1 else t) s

/-- R279, R281: a host start of SEQ.CMD that begins the sequence also releases its own low drive of SEQ_FLT. -/
def seqHostStart (s : State) (q : Nat) : State × Nat :=
  let r := seqStart s q (served s) false
  if fget s (SEQ.STAT.STATE q) = 1 ∨ fget r.1 (SEQ.STAT.STATE q) ≠ 1 then r
  else (fltUpdate (fset r.1 (SEQ.STAT.FLT_HOLD q) 0), r.2)

end Sys2Proof.Machine
end

