-- ==== Sys2Proof/Machine/LoopCore.lean ====
section
/-!
DEFINITION. Machine/LoopCore.lean: phases, announcements and state changes of the multiphase loops (R182, R197, R230).
-/
namespace Sys2Proof.Machine

/-- What the part holds of loop `n` beside its registers. -/
def loopX (s : State) (n : Nat) : LoopX := tabGet (fun _ => {}) s.lps.loops n

/-- What the part holds of loop `n` beside its registers, replaced. -/
def setLoopX (s : State) (n : Nat) (x : LoopX) : State :=
  { s with lps := { s.lps with loops := tabPut (fun _ => {}) s.lps.loops n x } }

/-- What the part holds of phase `k` beside its registers. -/
def phaseX (s : State) (k : Nat) : PhaseX := tabGet (fun _ => {}) s.lps.phases k

/-- What the part holds of phase `k` beside its registers, replaced. -/
def setPhaseX (s : State) (k : Nat) (x : PhaseX) : State :=
  { s with lps := { s.lps with phases := tabPut (fun _ => {}) s.lps.phases k x } }

/-- R197: the state of loop `n`. -/
def loopState (s : State) (n : Nat) : Nat := fget s (LOOP.STAT.STATE n)

/-- R182: the phases assigned to loop `n`, lowest first. -/
def loopPhases (s : State) (n : Nat) : List Nat := (List.range 16).filter fun k => fget s (LOOP.PHS.CFG.LOOP k) == n

/-- The active phases of loop `n`, lowest first. -/
def loopActive (s : State) (n : Nat) : List Nat := (loopPhases s n).filter fun k => fon s (LOOP.PHS.CFG.ACT k)

/-- R195: the first `m` of the loop's phases are active; one that becomes active starts with no trim (R194). -/
def setActive (s : State) (n m : Nat) : State :=
  let put (t : State) (e : Nat × Nat) : State :=
    let on := decide (e.2 < m)
    let t1 := if on && !fon t (LOOP.PHS.CFG.ACT e.1) then
        fset (setPhaseX t e.1 { phaseX t e.1 with trim := 0 }) (LOOP.PHS.MEAS.BAL e.1) 0 else t
    fsetB t1 (LOOP.PHS.CFG.ACT e.1) on
  fset ((loopPhases s n).zipIdx.foldl put s) (LOOP.STAT.NPH_ACT n) (min m (loopPhases s n).length)

/-- A journal record of loop `n` about an announcement (R240, R642). -/
def annJournal (s : State) (n event code : Nat) (a : Ann) : State :=
  journal s 0x04 n event code [a.id * 2 ^ 16 + ofSigned 12 a.di, a.apply % 2 ^ 32, a.apply / 2 ^ 32]

/-- A journal record of loop `n` about its protection: the PH_LIM map and PER (R240). -/
def protJournal (s : State) (n event : Nat) : State :=
  journal s 0x04 n event 0 [regWord s (0x40148 + 0x400 * n), fget s (LOOP.PER.PER n)]

/-- R246: NPEND as the announcements stand. -/
def annShow (s : State) (n : Nat) : State := fset s (LOOP.ANN_STAT.NPEND n) (loopX s n).anns.length

/-- R230: every announcement of the loop is discarded, and ff_step is 0. -/
def annDiscard (s : State) (n : Nat) : State :=
  let l := (loopX s n).anns
  let s1 := setLoopX s n { loopX s n with anns := [] }
  let s2 := l.foldl (fun t a => annJournal (finc t (LOOP.ANN_CNT.CANCELLED n)) n 0xE1 0 a) s1
  fset (annShow s2 n) (LOOP.ANN_STAT.ACTIVE n) 0

/-- R235: braking ends and may not be entered again within one period. -/
def brakeExit (s : State) (n : Nat) : State :=
  let bar := localNs s + ceilDiv (clampNat 8534 128000 (fget s (LOOP.PER.PER n)) * 625) 16000
  fset (setLoopX s n { loopX s n with brakeN := 0, brakeHit := false, brakeBar := bar }) (LOOP.PROT_STAT.BRAKING n) 0

/-- R198, R230, R235: loop `n` enters state `st`. Leaving REG discards announcements and ends braking; a state with the
pins high-impedance has no active phase. -/
def loopGo (s : State) (n st : Nat) : State :=
  let old := loopState s n
  let s1 := fset s (LOOP.STAT.STATE n) st
  let s2 := if old = 4 ∧ st ≠ 4 then
      let t := annDiscard s1 n
      let u := if fon t (LOOP.PROT_STAT.BRAKING n) then brakeExit t n else t
      fset (fset u (LOOP.STAT.SLEWING n) 0) (LOOP.STAT.INREG n) 0
    else s1
  if st = 3 ∨ st = 4 ∨ st = 5 then s2
  else setActive (setLoopX s2 n { loopX s2 n with enabled := false, inWin := 0 }) n 0

/-- R198, R199, R237: loop `n` enters START with VREF at `vref`, the compensator cleared and every assigned phase active. -/
def loopStart (s : State) (n vref : Nat) : State :=
  let x := loopX s n
  let s1 := setLoopX s n { x with vref := vref, i := 0, y1 := 0, y2 := 0, ePrev := 0, dPrev := 0, sensed := vref, enabled := false, dwell := 0 }
  setActive (loopGo s1 n 3) n (loopPhases s1 n).length

/-- R400, R200: is a request of loop `n` for a raise outstanding? -/
def loopRaising (s : State) (n : Nat) : Bool :=
  s.ldg.reqs.any fun r => match r.kind with
    | .loopRaise m _ => m == n
    | _ => false

/-- R201: an outstanding raise of loop `n` is withdrawn. -/
def loopDropRaise (s : State) (n : Nat) : State :=
  if loopRaising s n then
    fset (withdraw s fun k => match k with
      | .loopRaise m _ => m == n
      | _ => false) (LOOP.STAT.PENDING n) 0
  else s

/-- R198: the loop is turned off: every request of it is withdrawn and EN is 0. -/
def loopOff (s : State) (n : Nat) : State :=
  loopGo (fset (fset (withdraw s (isLoopReq n)) (LOOP.STAT.PENDING n) 0) (LOOP.CTL.EN n) 0) n 0

end Sys2Proof.Machine
end

