-- ==== Sys2Proof/Machine/Safe.lean ====
section
/-!
DEFINITION. Machine/Safe.lean: stages, wakes and the content of the safe state (R574, R597, R604).
-/
namespace Sys2Proof.Machine

/-- R86: the update session ends. -/
def updClose (s : State) : State := fset (fset s CFG.UPD_STAT.OPEN 0) CFG.UPD_STAT.OWNER 0xFF

/-- A change of TOP.STAGE, with its journal record (R642). Leaving Noon closes an update session (R85). -/
def setStage (s : State) (g : Nat) : State :=
  let s1 := fset (if g = 2 then s else updClose s) TOP.STAGE.STAGE g
  journal s1 0x02 g 0xE0 (regWord s1 0x10) [regWord s1 0x8, fget s1 CFG.APPLIED.GEN, regWord s1 0x10000]

/-- R597: from Evening to Noon, with the shed level held at entry and the WAKE sequences. -/
def eveningToNoon (s : State) : State :=
  seqTrigger (setShedLevel (setStage s 2) s.pwr.eveLevel).1 5

/-- R331: one beacon from every port at Night rate, with the next BSEQ. -/
def sendBeacon (s : State) (btype : Nat) (data : List Nat) : State :=
  let b : Beacon := { btype := btype, src := myAddr s, bseq := s.lnk.bseq, data := data }
  let put (t : State) (p : Nat) : State :=
    if fget t (LNK.PORT.STAT.STATE p) = 3 then setPortQ t p { portQ t p with beacons := (portQ t p).beacons ++ [b] } else t
  put (put { s with lnk := { s.lnk with bseq := (s.lnk.bseq + 1) % 256 } } 0) 1

/-- R613: PON_OUT is asserted, low; in Storage an alarm asserts nothing (R608). -/
def ponAssert (s : State) : State := if s.pwr.storage then s else fset s RTC.STAT.PON 1

/-- R604: a port at Night rate with no WAKE beacon left to send returns to full rate, training. -/
def portWake (s : State) (p : Nat) : State :=
  let q := portQ s p
  if fget s (LNK.PORT.STAT.STATE p) = 3 ∧ q.beacons.all (fun b => b.btype != 0x80) then
    fset (setPortQ s p { q with beacons := [] }) (LNK.PORT.STAT.STATE p) 1
  else s

/-- R604, R613: a unit in Night raises a wake cause; `fwd` says that it is a WAKE beacon received, which is forwarded and
not originated anew (assumption 71). A cause met while a wake is in progress is only counted. -/
def wakeNight (s : State) (cause unit : Nat) (fwd : Bool) : State :=
  if s.pwr.waking then finc s RTC.WAKE.CNT
  else
    let s1 := fset (fset (fset s RTC.WAKE.CAUSE cause) RTC.WAKE.UNIT unit) RTC.EVT.WAKE 1
    let s2 := { s1 with pwr := { s1.pwr with waking := true } }
    let s3 := journal (if fon s2 RTC.PON.WAKE then ponAssert s2 else s2) 0x11 0 0xE0 cause [regWord s2 0x130024]
    let s4 := if !fwd && (fon s LNK.STAT.ATTACHED || cause != 4) then sendBeacon s3 0x80 [cause, 0, 0, 0, 0, 0, 0, 0] else s3
    portWake (portWake s4 0) 1

/-- R603, R606: a wake cause. Between RATE and its switch it is held; in Night it wakes; in Evening causes 0x01-0x03
and 0x06-0x08 act as a request for Noon; in any other stage nothing happens. -/
def wakeCause (s : State) (cause unit : Nat) : State :=
  if s.pwr.rate.isSome && decide (stage s = 2 ∨ stage s = 3) then
    match s.pwr.heldCause with
    | none => { s with pwr := { s.pwr with heldCause := some (cause, unit) } }
    | some _ => finc s RTC.WAKE.CNT
  else if stage s = 4 then wakeNight s cause unit false
  else if stage s = 3 ∧ cause ≠ 4 ∧ cause ≠ 5 then eveningToNoon s
  else s

/-- R101: the driven states. -/
def drivenState (st : Nat) : Bool := decide (4 ≤ st ∧ st ≤ 8)

/-- Is channel `n` driven? -/
def chDriven (s : State) (n : Nat) : Bool := drivenState (fget s (CHN.STAT.STATE n))

/-- R113: the CT of an edge of channel `n`. -/
def edgeCt (s : State) (n : Nat) : State := fset64 s (CHN.EDGE_CT_LO.CT n) (CHN.EDGE_CT_HI.CT n) (served s)

/-- R574: channel `n` in the safe state: with its SAFE_KEEP bit and PRIV_ACT the gate holds its level. -/
def chanSafe (s : State) (n : Nat) : State :=
  let keep := fon s (FLT.SAFE_KEEP n) && fon s (CHN.CFG.PRIV_ACT n) && chDriven s n
  let s1 := if chDriven s n && !keep then edgeCt s n else s
  let s2 := fset (fset (fset (fset s1 (CHN.STAT.STATE n) 0xD) (CHN.CTL.MODE n) 0) (CHN.STAT.PENDING n) 0) (CHN.STAT.LATCHED n) 0
  setChan s2 n { chan s2 n with
    pSc := false, pOc := false, pWire := false, pSoa := false, retry := false, toOn := false, kept := keep }

/-- R574: loop `n` in the safe state. -/
def loopSafe (s : State) (n : Nat) : State :=
  fset (fset (loopGo s n 8) (LOOP.STAT.PENDING n) 0) (LOOP.STAT.SLEWING n) 0

/-- R574: regulator `r` in the safe state. -/
def regSafe (s : State) (r : Nat) : State :=
  let s1 := fset (fset (fset s (REG.STAT.STATE r) 7) (REG.STAT.PENDING r) 0) (REG.STAT.PG r) 0
  fset (fset (fset s1 (REG.STAT.NOIN r) 0) (REG.STAT.LIMIT r) 0) (REG.STAT.FOLD r) 0

/-- What the part holds of cabin port `n` beside its registers. -/
def pdX (s : State) (n : Nat) : PdX := tabGet (fun _ => {}) s.pds n

/-- What the part holds of cabin port `n` beside its registers, replaced. -/
def setPdX (s : State) (n : Nat) (x : PdX) : State := { s with pds := tabPut (fun _ => {}) s.pds n x }

/-- R574, R552: cabin port `n` in the safe state. -/
def portSafe (s : State) (n : Nat) : State :=
  let s1 := fset (fset (fset (fset s (PD.STAT.STATE n) 0xA) (PD.STAT.CONTRACT n) 0) (PD.STAT.MUX n) 0) (PD.STAT.HPD n) 0
  let s2 := fset (fset (fset (fset s1 (PD.STAT.PPS n) 0) (PD.STAT.FLIP n) 0) (PD.STAT.VCONN n) 0) (PD.STAT.RP n) 0
  let s3 := fset (fset (fset (fset s2 (PD.STAT.CABLE_5A n) 0) (PD.CONTR.V n) 0) (PD.CONTR.I n) 0) (PD.CABLE.VDO n) 0
  setPdX s3 n { trips := (pdX s n).trips }

/-- A flag of CHG.EVT and its journal record (R642; assumption 27). -/
def chgFlag (s : State) (f : Fld) : State :=
  let s1 := fset s f 1
  journal s1 0x0C 0 f.lo (fget s1 CHG.STAT.FCAUSE) [regWord s1 0xD0004, regWord s1 0xD003C, regWord s1 0xD0048]

/-- R574, R491, R500, R528: the charger in the safe state; it ends support, and no rest goes on. -/
def chgSafe (s : State) : State :=
  let s1 := if fget s CHG.STAT.STATE = 0xC then chgFlag s CHG.EVT.SUP_END else s
  let s2 := { s1 with chg := { s1.chg with ovp := false, sweeping := false }, ldg := { s1.ldg with sup := 0 }, gau := { s1.gau with idle := none } }
  fset (fset (fset s2 CHG.STAT.STATE 0xD) CHG.STAT.REF 0) CHG.STAT.SUP_ARMED 0

/-- R574: the content of the safe state. Requests of consumers in SAFE are withdrawn, launch slots are freed and the
safe-state record carries FIRST. -/
def enterSafe (s : State) : State :=
  if safe s then s
  else
    let s0 := { s with start := { s.start with pair := .fatal, pwmHiZ := true }, slots := [] }
    let s1 := fset s0 FLT.STAT.SAFE 1
    let s2 := (List.range 16).foldl seqAbort s1
    let s3 := (List.range 64).foldl chanSafe s2
    let s4 := (List.range 4).foldl loopSafe s3
    let s5 := (List.range 8).foldl regSafe s4
    let s6 := chgSafe ((List.range 2).foldl portSafe s5)
    let s7 := withdraw s6 fun k => match k with
      | .entries _ => false
      | .member _ => false
      | _ => true
    let s8 := { s7 with flt := { s7.flt with rstArmed := fon s7 FLT.CFG.FATAL_ACT } }
    journal s8 0x0B (fget s8 FLT.FIRST.INDEX) 0xE0 0 [fget s8 FLT.FIRST_CT_LO.CT, fget s8 FLT.FIRST_CT_HI.CT]

end Sys2Proof.Machine
end

