-- ==== Sys2Proof/Machine/Raise.lean ====
section
/-!
DEFINITION. Machine/Raise.lean: raising a fault source and the collector's reactions (R568-R573, R581).
-/
namespace Sys2Proof.Machine

/-- R568: the group of a fault source. -/
def faultGroup (i : Nat) : Nat :=
  if i < 0x40 then 0 else if i < 0xC0 then 1 else if i < 0x100 then 2 else if i < 0x140 then 3 else if i < 0x180 then 4
  else if i < 0x1E0 then 5 else if i < 0x1F0 then 6 else if i < 0x20C then 7 else if i < 0x22C then 8
  else if i < 0x234 then 9 else if i < 0x23E then 10 else if i < 0x242 then 11 else if i < 0x24B then 12
  else if i < 0x251 then 13 else if i < 0x259 then 14 else if i < 0x25E then 15 else if i < 0x261 then 16
  else if i < 0x269 then 17 else if i < 0x270 then 18 else if i < 0x275 then 19 else if i < 0x278 then 20
  else if i < 0x27D then 11 else 21

/-- The sources whose LAT bit is set: LAT resets to 0, so they are the listed ones. -/
def latched (s : State) : List Nat :=
  s.regs.filterMap fun e =>
    if 0x120280 * 32 ≤ e.1 ∧ e.1 < 0x1202D0 * 32 ∧ e.2 ≠ 0 then some ((e.1 / 32 - 0x120280) / 4 * 32 + e.1 % 32) else none

/-- R569: the severity of a source; FLT_SELF is fatal and cannot be changed. -/
def severity (s : State) (i : Nat) : Nat := if i = 0x27F then 3 else fget s (FLT.SEV i)

/-- R571: STAT.ACTIVE, the number of LAT bits set. -/
def fltActive (s : State) : Nat := (latched s).length

/-- R571: STAT.WORST, the highest severity among the latched sources. -/
def fltWorst (s : State) : Nat := (latched s).foldl (fun w i => max w (severity s i)) 0

/-- R581: the GROUPS bitmap. -/
def fltGroups (s : State) : Nat := (latched s).foldl (fun w i => w ||| 2 ^ faultGroup i) 0

/-- R583: an injection is in progress; a force lasts one SYS cycle, which ends with its command. -/
def injActive (s : State) : Bool := s.flt.sevInj != [] || s.flt.fabInj != [] || s.flt.hbInj

/-- R588: FLT.STAT with its fields that follow LAT and the injections. -/
def fltStatWord (s : State) : Nat :=
  putBits (putBits (putBits (regWord s 0x120004) (fltWorst s) 30 29) (b2n (injActive s)) 28 28) (fltActive s) 25 16

/-- R581, R315: the two words of the fault summary. -/
def faultSumWords (s : State) : List Nat :=
  [fltActive s * 2 ^ 16 + stage s * 2 ^ 8 + b2n (safe s) * 4 + fltWorst s, fltGroups s]

/-- R581: the fault summary is sent; the flag says that a copy was dropped. -/
def sendFaultSum (s : State) : State × Bool := enqueue s { typ := 0x50, bc := true, pay := faultSumWords s }

/-- R569: what every raise that is not ignored records. -/
def recordRaise (s : State) (i sev : Nat) (inj brk : Bool) : State :=
  let s1 := fset s (FLT.LAT i) 1
  let s2 := fset (fsetB (fsetB (fset s1 FLT.LAST.SEV sev) FLT.LAST.INJ inj) FLT.LAST.BRK brk) FLT.LAST.INDEX i
  let s3 := if sev = 1 then finc (fset s2 FLT.EVT.CORRECTED 1) FLT.CNT.CORR
    else finc (fset s2 (if sev = 2 then FLT.EVT.CONTAINED else FLT.EVT.FATAL) 1) FLT.CNT.CONT
  journal s3 0x0A i (sev - 1) sev [regWord s3 0x120018, fltStatWord s3]

/-- R572: the contained reactions but the fault summary. -/
def containedReaction (s : State) : State :=
  let s1 := if fon s FLT.CFG.CONT_ATTN then fset s BUS.ATTN.FAULT 1 else s
  let c := fget s FLT.CFG.CONT_SHED
  if c = 0 ∨ (1 ≤ shedLevel s ∧ shedLevel s ≤ c) then s1 else (setShedLevel s1 c).1

/-- R573: FIRST takes the source that enters the safe state, if it is not valid and the safe state is not held. -/
def recordFirst (s : State) (i : Nat) : State :=
  if fon s FLT.FIRST.VALID || safe s then s
  else fset64 (fset (fset s FLT.FIRST.VALID 1) FLT.FIRST.INDEX i) FLT.FIRST_CT_LO.CT FLT.FIRST_CT_HI.CT (served s)

/-- R571-R573: one raise and all its reactions but the fault summary. The flag asks for that summary. -/
def raiseCore (s : State) (i : Nat) (inj brk : Bool) : State × Bool :=
  if fon s (FLT.RAW i) then (s, false)
  else
    let s0 := fset s (FLT.RAW i) 1
    let sev := severity s i
    if sev = 0 then (s0, false)
    else
      let s1 := recordRaise s0 i sev inj brk
      if sev = 1 then (s1, false)
      else
        let s2 := containedReaction s1
        let s3 := if i = 0x27F then fset s2 FLT.EVT.SELF 1 else s2
        let s4 := if sev = 3 then enterSafe (recordFirst s3 i) else s3
        (s4, true)

/-- R581, R318: the summary of a contained raise; if a copy of it is dropped, LNK_DROP is raised. -/
def summarise (s : State) : State :=
  let r := sendFaultSum s
  if r.2 then
    let d := raiseCore r.1 0x261 false false
    if d.2 then (sendFaultSum d.1).1 else d.1
  else r.1

/-- R603: a contained or fatal raise wakes with cause 0x07 where WAKE.EN_FAULT is set. -/
def faultWake (s : State) : State := if fon s RTC.WAKE.EN_FAULT then wakeCause s 0x07 (myAddr s) else s

/-- R571: a source is raised, with every reaction of its severity. -/
def raiseWith (s : State) (i : Nat) (inj brk : Bool) : State :=
  let r := raiseCore s i inj brk
  if r.2 then faultWake (summarise r.1) else r.1

/-- R571: a source's report falls; a broken pair keeps RAW at 1 (R570). -/
def lower (s : State) (i : Nat) : State := if s.flt.pairs.contains i then s else fset s (FLT.RAW i) 0

/-- R571: a source is raised and its report stands until it falls. -/
def raiseLevel (s : State) (i : Nat) : State := raiseWith s i false false

/-- R571: a source is raised by an event, and its report falls again at once (assumption 13). While its report stands
from before there is no raise. -/
def raiseEvent (s : State) (i : Nat) (inj brk : Bool) : State :=
  if fon s (FLT.RAW i) then s else lower (raiseWith s i inj brk) i

/-- R571: a source is raised by an event that no injection has caused. -/
def raise (s : State) (i : Nat) : State := raiseEvent s i false false

/-- R318: a frame that this unit originates; a dropped frame of class 0 or 1 raises LNK_DROP. -/
def send (s : State) (o : Out) : State :=
  let r := enqueue s o
  if r.2 && decide (frameClass o.typ < 2) then raise r.1 0x261 else r.1

end Sys2Proof.Machine
end

