-- ==== Sys2Proof/Machine/Fab.lean ====
section
/-!
DEFINITION. Machine/Fab.lean: targets, tags, completions and target resets of the request fabric (R422-R434).
-/
namespace Sys2Proof.Machine

/-- R424: the target that holds the register at an address. -/
def addrTarget (a : Nat) : Nat :=
  if 0x20000 ≤ a ∧ a < 0x24000 then (a - 0x20000) / 0x100
  else if 0x40000 ≤ a ∧ a < 0x41000 then 0x48 + (a - 0x40000) / 0x400
  else if 0x50000 ≤ a ∧ a < 0x50200 then 0x40 + (a - 0x50000) / 0x40
  else if 0xB0100 ≤ a ∧ a < 0xB0900 then 0x4C + (a - 0xB0100) / 0x200
  else if 0xB1000 ≤ a ∧ a < 0xB1400 then 0x4C + (a - 0xB1000) / 0x100
  else if 0xD0000 ≤ a ∧ a < 0xE0000 then 0x50
  else if 0xE0000 ≤ a ∧ a < 0xF0000 then 0x51
  else if 0xF0000 ≤ a ∧ a < 0xF0200 then 0x52 + (a - 0xF0000) / 0x100
  else if 0x150000 ≤ a ∧ a < 0x160000 then 0x54
  else 0x7F

/-- R423: the target port that serves the register at an address. -/
def addrPort (a : Nat) : Nat :=
  if a < 0x20000 then 0
  else if a < 0x24000 then 1 + (a - 0x20000) / 0x800
  else if a < 0x30000 then 1
  else if a < 0x40000 then 9
  else if a < 0x41000 then 10 + (a - 0x40000) / 0x400
  else if a < 0x50000 then 14
  else if a < 0xF0000 then a / 0x10000 + 10
  else if a < 0x100000 then 25 + (a - 0xF0000) / 0x100 % 2
  else if a < 0x120000 then 18
  else a / 0x10000 + 9

/-- Is target `k` down (R432)? -/
def targetDown (s : State) (k : Nat) : Bool := fon s (FAB.TGT.DOWN k)

/-- R438-R440: what a completion that is not OK records. -/
def fabRecord (s : State) (rq tgt status : Nat) : State :=
  if status < 3 then s
  else
    let s1 := fset (fset (fset s FAB.LAST.STATUS status) FAB.LAST.REQ rq) FAB.LAST.TGT tgt
    if status = 3 then finc (fset s1 FAB.EVT.LOST 1) FAB.CNT.LOST
    else if status = 4 then finc s1 FAB.CNT.DOWN
    else s1

/-- R627: what the bus records of a completion on its port, 9, that is not OK, of an access to register `a`. -/
def busRecord (s : State) (rq a status : Nat) : State :=
  if rq = 9 ∧ status ≠ stOk then
    let s1 := fset (fset s BUS.LAST.STATUS status) BUS.LAST.ADDR a
    if status = stIllegal then finc (fset s1 BUS.EVT.ILLEGAL_STATE 1) BUS.CNT.ILLEGAL else fset s1 BUS.EVT.TGT_ERR 1
  else s

/-- The completion of a register access or service request of requester port `rq` to register `a` of target `tgt`. -/
def fabComplete (s : State) (rq tgt a status : Nat) (data : List Nat) : State :=
  busRecord (fabRecord (completeWith s status data) rq tgt status) rq a status

/-- R432: a coach to target `k` whose row does not name its requester port: the port that LAST.REQ then records is one
of the fourteen that issue coaches, but the bus, whose commands have rows of their own (assumption 24). -/
def atTarget (s : State) (k : Nat) (f : State → State × Nat) : State :=
  if targetDown s k then
    let r := drawNat s 13
    fabComplete r.2 (if r.1 < 9 then r.1 else r.1 + 1) k 0 stDown []
  else
    let r := f s
    complete r.1 r.2

/-- R427, R583: a check error, injected, on a coach's fields. -/
def fabParity (s : State) (rq tgt a : Nat) : State :=
  raiseEvent (fset (fabComplete s rq tgt a stDataErr []) FAB.EVT.PAR 1) 0x275 true false

/-- R583: does an injection make the next coach of port `rq` a check error? -/
def fabInjected (s : State) (rq : Nat) : Bool := s.flt.fabInj.contains rq

/-- R583: the injection is spent. -/
def fabSpend (s : State) (rq : Nat) : State := { s with flt := { s.flt with fabInj := s.flt.fabInj.filter (· != rq) } }

/-- The tags in use (R437). -/
def tagsUsed (s : State) : Nat := s.fab.coaches.length

/-- The tags that requester port `p` holds (R442). -/
def tagsHeld (s : State) (p : Nat) : Nat := (s.fab.coaches.filter fun c => c.rq == p).length

/-- R437, R442: a tag that port `rq` holds beside those listed counts in the greatest numbers. -/
def fabPeak (s : State) (rq : Nat) : State :=
  fmax (fmax s FAB.STAT.PEAK (tagsUsed s + 1)) (FAB.REQ.STAT.PEAK rq) (tagsHeld s rq + 1)

/-- R425-R427, R432: an access of requester port `rq` to register `a` of target `k`, carried out at once: `f` gives the
state, the status and the data. -/
def asCoach (s : State) (rq k a : Nat) (f : State → State × Nat × List Nat) : State :=
  let s1 := fabPeak s rq
  if fabInjected s1 rq then fabParity (fabSpend s1 rq) rq k a
  else if targetDown s1 k then fabComplete s1 rq k a stDown []
  else
    let r := f s1
    fabComplete r.1 rq k a r.2.1 r.2.2

/-- R660: the snapshot of a HI register for one requester port. -/
def snapPut (s : State) (rq addr v : Nat) : State := { s with snap := tabPut (fun _ => 0) s.snap (2 ^ 24 * rq + addr) v }

/-- R428: the tags set aside for port `p` and not used. -/
def tagsSpare (s : State) (p : Nat) : Nat := fget s (FAB.REQ.CFG.MIN p) - tagsHeld s p

/-- R428: may port `p` take a new tag? -/
def mayTake (s : State) (p : Nat) : Bool :=
  let aside := ((List.range 24).filter (· != p)).foldl (fun n q => n + tagsSpare s q) 0
  decide (tagsHeld s p < max (fget s (FAB.REQ.CFG.MAX p)) (fget s (FAB.REQ.CFG.MIN p))) &&
    decide (aside < 1024 - tagsUsed s)

/-- The lowest free tag. -/
def freeTag (s : State) : Nat :=
  ((List.range 1024).find? fun t => !s.fab.coaches.any fun c => c.tag == t).getD 0

/-- R424, R425: the target of a coach; a service request names its engine. -/
def coachTarget (k : CoachKind) (addr : Nat) : Nat := if k = .service then 0x55 + addr % 8 else addrTarget addr

/-- R423: the target port of a coach. -/
def coachPort (k : CoachKind) (addr : Nat) : Nat := if k = .service then 31 else addrPort addr

/-- R428, R432: a coach takes a tag and goes to its target, completing at once where the target is down or its check
bits are wrong. -/
def coachGo (s : State) (rq : Nat) (k : CoachKind) (addr data : Nat) : State :=
  let tgt := coachTarget k addr
  let s1 := fabPeak s rq
  if fabInjected s1 rq then fabParity (fabSpend s1 rq) rq tgt addr
  else if targetDown s1 tgt then fabComplete s1 rq tgt addr stDown []
  else
    let c : Coach := ⟨freeTag s1, rq, k, addr, data, tgt, coachPort k addr⟩
    { s1 with fab := { s1.fab with coaches := s1.fab.coaches ++ [c] } }

/-- R429: requests that waited for a tag are issued, oldest first, as far as tags allow. -/
def fabResume : Nat → State → State
  | 0, s => s
  | n + 1, s =>
    match s.fab.stalled.find? fun e => mayTake s e.1 with
    | none => s
    | some e =>
      let s1 := { s with fab := { s.fab with stalled := s.fab.stalled.erase e } }
      let s2 := fsetB s1 (FAB.REQ.STAT.STALL e.1) (s1.fab.stalled.any fun x => x.1 == e.1)
      fabResume n (coachGo s2 e.1 e.2.1 e.2.2.1 e.2.2.2)

/-- Tags have been freed: stalled requests go on. -/
def fabFreed (s : State) : State := fabResume s.fab.stalled.length s

/-- R434: an engine that is halted takes no completion: its coaches' completions are discarded. -/
def requesterGone (s : State) (rq : Nat) : Bool := decide (rq < 8) && fget s (ENG.STAT.STATE rq) == 2

/-- The outstanding coaches that `p` names complete with TARGET_LOST. -/
def fabLose (s : State) (p : Coach → Bool) : State :=
  let gone := s.fab.coaches.filter p
  let s1 := { s with fab := { s.fab with coaches := s.fab.coaches.filter fun c => !p c } }
  fabFreed (gone.foldl (fun t c => if requesterGone t c.rq then t else fabComplete t c.rq c.tgt c.addr stLost []) s1)

/-- R424, R432: a target reset: the epoch increments, the target is down, and what is outstanding to it is lost. -/
def targetReset (s : State) (k : Nat) : State :=
  let s1 := fset s (FAB.TGT.EPOCH k) (fget s (FAB.TGT.EPOCH k) + 1)
  fabLose (fset (finc s1 (FAB.TGT.RESETS k)) (FAB.TGT.DOWN k) 1) fun c => c.tgt == k

/-- R432: a target that has been reset returns once every earlier coach has completed. A halted engine stays down
until part reset (R434). -/
def targetBack (s : State) (k : Nat) : State :=
  if 0x55 ≤ k ∧ k ≤ 0x58 ∧ fget s (ENG.STAT.STATE (k - 0x55)) = 2 then s
  else if s.fab.coaches.any fun c => c.tgt == k then s
  else fset s (FAB.TGT.DOWN k) 0

end Sys2Proof.Machine
end

