-- ==== Sys2Proof/Machine/Clock.lean ====
section
/-!
DEFINITION. Machine/Clock.lean: the passing of time (R10, R346, R347, R351-R353).
-/
namespace Sys2Proof.Machine

/-- `ns` nanoseconds of the 32.768 kHz clock: the prescaler counts, and waits at its end for the second boundary that
RTC_SECOND brings (R609; assumption 4). -/
def passBkp (s : State) (ns : Nat) : State :=
  let n := s.time.bkp + ns * 32768
  fset { s with time := { s.time with bkp := n % 1000000000 } } RTC.SUB.PRESC
    (min 32767 (fget s RTC.SUB.PRESC + n / 1000000000))

/-- `ns` nanoseconds of SYS pass: the local timebase and the internal CT from Morning entry on, CT at the servo's rate,
whose parts of a nanosecond are kept in `rem`; before the first sync the internal CT counts like the local timebase
(assumption 50). Holdover time is counted in TIME.HOLD_MS. -/
def pass (s0 : State) (ns : Nat) : State :=
  let s := passBkp s0 ns
  if stage s = 0 || s.pwr.storage then s
  else
    let t := s.time
    let t1 := { t with loc := t.loc + ns }
    let d : Int := t.rem + (ns : Int) * (1000000000 + (if fget s TIME.STAT.STATE = 4 then 0 else fgetI s TIME.RATE.PPB))
    let t2 := { t1 with ct := (t.ct + (d / 1000000000).toNat) % 2 ^ 64, rem := d % 1000000000 }
    if fget s TIME.STAT.STATE = 3 then
      let h := t.hold + ns
      fset { s with time := { t2 with hold := h } } TIME.HOLD_MS.MS (min (h / 1000000) 0xFFFFFFFF)
    else { s with time := t2 }

/-- One SYS cycle of 4 ns (R10) on an empty command queue (assumption 2). -/
def tick (s : State) : State := pass s 4

/-- The clocks are carried forward to the instant `t` of the local timebase that a command's rule names, where they
stand before it (assumption 3). -/
def passLoc (s : State) (t : Nat) : State := if s.time.loc < t then pass s (t - s.time.loc) else s

/-- The same for an instant `t` of the time served to users. -/
def passTo (s : State) (t : Nat) : State :=
  if served s < t then
    let s1 := pass s (t - served s)
    if hasCT s then { s1 with time := { s1.time with ct := t } } else { s1 with time := { s1.time with loc := t } }
  else s

/-- R452: the source events of common trigger `t` since it last fired. -/
def trgCount (s : State) (t : Nat) : Nat := tabGet (fun _ => 0) s.adc.trg t

/-- R452: an event of source `src`, instance `sel`, of the common triggers. -/
def trgEvent (s : State) (src sel : Nat) : State :=
  (List.range 4).foldl (fun u t =>
    if fget u (ADC.TRG.CFG.SRC t) = src ∧ fget u (ADC.TRG.CFG.SEL t) = sel then
      { u with adc := { u.adc with trg := tabPut (fun _ => 0) u.adc.trg t (trgCount u t + 1) } }
    else u) s

end Sys2Proof.Machine
end

