-- ==== Sys2Proof/Machine/Crypto.lean ====
section
/-!
DEFINITION. Machine/Crypto.lean: SHA-256 and the ECDSA P-256 verification of a signed image (R78, R79).
-/
namespace Sys2Proof.Machine

/-- The round constants of SHA-256. -/
def shaK : List Nat :=
  [0x428a2f98, 0x71374491, 0xb5c0fbcf, 0xe9b5dba5, 0x3956c25b, 0x59f111f1, 0x923f82a4, 0xab1c5ed5,
   0xd807aa98, 0x12835b01, 0x243185be, 0x550c7dc3, 0x72be5d74, 0x80deb1fe, 0x9bdc06a7, 0xc19bf174,
   0xe49b69c1, 0xefbe4786, 0x0fc19dc6, 0x240ca1cc, 0x2de92c6f, 0x4a7484aa, 0x5cb0a9dc, 0x76f988da,
   0x983e5152, 0xa831c66d, 0xb00327c8, 0xbf597fc7, 0xc6e00bf3, 0xd5a79147, 0x06ca6351, 0x14292967] ++
  [0x27b70a85, 0x2e1b2138, 0x4d2c6dfc, 0x53380d13, 0x650a7354, 0x766a0abb, 0x81c2c92e, 0x92722c85,
   0xa2bfe8a1, 0xa81a664b, 0xc24b8b70, 0xc76c51a3, 0xd192e819, 0xd6990624, 0xf40e3585, 0x106aa070,
   0x19a4c116, 0x1e376c08, 0x2748774c, 0x34b0bcb5, 0x391c0cb3, 0x4ed8aa4a, 0x5b9cca4f, 0x682e6ff3,
   0x748f82ee, 0x78a5636f, 0x84c87814, 0x8cc70208, 0x90befffa, 0xa4506ceb, 0xbef9a3f7, 0xc67178f2]

/-- The eight chaining words of SHA-256. -/
structure Sha where
  a : Nat := 0x6a09e667
  b : Nat := 0xbb67ae85
  c : Nat := 0x3c6ef372
  d : Nat := 0xa54ff53a
  e : Nat := 0x510e527f
  f : Nat := 0x9b05688c
  g : Nat := 0x1f83d9ab
  h : Nat := 0x5be0cd19
deriving DecidableEq, Repr

/-- A 32-bit rotation to the right. -/
def rotr (x n : Nat) : Nat := x / 2 ^ n + x % 2 ^ n * 2 ^ (32 - n)

/-- One round: the chaining words with the next constant, and the sixteen-word window of the schedule, oldest first. -/
def shaRound (x : Sha × List Nat) (k : Nat) : Sha × List Nat :=
  let s := x.1
  let w := x.2
  let w0 := w.getD 0 0
  let t1 := (s.h + (rotr s.e 6 ^^^ rotr s.e 11 ^^^ rotr s.e 25) + ((s.e &&& s.f) ^^^ ((0xFFFFFFFF - s.e) &&& s.g)) + k + w0) % 2 ^ 32
  let t2 := ((rotr s.a 2 ^^^ rotr s.a 13 ^^^ rotr s.a 22) + ((s.a &&& s.b) ^^^ (s.a &&& s.c) ^^^ (s.b &&& s.c))) % 2 ^ 32
  let w1 := w.getD 1 0
  let w14 := w.getD 14 0
  let next := (w0 + (rotr w1 7 ^^^ rotr w1 18 ^^^ w1 / 8) + w.getD 9 0 + (rotr w14 17 ^^^ rotr w14 19 ^^^ w14 / 1024)) % 2 ^ 32
  (⟨(t1 + t2) % 2 ^ 32, s.a, s.b, s.c, (s.d + t1) % 2 ^ 32, s.e, s.f, s.g⟩, w.drop 1 ++ [next])

/-- One block of sixteen words. -/
def shaBlock (s : Sha) (w : List Nat) : Sha :=
  let r := (shaK.foldl shaRound (s, w)).1
  ⟨(s.a + r.a) % 2 ^ 32, (s.b + r.b) % 2 ^ 32, (s.c + r.c) % 2 ^ 32, (s.d + r.d) % 2 ^ 32,
    (s.e + r.e) % 2 ^ 32, (s.f + r.f) % 2 ^ 32, (s.g + r.g) % 2 ^ 32, (s.h + r.h) % 2 ^ 32⟩

/-- Bytes taken four at a time as big-endian words. -/
def beWords : List Nat → List Nat
  | a :: b :: c :: d :: r => beNat [a, b, c, d] :: beWords r
  | _ => []

/-- Words taken sixteen at a time through `shaBlock`. -/
def shaBlocks : Nat → Sha → List Nat → Sha
  | 0, s, _ => s
  | n + 1, s, w => shaBlocks n (shaBlock s (w.take 16)) (w.drop 16)

/-- The SHA-256 digest of a byte string, as a number. -/
def sha256 (bs : List Nat) : Nat :=
  let n := bs.length
  let padded := bs ++ [0x80] ++ List.replicate ((119 - n % 64) % 64) 0 ++ (leBytes 8 (8 * n)).reverse
  let s := shaBlocks (padded.length / 64) {} (beWords padded)
  [s.b, s.c, s.d, s.e, s.f, s.g, s.h].foldl (fun v x => v * 2 ^ 32 + x) s.a

/-- The field of P-256. -/
def p256p : Nat := 0xffffffff00000001000000000000000000000000ffffffffffffffffffffffff
/-- The order of its base point. -/
def p256n : Nat := 0xffffffff00000000ffffffffffffffffbce6faada7179e84f3b9cac2fc632551
/-- The curve's coefficient b; a is -3. -/
def p256b : Nat := 0x5ac635d8aa3a93e7b3ebbd55769886bc651d06b0cc53b0f63bce3c3e27d2604b
/-- The base point. -/
def p256g : Nat × Nat :=
  (0x6b17d1f2e12c4247f8bce6e563a440f277037d812deb33a0f4a13945d898c296,
   0x4fe342e2fe1a7f9b8ee7eb4a7c0f9e162bce33576b315ececbb6406837bf51f5)

/-- `b ^ e` modulo `m`, over the 256 bits of `e`. -/
def powMod (b e m : Nat) : Nat :=
  ((List.range 256).foldl (fun (x : Nat × Nat) i => (if bitOf e i then x.1 * x.2 % m else x.1, x.2 * x.2 % m)) (1, b % m)).1

/-- The inverse modulo a prime. -/
def invMod (a m : Nat) : Nat := powMod a (m - 2) m

/-- The third point of a line of slope `l` through points of abscissa `x1`, `x2`, reflected. -/
def p256Third (l x1 y1 x2 : Nat) : Nat × Nat :=
  let x := (l * l + 2 * p256p - x1 - x2) % p256p
  (x, (l * (x1 + p256p - x) + p256p - y1) % p256p)

/-- The sum of two points of P-256; `none` is the point at infinity. -/
def p256Add (u v : Option (Nat × Nat)) : Option (Nat × Nat) :=
  match u, v with
  | none, q => q
  | p, none => p
  | some p, some q =>
    if p.1 = q.1 then
      if (p.2 + q.2) % p256p = 0 then none
      else some (p256Third ((3 * p.1 * p.1 + p256p - 3) * invMod (2 * p.2) p256p % p256p) p.1 p.2 q.1)
    else some (p256Third ((q.2 + p256p - p.2) * invMod (q.1 + p256p - p.1) p256p % p256p) p.1 p.2 q.1)

/-- `k` times a point. -/
def p256Mul (k : Nat) (p : Option (Nat × Nat)) : Option (Nat × Nat) :=
  ((List.range 256).foldl
    (fun (x : Option (Nat × Nat) × Option (Nat × Nat)) i => (if bitOf k i then p256Add x.1 x.2 else x.1, p256Add x.2 x.2))
    (none, p)).1

/-- Is (x, y) a point of the curve? -/
def p256On (x y : Nat) : Bool :=
  decide (x < p256p ∧ y < p256p) && y * y % p256p == (x * x * x + (p256p - 3) * x + p256b) % p256p

/-- R78, FIPS 186-5: does the signature (r, s) of key (x, y) verify a message of digest `e`? -/
def ecdsaOk (x y r s e : Nat) : Bool :=
  if 1 ≤ r ∧ r < p256n ∧ 1 ≤ s ∧ s < p256n ∧ p256On x y then
    let w := invMod s p256n
    match p256Add (p256Mul (e * w % p256n) (some p256g)) (p256Mul (r * w % p256n) (some (x, y))) with
    | none => false
    | some q => q.1 % p256n == r
  else false

end Sys2Proof.Machine
end

