-- ==== Sys2Proof/Machine/Calendar.lean ====
section
/-!
DEFINITION. Machine/Calendar.lean: the calendar of the backup domain, in seconds from 2000-01-01 00:00:00 (R609).
-/
namespace Sys2Proof.Machine

/-- R609: is year 2000 + y a leap year? -/
def leapYear (y : Nat) : Bool := y % 4 == 0 && (y % 100 != 0 || y % 400 == 0)

/-- Days from 2000-01-01 to the first day of year 2000 + y. -/
def daysBefore (y : Nat) : Nat := 365 * y + (y + 3) / 4 + (y + 399) / 400 - (y + 99) / 100

/-- The days of month m (1 to 12) of year 2000 + y. -/
def monthDays (y m : Nat) : Nat :=
  if m = 2 then (if leapYear y then 29 else 28) else if m = 4 ∨ m = 6 ∨ m = 9 ∨ m = 11 then 30 else 31

/-- Days of year 2000 + y before month m. -/
def monthBefore (y : Nat) : Nat → Nat
  | 0 => 0
  | m + 1 => if m = 0 then 0 else monthBefore y m + monthDays y m

/-- The day count of a date. -/
def dayCount (y m d : Nat) : Nat := daysBefore y + monthBefore y m + (d - 1)

/-- Does the date exist, within the calendar's years? -/
def dateExists (year m d : Nat) : Bool :=
  decide (2000 ≤ year ∧ year ≤ 2199 ∧ 1 ≤ m ∧ m ≤ 12 ∧ 1 ≤ d) && decide (d ≤ monthDays (year - 2000) m)

/-- The year, from 2000, that holds a day. -/
def yearOf (day : Nat) : Nat := ((List.range 200).filter fun y => decide (daysBefore y ≤ day)).length - 1

/-- The month that holds a day of year 2000 + y. -/
def monthOf (y rest : Nat) : Nat := ((List.range 12).filter fun m => decide (monthBefore y (m + 1) ≤ rest)).length

/-- The last second the calendar counts, 2199-12-31 23:59:59. -/
def lastSecond : Nat := daysBefore 200 * 86400 - 1

/-- The calendar in seconds from 2000-01-01 00:00:00. -/
def rtcSeconds (s : State) : Nat :=
  dayCount (fget s RTC.DATE.YEAR - 2000) (fget s RTC.DATE.MONTH) (fget s RTC.DATE.DAY) * 86400 +
    fget s RTC.TIME.HOUR * 3600 + fget s RTC.TIME.MIN * 60 + fget s RTC.TIME.SEC

/-- R609: the calendar set to a number of seconds; WDAY follows the date. -/
def rtcPut (s : State) (secs : Nat) : State :=
  let day := secs / 86400
  let y := yearOf day
  let rest := day - daysBefore y
  let m := monthOf y rest
  let s1 := fset (fset (fset s RTC.DATE.YEAR (2000 + y)) RTC.DATE.MONTH m) RTC.DATE.DAY (rest - monthBefore y m + 1)
  let s2 := fset s1 RTC.DATE.WDAY ((day + 5) % 7)
  fset (fset (fset s2 RTC.TIME.HOUR (secs / 3600 % 24)) RTC.TIME.MIN (secs / 60 % 60)) RTC.TIME.SEC (secs % 60)

end Sys2Proof.Machine
end

