-- ==== Sys2Proof/Machine/F32.lean ====
section
/-!
DEFINITION. Machine/F32.lean: IEEE 754 binary32 arithmetic on bit patterns, rounding to nearest with ties to even (R154).
-/
namespace Sys2Proof.Machine

/-- The sign bit of a binary32 pattern. -/
def f32Neg (b : Nat) : Bool := b / 2 ^ 31 % 2 == 1

/-- The exponent field. -/
def f32Exp (b : Nat) : Nat := b / 2 ^ 23 % 256

/-- Is the pattern a finite number? -/
def f32Finite (b : Nat) : Bool := decide (f32Exp b < 255)

/-- Is the pattern a NaN? -/
def f32IsNaN (b : Nat) : Bool := f32Exp b == 255 && b % 2 ^ 23 != 0

/-- The significand as a whole number: the value is it times 2^(f32Pow - 149). -/
def f32Sig (b : Nat) : Nat := if f32Exp b = 0 then b % 2 ^ 23 else b % 2 ^ 23 + 2 ^ 23

/-- The power of two of the significand, counted from 2^-149. -/
def f32Pow (b : Nat) : Nat := f32Exp b - 1

/-- A finite pattern's value times 2^149, a whole number. -/
def f32Scaled (b : Nat) : Int :=
  let m : Int := (f32Sig b * 2 ^ f32Pow b : Nat)
  if f32Neg b then -m else m

/-- The quotient of whole numbers rounded to nearest, ties to even. -/
def divNearest (n d : Nat) : Nat :=
  let q := n / d
  let r := n % d
  if d < 2 * r ∨ (2 * r = d ∧ q % 2 = 1) then q + 1 else q

/-- The sign bit as a number. -/
def f32SignBit (neg : Bool) : Nat := if neg then 2 ^ 31 else 0

/-- Infinity. -/
def f32Inf (neg : Bool) : Nat := f32SignBit neg + 0x7F800000

/-- The NaN the model answers with. -/
def f32NaN : Nat := 0x7FC00000

/-- The binary32 pattern nearest to (num / den) * 2^-149; `den` is not 0. -/
def f32Round (neg : Bool) (num den : Nat) : Nat :=
  let k := Nat.log2 (num / den)
  let sh := k - 23
  let q := divNearest num (den * 2 ^ sh)
  let e := if q = 2 ^ 24 then sh + 1 else sh
  let m := if q = 2 ^ 24 then 2 ^ 23 else q
  if num = 0 then f32SignBit neg
  else if m < 2 ^ 23 then f32SignBit neg + m
  else if 254 ≤ e then f32Inf neg
  else f32SignBit neg + (e + 1) * 2 ^ 23 + (m - 2 ^ 23)

/-- The pattern of a scaled whole number (times 2^-149); a zero result is positive. -/
def f32OfScaled (v : Int) : Nat := f32Round (decide (v < 0)) v.natAbs 1

/-- The pattern nearest to num / den. -/
def f32OfRat (num : Int) (den : Nat) : Nat := f32Round (decide (num < 0)) (num.natAbs * 2 ^ 149) den

/-- Negation. -/
def f32Minus (b : Nat) : Nat := if f32Neg b then b - 2 ^ 31 else b + 2 ^ 31

/-- Addition. -/
def f32Add (a b : Nat) : Nat :=
  if f32IsNaN a || f32IsNaN b then f32NaN
  else if !f32Finite a then (if !f32Finite b && f32Neg a != f32Neg b then f32NaN else a)
  else if !f32Finite b then b
  else
    let v := f32Scaled a + f32Scaled b
    if v = 0 then f32SignBit (f32Neg a && f32Neg b) else f32OfScaled v

/-- Subtraction. -/
def f32Sub (a b : Nat) : Nat := f32Add a (f32Minus b)

/-- Multiplication. -/
def f32Mul (a b : Nat) : Nat :=
  let neg := f32Neg a != f32Neg b
  if f32IsNaN a || f32IsNaN b then f32NaN
  else if !f32Finite a then (if f32Finite b && f32Sig b == 0 then f32NaN else f32Inf neg)
  else if !f32Finite b then (if f32Sig a == 0 then f32NaN else f32Inf neg)
  else f32Round neg (f32Sig a * f32Sig b * 2 ^ (f32Pow a + f32Pow b)) (2 ^ 149)

/-- Division. -/
def f32Div (a b : Nat) : Nat :=
  let neg := f32Neg a != f32Neg b
  if f32IsNaN a || f32IsNaN b then f32NaN
  else if !f32Finite a then (if f32Finite b then f32Inf neg else f32NaN)
  else if !f32Finite b then f32SignBit neg
  else if f32Sig b = 0 then (if f32Sig a = 0 then f32NaN else f32Inf neg)
  else f32Round neg (f32Sig a * 2 ^ f32Pow a * 2 ^ 149) (f32Sig b * 2 ^ f32Pow b)

/-- The number as a scaled whole number for comparison, infinities beyond every finite number. -/
def f32Order (b : Nat) : Int :=
  if f32Finite b then f32Scaled b else if f32Neg b then -(2 ^ 300 : Nat) else (2 ^ 300 : Nat)

/-- a ≤ b. -/
def f32Le (a b : Nat) : Bool := !f32IsNaN a && !f32IsNaN b && decide (f32Order a ≤ f32Order b)

/-- a < b. -/
def f32Lt (a b : Nat) : Bool := !f32IsNaN a && !f32IsNaN b && decide (f32Order a < f32Order b)

/-- The greater of two numbers. -/
def f32Max (a b : Nat) : Nat := if f32Le a b then b else a

/-- The pattern of v / 16. -/
def f32Of16 (v : Int) : Nat := f32OfRat v 16

/-- The number times `k`, rounded to nearest with ties to even, kept within 16 bits signed. -/
def f32ToFixed (b k : Nat) : Int :=
  let v := f32Order b
  let m : Int := (divNearest (v.natAbs * k) (2 ^ 149) : Nat)
  clampInt (-32768) 32767 (if v < 0 then -m else m)

/-- The number rounded up to a whole number, not negative. -/
def f32Ceil (b : Nat) : Nat := ceilDiv (f32Order b).toNat (2 ^ 149)

end Sys2Proof.Machine
end

