-- ==== Sys2Proof/Machine/Channel.lean ====
section
/-!
DEFINITION. Machine/Channel.lean: the load channels (R97-R150, R679).
-/
namespace Sys2Proof.Machine

/-- The state of channel `n` (R101). -/
def chState (s : State) (n : Nat) : Nat := fget s (CHN.STAT.STATE n)

/-- A journal record of channel `n` (R642). -/
def chJournal (s : State) (n event code : Nat) : State :=
  let a := 0x20000 + 0x100 * n
  journal s 0x03 n event code [regWord s (a + 4), regWord s (a + 0x54), regWord s (a + 0x20), regWord s (a + 0x48)]

/-- R101: the states with the gate off from which a turn-on mode asks for admission (R103). -/
def chStartable (st : Nat) : Bool := decide (st ≤ 2) || st == 0xC

/-- R104, R121: channel `n` enters PENDING with the reservation of its consumer entry. -/
def chPend (s : State) (n : Nat) (retry : Bool) : State :=
  let s1 := fset (fset s (CHN.STAT.STATE n) 3) (CHN.STAT.PENDING n) 1
  let s2 := setChan s1 n { chan s1 n with retry := retry }
  request s2 (.chan n retry) (fget s2 (CHN.LEDG.RESV_MW n))

/-- R111, R114: channel `n` enters a driven state. PRE clears USED_MJ; PWM takes the present period, duty and phase. -/
def chEnter (s : State) (n st : Nat) : State :=
  let s1 := fset (fset s (CHN.STAT.STATE n) st) (CHN.STAT.PENDING n) 0
  if st = 8 then fset (setChan s1 n { chan s1 n with used := 0, toOn := false }) (CHN.PRE_E.USED_MJ n) 0
  else if st = 6 then
    setChan s1 n { chan s1 n with
      per := fget s1 (CHN.PWM_PER.PERIOD n), duty := fget s1 (CHN.PWM_DUTY.DUTY n), phase := fget s1 (CHN.PWM_DUTY.PHASE n), toOn := false }
  else setChan s1 n { chan s1 n with toOn := false }

/-- R103: the driven state that a turn-on mode leads to. -/
def chTarget (m : Nat) : Nat := if m = 2 then 6 else if m = 3 then 7 else if m = 4 then 8 else 4

/-- R103: an admitted channel leaves PENDING per MODE. -/
def chAdmitted (s : State) (n : Nat) : State :=
  if chState s n = 3 then chEnter s n (chTarget (fget s (CHN.CTL.MODE n))) else s

/-- R103, R104, R121: a refused direct turn-on returns to OFF with MODE off; a refused retry returns to WAIT. -/
def chRefused (s : State) (n code : Nat) : State :=
  if chState s n = 3 then
    let s1 := fset (fset s (CHN.STAT.PENDING n) 0) (CHN.STAT.REFUSE_CODE n) code
    if (chan s n).retry then
      chJournal (fset (fset s1 (CHN.STAT.STATE n) 0xA) (CHN.EVT.RETRY_REFUSED n) 1) n 5 code
    else
      chJournal (fset (fset (fset s1 (CHN.STAT.STATE n) 0) (CHN.CTL.MODE n) 0) (CHN.EVT.REFUSED n) 1) n 4 code
  else s

/-- Pending causes and the retry of channel `n` are dropped. -/
def chCancelRetry (s : State) (n : Nat) : State :=
  setChan s n { chan s n with pSc := false, pOc := false, pWire := false, pSoa := false, retry := false }

/-- R113: the start of a turn-off records its CT and is journalled. -/
def chOffEdge (s : State) (n : Nat) : State := chJournal (edgeCt s n) n 0xE1 (fget s (CHN.STAT.CAUSE n))

/-- R112: a pre-charge ends without a turn-on; the flag of the way it ended is set and one record written. -/
def chPreEnd (s : State) (n : Nat) (f : Fld) : State :=
  let s1 := fset (fset (fset (edgeCt s n) (CHN.STAT.STATE n) 0) (CHN.CTL.MODE n) 0) f 1
  chJournal s1 n f.lo (fget s1 (CHN.STAT.CAUSE n))

/-- R103, R113: MODE off. -/
def chOff (s : State) (n : Nat) : State :=
  let st := chState s n
  let s1 := fset s (CHN.CTL.MODE n) 0
  if st = 3 then
    chCancelRetry (fset (fset (withdraw s1 (isChanReq n)) (CHN.STAT.STATE n) 0) (CHN.STAT.PENDING n) 0) n
  else if st = 8 then chPreEnd s1 n (CHN.EVT.PRE_STOP n)
  else if drivenState st then chOffEdge (fset s1 (CHN.STAT.STATE n) (if fon s (CHN.CFG.OFF_SLOW n) then 9 else 0)) n
  else if st = 0xA then chCancelRetry (fset s1 (CHN.STAT.STATE n) 0) n
  else s1

/-- R103: a turn-on mode meets a channel that is not off: the transitions it lists, else no effect. -/
def chShift (s : State) (n m : Nat) : State :=
  let st := chState s n
  let s1 := fset s (CHN.CTL.MODE n) m
  if (st = 7 ∨ st = 8) ∧ m = 1 then chEnter s1 n 4
  else if st = 5 ∧ (m = 2 ∨ m = 3) then chEnter s1 n (chTarget m)
  else if st = 6 ∧ m = 1 then setChan s1 n { chan s1 n with toOn := true }
  else if st = 6 ∧ m = 3 then chEnter s1 n 7
  else s

/-- R103, R163: does a MODE write or strobe complete with ILLEGAL_STATE? -/
def chModeIllegal (s : State) (n m : Nat) : Bool :=
  let st := chState s n
  !fon s (CHN.CFG.EN n) ||
    decide (m ≠ 0) && (fon s (WIRE.STAT.HOLD n) || decide (st = 0xA ∨ st = 0xB ∨ st = 0xD)) ||
    decide (m = 4 ∧ 4 ≤ st ∧ st ≤ 7)

/-- R103: a MODE write as a direct command, or a launch strobe (`strobe`) whose admission is already obtained. -/
def chCommand (s : State) (n m : Nat) (strobe : Bool) : State × Nat :=
  if chModeIllegal s n m then (s, stIllegal)
  else if m = 0 then (chOff s n, stOk)
  else if chStartable (chState s n) then
    let s1 := fset s (CHN.CTL.MODE n) m
    (if strobe then chEnter s1 n (chTarget m) else chPend s1 n false, stOk)
  else (chShift s n m, stOk)

/-- R679, R128: before step 5 of R50 a MODE write only stores the value; from then on it is a direct command. A reserved
encoding leaves MODE as it is and commands nothing (R5). -/
def chMode (s : State) (n m : Nat) : State × Nat :=
  if !fon s (CHN.CFG.EN n) then (s, stIllegal)
  else if 5 ≤ m then (s, stOk)
  else if s.start.running then chCommand s n m false
  else (fset s (CHN.CTL.MODE n) m, stOk)

/-- R125: CLR_LATCH moves LATCHED to OFF; before step 5 of R50 it has no effect (R679). -/
def chClrLatch (s : State) (n : Nat) : State :=
  if s.start.running ∧ chState s n = 0xB then fset (fset s (CHN.STAT.STATE n) 0) (CHN.STAT.LATCHED n) 0 else s

/-- R125, R103: a CTL word. A MODE that the channel's state makes ILLEGAL_STATE leaves CLR_LATCH without effect too. -/
def chCtl (s : State) (n m : Nat) (clr : Bool) : State × Nat :=
  if !fon s (CHN.CFG.EN n) || decide (m < 5) && s.start.running && chModeIllegal s n m then (s, stIllegal)
  else chMode (if clr then chClrLatch s n else s) n m

/-- R128: an unused channel is held in OFF, from step 3 of R50 on. -/
def chUnused (s : State) (n : Nat) : State :=
  if fon s (CHN.CFG.EN n) || !s.start.applied || chState s n == 0xD then s
  else
    let s1 := if chDriven s n then edgeCt s n else s
    let s2 := fset (fset (withdraw s1 (isChanReq n)) (CHN.STAT.STATE n) 0) (CHN.CTL.MODE n) 0
    setChan (fset (fset s2 (CHN.STAT.PENDING n) 0) (CHN.STAT.LATCHED n) 0) n
      { chan s n with pSc := false, pOc := false, pWire := false, pSoa := false, retry := false, toOn := false }

/-- R679: at step 5 each channel acts on its stored MODE; off turns off a channel that runs from its Dawn state, and a
value that the present state already satisfies has no effect. -/
def chStored (s : State) (n : Nat) : State :=
  let m := fget s (CHN.CTL.MODE n)
  if m = 0 then (if chDriven s n || chState s n == 0xA then chOff s n else s) else (chCommand s n m false).1

/-- r_c of cause `c`: 0 SC, 1 OC, 2 WIRE, 3 SOA (R120). -/
def chR (x : ChanX) (c : Nat) : Nat := if c = 0 then x.rSc else if c = 1 then x.rOc else if c = 2 then x.rWire else x.rSoa

/-- r_c replaced. -/
def chSetR (x : ChanX) (c v : Nat) : ChanX :=
  if c = 0 then { x with rSc := v } else if c = 1 then { x with rOc := v } else if c = 2 then { x with rWire := v } else { x with rSoa := v }

/-- Cause `c` becomes pending. -/
def chSetPend (x : ChanX) (c : Nat) : ChanX :=
  if c = 0 then { x with pSc := true } else if c = 1 then { x with pOc := true }
  else if c = 2 then { x with pWire := true } else { x with pSoa := true }

/-- The event flag of cause `c`. -/
def chEvt (n c : Nat) : Fld :=
  if c = 0 then CHN.EVT.SC n else if c = 1 then CHN.EVT.OC n else if c = 2 then CHN.EVT.WIRE n else CHN.EVT.SOA n

/-- The trip counter of cause `c`. -/
def chCnt (n c : Nat) : Fld :=
  if c = 0 then CHN.CNT.SC n else if c = 1 then CHN.CNT.OC n else if c = 2 then CHN.CNT.WIRE n else CHN.CNT.SOA n

/-- The fault source of cause `c` (R568). -/
def chSource (n c : Nat) : Nat := if c = 0 then n else if c = 1 then 0x40 + n else if c = 2 then 0xC0 + n else 0x80 + n

/-- R120: the wait of the next retry of cause `c` in milliseconds; DELAY = 0 is taken as 1 (R138). -/
def chWait (s : State) (n c : Nat) : Nat :=
  let d := atLeast1 (fget s (CHN.RETRY.DELAY n c))
  min 65535 (if fon s (CHN.RETRY.BACKOFF n c) then d * 2 ^ min (chR (chan s n) c) 16 else d)

/-- R120: retries of cause `c` are exhausted. -/
def chExhausted (s : State) (n c : Nat) : Bool :=
  let k := fget s (CHN.RETRY.COUNT n c)
  decide (k ≠ 15 ∧ k ≤ chR (chan s n) c)

/-- R115-R117, R120: what every trip records, and its fault source. -/
def chMark (s : State) (n c : Nat) : State :=
  let s1 := finc (fset (fset s (chEvt n c) 1) (CHN.STAT.CAUSE n) (c + 1)) (chCnt n c)
  chJournal (raise s1 (chSource n c)) n c (c + 1)

/-- R102, R119: entry to LATCHED. -/
def chLatch (s : State) (n : Nat) : State :=
  let s1 := fset (fset (fset (fset s (CHN.STAT.STATE n) 0xB) (CHN.CTL.MODE n) 0) (CHN.STAT.LATCHED n) 1) (CHN.EVT.LATCH n) 1
  chJournal (raise (chCancelRetry s1 n) (0x100 + n)) n 10 (fget s1 (CHN.STAT.CAUSE n))

/-- R103, R120: a trip of cause `c` in a driven state or RAMP_DOWN; in SAFE a kept channel's gate goes low without a
retry (R574). In any other state there is no trip. -/
def chTrip (s : State) (n c : Nat) : State :=
  let st := chState s n
  if st = 0xD ∧ (chan s n).kept then chMark (edgeCt (setChan s n { chan s n with kept := false }) n) n c
  else if drivenState st || st == 9 then
    let s1 := if st = 9 then s else edgeCt s n
    if chExhausted s n c then
      let s2 := chMark (fset s1 (CHN.STAT.RTRY n) (min 15 (chR (chan s n) c))) n c
      if chState s2 n = 0xD then s2 else chLatch s2 n
    else
      let x := chan s1 n
      let x1 := chSetPend (chSetR x c (chR x c + 1)) c
      let t := localNs s + chWait s n c * 1000000
      let s2 := setChan s1 n { x1 with ready := max x.ready t, retry := false, toOn := false }
      chMark (fset (fset s2 (CHN.STAT.RTRY n) (min 15 (chR x1 c))) (CHN.STAT.STATE n) 0xA) n c
  else s

/-- R120: every pending cause is ready: WIRE once the wire is released, SOA once the accumulator is zero. No channel asks
for admission before step 5 of R50. -/
def chReady (s : State) (n : Nat) : Bool :=
  let x := chan s n
  s.start.running && chState s n == 0xA && !fon s (WIRE.STAT.HOLD n) && (!x.pSoa || x.soa == 0)

/-- R103, R404: a ledger shed. A privileged channel is never shed (R123). -/
def chShed (s : State) (n : Nat) : State :=
  let st := chState s n
  if fon s (CHN.CFG.PRIV_ACT n) then s
  else if st = 3 ∨ st = 0xA ∨ (4 ≤ st ∧ st ≤ 9) then
    let s1 := if drivenState st then edgeCt s n else s
    let s2 := fset (fset (fset (fset (withdraw s1 (isChanReq n)) (CHN.STAT.STATE n) 0xC) (CHN.STAT.PENDING n) 0) (CHN.CTL.MODE n) 0) (CHN.EVT.SHED n) 1
    chJournal (chCancelRetry s2 n) n 9 4
  else s

/-- R116: the I2t rule at a converter result: the accumulator in mA^2 ns. -/
def i2tNext (acc iMa nomMa dtNs : Nat) : Nat :=
  ((acc : Int) + (((iMa * iMa : Nat) : Int) - ((nomMa * nomMa : Nat) : Int)) * (dtNs : Int)).toNat

/-- R99, R116, R118: a converter result of channel `n` at this instant: MEAS_I, the I2t rule with its trip of cause OC,
and the end of an open load. -/
def chResult (s : State) (n iMa : Nat) : State :=
  let x := chan s n
  let dt := match x.lastRes with
    | some t => localNs s - t
    | none => 0
  let acc := i2tNext x.i2t iMa (fget s (CHN.OC.I_NOM_MA n)) dt
  let s1 := fset s (CHN.MEAS_I.I_MA n) (min iMa 0xFFFFF)
  let s2 := setChan s1 n { x with i2t := acc, lastRes := some (localNs s) }
  let s3 := fset s2 (CHN.I2T_ACC.ACC n) (min (acc / 1000000000000) 0xFFFFFF)
  let s4 := if fget s (CHN.OL.OL_MA n) < iMa then fset s3 (CHN.STAT.OPEN_LOAD n) 0 else s3
  if atLeast1 (fget s (CHN.OC.I2T_LIM n)) * 1000000000000 ≤ acc then chTrip s4 n 1 else s4

/-- R109: the SOA accumulator after one 2 µs tick, in picojoule. -/
def soaNext (acc add pCont : Nat) : Nat := acc + add - pCont * 200000

/-- R164, R171: the wire model of channel `n` stops; TEMP reads 0 while it does not run. -/
def wireStop (s : State) (n : Nat) : State :=
  fset (fset (fset s (WIRE.STAT.RUN n) 0) (WIRE.TEMP.TC n) 0) (WIRE.TEMP.TI n) 0

/-- R164: in Night the models of a half in which no channel is driven stop. -/
def wireNightStop (s : State) : State :=
  if stage s = 4 then
    let stop (lo : Nat) (t : State) : State :=
      let half := (List.range 32).map fun i => i + lo
      if half.any fun n => chDriven t n || (chState t n == 0xD && (chan t n).kept) then t else half.foldl wireStop t
    stop 32 (stop 0 s)
  else s

/-! ### The commands -/

/-- CHN_MODE_OFF. -/
def execChnModeOff (ch : Fin 64) (s : State) : Host.Outcome State Fault Refusal :=
  .next (wireNightStop (atTarget s ch fun t => chMode t ch 0))

/-- CHN_MODE_ON. -/
def execChnModeOn (ch : Fin 64) (s : State) : Host.Outcome State Fault Refusal :=
  .next (atTarget s ch fun t => chMode t ch 1)

/-- CHN_MODE_PWM. -/
def execChnModePwm (ch : Fin 64) (s : State) : Host.Outcome State Fault Refusal :=
  .next (atTarget s ch fun t => chMode t ch 2)

/-- CHN_MODE_CREG. -/
def execChnModeCreg (ch : Fin 64) (s : State) : Host.Outcome State Fault Refusal :=
  .next (atTarget s ch fun t => chMode t ch 3)

/-- CHN_MODE_PRECHARGE. -/
def execChnModePrecharge (ch : Fin 64) (s : State) : Host.Outcome State Fault Refusal :=
  .next (atTarget s ch fun t => chMode t ch 4)

/-- CHN_CLR_LATCH. -/
def execChnClrLatch (ch : Fin 64) (s : State) : Host.Outcome State Fault Refusal :=
  .next (atTarget s ch fun t => (chClrLatch t ch, stOk))

/-- RAMP_COMPLETE: RAMP to ON with the CT of the edge (R108). -/
def execRampComplete (ch : Fin 64) (s : State) : Host.Outcome State Fault Refusal :=
  .next (if chState s ch = 4 then chJournal (edgeCt (fset s (CHN.STAT.STATE ch) 5) ch) ch 0xE0 (fget s (CHN.STAT.CAUSE ch)) else s)

/-- RAMP_TIME_LIMIT: RAMP has outlasted SOA.TIME_MS, whose 0 disables the limit (R108, R140). -/
def execRampTimeLimit (ch : Fin 64) (s : State) : Host.Outcome State Fault Refusal :=
  .next (if chState s ch = 4 ∧ fget s (CHN.SOA.TIME_MS ch) ≠ 0 then chTrip s ch 3 else s)

/-- SOA_SAMPLE: the 2 µs tick of R109, and the pre-charge energy of R111. -/
def execSoaSample (ch : Fin 64) (vdsMv iMa vbankMv : Nat) (s : State) : Host.Outcome State Fault Refusal :=
  let st := chState s ch
  let x := chan s ch
  let acc := soaNext x.soa (if st = 4 ∨ st = 7 ∨ st = 8 then 2 * (vdsMv * iMa) else 0) (fget s (CHN.SOA_P.P_CONT ch))
  let used := if st = 8 then x.used + 2 * (vbankMv * iMa) else x.used
  let s1 := setChan s ch { x with soa := acc, used := used }
  let s2 := fset s1 (CHN.SOA_P.ACC_MJ ch) (min (acc / 1000000000) 0xFFFF)
  let s3 := if st = 8 then fset s2 (CHN.PRE_E.USED_MJ ch) (min (used / 1000000000) 0xFFFF) else s2
  .next (if fget s (CHN.SOA.ENERGY_MJ ch) * 1000000000 ≤ acc then chTrip s3 ch 3 else s3)

/-- SC_TRIP: the short-circuit comparator is armed in every driven state and in RAMP_DOWN (R101, R115). -/
def execScTrip (ch : Fin 64) (s : State) : Host.Outcome State Fault Refusal := .next (chTrip s ch 0)

/-- OPEN_LOAD: in ON, with OL_MS not 0 (R118). -/
def execOpenLoad (ch : Fin 64) (s : State) : Host.Outcome State Fault Refusal :=
  .next (if chState s ch = 5 ∧ fget s (CHN.OL.OL_MS ch) ≠ 0 ∧ fget s (CHN.STAT.OPEN_LOAD ch) = 0 then
    raise (fset (fset s (CHN.STAT.OPEN_LOAD ch) 1) (CHN.EVT.OL ch) 1) (0x140 + ch) else s)

/-- PRE_LIMIT: the pre-charge has used MAX_MJ (R112). -/
def execPreLimit (ch : Fin 64) (s : State) : Host.Outcome State Fault Refusal :=
  .next (if chState s ch = 8 then
    chPreEnd (fmax s (CHN.PRE_E.USED_MJ ch) (atLeast1 (fget s (CHN.PRE_E.MAX_MJ ch)))) ch (CHN.EVT.PRE_LIMIT ch) else s)

/-- RAMP_DOWN_COMPLETE: V_GS is below 1.0 V (R113). -/
def execRampDownComplete (ch : Fin 64) (s : State) : Host.Outcome State Fault Refusal :=
  .next (if chState s ch = 9 then fset s (CHN.STAT.STATE ch) 0 else s)

/-- R114: at a period boundary a new duty, period and phase take effect; a channel told to go on enters ON at this rising
edge (R103), which a duty of 0 does not have. -/
def chPwmStart (s : State) (n : Nat) : State :=
  let d := fget s (CHN.PWM_DUTY.DUTY n)
  let x := { chan s n with per := clampNat 4000 2000000 (fget s (CHN.PWM_PER.PERIOD n)), duty := d, phase := fget s (CHN.PWM_DUTY.PHASE n) }
  if x.toOn && d != 0 then fset (setChan s n { x with toOn := false }) (CHN.STAT.STATE n) 5 else setChan s n x

/-- PWM_PERIOD_START: the boundary is also a source event of the common triggers (R452). -/
def execPwmPeriodStart (ch : Fin 64) (s : State) : Host.Outcome State Fault Refusal :=
  .next (if chState s ch = 6 then trgEvent (chPwmStart s ch) 3 ch else s)

/-- RETRY_READY: the ready time of the pending causes has come (R120); the channel asks for admission (R121). -/
def execRetryReady (ch : Fin 64) (s : State) : Host.Outcome State Fault Refusal :=
  if chState s ch = 0xA ∧ (chan s ch).retry = false then
    let s1 := passLoc s (chan s ch).ready
    .next (if chReady s1 ch then chPend (chCancelRetry s1 ch) ch true else s1)
  else .next s

/-- RETRY_REREQUEST: 1 ms after a refused retry the request is repeated (R121). -/
def execRetryRerequest (ch : Fin 64) (s : State) : Host.Outcome State Fault Refusal :=
  .next (if (chan s ch).retry ∧ chReady s ch then chPend s ch true else s)

/-- The number R120 gives a cause. -/
def causeIdx : TripCause → Nat
  | .sc => 0
  | .oc => 1
  | .wire => 2
  | .soa => 3

/-- RETRY_COUNT_RESET: after 1 s in ON, PWM or CREG without a trip of the cause (R120). -/
def execRetryCountReset (ch : Fin 64) (cause : TripCause) (s : State) : Host.Outcome State Fault Refusal :=
  let c := causeIdx cause
  .next (if 5 ≤ chState s ch ∧ chState s ch ≤ 7 then
    let s1 := setChan s ch (chSetR (chan s ch) c 0)
    if fget s (CHN.STAT.CAUSE ch) = c + 1 then fset s1 (CHN.STAT.RTRY ch) 0 else s1
  else s)

end Sys2Proof.Machine
end

