-- ==== Sys2Proof/Machine/Frame.lean ====
section
/-!
DEFINITION. Machine/Frame.lean: the periodic frames and their deadline policy (R16-R20).
-/
namespace Sys2Proof.Machine

/-- What the part holds of frame `f` beside its registers. -/
def frame (s : State) (f : Nat) : FrameX := tabGet (fun _ => {}) s.frames f

/-- What the part holds of frame `f` beside its registers, replaced. -/
def setFrame (s : State) (f : Nat) (x : FrameX) : State := { s with frames := tabPut (fun _ => {}) s.frames f x }

/-- R16, R478: the nominal period of frame `f` in nanoseconds. -/
def framePeriod (s : State) (f : Nat) : Nat :=
  10 * (if f = 1 then max 2000 (fget s CMP.TICK.PERIOD) else fget s (FRM.INFO.PERIOD f))

/-- R16: the engine that runs frame `f`; the CMP hardware runs frame 1. -/
def frameEngine (f : Nat) : Option Nat := if f = 0 then some 0 else if f = 2 then some 4 else if f = 3 then some 5 else if f = 4 then some 3 else none

/-- R17: the first multiple of `p` that is not earlier than `t`. -/
def multipleFrom (p t : Nat) : Nat := ceilDiv t p * p

/-- R17: frame `f` is anchored at the first multiple of its period not earlier than the end of the frame in progress.
`d` is by how much the served time has just jumped: the frame in progress keeps its instants. -/
def frameAnchor (d : Int) (s : State) (f : Nat) : State :=
  let x := frame s f
  let x1 := { x with start := ((x.start : Int) + d).toNat, fin := ((x.fin : Int) + d).toNat }
  let t := if x.ran then max (served s) x1.fin else served s
  setFrame s f { x1 with fresh := true, anchor := multipleFrom (framePeriod s f) t, next := 0 }

/-- R17: every frame is anchored, the served time having jumped by `d`. -/
def anchorAll (s : State) (d : Int) : State := (List.range 5).foldl (frameAnchor d) s

/-- R17, R18: the nominal and the actual start of the next frame. A frame fresh from anchoring starts at its nominal
start, the first that is not past. -/
def frameStart (s : State) (f : Nat) : Nat × Nat :=
  let x := frame s f
  let p := framePeriod s f
  if x.fresh then
    let t := max x.anchor (multipleFrom p (served s))
    (t, t)
  else
    let t := x.anchor + x.next * p
    (t, max (served s) (max x.fin (max t (x.start + p * 3 / 4))))

/-- R18: what the start of a frame with lag `lag` (in 10 ns) does to the frame's registers, and its fault source. -/
def frameLag (s : State) (f lag : Nat) : State :=
  let l := min lag 0xFFFFFF
  let s1 := fsetB (fmax (fset s (FRM.LAG.LAG f) l) (FRM.WORST.WORST f) l) (FRM.STAT.CATCHING f) (lag != 0)
  let s2 := if lag = 0 then s1 else finc s1 (FRM.CNT.LATE f)
  let lim := fget s (FRM.LIMIT.LAG_LIMIT f)
  if lim ≠ 0 ∧ lim < l then raise (fset (finc s2 (FRM.CNT.LIMIT_EXC f)) (FRM.STAT.LAG_FLT f) 1) (0x246 + f) else s2

/-- R20: an overrun, counted for the frame and for the engine that runs it. -/
def frameOverrun (s : State) (f : Nat) : State :=
  let s1 := finc s (FRM.OVR.COUNT f)
  match frameEngine f with
  | some e => finc s1 (ENG.OVR.COUNT e)
  | none => s1

/-- The frame runs: engines run (step 5 of R50) and its engine is not halted (R14). -/
def frameRuns (s : State) (f : Nat) : Bool :=
  s.start.running && (match frameEngine f with
    | some e => !halted s e
    | none => true)

/-- R16-R20: the start of frame `f` whose work lasts `work` ns. The clocks stand at its start S; the second result is
the time since its previous start, 0 for the first. -/
def frameBegin (s : State) (f work : Nat) : State × Nat :=
  let x := frame s f
  let p := framePeriod s f
  let t := frameStart s f
  let s1 := passTo s t.2
  let s2 := setFrame s1 f
    { x with fresh := false, anchor := if x.fresh then t.1 else x.anchor, next := if x.fresh then 1 else x.next + 1, start := t.2, fin := t.2 + work, ran := true }
  let s3 := frameLag s2 f ((t.2 - t.1) / 10)
  (if p < work then frameOverrun s3 f else s3, if x.ran then t.2 - x.start else 0)

end Sys2Proof.Machine
end

