-- ==== Sys2Proof/Machine/Wire.lean ====
section
/-!
DEFINITION. Machine/Wire.lean: harness temperature protection (R151-R180).
-/
namespace Sys2Proof.Machine

/-- The wire model of channel `n`. -/
def wireX (s : State) (n : Nat) : WireX := tabGet (fun _ => {}) s.wire.chans n

/-- The wire model of channel `n` replaced. -/
def setWireX (s : State) (n : Nat) (x : WireX) : State :=
  { s with wire := { s.wire with chans := tabPut (fun _ => {}) s.wire.chans n x } }

/-- What the part holds of ambient source `k`. -/
def ambX (s : State) (k : Nat) : AmbX := tabGet (fun _ => {}) s.wire.ambs k

/-- What the part holds of ambient source `k` replaced. -/
def setAmbX (s : State) (k : Nat) (x : AmbX) : State :=
  { s with wire := { s.wire with ambs := tabPut (fun _ => {}) s.wire.ambs k x } }

/-- R157: the valid wire-type entry of a channel whose model is enabled. -/
def wireType (s : State) (n : Nat) : Option WType :=
  if fon s (WIRE.CFG.EN n) then (s.wire.types.find? fun e => e.1 == fget s (WIRE.CFG.TYPE n)).map fun e => e.2 else none

/-- R151, R168: the scaled thermal resistance to ambient. -/
def wireRia (s : State) (n : Nat) (w : WType) : Nat :=
  f32Mul w.rthIa (f32OfRat (max 0x40 (fget s (WIRE.CFG.RIA_SCALE n)) : Nat) 64)

/-- Local time of the last publication of result `i` (R449). -/
def resAt (s : State) (i : Nat) : Option Nat := tabGet (fun _ => none) s.adc.resAt i

/-- A result is present and no more than `ns` old. -/
def resFresh (s : State) (i ns : Nat) : Bool :=
  match resAt s i with
  | some t => decide (localNs s ≤ t + ns)
  | none => false

/-- R158: Ta of source `k` from its latest result, where it has one no more than 10 ms old (R159). -/
def ambMeasured (s : State) (k : Nat) : Option Nat :=
  let offs := fget s (WIRE.AMB.OFFS.OFFS k)
  if fget s (WIRE.AMB.CTL.SRC k) = 1 then
    match s.wire.die with
    | some (t, at_) => if localNs s ≤ at_ + 10000000 then some (f32Add (f32Of16 t) offs) else none
    | none => none
  else
    let i := fget s (WIRE.AMB.CTL.RIDX k)
    if resFresh s i 10000000 then
      some (f32Add (f32Mul (f32OfRat (fgetI s (ADC.RES.VALUE i)) 1) (fget s (WIRE.AMB.GAIN.GAIN k))) offs)
    else none

/-- R159: Ta lies within -40 to 150 degrees Celsius. -/
def ambInRange (ta : Nat) : Bool := f32Le (f32OfRat (-40) 1) ta && f32Le ta (f32OfRat 150 1)

/-- STAT.AMB_FB on every channel that uses source `k`. -/
def setAmbFb (s : State) (k : Nat) (b : Bool) : State :=
  (List.range 64).foldl (fun t n => if fget t (WIRE.CFG.AMB n) = k then fsetB t (WIRE.STAT.AMB_FB n) b else t) s

/-- R159: source `k`, not of the fixed type, is faulty: its fallback is used, and WIRE_AMB is raised. -/
def ambFault (s : State) (k : Nat) : State :=
  if fget s (WIRE.AMB.CTL.SRC k) = 0 then s
  else
    let s1 := setAmbFb (fset s (WIRE.AMB.VAL.T k) (fget s (WIRE.AMB.VAL.FB k))) k true
    if (ambX s k).faulty then s1 else raise (setAmbX s1 k { ambX s1 k with faulty := true }) 0x25C

/-- R159: source `k` is judged by its latest result. -/
def ambJudge (s : State) (k : Nat) : State :=
  if fget s (WIRE.AMB.CTL.SRC k) = 0 then
    fset s (WIRE.AMB.VAL.T k) (ofSigned 16 (f32ToFixed (fget s (WIRE.AMB.OFFS.OFFS k)) 16))
  else
    match ambMeasured s k with
    | some ta =>
      if ambInRange ta then
        let s1 := if (ambX s k).faulty then setAmbFb s k false else s
        fset (setAmbX s1 k ⟨false, ta⟩) (WIRE.AMB.VAL.T k) (ofSigned 16 (f32ToFixed ta 16))
      else ambFault s k
    | none => ambFault s k

/-- R158, R159: Ta of source `k` in use, as a binary32 pattern. -/
def ambient (s : State) (k : Nat) : Nat :=
  if fget s (WIRE.AMB.CTL.SRC k) = 0 then fget s (WIRE.AMB.OFFS.OFFS k)
  else if (ambX s k).faulty then f32Of16 (fgetI s (WIRE.AMB.VAL.FB k))
  else (ambX s k).ta

/-- R153: the mean of the squares of current results, in A^2, summed in binary32 in their order (assumption 20). -/
def meanSquare (res : List Nat) : Nat :=
  let sq := res.map fun (i : Nat) => let a := f32OfRat (i : Int) 1000; f32Mul a a
  f32Div (sq.foldl f32Add 0) (f32OfRat res.length 1)

/-- R153: does the channel count as driven? A channel kept on in SAFE does (R574). -/
def wireDriven (s : State) (n : Nat) : Bool := chDriven s n || (chState s n == 0xD && (chan s n).kept)

/-- R153: I^2 of this frame for channel `n`. -/
def wireI2 (s : State) (n : Nat) : Nat :=
  let x := wireX s n
  if x.res ≠ [] then meanSquare x.res
  else if !wireDriven s n then 0
  else if fon s (WIRE.STAT.STALE n) then
    let a := f32OfRat (fget s (CHN.OC.I_NOM_MA n)) 1000
    f32Max x.i2 (f32Mul a a)
  else x.i2

/-- One substep of R154: the two temperatures after `h` seconds. -/
def wireSub (w : WType) (ria ta i2 h tc ti : Nat) : Nat × Nat :=
  let one := f32OfRat 1 1
  let res := f32Mul w.res20 (f32Add one (f32Mul w.alpha (f32Sub tc (f32OfRat 20 1))))
  let qci := f32Div (f32Sub tc ti) w.rthCi
  let qia := f32Div (f32Sub ti ta) ria
  (f32Add tc (f32Div (f32Mul h (f32Sub (f32Mul i2 res) qci)) w.cthC),
   f32Add ti (f32Div (f32Mul h (f32Sub qci qia)) w.cthI))

/-- `m` substeps. -/
def wireSubs (w : WType) (ria ta i2 h : Nat) : Nat → Nat → Nat → Nat × Nat
  | 0, tc, ti => (tc, ti)
  | m + 1, tc, ti =>
    let r := wireSub w ria ta i2 h tc ti
    wireSubs w ria ta i2 h m r.1 r.2

/-- R152, R154: the temperatures after a frame of `dt` seconds, in equal substeps of no more than 1 ms. -/
def wireIntegrate (w : WType) (ria ta i2 dt tc ti : Nat) : Nat × Nat :=
  let m := atLeast1 (f32Ceil (f32Div dt (f32OfRat 1 1000)))
  wireSubs w ria ta i2 (f32Div dt (f32OfRat m 1)) m tc ti

/-- R162: HOLD set, with its cause, COOL_MS counted from now. -/
def setHold (s : State) (n cause : Nat) : State :=
  setWireX (fset (fset s (WIRE.STAT.HOLD n) 1) (WIRE.STAT.HOLD_CAUSE n) cause) n { wireX s n with holdAt := localNs s }

/-- R161, R122: the limit reached while the channel is not driven: a channel in PENDING returns to OFF, or to WAIT if
its request was a retry; a retry that waits after an SC trip then waits for the wire too (assumption 297). -/
def wireIdleLimit (s : State) (n : Nat) : State :=
  let st := chState s n
  if st = 3 then
    let s1 := fset (withdraw s (isChanReq n)) (CHN.STAT.PENDING n) 0
    if (chan s n).retry then
      setChan (fset s1 (CHN.STAT.STATE n) 0xA) n { chan s1 n with retry := false, pWire := true }
    else fset (fset s1 (CHN.STAT.STATE n) 0) (CHN.CTL.MODE n) 0
  else if st = 0xA ∧ (chan s n).pSc then
    fset (setChan s n { chan s n with pWire := true }) (CHN.STAT.CAUSE n) 3
  else s

/-- T_LIM less a margin in 1/16 K, as a binary32 pattern. -/
def wireLevel (w : WType) (k : Nat) : Nat := f32Of16 (w.tLim - k)

/-- R160-R162: warning, trip or release at the end of a frame. -/
def wireDecide (s : State) (n : Nat) (w : WType) (ta : Nat) : State :=
  let x := wireX s n
  let warn := wireLevel w (fget s (WIRE.LIM.WARN_K n))
  let s1 :=
    if f32Le warn x.tc then fset (fset s (WIRE.STAT.WARN n) 1) (CHN.STAT.WIRE_WARN n) 1
    else if f32Lt x.tc (wireLevel w (fget s (WIRE.LIM.WARN_K n) + 16)) then
      fset (fset s (WIRE.STAT.WARN n) 0) (CHN.STAT.WIRE_WARN n) 0
    else s
  if f32Le (wireLevel w 0) (f32Max x.tc x.ti) then
    if wireDriven s n || chState s n == 9 then chTrip (setHold s1 n 1) n 2
    else wireIdleLimit (if fon s1 (WIRE.STAT.HOLD n) then s1 else setHold s1 n 2) n
  else if fon s1 (WIRE.STAT.HOLD n) && decide (x.holdAt + fget s (WIRE.COOL.COOL_MS n) * 1000000 ≤ localNs s) &&
      (f32Le x.tc (wireLevel w (fget s (WIRE.LIM.REL_K n))) || f32Le (f32Sub x.tc ta) (f32OfRat 1 1)) then
    fset (fset s1 (WIRE.STAT.HOLD n) 0) (WIRE.STAT.HOLD_CAUSE n) 0
  else s1

/-- A whole number in 16 bits, two's complement. -/
def i16 (v : Int) : Nat := ofSigned 16 v

/-- R171, R173, R174: the registers after a frame. The rounding of the square root is not stated: it is a free choice
between the two whole numbers around it. -/
def wireShow (s : State) (n : Nat) : State :=
  let x := wireX s n
  let tc := f32ToFixed x.tc 16
  let s1 := fset (fset s (WIRE.TEMP.TC n) (i16 tc)) (WIRE.TEMP.TI n) (i16 (f32ToFixed x.ti 16))
  let s2 := if fgetI s1 (WIRE.PEAK.TC_PEAK n) < tc then fset s1 (WIRE.PEAK.TC_PEAK n) (i16 tc) else s1
  let v := (f32Order x.i2).toNat * 1000000
  let r := Nat.sqrt (v / 2 ^ 149)
  if r * r * 2 ^ 149 = v then fset s2 (WIRE.IRMS.I_MA n) (min r 0xFFFFF)
  else
    let b := drawBool s2
    fset b.2 (WIRE.IRMS.I_MA n) (min (r + b2n b.1) 0xFFFFF)

/-- The backup-domain count in 1/32,768 s: the calendar's seconds since 2000 and the prescaler. -/
def bkpCount (s : State) : Nat := rtcSeconds s * 32768 + fget s RTC.SUB.PRESC

/-- R166: the retention record that counts at a start: RET_EN, and not written after the present time. -/
def wireRecord (s : State) : Option (Nat × List (Int × Int)) :=
  match s.wire.record with
  | some r => if fon s WIRE.COLD.RET_EN && decide (r.1 ≤ bkpCount s) then some r else none
  | none => none

/-- R166: the initial temperature of channel `n`. -/
def wireInitial (s : State) (n : Nat) (w : WType) (ta : Nat) : Nat :=
  match wireRecord s with
  | some r =>
    let e := r.2.getD n (0, 0)
    let tau := f32Mul (f32Add w.cthC w.cthI) (f32Add w.rthCi (wireRia s n w))
    let t := f32OfRat (bkpCount s - r.1 : Nat) 32768
    f32Add ta (f32Mul (f32Of16 (max e.1 (max e.2 0))) (Config.expNeg (f32Div t tau)))
  | none => f32Add ta (f32Of16 (fget s WIRE.COLD.ASSUME_K : Nat))

/-- R166: the model of channel `n` starts. -/
def wireBegin (s : State) (n : Nat) (w : WType) : State :=
  let k := fget s (WIRE.CFG.AMB n)
  let s0 := ambJudge s k
  let ta := ambient s0 k
  let t := wireInitial s0 n w ta
  let s1 := setWireX (fset s0 (WIRE.STAT.RUN n) 1) n { wireX s0 n with tc := t, ti := t, i2 := 0, res := [], since := localNs s0 }
  let s2 := if f32Lt (wireLevel w (fget s1 (WIRE.LIM.REL_K n))) t then setHold s1 n 2 else s1
  wireShow s2 n

/-- R164, R166, R179, R180: the models of the channels in `ns` start. -/
def wireStart (s : State) (ns : List Nat) : State :=
  let r := wireRecord s
  let s1 := fsetB (fsetB s WIRE.RET.RESTORED r.isSome) WIRE.RET.NO_RECORD (!r.isSome)
  let age := match r with
    | some e => (bkpCount s - e.1) * 1000 / 32768
    | none => 0
  let s2 := fset s1 WIRE.RET_AGE.AGE_MS (min age 0xFFFFFFFF)
  ns.foldl (fun t n => match wireType t n with
    | some w => wireBegin t n w
    | none => t) s2

/-- R154: one frame for channel `n`. -/
def wireFrameChan (dt : Nat) (s : State) (n : Nat) : State :=
  match wireType s n with
  | none => if fon s (WIRE.STAT.RUN n) then wireStop s n else s
  | some w =>
    if !fon s (WIRE.STAT.RUN n) then wireBegin s n w
    else
      let k := fget s (WIRE.CFG.AMB n)
      let s0 := ambJudge s k
      let ta := ambient s0 k
      let x := wireX s0 n
      let i2 := wireI2 s0 n
      let r := wireIntegrate w (wireRia s0 n w) ta i2 dt x.tc x.ti
      let s1 := setWireX s0 n { x with tc := r.1, ti := r.2, i2 := i2, res := [], since := if wireDriven s0 n then x.since else localNs s0 }
      let s2 := if x.res ≠ [] then fset s1 (WIRE.STAT.STALE n) 0 else s1
      wireShow (wireDecide s2 n w ta) n

/-- R99, R153: a current result of channel `n` reaches the wire model. -/
def wireResult (s : State) (n iMa : Nat) : State :=
  let x := wireX s n
  fset (setWireX s n { x with res := x.res ++ [iMa], since := localNs s }) (WIRE.STAT.STALE n) 0

/-- The channels of one half: CH00-CH31, or CH32-CH63. -/
def wireHalf (half : Bool) : List Nat := (List.range 32).map fun i => if half then i + 32 else i

/-! ### The commands -/

/-- WIRE_MODEL_FRAME: frame 2 on E4 or frame 3 on E5 (R152). In Night the model of a half with no driven channel has
stopped (R164). -/
def execWireModelFrame (half : Bool) (work : Nat) (s : State) : Host.Outcome State Fault Refusal :=
  let f := if half then 3 else 2
  if frameRuns s f then
    let r := frameBegin s f work
    let dt := if r.2 = 0 then 1000000 else r.2
    let s1 := wireNightStop r.1
    if stage s1 = 4 ∧ (wireHalf half).all (fun n => !wireDriven s1 n) then .next s1
    else .next ((wireHalf half).foldl (wireFrameChan (f32OfRat dt 1000000000)) s1)
  else .next s

/-- WIRE_STALE: a driven channel has had no current result for 4 ms (R153). -/
def execWireStale (ch : Fin 64) (s : State) : Host.Outcome State Fault Refusal :=
  if fon s (WIRE.STAT.RUN ch) && wireDriven s ch && !fon s (WIRE.STAT.STALE ch) then
    let s1 := passLoc s ((wireX s ch).since + 4000000)
    .next (raise (fset s1 (WIRE.STAT.STALE ch) 1) 0x25A)
  else .next s

/-- AMBIENT_FAULT: the source's result is too old or out of range (R159). -/
def execAmbientFault (k : Fin 16) (s : State) : Host.Outcome State Fault Refusal := .next (ambFault s k)

/-- R165: the excess of one channel in 1/16 K, rounded to nearest. -/
def wireExcess (s : State) (n : Nat) : Int × Int :=
  let ta := ambient s (fget s (WIRE.CFG.AMB n))
  let x := wireX s n
  (f32ToFixed (f32Sub x.tc ta) 16, f32ToFixed (f32Sub x.ti ta) 16)

/-- R165: the record of every channel's excesses and the time of writing. -/
def wireKeep (s : State) : State :=
  { s with wire := { s.wire with record := some (bkpCount s, (List.range 64).map (wireExcess s)) } }

/-- WIRE_RETENTION_WRITE (R165). -/
def execWireRetentionWrite (s : State) : Host.Outcome State Fault Refusal := .next (wireKeep s)

/-- DIE_TEMP_CONVERSION: a die-temperature result, which feeds ambient sources of type 0b01 (R158, R666). -/
def dieTemp (s : State) (t16 : Int) : State :=
  let s1 := { s with wire := { s.wire with die := some (t16, localNs s) } }
  (List.range 16).foldl (fun t k => if fget t (WIRE.AMB.CTL.SRC k) = 1 then ambJudge t k else t) s1

end Sys2Proof.Machine
end

