-- ==== Sys2Proof/Machine/Adc.lean ====
section
/-!
DEFINITION. Machine/Adc.lean: the converters, their sequences, triggers and result memory (R444-R456, R468-R476).

A sequence is numbered 4c + s: sequence s of converter c.
-/
namespace Sys2Proof.Machine

/-- What the part holds of sequence `q` beside its registers. -/
def adcX (s : State) (q : Nat) : AdcSeqX := tabGet (fun _ => {}) s.adc.seqs q

/-- What the part holds of sequence `q` beside its registers, replaced. -/
def setAdcX (s : State) (q : Nat) (x : AdcSeqX) : State :=
  { s with adc := { s.adc with seqs := tabPut (fun _ => {}) s.adc.seqs q x } }

/-- ADC.STAT's field of converter `c` (R470). -/
def adcStatF (c : Nat) : Fld := if c = 0 then ADC.STAT.C0 else if c = 1 then ADC.STAT.C1 else if c = 2 then ADC.STAT.C2 else ADC.STAT.C3

/-- R456: converter `c` is READY. -/
def adcIsReady (s : State) (c : Nat) : Bool := bitOf (fget s (adcStatF c)) 3

/-- R473: the state of sequence `q`: 0 idle, 1 pending, 2 running, 3 suspended. -/
def adcSt (s : State) (q : Nat) : Nat := fget s (ADC.SEQ.STAT.STATE q)

/-- The numbers of converter `c`'s sequences. -/
def adcSeqs (c : Nat) : List Nat := [4 * c, 4 * c + 1, 4 * c + 2, 4 * c + 3]

/-- The sequence that converter `c` runs. -/
def adcRunning (s : State) (c : Nat) : Option Nat := (adcSeqs c).find? fun q => adcSt s q == 2

/-- R470: READY, BUSY and the sequence running, as they stand. -/
def adcShow (s : State) (c : Nat) (ready : Bool) : State :=
  fset s (adcStatF c) (b2n ready * 8 + match adcRunning s c with
    | some q => 4 + q % 4
    | none => 0)

/-- R448: the accumulation of a sequence is discarded. -/
def adcClear (s : State) (q : Nat) : State :=
  fset (fset (setAdcX s q { adcX s q with sums := [], stop := false }) (ADC.SEQ.STAT.ENTRY q) 0) (ADC.SEQ.STAT.RUN q) 0

/-- R453, R474: sequence `q` begins or resumes; the CT of a run's first sample is recorded. -/
def adcBegin (s : State) (q : Nat) : State :=
  let s1 := setAdcX (fset s (ADC.SEQ.STAT.STATE q) 2) q { adcX s q with chained := false }
  let s2 := if fget s (ADC.SEQ.STAT.ENTRY q) = 0 then
    fset64 s1 (ADC.SEQ.START_CT_LO.CT q) (ADC.SEQ.START_CT_HI.CT q) (served s1) else s1
  adcShow s2 (q / 4) true

/-- R453: the next run: the lowest of the suspended sequences and those pending from a triggered start, else the lowest
pending from a chained start. -/
def adcNext (s : State) (c : Nat) : State :=
  if (adcRunning s c).isSome || !adcIsReady s c then s
  else
    match (adcSeqs c).find? fun q => adcSt s q == 3 || adcSt s q == 1 && !(adcX s q).chained with
    | some q => adcBegin s q
    | none =>
      match (adcSeqs c).find? fun q => adcSt s q == 1 with
      | some q => adcBegin s q
      | none => adcShow s c true

/-- R454: a lost start. -/
def adcLost (s : State) (q : Nat) : State :=
  raise (finc (fset s (ADC.SEQ.EVT.OVR q) 1) (ADC.SEQ.CNT.OVR q)) (0x23E + q / 4)

/-- R451, R454: a start of sequence `q`, which becomes pending unless the start is lost. The flag says that it was
started. -/
def adcStart (s : State) (q : Nat) (chained : Bool) : State × Bool :=
  if !fon s (ADC.SEQ.CFG.EN q) then (s, false)
  else if !adcIsReady s (q / 4) || adcSt s q != 0 then (adcLost s q, false)
  else (setAdcX (fset s (ADC.SEQ.STAT.STATE q) 1) q { adcX s q with chained := chained }, true)

/-- R451, R455: the sequences of a list start as one common trigger: idle converters begin at once, the lowest first.
The flag says that at least one started. -/
def adcCommon (s : State) (qs : List Nat) : State × Bool :=
  let r := qs.foldl (fun t q => let u := adcStart t.1 q false; (u.1, t.2 || u.2)) (s, false)
  ((List.range 4).foldl (fun t c => if adcIsReady t c then adcNext t c else t) r.1, r.2)

/-- The sequences named by the bits of a mask (R451). -/
def adcMask (m : Nat) : List Nat := (List.range 16).filter fun q => bitOf m q

/-- R451: the AUTO starts of converter `c`. -/
def adcAuto (s : State) (c : Nat) : State :=
  (adcCommon s ((adcSeqs c).filter fun q => fon s (ADC.SEQ.CFG.EN q) && fon s (ADC.SEQ.CFG.AUTO q))).1

/-- R453: the conversion boundary after a conversion: a lower sequence pending from a triggered start suspends the one
that runs. -/
def adcPreempt (s : State) (c q : Nat) : State :=
  if (adcSeqs c).any fun p => decide (p < q) && adcSt s p == 1 && !(adcX s p).chained then
    adcNext (fset s (ADC.SEQ.STAT.STATE q) 3) c
  else s

/-- R448: one sample added to its entry's sum. -/
def adcAdd (x : AdcSeqX) (e : Nat) (code : Int) (sat : Bool) : AdcSeqX :=
  let old := x.sums.getD e (0, false)
  let new := (old.1 + code, old.2 || sat)
  { x with sums := if e < x.sums.length then x.sums.set e new else x.sums ++ [new] }

/-- R448, R451: a run has ended: its results are due after the 2^AVG-th, and its chained sequence starts. -/
def adcRunEnd (s : State) (q : Nat) : State :=
  let c := q / 4
  let x := adcX s q
  let runs := fget s (ADC.SEQ.STAT.RUN q) + 1
  let s1 := fset (fset s (ADC.SEQ.STAT.STATE q) 0) (ADC.SEQ.STAT.ENTRY q) 0
  let s2 := if 2 ^ fget s (ADC.SEQ.CFG.AVG q) ≤ runs then
      fset (setAdcX s1 q { x with sums := [], ready := some x.sums }) (ADC.SEQ.STAT.RUN q) 0
    else fset s1 (ADC.SEQ.STAT.RUN q) runs
  let s3 := if fon s (ADC.SEQ.CFG.NEXT_EN q) then (adcStart s2 (4 * c + fget s (ADC.SEQ.CFG.NEXT q)) true).1 else s2
  adcNext s3 c

/-- R449-R450: where a quotient is not whole the spec does not state its rounding: a free choice of the two whole
numbers around it (assumption 21). -/
def quotFree (s : State) (num den : Nat) : Nat × State :=
  if num % den = 0 then (num / den, s)
  else
    let b := drawBool s
    (num / den + b2n b.1, b.2)

/-- A quotient whose rounding the spec does not state (assumption 21). -/
def quotOpen (num den : Nat) : Nat := num / den + (if num % den ≠ 0 ∧ Config.roundUp num den then 1 else 0)

/-- R445: the LSB of an input in microvolt at G = 1; 0 for the die temperature and the reserved codes. -/
def inputLsb (i : Nat) : Nat :=
  if i < 0x40 then 10 else if i < 0x8D then 2000 else if i < 0xC0 then 250 else if i < 0xD0 then 100
  else if 0xD1 ≤ i ∧ i ≤ 0xD4 ∨ i = 0xDF then 100 else 0

/-- The last mean result of an input, in 1/8192 microvolt; 0, as the result memory resets to, before the first
(assumption 23). -/
def inputLast (s : State) (i : Nat) : Int :=
  match tabGet (fun _ => none) s.adc.last i with
  | some e => e.1
  | none => 0

/-- R448: the mean of a result of input `i`, kept in 1/8192 microvolt, which no AVG and gain make fractional. -/
def inputPut (s : State) (i : Nat) (sum : Int) (avg gain : Nat) : State :=
  let v := some (sum * (inputLsb i * 8192 : Nat) / (2 ^ avg * 2 ^ gain : Nat), localNs s)
  { s with adc := { s.adc with last := tabPut (fun _ => none) s.adc.last i v } }

/-- R450, R145: V_DS from the latest results of the bank, the sense amplifier and the output, rounded toward zero. -/
def vdsUpdate (s : State) (n : Nat) : State :=
  let v := inputLast s (0x80 + n / 8) - inputLast s n - inputLast s (0x40 + n)
  fset s (CHN.MEAS_V.VDS_MV n) (min (v.tdiv 8192000).toNat 0xFFFF)

/-- R450: a result of a channel's current-sense amplifier. A current below zero reads as zero (assumption 22). The
product with the bank voltage goes to the ledger, in 1/8192 nW (R393). -/
def adcSense (s : State) (n : Nat) (sum : Int) (avg gain : Nat) : State :=
  let sh := clampNat 100 10000 (fget s (CHN.SHUNT.MICRO_OHM n))
  let r := quotFree s (sum.toNat * 10000) (2 ^ avg * 2 ^ gain * sh)
  measure (vdsUpdate (wireResult (chResult r.2 n r.1) n r.1) n) n ((inputLast r.2 (0x80 + n / 8)).toNat * r.1)

/-- R450: a result of an output pin. -/
def adcOut (s : State) (n : Nat) (sum : Int) (avg gain : Nat) : State :=
  let r := quotFree s (sum.toNat * 2) (2 ^ avg * 2 ^ gain)
  vdsUpdate (fset r.2 (CHN.MEAS_V.OUT_MV n) (min r.1 0xFFFF)) n

/-- R450: a result of a bank. -/
def adcBank (s : State) (b : Nat) : State := (List.range 8).foldl (fun t i => vdsUpdate t (8 * b + i)) s

/-- R449, R476: result `i` takes a value. -/
def adcPut (s : State) (i : Nat) (v : Int) (sat : Bool) : State :=
  let s1 := { s with adc := { s.adc with resAt := tabPut (fun _ => none) s.adc.resAt i (some (localNs s)) } }
  fset (fsetB (fset s1 (ADC.RES.CNT i) (fget s (ADC.RES.CNT i) + 1)) (ADC.RES.SAT i) sat) (ADC.RES.VALUE i) (ofSigned 24 v)

/-- R448: VALUE of a sum: shifted toward minus infinity and clamped. -/
def adcValue (sum : Int) (shift : Nat) : Int := clampInt (-8388608) 8388607 (sum / (2 ^ shift : Nat))

/-- R450: one published result of input `inp` goes on to its users. -/
def adcForward (s : State) (inp : Nat) (sum : Int) (avg gain : Nat) : State :=
  let s1 := inputPut s inp sum avg gain
  if inp < 0x40 then adcSense s1 inp sum avg gain
  else if inp < 0x80 then adcOut s1 (inp - 0x40) sum avg gain
  else if inp < 0x88 then adcBank s1 (inp - 0x80)
  else s1

/-- R450: entry `e` of sequence `q` goes on by its input. -/
def adcForwardEnt (s : State) (q e : Nat) (sum : Int) : State :=
  adcForward s (fget s (ADC.SEQ.ENT.INPUT q e)) sum (fget s (ADC.SEQ.CFG.AVG q)) (min 5 (fget s (ADC.SEQ.ENT.GAIN q e)))

/-- R159: the ambient sources that name result `i` are judged by it. -/
def adcAmbients (s : State) (i : Nat) : State :=
  (List.range 16).foldl (fun t k => if fget t (WIRE.AMB.CTL.SRC k) = 2 ∧ fget t (WIRE.AMB.CTL.RIDX k) = i then ambJudge t k else t) s

/-- R448, R449: the results of sequence `q` are published, every entry at the same instant, and then forwarded. -/
def adcPublish (s : State) (q : Nat) (l : List (Int × Bool)) : State :=
  let es := l.zipIdx
  let sh := fget s (ADC.SEQ.CFG.SHIFT q)
  let s1 := es.foldl (fun t e => adcPut t (16 * q + e.2) (adcValue e.1.1 sh) e.1.2) (setAdcX s q { adcX s q with ready := none })
  let s2 := finc (fset s1 (ADC.SEQ.EVT.DONE q) 1) (ADC.SEQ.CNT.DONE q)
  es.foldl (fun t e => adcAmbients (adcForwardEnt t q e.2 e.1.1) (16 * q + e.2)) s2

/-- R456: the power-down of converter `c`: runs are aborted, accumulations discarded, and ADCc is reset as a target. -/
def adcDown (s : State) (c : Nat) : State :=
  let drop (t : State) (q : Nat) : State :=
    let t1 := if adcSt t q = 2 ∨ adcSt t q = 3 then fset t (ADC.SEQ.EVT.ABORT q) 1 else t
    setAdcX (adcClear (fset t1 (ADC.SEQ.STAT.STATE q) 0) q) q {}
  let s1 := (adcSeqs c).foldl drop s
  targetReset (fset { s1 with adc := { s1.adc with cal := s1.adc.cal.filter (· != c) } } (adcStatF c) 0) (0x4C + c)

/-- R456: converter `c` is powered and calibrates itself. -/
def adcUp (s : State) (c : Nat) : State := { s with adc := { s.adc with cal := s.adc.cal.filter (· != c) ++ [c] } }

/-- R456: a write of ADC.CTL.EN: the converters whose bit changes are powered up or down. -/
def adcEnable (s : State) (en : Nat) : State :=
  let old := fget s ADC.CTL.EN
  (List.range 4).foldl (fun t c =>
    if bitOf en c && !bitOf old c then adcUp t c else if bitOf old c && !bitOf en c then adcDown t c else t) (fset s ADC.CTL.EN en)

/-- R451: the sequences that a common trigger starts. -/
def adcTriggered (s : State) (t : Nat) : List Nat := (List.range 16).filter fun q => fget s (ADC.SEQ.CFG.TSRC q) == t + 1

/-- R472: does a CFG word keep to the coded values? -/
def adcCfgOk (w : Nat) : Bool :=
  decide (bitsOf w 29 27 ≤ 4 ∧ bitsOf w 19 16 ≤ 8 ∧ bitsOf w 11 8 ≤ 8 ∧ 1 ≤ bitsOf w 4 0 ∧ bitsOf w 4 0 ≤ 16)

/-- R5: a field takes `v` unless `v` is one of its reserved encodings. -/
def fsetIf (s : State) (f : Fld) (v : Nat) (ok : Bool) : State := if ok then fset s f v else s

/-- R472: a CFG word written while EN = 0; a reserved encoding leaves its field (R5). -/
def adcCfgStore (s : State) (q w : Nat) : State :=
  let s1 := fset (fset (fset s (ADC.SEQ.CFG.EN q) (bitsOf w 31 31)) (ADC.SEQ.CFG.AUTO q) (bitsOf w 30 30)) (ADC.SEQ.CFG.NEXT_EN q) (bitsOf w 26 26)
  let s2 := fsetIf (fset s1 (ADC.SEQ.CFG.NEXT q) (bitsOf w 25 24)) (ADC.SEQ.CFG.TSRC q) (bitsOf w 29 27) (decide (bitsOf w 29 27 ≤ 4))
  let s3 := fsetIf s2 (ADC.SEQ.CFG.AVG q) (bitsOf w 19 16) (decide (bitsOf w 19 16 ≤ 8))
  let s4 := fsetIf s3 (ADC.SEQ.CFG.SHIFT q) (bitsOf w 11 8) (decide (bitsOf w 11 8 ≤ 8))
  fsetIf s4 (ADC.SEQ.CFG.LEN q) (bitsOf w 4 0) (decide (1 ≤ bitsOf w 4 0 ∧ bitsOf w 4 0 ≤ 16))

/-- R468: EN is cleared on sequence `q`. -/
def adcDisable (s : State) (q : Nat) : State :=
  let s1 := fset s (ADC.SEQ.CFG.EN q) 0
  let st := adcSt s q
  if st = 2 then setAdcX s1 q { adcX s q with stop := true }
  else if st = 3 then adcNext (adcClear (fset (fset s1 (ADC.SEQ.STAT.STATE q) 0) (ADC.SEQ.EVT.ABORT q) 1) q) (q / 4)
  else if st = 1 then fset s1 (ADC.SEQ.STAT.STATE q) 0
  else s1

/-- R472: a write of SEQ CFG and its completion. -/
def adcCfgWrite (s : State) (q w : Nat) : State × Nat :=
  if fon s (ADC.SEQ.CFG.EN q) then
    if bitOf w 31 then (s, stIllegal) else (adcDisable s q, stOk)
  else (adcCfgStore s q w, stOk)

/-! ### The commands -/

/-- ADC_POWER_UP: EN of converter `c` set (R456). -/
def execAdcPowerUp (c : Fin 4) (s : State) : Host.Outcome State Fault Refusal :=
  .next (complete (adcEnable s (fget s ADC.CTL.EN ||| 2 ^ c.val)) stOk)

/-- ADC_POWER_DOWN: the converter powers down: on EN ← 0, in Night, or on the loss of its clock (R456). The command is
the write of EN; Night and clock loss call the same power-down. -/
def execAdcPowerDown (c : Fin 4) (s : State) : Host.Outcome State Fault Refusal :=
  .next (complete (adcEnable s (clearBits (fget s ADC.CTL.EN) (2 ^ c.val))) stOk)

/-- ADC_READY: the calibration has ended; AUTO starts run once step 5 of R50 is past (R451). -/
def execAdcReady (c : Fin 4) (s : State) : Host.Outcome State Fault Refusal :=
  if s.adc.cal.contains c.val then
    let s1 := adcShow { s with adc := { s.adc with cal := s.adc.cal.filter (· != c.val) } } c true
    .next (if s1.start.running then adcAuto s1 c else s1)
  else .next s

/-- ADC_SWTRIG: OK if at least one named sequence started, else ILLEGAL_STATE (R451). -/
def execAdcSwtrig (mask : BitVec 16) (s : State) : Host.Outcome State Fault Refusal :=
  let r := adcCommon s (adcMask mask.toNat)
  .next (complete r.1 (if r.2 then stOk else stIllegal))

/-- ADC_TRIGGER_FIRE: a periodic trigger fires at the next multiple of PERIOD, any other once DIV + 1 of its source's
events have come since it last fired (R452). -/
def execAdcTriggerFire (t : Fin 4) (s : State) : Host.Outcome State Fault Refusal :=
  let src := fget s (ADC.TRG.CFG.SRC t)
  let div := fget s (ADC.TRG.CFG.DIV t)
  if src = 1 then
    let s1 := passTo s (multipleFrom (10 * max 200 (fget s (ADC.TRG.PARAM.VAL t))) (served s))
    .next (adcCommon s1 (adcTriggered s1 t)).1
  else if 2 ≤ src ∧ src ≤ 4 ∧ div < trgCount s t then
    let s1 := { s with adc := { s.adc with trg := tabPut (fun _ => 0) s.adc.trg t (trgCount s t - (div + 1)) } }
    .next (adcCommon s1 (adcTriggered s1 t)).1
  else .next s

/-- ADC_CONVERSION_END: a conversion of converter `c` has ended; `sample` is its code before saturation (R444, R453). -/
def execAdcConversionEnd (c : Fin 4) (sample : Int) (s : State) : Host.Outcome State Fault Refusal :=
  match adcRunning s c with
  | none => .next s
  | some q =>
    if (adcX s q).stop then
      .next (adcNext (adcClear (fset (fset s (ADC.SEQ.STAT.STATE q) 0) (ADC.SEQ.EVT.ABORT q) 1) q) c)
    else
      let e := fget s (ADC.SEQ.STAT.ENTRY q)
      let code := clampInt (-32768) 32767 sample
      let sat := decide (code ≠ sample)
      let s1 := setAdcX s q (adcAdd (adcX s q) e code sat)
      let s2 := if sat then fset s1 (ADC.SEQ.EVT.SAT q) 1 else s1
      if e + 1 < fget s (ADC.SEQ.CFG.LEN q) then .next (adcPreempt (fset s2 (ADC.SEQ.STAT.ENTRY q) (e + 1)) c q)
      else .next (adcRunEnd s2 q)

/-- ADC_RESULT_PUBLISH: the results of a completed accumulation reach the result memory and their users. -/
def execAdcResultPublish (c q : Fin 4) (s : State) : Host.Outcome State Fault Refusal :=
  match (adcX s (4 * c.val + q.val)).ready with
  | some l => .next (adcPublish s (4 * c.val + q.val) l)
  | none => .next s

/-- ADC_SEQ_CFG_WRITE. -/
def execAdcSeqCfgWrite (c q : Fin 4) (w : Word) (s : State) : Host.Outcome State Fault Refusal :=
  .next (atTarget s (0x4C + c.val) fun t => adcCfgWrite t (4 * c.val + q.val) w.toNat)

end Sys2Proof.Machine
end

