-- ==== Sys2Proof/Machine/Cmp.lean ====
section
/-!
DEFINITION. Machine/Cmp.lean: the general comparators and the self-checks of every comparator and threshold (R457-R467).
-/
namespace Sys2Proof.Machine

/-- The mode general comparator `k` runs in: 0 off, 1 continuous, 2 sampled (R459). -/
def cmpMode (s : State) (k : Nat) : Nat := tabGet (fun _ => 0) s.cmp.mode k

/-- R459: comparator `k` runs in another mode; its next sample sets the reference level. -/
def cmpSetMode (s : State) (k m : Nat) : State :=
  if cmpMode s k = m then s
  else { s with cmp := { s.cmp with mode := tabPut (fun _ => 0) s.cmp.mode k m, ref := s.cmp.ref.filter (· != k) } }

/-- R459: a write of CFG takes effect at once, but on a comparator in sampled mode at the next tick. -/
def cmpCfgWritten (s : State) (k : Nat) : State :=
  if cmpMode s k = 2 then s else cmpSetMode s k (fget s (CMP.GEN.CFG.MODE k))

/-- R459: in Night only comparators with CFG.WAKE run. -/
def cmpRuns (s : State) (k : Nat) : Bool := stage s != 4 || fon s (CMP.GEN.CFG.WAKE k)

/-- R459: does a change to `level` count as an event under EDGE? -/
def cmpEdge (s : State) (k : Nat) (level : Bool) : Bool :=
  let e := fget s (CMP.GEN.CFG.EDGE k)
  e == 2 || (if level then e == 0 else e == 1)

/-- R462: a capture of the CT of an event. -/
def cmpCapture (s : State) (k ct : Nat) : State :=
  if fon s (CMP.GEN.CFG.CAPEN k) then
    let s1 := if fon s (CMP.GEN.STAT.CAPV k) then fset s (CMP.GEN.STAT.CAP_OVR k) 1 else s
    fset (fset64 s1 (CMP.GEN.CAP_LO.CT k) (CMP.GEN.CAP_HI.CT k) ct) (CMP.GEN.STAT.CAPV k) 1
  else s

/-- R460: an event of comparator `k` at `ct`. -/
def cmpEvent (s : State) (k ct : Nat) : State :=
  let s1 := finc (fset s (CMP.GEN.STAT.LATCH k) 1) (CMP.GEN.CNT.EVENTS k)
  let s2 := cmpCapture { s1 with cmp := { s1.cmp with active := s1.cmp.active.filter (· != k) ++ [k] } } k ct
  let s3 := if fon s (CMP.GEN.CFG.ATTN k) then fset s2 BUS.ATTN.CMP 1 else s2
  let s4 := trgEvent s3 4 k
  let s5 := raise s4 (0x1E0 + k)
  if fon s (CMP.GEN.CFG.WAKE k) then wakeCause s5 3 (myAddr s5) else s5

/-- R461: LATCH of a comparator with LCLR is cleared where no event has come since the previous tick. -/
def cmpQuiet (s : State) (k : Nat) : State :=
  if fon s (CMP.GEN.CFG.LCLR k) && !s.cmp.active.contains k then fset s (CMP.GEN.STAT.LATCH k) 0 else s

/-- R459: the first sample of comparator `k` at a tick. -/
def cmpSample (s : State) (k ct : Nat) (level : Bool) : State :=
  let was := fon s (CMP.GEN.STAT.OUT k)
  let s1 := fsetB s (CMP.GEN.STAT.OUT k) level
  if s.cmp.ref.contains k then
    if was != level && cmpEdge s k level then cmpEvent { s1 with cmp := { s1.cmp with active := s1.cmp.active.filter (· != k) } } k ct
    else
      let s2 := cmpQuiet s1 k
      { s2 with cmp := { s2.cmp with active := s2.cmp.active.filter (· != k) } }
  else
    let s2 := cmpQuiet { s1 with cmp := { s1.cmp with ref := s1.cmp.ref ++ [k] } } k
    { s2 with cmp := { s2.cmp with active := s2.cmp.active.filter (· != k) } }

/-- R459, R461: what a tick does for comparator `k`. -/
def cmpTickOne (ct : Nat) (levels : Nat) (s : State) (k : Nat) : State :=
  let s1 := if cmpMode s k = 2 then cmpSetMode s k (fget s (CMP.GEN.CFG.MODE k)) else s
  if !cmpRuns s1 k then s1
  else if cmpMode s1 k = 2 then cmpSample s1 k ct (bitOf levels k)
  else if cmpMode s1 k = 1 then
    let s2 := cmpQuiet s1 k
    { s2 with cmp := { s2.cmp with active := s2.cmp.active.filter (· != k) } }
  else s1

/-- R457, R467: the flag of CHK_STAT and the fault source of comparator `c`. -/
def cmpClass (c : Nat) : Fld × Nat :=
  if c < 64 then (CMP.CHK_STAT.SC, 0x278) else if c < 112 then (CMP.CHK_STAT.MON, 0x279) else (CMP.CHK_STAT.GEN, 0x27A)

/-- R467: comparator `c` has failed a check. -/
def cmpFail (s : State) (c : Nat) : State :=
  let k := cmpClass c
  raise (fset (fset (fset s (CMP.FAILMAP c) 1) k.1 1) CMP.CHK_STAT.CMP_IDX c) k.2

/-- R463: checks run from step 5 of R50. -/
def cmpChecks (s : State) : Bool := s.start.running && fget s CMP.CHK.MODE == 0

/-- R464: comparator `c` is in use. -/
def cmpInUse (s : State) (c : Nat) : Bool :=
  if c < 64 then chDriven s c || chState s c == 9
  else if c < 112 then fget s (MON.STAT.MODE (c - 64)) != 0
  else cmpMode s (c - 112) == 1

/-- R286: the LSB of monitor `m`'s thresholds in microvolt. -/
def monLsb (s : State) (m : Nat) : Nat := [1000, 2000, 6000].getD (fget s (MON.CFG.RANGE m)) 6000

/-- R457: the converter input that a comparator watches, if it is one, and its thresholds in microvolt. -/
def cmpInput (s : State) (c : Nat) : Option Nat × List Nat :=
  if c < 64 then (some c, [fget s (CHN.SC.THR c) * 1000])
  else if c < 112 then
    let m := c - 64
    let l := monLsb s m
    (if fget s (MON.CFG.SRC m) = 0 then some (0x90 + m) else none,
      [fget s (MON.THR.OV m) * l, (if fget s (MON.STAT.MODE m) = 2 then fget s (MON.THR.DIS m) else fget s (MON.THR.UV m)) * l])
  else (some (0xC0 + (c - 112)), [fget s (CMP.GEN.CFG.THR (c - 112)) * 3200])

/-- R464: the result of the comparator's input younger than 1 ms, in 1/8192 microvolt. -/
def cmpRecent (s : State) (c : Nat) : Option Int :=
  match (cmpInput s c).1 with
  | some i =>
    match tabGet (fun _ => none) s.adc.last i with
    | some e => if localNs s < e.2 + 1000000 then some e.1 else none
    | none => none
  | none => none

/-- Within ±10 % of a threshold. -/
def nearThr (v : Int) (thr : Nat) : Bool :=
  let t : Int := (thr * 8192 : Nat)
  decide (10 * (v - t).natAbs ≤ t.natAbs)

/-- R464: a mismatch of a comparator in use. -/
def cmpMismatch (s : State) (c : Nat) : State :=
  match cmpRecent s c with
  | some v => if (cmpInput s c).2.any (nearThr v) then s else cmpFail s c
  | none =>
    if s.cmp.miss.contains c then cmpFail s c
    else { s with cmp := { s.cmp with miss := s.cmp.miss ++ [c] } }

/-- R464: no mismatch is carried to the next check. -/
def cmpMissClear (s : State) (c : Nat) : State := { s with cmp := { s.cmp with miss := s.cmp.miss.filter (· != c) } }

/-! ### The commands -/

/-- CMP_OUTPUT_EDGE: the output of a comparator in continuous mode changes (R459). The level always shows in STAT.OUT. -/
def execCmpOutputEdge (k : Fin 16) (level : Bool) (s : State) : Host.Outcome State Fault Refusal :=
  if cmpMode s k = 1 ∧ cmpRuns s k ∧ fon s (CMP.GEN.STAT.OUT k) ≠ level then
    let s1 := fsetB s (CMP.GEN.STAT.OUT k) level
    .next (if cmpEdge s k level then cmpEvent s1 k (served s) else s1)
  else .next s

/-- CMP_TICK: a tick of frame 1; in Night it runs from the 32.768 kHz clock, outside the frame's anchor (R459). The first
samples are taken 6 µs after the tick. -/
def execCmpTick (work : Nat) (levels : BitVec 16) (s : State) : Host.Outcome State Fault Refusal :=
  if frameRuns s 1 then
    let s1 := if stage s = 4 then s else (frameBegin s 1 work).1
    .next ((List.range 16).foldl (cmpTickOne (served s1 + 6000) levels.toNat) s1)
  else .next s

/-- CMP_CAP_READ: a read of CAP_LO snapshots CAP_HI and clears CAPV (R462). -/
def execCmpCapRead (rq : Fin 24) (k : Fin 16) (s : State) : Host.Outcome State Fault Refusal :=
  .next (asCoach s rq 0x7F (CMP.GEN.CAP_LO.CT k).addr fun t =>
    (fset (snapPut t rq (CMP.GEN.CAP_HI.CT k).addr (fget t (CMP.GEN.CAP_HI.CT k))) (CMP.GEN.STAT.CAPV k) 0, stOk,
      [fget t (CMP.GEN.CAP_LO.CT k)]))

/-- CMP_SWAP_CHECK: `differs` says that the logical output changed across a swap edge, or that the swapped second sample
of a sampled comparator differed from its first (R464). -/
def execCmpSwapCheck (cmp : Fin 128) (differs : Bool) (s : State) : Host.Outcome State Fault Refusal :=
  if !cmpChecks s then .next s
  else if 112 ≤ cmp.val ∧ cmpMode s (cmp.val - 112) = 2 then .next (if differs then cmpFail s cmp else s)
  else if cmpInUse s cmp then
    .next (if differs then cmpMismatch s cmp else cmpMissClear s cmp)
  else .next s

/-- CMP_TIE_CHECK: a comparator not in use read wrong below or above its threshold (R465). -/
def execCmpTieCheck (cmp : Fin 128) (wrong : Bool) (s : State) : Host.Outcome State Fault Refusal :=
  .next (if cmpChecks s && !cmpInUse s cmp && wrong then cmpFail s cmp else s)

/-- R466: one read-back of a threshold DAC against its expected code. -/
def dacReadback (s : State) (dac code expected : Nat) : State :=
  if fget s CMP.CHK.MODE ≤ 1 then
    let off := ((code : Int) - expected).natAbs
    if expected + 2000 < 100 * off then
      if s.cmp.dacMiss.contains dac then
        raise (fset (fset s CMP.CHK_STAT.DAC 1) CMP.CHK_STAT.DAC_IDX dac) 0x27B
      else { s with cmp := { s.cmp with dacMiss := s.cmp.dacMiss ++ [dac] } }
    else { s with cmp := { s.cmp with dacMiss := s.cmp.dacMiss.filter (· != dac) } }
  else s

/-- CMP_READBACK: one threshold DAC is converted on ADC3 (R466). -/
def execCmpReadback (dac : Fin 176) (code expected : Nat) (s : State) : Host.Outcome State Fault Refusal :=
  .next (if s.start.running ∧ adcIsReady s 3 then dacReadback s dac code expected else s)

/-- CMP_RB_STALL: read-back has paused for 100 ms, ADC3 not being READY (R466). -/
def execCmpRbStall (s : State) : Host.Outcome State Fault Refusal :=
  .next (if s.start.running ∧ fget s CMP.CHK.MODE ≤ 1 ∧ !adcIsReady s 3 then raise s 0x27C else s)

end Sys2Proof.Machine
end

