-- ==== Sys2Proof/Machine/Charger.lean ====
section
/-!
DEFINITION. Machine/Charger.lean: the charger, the power path, support and Storage (R485-R519).
-/
namespace Sys2Proof.Machine

/-- R490: the state of the charger. -/
def chgState (s : State) : Nat := fget s CHG.STAT.STATE

/-- R490: the charging states. -/
def chgCharging (st : Nat) : Bool := decide (4 ≤ st ∧ st ≤ 7)

/-- R487: a per-cell voltage taken as the nearer limit of its chemistry, at pack level in millivolt. -/
def packMv (s : State) (f : Fld) (lfpLo lfpHi nmcLo nmcHi : Nat) : Nat :=
  (if fget s CHG.PACK.CHEM = 0 then clampNat lfpLo lfpHi (fget s f) else clampNat nmcLo nmcHi (fget s f)) * fget s CHG.PACK.CELLS

/-- R487: the pack-level CV voltage. -/
def cvMv (s : State) : Nat := packMv s CHG.VCELL.CV_MV 3450 3650 4000 4200
/-- R487: the pack-level precharge threshold. -/
def preMv (s : State) : Nat := packMv s CHG.VCELL2.PRE_MV 2500 3000 2900 3200
/-- R487: the pack-level recharge threshold. -/
def rechMv (s : State) : Nat := packMv s CHG.VCELL2.RECH_MV 3300 3400 3950 4100

/-- R502: a unit without a pack. -/
def packless (s : State) : Bool := fget s CHG.PACK.CELLS == 0

/-- R513: ICC_MA in effect. -/
def iccMa (s : State) : Nat := min 12000 (fget s CHG.ICHG.ICC_MA)

/-- R493: the reservation at a target current. -/
def chgR (s : State) (ma : Nat) : Nat := fget s CHG.LEDG.RESV_MW * ma / iccMa s

/-- R499: the support claim. -/
def supMw (s : State) : Nat := min 500 (fget s CHG.SUP2.SUP_W) * 1064

/-- R494: the figure for source kind 0x03, the pack. -/
def packFigure (s : State) : Nat :=
  let st := chgState s
  if st = 0xB then fget s CHG.MEAS.VPACK_MV * (if packless s then iccMa s else 2000) / 1000
  else if fon s CHG.STAT.PACK_GONE || !s.chg.accepted || st == 0xA || st == 0xD || (st == 9 && s.chg.tempOut) then 0
  else fget s CHG.LIM.DSG_W * 1000

/-- R494: the figure for source kind 0x04, the solar input. -/
def solarFigure (s : State) : Nat :=
  match s.chg.pmppAt with
  | some t =>
    if fon s TOP.SUPPLY.VSOL && decide (localNs s - t ≤ 10 * atLeast1 (fget s CHG.MPPT.SWEEP_S) * 1000000000) then
      fget s CHG.MPP.PMPP_DW * 100
    else 0
  | none => 0

/-- R494: the figure for source kind 0x06, support. -/
def supportFigure (s : State) : Nat := if chgState s = 0xC then min 500 (fget s CHG.SUP2.SUP_W) * 1000 else 0

/-- I_T takes a value in mA. -/
def chgSetIt (s : State) (ma : Nat) : State := fset { s with chg := { s.chg with it := ma } } CHG.PROG.ITGT (ma / 10)

/-- R491: the charger enters state `st`: outstanding charge requests do not outlive PENDING and PAUSE, and REF clears on
entry to DONE, OFF, FAULT, HOLD and SUPPORT. The states of R528 begin and end a rest. -/
def chgGo (s : State) (st : Nat) : State :=
  let s1 := if st = 2 ∨ st = 3 then s else withdraw s fun k => match k with
    | .charge _ _ => true
    | _ => false
  let rest := decide (st = 0 ∨ st = 3 ∨ st = 8 ∨ st = 9 ∨ st = 0xA)
  let s2 := fset { s1 with gau := { s1.gau with idle := if rest then some (s1.gau.idle.getD (localNs s1)) else none } } CHG.STAT.STATE st
  if st = 0 ∨ st = 8 ∨ st = 0xA ∨ st = 0xB ∨ st = 0xC then fset s2 CHG.STAT.REF 0 else s2

/-- R491, R493: entry to PENDING with the request for R(I_T). -/
def chgPend (s : State) : State :=
  let s1 := withdraw (chgGo s 2) fun k => match k with
    | .charge _ _ => true
    | _ => false
  request s1 (.charge s1.chg.it true) (chgR s1 s1.chg.it)

/-- R501, R498: the input that CFG.SEL chooses among those present: 0 none, 1 CHG_IN, 2 VSOL. -/
def chgPick (s : State) : Nat :=
  let sel := fget s CHG.CFG.SEL
  let vin := fon s TOP.SUPPLY.CHG_IN
  let sol := fon s TOP.SUPPLY.VSOL
  if sel = 2 then (if sol then 2 else 0)
  else if sel = 0 ∧ sol ∧ 200 ≤ fget s CHG.MPP.PMPP_DW then 2
  else if vin then 1 else 0

/-- The chosen input as STAT shows it. -/
def chgInput (s : State) : State := fsetB (fset s CHG.STAT.INSEL (chgPick s)) CHG.STAT.NOIN (chgPick s == 0)

/-- R493, R501: the input is chosen again: a charger that holds or awaits a reservation on the old source turns off there
and asks anew. Where no input is left the charger stays until its phase changes. -/
def chgReselect (s : State) : State :=
  let old := fget s CHG.STAT.INSEL
  let s1 := chgInput s
  let st := chgState s
  if chgPick s ≠ old ∧ chgPick s ≠ 0 ∧ old ≠ 0 ∧ (st = 2 ∨ st = 3 ∨ chgCharging st) then chgPend s1 else s1

/-- A supply pin that feeds the charger comes or goes: with SEL automatic a present input is kept (R501). -/
def chgSupply (s : State) : State :=
  let keep := fget s CHG.CFG.SEL = 0 ∧
    ((fget s CHG.STAT.INSEL = 1 ∧ fon s TOP.SUPPLY.CHG_IN) ∨ (fget s CHG.STAT.INSEL = 2 ∧ fon s TOP.SUPPLY.VSOL))
  if keep then s else chgReselect s

/-- R491: the safety timer starts and the charger enters PRECHARGE or CC. -/
def chgAdmit (s : State) : State :=
  let s1 := fset { s with chg := { s.chg with timer := 0 } } CHG.PROG.ELAPSED 0
  chgGo s1 (if fget s CHG.MEAS.VPACK_MV < preMv s then 4 else 5)

/-- R491, R492, R499: what an admitted request of the charger does. -/
def chgAdmitted (s : State) (k : ReqKind) : State :=
  match k with
  | .charge _ true => if chgState s = 2 ∨ chgState s = 3 then chgAdmit s else s
  | .charge ma false => chgSetIt s ma
  | .support => fset { s with ldg := { s.ldg with sup := supMw s } } CHG.STAT.SUP_ARMED 1
  | _ => s

/-- R491, R492: what a refused request of the charger does. -/
def chgRefused (s : State) (k : ReqKind) (code : Nat) : State :=
  let s1 := chgFlag (fset s CHG.STAT.REFUSE_CODE code) CHG.EVT.REFUSED
  match k with
  | .charge _ true => if chgState s = 2 ∨ chgState s = 3 then chgGo s1 3 else s1
  | _ => s1

/-- R499, R500: support is disarmed and its claim released. -/
def supDisarm (s : State) : State :=
  let s1 := withdraw { s with ldg := { s.ldg with sup := 0 } } fun k => match k with
    | .support => true
    | _ => false
  fset s1 CHG.STAT.SUP_ARMED 0

/-- R500: every end of support. -/
def supEnded (s : State) (disarm : Bool) : State :=
  let s1 := chgFlag { s with chg := { s.chg with supEnd := some (localNs s) } } CHG.EVT.SUP_END
  if disarm then supDisarm s1 else s1

/-- R491, R500: support ends to DETECT. -/
def supStop (s : State) (disarm : Bool) : State := chgGo (supEnded s disarm) 1

/-- R500: support does not restart within 1 ms of an end. -/
def supBarred (s : State) : Bool :=
  match s.chg.supEnd with
  | some t => decide (localNs s < t + 1000000)
  | none => false

/-- R491, R499: a support trigger takes effect. -/
def supMay (s : State) : Bool :=
  let st := chgState s
  fon s CHG.STAT.SUP_ARMED && !supBarred s && !(st == 0xA || st == 0xB || st == 0xC || st == 0xD)

/-- R499: the trigger: charging is pre-empted, and its reservation released as it leaves the charging states. -/
def supStart (s : State) : State :=
  let s1 := chgGo { s with chg := { s.chg with supAt := localNs s, ovp := false } } 0xC
  chgFlag (finc s1 CHG.CNT.SUP) CHG.EVT.SUP_START

/-- R491, R500, R504: a ledger shed of the charger. -/
def chgShed (s : State) : State :=
  let st := chgState s
  if st = 0xC then supStop (chgFlag s CHG.EVT.SHED) true
  else if st = 2 ∨ chgCharging st then chgFlag (chgGo s 3) CHG.EVT.SHED
  else s

/-- R491: entry to FAULT with a cause. -/
def chgFault (s : State) (cause : Nat) : State := chgGo (fset s CHG.STAT.FCAUSE cause) 0xA

/-- R491, R502: the start command, and the start at step 5 of R50. -/
def chgStart (s : State) : State × Nat :=
  if chgState s ≠ 0 then (s, stIllegal)
  else if packless s then
    if fon s CHG.CFG.HOLD_EN then (chgGo (chgInput s) 0xB, stOk) else (s, stIllegal)
  else (chgGo (chgInput s) 1, stOk)

/-- R492: Set I_T. An increase of a charging charger needs admission, unless a launch strobe brings it. -/
def chgSetCurrent (s : State) (iset : Nat) (strobe : Bool) : State × Nat :=
  let st := chgState s
  let new := min (iccMa s) (max 10 (iset * 10))
  let old := s.chg.it
  let s1 := withdraw s fun k => match k with
    | .charge _ false => true
    | _ => false
  if packless s ∨ st = 0xD then (s, stIllegal)
  else if chgCharging st then
    if old < new ∧ !strobe then (request s1 (.charge new false) (chgR s new - chgR s old), stOk)
    else (release (chgSetIt s1 new) 0x50 (chgR s old - chgR s new), stOk)
  else if st = 2 ∨ st = 3 then
    let waits := s.ldg.reqs.any fun r => match r.kind with
      | .charge _ true => true
      | _ => false
    let s2 := withdraw (chgSetIt s1 new) fun k => match k with
      | .charge _ _ => true
      | _ => false
    (if waits then request s2 (.charge new true) (chgR s new) else s2, stOk)
  else (chgSetIt s1 new, stOk)

/-- R491, R492: the reference-charge command. -/
def chgRef (s : State) : State × Nat :=
  let st := chgState s
  if packless s then (s, stIllegal)
  else if st = 0 then (fset (chgGo (chgInput s) 1) CHG.STAT.REF 1, stOk)
  else if st = 8 then (chgPend (fset s CHG.STAT.REF 1), stOk)
  else if st = 1 ∨ st = 2 ∨ st = 3 ∨ st = 9 ∨ chgCharging st then (fset s CHG.STAT.REF 1, stOk)
  else (s, stIllegal)

/-- R491, R492: a charger command; with EN = 0, and before step 5 of R50, it is ILLEGAL_STATE (R510). -/
def chgCommand (s : State) (cmd iset : Nat) (strobe : Bool) : State × Nat :=
  let st := chgState s
  if !fon s CHG.CFG.EN || !s.start.running then (s, stIllegal)
  else if cmd = 0 then (s, stOk)
  else if cmd = 1 then chgStart s
  else if cmd = 2 then
    if st = 0 ∨ st = 0xD then (s, stIllegal)
    else (chgGo (if st = 0xC then supEnded s false else { s with chg := { s.chg with ovp := false } }) 0, stOk)
  else if cmd = 3 then chgSetCurrent s iset strobe
  else if cmd = 4 then chgRef s
  else if cmd = 5 then
    if packless s ∨ st = 0xD then (s, stIllegal)
    else if fon s CHG.STAT.SUP_ARMED || s.ldg.reqs.any fun r => match r.kind with
      | .support => true
      | _ => false
    then (s, stOk)
    else (request s .support (supMw s), stOk)
  else if cmd = 6 then
    if st = 0xD then (s, stIllegal) else if st = 0xC then (supStop s true, stOk) else (supDisarm s, stOk)
  else if cmd = 7 then (if supMay s then (supStart s, stOk) else (s, stIllegal))
  else if cmd = 8 then (if st = 0xC then (supStop s false, stOk) else (s, stIllegal))
  else if cmd = 9 then (if st = 0xA then (chgGo (fset s CHG.STAT.FCAUSE 0) 0, stOk) else (s, stIllegal))
  else (s, stIllegal)

/-- R491, R513: the top-off time in minutes. -/
def topoffMin (s : State) : Nat :=
  let t := min 120 (fget s CHG.TERM.TOPOFF_MIN)
  if fon s CHG.STAT.REF then max t (fget s GAUGE.REF.TOPOFF_REF) else t

/-- R491, R527: entry to DONE after a top-off; one of at least TOPOFF_REF is a full reference for the gauge. -/
def chgDone (s : State) : State :=
  let full := decide (fget s GAUGE.REF.TOPOFF_REF ≤ topoffMin s)
  chgGo { s with gau := { s.gau with full := s.gau.full || full } } 8

/-- R491: a condition of the charge cycle is met. -/
def chgPhase (s : State) (e : ChgEvent) : State :=
  let st := chgState s
  match e with
  | .preReached => if st = 4 then chgGo s 5 else s
  | .cvReached => if st = 5 then chgGo s 6 else s
  | .terminated =>
    if st = 6 then
      let s1 := chgFlag (finc { s with gau := { s.gau with term := true } } CHG.CNT.TERMS) CHG.EVT.TERM
      if topoffMin s = 0 then chgDone s1 else chgGo s1 7
    else s
  | .topoffDone => if st = 7 then chgDone s else s
  | .recharge => if st = 8 then chgPend s else s
  | .tempOut =>
    if st = 2 ∨ st = 3 ∨ st = 9 ∨ chgCharging st then chgGo { s with chg := { s.chg with tempOut := true } } 9 else s
  | .tempBack =>
    let s1 := { s with chg := { s.chg with tempOut := false } }
    if st = 9 ∧ chgPick s ≠ 0 then chgPend (chgInput s1) else s1
  | .inputLost => if chgPick s = 0 ∧ (st = 2 ∨ st = 3 ∨ chgCharging st) then chgGo (chgInput s) 9 else s
  | .inputBack => if st = 9 ∧ !s.chg.tempOut ∧ chgPick s ≠ 0 then chgPend (chgInput s) else s

/-- R495: thermal limiting of the charge current. -/
def chgThermal (s : State) : State :=
  fsetB s CHG.STAT.TLIM (match s.wire.die with
    | some (t, _) => decide (125 * 16 < t)
    | none => false)

/-- R495, R501: input or MPPT limiting, from the 1 ms means. -/
def chgLimited (s : State) (vinMv pinDw : Nat) : Bool :=
  let sel := fget s CHG.STAT.INSEL
  decide (sel = 1 ∧ vinMv < fget s CHG.INLIM.VIN_MIN_MV ∨ atLeast1 (fget s CHG.INLIM.IIN_MA) * vinMv ≤ pinDw * 100000 ∨
    sel = 2 ∧ vinMv * 3100 ≤ s.chg.vref)

/-- R495: the safety timer expires. -/
def chgExpire (s : State) : State :=
  let st := chgState s
  if (st = 4 ∨ st = 5 ∨ st = 6) ∧ clampNat 1 24 (fget s CHG.TERM.TIMER_H) * 7200 ≤ s.chg.timer then
    raise (chgFlag (chgFault s 1) CHG.EVT.TIMER) 0x234
  else s

/-- R535: the gauge freezes. -/
def gaugeFreeze (s : State) : State :=
  if fon s GAUGE.STAT.RUN then
    let s1 := fset (fset { s with gau := { s.gau with point := none } } GAUGE.STAT.FROZEN 1) GAUGE.EVT.FREEZE 1
    journal s1 0x0D 0 8 0 [regWord s1 0xE0028, regWord s1 0xE0030, regWord s1 0xE004C]
  else s

/-- R496, R498, R504: a confirmed removal. -/
def packGone (s : State) : State :=
  let st := chgState s
  let s1 := { s with chg := { s.chg with ovp := false, accepted := false, goneAt := localNs s } }
  let s2 := chgFlag (finc (fset s1 CHG.STAT.PACK_GONE 1) CHG.CNT.GONE) CHG.EVT.PACK_GONE
  let s3 := gaugeFreeze s2
  let s4 := if st = 0xC then supEnded s3 true else s3
  let input := fon s TOP.SUPPLY.CHG_IN || st != 0xC && fon s TOP.SUPPLY.VSOL
  let s5 := { s4 with chg := { s4.chg with diode := false } }
  raise (if st = 0xA ∧ fget s CHG.STAT.FCAUSE = 2 then s5
    else chgGo (chgInput s5) (if fon s CHG.CFG.HOLD_EN && input then 0xB else 0)) 0x236

/-- R535: the gauge thaws at the acceptance of a pack. -/
def gaugeThaw (s : State) : State :=
  if fon s GAUGE.STAT.FROZEN then
    let out := localNs s - s.chg.goneAt
    let g := s.gau
    let g1 := { g with
      unc := if 10000000000 ≤ out then f32Max g.unc (f32OfRat 25 1) else g.unc
      restNow := decide (fget s GAUGE.REST.REST_S * 1000000000 ≤ out) }
    let s1 := fset (fset { s with gau := g1 } GAUGE.STAT.FROZEN 0) GAUGE.EVT.THAW 1
    journal s1 0x0D 0 9 0 [regWord s1 0xE0028, regWord s1 0xE0030, regWord s1 0xE004C]
  else s

/-- R497: the identity that a pack must show, if one is set or learnt. -/
def packExpected (s : State) : Option Nat := if fget s CHG.PACK.ID_EXP = 0xF then s.chg.learned else some (fget s CHG.PACK.ID_EXP)

/-- R497: a pack whose identity matches is accepted, in DETECT or in HOLD. -/
def packMatch (s : State) (id vpackMv : Nat) : State :=
  let s1 := { s with chg := { s.chg with accepted := true, learned := some (s.chg.learned.getD id) } }
  let s2 := gaugeThaw (chgFlag (fset s1 CHG.STAT.PACK_GONE 0) CHG.EVT.PACK_BACK)
  if vpackMv < rechMv s ∨ fon s CHG.STAT.REF then chgPend (chgGo s2 1) else chgGo s2 8

/-- R497: a pack shows itself for 200 µs with identity `id`, at `vpackMv`. -/
def packShown (s : State) (id vpackMv : Nat) : State :=
  let st := chgState s
  let s1 := fset (fset s CHG.STAT.ID id) CHG.MEAS.VPACK_MV (min vpackMv 65535)
  if !(st == 1 || st == 0xB && fon s CHG.STAT.PACK_GONE) || packless s || id == 0xF then s1
  else match packExpected s with
    | none => packMatch s1 id vpackMv
    | some k => if k = id then packMatch s1 id vpackMv else raise (chgFlag (chgFault s1 3) CHG.EVT.ID_MISMATCH) 0x237

/-- R501: one perturb-and-observe step at power `p`; v_ref in 1/3100 mV. -/
def mpptStep (s : State) (p : Nat) : State :=
  let c := s.chg
  let up := if p < c.pPrev then !c.up else c.up
  let d : Int := (atLeast1 (fget s CHG.MPPT.STEP_MV) * 31000 : Nat)
  let v := clampInt (c.voc * 1550 : Nat) (c.voc * 2945 : Nat) ((c.vref : Int) + (if up then d else -d))
  fset { s with chg := { c with up := up, vref := v.toNat, pPrev := p, pmppAt := some (localNs s) } } CHG.MPP.PMPP_DW (min p 65535)

/-- The index of the first greatest number. -/
def argMax (l : List Nat) : Nat := l.findIdx fun x => l.all fun y => decide (y ≤ x)

/-- R506: what Storage entry does; the retention record is written by the gauge (R534). -/
def storageEnter (s : State) : State :=
  let off := (List.range 64).foldl (fun t n => if fon t (CHN.CFG.PRIV_ACT n) && chDriven t n then chOff t n else t) s
  let s1 := chgGo (if chgState off = 0xC then supEnded off false else off) 0
  let s2 := { s1 with chg := { s1.chg with diode := false }, pwr := { s1.pwr with storage := true } }
  targetReset s2 0x50

/-! ### The commands -/

/-- CHG_START. -/
def execChgStart (s : State) : Host.Outcome State Fault Refusal := .next (atTarget s 0x50 fun t => chgCommand t 1 0 false)

/-- CHG_STOP. -/
def execChgStop (s : State) : Host.Outcome State Fault Refusal := .next (atTarget s 0x50 fun t => chgCommand t 2 0 false)

/-- CHG_SET_CURRENT. -/
def execChgSetCurrent (iset : Fin 4096) (s : State) : Host.Outcome State Fault Refusal :=
  .next (atTarget s 0x50 fun t => chgCommand t 3 iset false)

/-- CHG_REF_CHARGE. -/
def execChgRefCharge (s : State) : Host.Outcome State Fault Refusal := .next (atTarget s 0x50 fun t => chgCommand t 4 0 false)

/-- CHG_ARM_SUPPORT. -/
def execChgArmSupport (s : State) : Host.Outcome State Fault Refusal := .next (atTarget s 0x50 fun t => chgCommand t 5 0 false)

/-- CHG_DISARM_SUPPORT. -/
def execChgDisarmSupport (s : State) : Host.Outcome State Fault Refusal :=
  .next (atTarget s 0x50 fun t => chgCommand t 6 0 false)

/-- CHG_START_SUPPORT. -/
def execChgStartSupport (s : State) : Host.Outcome State Fault Refusal :=
  .next (atTarget s 0x50 fun t => chgCommand t 7 0 false)

/-- CHG_END_SUPPORT. -/
def execChgEndSupport (s : State) : Host.Outcome State Fault Refusal := .next (atTarget s 0x50 fun t => chgCommand t 8 0 false)

/-- CHG_CLEAR_FAULT. -/
def execChgClearFault (s : State) : Host.Outcome State Fault Refusal := .next (atTarget s 0x50 fun t => chgCommand t 9 0 false)

/-- CHG_PHASE_CHANGE. -/
def execChgPhaseChange (ev : ChgEvent) (s : State) : Host.Outcome State Fault Refusal := .next (byEngine s 3 (chgPhase s ev))

/-- CHG_PAUSE_RETRY: a charger in PAUSE asks again, unless its request is still before E0. -/
def execChgPauseRetry (s : State) : Host.Outcome State Fault Refusal :=
  .next (byEngine s 3 (if chgState s = 3 ∧ !s.ldg.reqs.any (fun r => match r.kind with
      | .charge _ true => true
      | _ => false) then request s (.charge s.chg.it true) (chgR s s.chg.it)
    else s))

/-- CHG_SAFETY_TIMER_TICK: the second's 1 ms means of the pack node, the input, the input power and the converter
current; the timer advances in PRECHARGE, CC and CV. -/
def execChgSafetyTimerTick (vpackMv vinMv pinDw : Nat) (iTen : Int) (s : State) : Host.Outcome State Fault Refusal :=
  let s1 := fsetI (fset s CHG.MEAS.VPACK_MV (min vpackMv 65535)) CHG.MEAS.I_10MA (clampInt (-32768) 32767 iTen)
  let s2 := fset (fset s1 CHG.MEAS_IN.VIN_MV (min vinMv 65535)) CHG.MEAS_IN.PIN_DW (min pinDw 65535)
  let s3 := chgThermal (fsetB s2 CHG.STAT.ILIM (chgLimited s2 vinMv pinDw))
  let st := chgState s
  .next (byEngine s 3 (if st = 4 ∨ st = 5 ∨ st = 6 then
      let target : Int := (if st = 4 then fget s CHG.ICHG.IPRE_MA else s.chg.it : Nat)
      let slow := (fon s3 CHG.STAT.TLIM || fon s3 CHG.STAT.ILIM) && decide (iTen * 20 < target)
      let t := s.chg.timer + (if slow then 1 else 2)
      chgExpire (fset { s3 with chg := { s3.chg with timer := t } } CHG.PROG.ELAPSED (min (t / 2) 0x1FFFF))
    else s3))

/-- CHG_SAFETY_TIMER_EXPIRY. -/
def execChgSafetyTimerExpiry (s : State) : Host.Outcome State Fault Refusal := .next (byEngine s 3 (chgExpire s))

/-- CHG_OVP_TRIP: armed in the charging states and in HOLD, at 1.05 times the CV voltage. -/
def execChgOvpTrip (vpackMv : Nat) (s : State) : Host.Outcome State Fault Refusal :=
  let st := chgState s
  .next (if (chgCharging st || st == 0xB) && !packless s && decide (cvMv s * 105 < vpackMv * 100) then
      chgFlag { s with chg := { s.chg with ovp := true } } CHG.EVT.OVP
    else s)

/-- CHG_OVP_RESOLVE: 300 µs after the trip without a pack-absence indication. -/
def execChgOvpResolve (stillHigh : Bool) (s : State) : Host.Outcome State Fault Refusal :=
  let s1 := { s with chg := { s.chg with ovp := false } }
  .next (if !s.chg.ovp then s
    else if stillHigh then raise (chgFault s1 2) 0x235
    else if chgCharging (chgState s) then chgPend s1
    else s1)

/-- PACK_ABSENCE: the comparators run in every state but OFF and SAFE. -/
def execPackAbsence (s : State) : Host.Outcome State Fault Refusal :=
  let st := chgState s
  .next (if st = 0 ∨ st = 0xD ∨ packless s ∨ fon s CHG.STAT.PACK_GONE then s else packGone s)

/-- PACK_ACCEPT. -/
def execPackAccept (id : Fin 16) (vpackMv : Nat) (s : State) : Host.Outcome State Fault Refusal := .next (packShown s id vpackMv)

/-- CHG_HOLD_INPUT_LOSS. -/
def execChgHoldInputLoss (s : State) : Host.Outcome State Fault Refusal :=
  .next (if chgState s = 0xB ∧ chgPick s = 0 then raise (chgInput s) 0x238 else s)

/-- SUPPORT_TRIGGER. -/
def execSupportTrigger (s : State) : Host.Outcome State Fault Refusal := .next (if supMay s then supStart s else s)

/-- SUPPORT_TIMEOUT: SUP_T after the trigger. -/
def execSupportTimeout (s : State) : Host.Outcome State Fault Refusal :=
  .next (if chgState s = 0xC then
      let s1 := passLoc s (s.chg.supAt + atLeast1 (fget s CHG.SUP2.SUP_T) * 10000000)
      raise (supStop (chgFlag s1 CHG.EVT.SUP_TMO) true) 0x239
    else s)

/-- SUPPORT_CUTOFF. -/
def execSupportCutoff (s : State) : Host.Outcome State Fault Refusal :=
  .next (if chgState s = 0xC then supStop (chgFlag s CHG.EVT.SUP_CUT) true else s)

/-- SUPPORT_RECOVERED. -/
def execSupportRecovered (s : State) : Host.Outcome State Fault Refusal :=
  .next (if chgState s = 0xC then supStop s false else s)

/-- MPPT_TRACK: the mean power of the period on VSOL. -/
def execMpptTrack (pDw : Nat) (s : State) : Host.Outcome State Fault Refusal :=
  .next (byEngine s 3 (if fget s CHG.STAT.INSEL = 2 ∧ !s.chg.sweeping then mpptStep s pDw else s))

/-- MPPT_SWEEP. -/
def execMpptSweep (s : State) : Host.Outcome State Fault Refusal :=
  .next (byEngine s 3 (if fget s CHG.STAT.INSEL = 2 then { s with chg := { s.chg with sweeping := true } } else s))

/-- MPPT_SWEEP_DONE: the open-circuit voltage and the mean power at each of the 32 points; with SEL automatic the input is
chosen again. -/
def execMpptSweepDone (vocMv : Nat) (pDw : List Nat) (s : State) : Host.Outcome State Fault Refusal :=
  .next (byEngine s 3 (if s.chg.sweeping then
      let v := vocMv * (2945 - 45 * argMax (pDw.take 32))
      let s1 := { s with chg := { s.chg with sweeping := false, voc := vocMv, vref := v, up := false } }
      let r := quotFree s1 v 3100
      chgReselect (fset r.2 CHG.MPP.VMPP_MV (min r.1 65535))
    else s))

/-- IDEAL_DIODE_CONDUCT: from Dawn entry, unless held open (R503). -/
def execIdealDiodeConduct (s : State) : Host.Outcome State Fault Refusal :=
  .next (if s.start.dawn && !fon s CHG.STAT.PACK_GONE && !s.pwr.storage then { s with chg := { s.chg with diode := true } } else s)

/-- IDEAL_DIODE_BLOCK. -/
def execIdealDiodeBlock (s : State) : Host.Outcome State Fault Refusal := .next { s with chg := { s.chg with diode := false } }

/-- DIE_TEMP_CONVERSION: the die temperature of R159, which also limits the charge current (R495). -/
def execDieTempConversion (t16 : Int) (s : State) : Host.Outcome State Fault Refusal := .next (chgThermal (dieTemp s t16))

end Sys2Proof.Machine
end

