-- ==== Sys2Proof/Machine/Pd.lean ====
section
/-!
DEFINITION. Machine/Pd.lean: the cabin USB-C ports (R543-R567). What the standards the spec names define of a message (the
places of the bits in a PDO, a Request and a Cable VDO) is taken from USB Power Delivery Revision 3.1 (assumption 30).
-/
namespace Sys2Proof.Machine

/-- R545: the state of port `n`. -/
def pdState (s : State) (n : Nat) : Nat := fget s (PD.STAT.STATE n)

/-- The message that port `n` sends. -/
def pdSend (s : State) (n : Nat) (m : PdMsg) : State := setPdX s n { pdX s n with sent := some m }

/-- A journal record of port `n` (R642). -/
def pdJournal (s : State) (n event : Nat) : State :=
  journal s 0x0E n event (fget s (PD.STAT.REFUSE_CODE n)) [regWord s (0xF0004 + 0x100 * n), regWord s (0xF0040 + 0x100 * n)]

/-- A flag of PD.EVT and its record (assumption 27). -/
def pdFlag (s : State) (n : Nat) (f : Fld) : State := pdJournal (fset s f 1) n f.lo

/-- R563: EFF in effect. -/
def pdEff (s : State) (n : Nat) : Nat := clampNat 500 1000 (fget s (PD.CFG.EFF n))

/-- R546: the reservation of a source operating point. -/
def pdR (s : State) (n mv ma : Nat) : Nat := ceilDiv (mv * ma) (pdEff s n)

/-- R546: the current in mA of an Rp level: 1 Default, 2 1.5 A, 3 3.0 A. -/
def rpMa (rp : Nat) : Nat := if rp = 2 then 1500 else if rp = 3 then 3000 else 900

/-- R546: the reservation of the Type-C level. -/
def pdLevel (s : State) (n rp : Nat) : Nat := pdR s n 5000 (rpMa rp)

/-! ### What is on offer -/

/-- A Fixed supply PDO; the other kind of R543 is the SPR PPS APDO. -/
def pdoFixed (w : Nat) : Bool := bitsOf w 31 30 == 0

/-- The greatest voltage of a PDO in mV. -/
def pdoMv (w : Nat) : Nat := if pdoFixed w then bitsOf w 19 10 * 50 else bitsOf w 24 17 * 100

/-- The greatest current of a PDO in mA. -/
def pdoMa (w : Nat) : Nat := if pdoFixed w then bitsOf w 9 0 * 10 else bitsOf w 6 0 * 50

/-- The PDO with its current lowered to at most `ma`, in the units of its field. -/
def pdoCap (w ma : Nat) : Nat :=
  let m := min ma (pdoMa w)
  if pdoFixed w then w - bitsOf w 9 0 + m / 10 else w - bitsOf w 6 0 + m / 50

/-- R565: the PDOs of port `n`, up to the first word of 0. -/
def pdList (s : State) (n : Nat) : List Nat := ((List.range 7).map fun k => fget s (PD.PDO.PDO n k)).takeWhile (· != 0)

/-- R564: the watts that no offer exceeds. -/
def pdCapW (s : State) (n : Nat) : Nat := min (fget s (PD.CAP.CAP_W n)) (min 100 (fget s (PD.CAP.PORT_W n)))

/-- R548, R549: the current in mA up to which a PDO is offered. -/
def pdOfferMa (s : State) (n w : Nat) : Nat :=
  let byW := pdCapW s n * 1000000 / pdoMv w
  let byCable := if fon s (PD.STAT.CABLE_5A n) then 5000 else 3000
  let byResv := if (pdX s n).reduced then (pdX s n).resv * pdEff s n / pdoMv w else 5000
  min byW (min byCable byResv)

/-- R548, R549: the PDOs on offer. -/
def pdOffer (s : State) (n : Nat) : List Nat := (pdList s n).map fun w => pdoCap w (pdOfferMa s n w)

/-- Source_Capabilities is sent. -/
def pdSendCaps (s : State) (n : Nat) : State := pdSend s n (.sourceCaps (pdOffer s n))

/-! ### Admission -/

/-- The requests of port `n` are withdrawn. -/
def pdDrop (s : State) (n : Nat) : State :=
  let s1 := withdraw s (isPortReq n)
  setPdX s1 n { pdX s1 n with ask := 0, req := none }

/-- Port `n` asks E0 for `mw`, for the purpose `ask`. -/
def pdAsk (s : State) (n ask mw : Nat) : State :=
  let s1 := pdDrop s n
  request (setPdX s1 n { pdX s1 n with ask := ask }) (.port n ask) mw

/-- The reservation of port `n` becomes `mw`; what falls away is released (R554, R557). -/
def pdResv (s : State) (n mw : Nat) : State :=
  let x := pdX s n
  release (setPdX s n { x with resv := mw }) (0x52 + n) (x.resv - mw)

/-- R559, R561: what ends with a contract. -/
def pdNoContract (s : State) (n : Nat) : State :=
  fset (fset (fset (fset s (PD.STAT.CONTRACT n) 0) (PD.STAT.PPS n) 0) (PD.CONTR.V n) 0) (PD.CONTR.I n) 0

/-- R559: the mux signals are low while the port is not in SOURCE; STAT.FLIP shows the orientation from attach onward. -/
def pdMuxLow (s : State) (n : Nat) : State := fset (fset s (PD.STAT.MUX n) 0) (PD.STAT.HPD n) 0

/-- R545: port `n` enters a state in which VBUS is off: no contract, no VCONN, no sink figure. -/
def pdDown (s : State) (n st rp : Nat) : State :=
  let s1 := pdMuxLow (pdNoContract (pdDrop s n) n) n
  let s2 := fset (fset (fset (fset s1 (PD.STAT.STATE n) st) (PD.STAT.RP n) rp) (PD.STAT.VCONN n) 0) (PD.STAT.CABLE_5A n) 0
  setPdX (fset s2 (PD.CABLE.VDO n) 0) n { pdX s2 n with sinkMw := 0, sinkOn := false, swap := none, want := none, reduced := false, tries := 0 }

/-- R543, R563: may port `n` act as a source? -/
def pdSources (s : State) (n : Nat) : Bool := n == 0 || fget s (PD.CFG.ROLE n) != 1

/-- R545: UNATTACHED, with the Rp of RP_DEF where the port is a source. -/
def pdUnattached (s : State) (n : Nat) : State :=
  let s1 := fset (pdDown s n 1 (if pdSources s n then fget s (PD.CFG.RP_DEF n) else 0)) (PD.STAT.FLIP n) 0
  setPdX s1 n { pdX s1 n with partner := none }

/-- R551, R548: the port sources VBUS: with VCONN it asks the cable first. -/
def pdSource (s : State) (n rp : Nat) : State :=
  let v := fon s (PD.CFG.VCONN_EN n) && (pdX s n).ra
  let s1 := fsetB (fset (fset s (PD.STAT.STATE n) 4) (PD.STAT.RP n) rp) (PD.STAT.VCONN n) v
  let s2 := setPdX s1 n { pdX s1 n with reduced := false, tries := b2n v }
  if v then pdSend s2 n .discoverIdentity else pdSendCaps s2 n

/-- R547: the Type-C level of RP_DEF is requested before VBUS is turned on; what was held before is released, the port
reporting off in PENDING (R550). -/
def pdTypeC (s : State) (n : Nat) : State :=
  let rp := fget s (PD.CFG.RP_DEF n)
  let s1 := fset (fset s (PD.STAT.STATE n) 3) (PD.STAT.RP n) rp
  pdAsk (pdResv s1 n 0) n 1 (pdLevel s n rp)

/-- R548: a contract begins at the point of an accepted Request, and the reservation falls or has risen to its R. -/
def pdContract (s : State) (n v i : Nat) (pps : Bool) (r : Nat) : State :=
  let s1 := fset (fset (fsetB (fset s (PD.STAT.CONTRACT n) 1) (PD.STAT.PPS n) pps) (PD.CONTR.V n) v) (PD.CONTR.I n) i
  pdFlag (pdResv (pdSend s1 n .accept) n r) n (PD.EVT.CONTRACT n)

/-- R557: the swap toward source that E0 has admitted begins. -/
def pdSwapBegin (s : State) (n : Nat) (toSource own : Bool) : State :=
  let s1 := pdMuxLow (fset s (PD.STAT.STATE n) 6) n
  let s2 := setPdX s1 n { pdX s1 n with swap := some (toSource, own), sinkMw := 0, sinkOn := false }
  pdSend s2 n (if own then .prSwap else .accept)

/-- R547, R548, R557: what an admitted request of port `n` does. -/
def pdAdmitted (s : State) (n mw : Nat) : State :=
  let x := pdX s n
  let s1 := setPdX s n { x with ask := 0, resv := x.resv + mw }
  if x.ask = 1 ∨ x.ask = 2 then
    match x.partner with
    | some false => pdSource s1 n (if x.ask = 2 then 1 else fget s (PD.CFG.RP_DEF n))
    | _ => pdUnattached (pdResv s1 n 0) n
  else if x.ask = 3 then
    match x.req with
    | some (v, i, pps, r) => pdContract (setPdX s1 n { pdX s1 n with req := none }) n v i pps r
    | none => s1
  else if x.ask = 4 then
    match x.swap with
    | some (_, own) => pdSwapBegin s1 n true own
    | none => s1
  else s1

/-- R547, R548, R557: what a refused request of port `n` does. -/
def pdRefused (s : State) (n code : Nat) : State :=
  let x := pdX s n
  let s1 := setPdX s n { x with ask := 0, req := none }
  let mark (t : State) : State :=
    pdFlag (finc (fset t (PD.STAT.REFUSE_CODE n) code) (PD.CNT.REFUSE n)) n (PD.EVT.REFUSED n)
  if x.ask = 1 then pdAsk (fset s1 (PD.STAT.RP n) 1) n 2 (pdLevel s n 1)
  else if x.ask = 2 then mark (fset (fset s1 (PD.STAT.STATE n) 8) (PD.STAT.RP n) 1)
  else if x.ask = 3 then
    let s2 := mark (pdSend s1 n .reject)
    pdSendCaps (setPdX s2 n { pdX s2 n with reduced := true }) n
  else if x.ask = 4 then
    let own : Bool := match x.swap with
      | some (_, o) => o
      | none => false
    let s2 := mark (setPdX s1 n { pdX s1 n with swap := none })
    if own then s2 else pdSend s2 n .reject
  else s1

/-! ### Protection, Hard Reset and shed -/

/-- R553, R554: the source switch opens and the port enters RECOVERY; the reservation is released. -/
def pdRecover (s : State) (n : Nat) : State := pdResv (pdDown s n 7 0) n 0

/-- R555, R556, R558: a Hard Reset, sent or received. -/
def pdHardReset (s : State) (n : Nat) : State :=
  let x := pdX s n
  let st := pdState s n
  let s1 := fset (pdNoContract (finc (pdDrop s n) (PD.CNT.HRST n)) n) (PD.STAT.MUX n) 0
  let s2 := setPdX s1 n { pdX s1 n with sinkMw := 0, sinkOn := false, want := none, swap := none, reduced := false }
  let s3 := targetReset (pdJournal s2 n 0xE0) (0x52 + n)
  if st = 6 then
    let s4 := pdFlag s3 n (PD.EVT.SWAP_ABORT n)
    if x.partner = some false then pdTypeC s4 n else pdResv (fset s4 (PD.STAT.STATE n) 5) n 0
  else if st = 4 then pdResv s3 n (min x.resv (pdLevel s n (fget s (PD.STAT.RP n))))
  else s3

/-- R550, R558: a ledger shed of port `n`. -/
def pdShed (s : State) (n : Nat) : State :=
  let st := pdState s n
  if st = 3 ∨ st = 4 ∨ st = 6 ∨ st = 8 then
    let s1 := pdFlag s n (PD.EVT.SHED n)
    let toSource : Bool := match (pdX s n).swap with
      | some (b, _) => b
      | none => false
    let s2 := if st = 6 ∧ toSource then
        pdSend (targetReset (pdFlag (pdJournal (finc s1 (PD.CNT.HRST n)) n 0xE0) n (PD.EVT.SWAP_ABORT n)) (0x52 + n)) n .hardReset
      else s1
    pdRecover s2 n
  else s

/-- R553: the trips of the last 10 s, this one included. -/
def pdTrips (s : State) (n : Nat) : List Nat :=
  localNs s :: (pdX s n).trips.filter fun t => decide (localNs s ≤ t + 10000000000)

/-- R553: a guard trip: flag, fault source, RECOVERY or LATCHED. -/
def pdTrip (s : State) (n : Nat) (f : Fld) (src : Nat) : State :=
  let l := pdTrips s n
  let s0 := finc s (PD.CNT.TRIPS n)
  let s1 := setPdX s0 n { pdX s0 n with trips := l }
  let s2 := raise (pdFlag (pdRecover s1 n) n f) (0x22C + 4 * n + src)
  let k := fget s (PD.PROT.LATCH_N n)
  if k ≠ 0 ∧ k ≤ l.length ∧ pdState s2 n ≠ 0xA then
    raise (pdFlag (fset s2 (PD.STAT.STATE n) 9) n (PD.EVT.LATCH n)) (0x22C + 4 * n + 3)
  else s2

/-- R553: the port sources VBUS. -/
def pdSourcing (s : State) (n : Nat) : Bool :=
  pdState s n == 4 || pdState s n == 6 && (match (pdX s n).swap with
    | some (src, _) => !src
    | none => false)

/-! ### Requests and capabilities -/

/-- The point that a Request names on the present offer: V in 20 mV, I in 50 mA, PPS; none where it is not on offer. -/
def pdPoint (s : State) (n w : Nat) : Option (Nat × Nat × Bool) :=
  let k := bitsOf w 30 28
  match (pdOffer s n)[k - 1]? with
  | none => none
  | some o =>
    if k = 0 then none
    else if pdoFixed o then
      if bitsOf w 19 10 * 10 ≤ pdoMa o then some (quotOpen (pdoMv o) 20, quotOpen (bitsOf w 19 10) 5, false) else none
    else
      let v := bitsOf w 20 9
      if bitsOf w 6 0 * 50 ≤ pdoMa o ∧ bitsOf o 15 8 * 100 ≤ v * 20 ∧ v * 20 ≤ pdoMv o then some (v, bitsOf w 6 0, true) else none

/-- R546: the reservation of a Request: a Fixed one's operating current stands in 10 mA, a PPS one's in 50 mA. -/
def pdPointR (s : State) (n w v : Nat) (pps : Bool) : Nat :=
  pdR s n (v * 20) (if pps then bitsOf w 6 0 * 50 else bitsOf w 19 10 * 10)

/-- R548: a Request. A new one withdraws an earlier one that awaits admission. -/
def pdRequest (s : State) (n w : Nat) : State :=
  if pdState s n ≠ 4 then s
  else
    let s1 := pdDrop s n
    match pdPoint s1 n w with
    | none => pdSend s1 n .reject
    | some (v, i, pps) =>
      let r := pdPointR s1 n w v pps
      let have' := (pdX s1 n).resv
      if r ≤ have' then pdContract s1 n v i pps r
      else
        let s2 := pdAsk s1 n 3 (r - have')
        setPdX s2 n { pdX s2 n with req := some (v, i, pps, r) }

/-- R552: the PDO that PD1 as sink asks for: its position, V in mV and I in mA; vSafe5V at the Type-C current where none
suits. -/
def sinkPick (s : State) (pdos : List Nat) : Nat × Nat × Nat :=
  let lo := fget s (PD.SNK.VMIN 1) * 100
  let hi := fget s (PD.SNK.VMAX 1) * 100
  let w := min 60 (fget s (PD.SNK.SNK_W 1))
  let ok := ((pdos.take 7).zipIdx.filter fun e => pdoFixed e.1 && decide (lo ≤ pdoMv e.1 ∧ pdoMv e.1 ≤ hi))
  match ok.find? fun e => ok.all fun d => decide (pdoMv d.1 * pdoMa d.1 ≤ pdoMv e.1 * pdoMa e.1) with
  | some e => (e.2 + 1, pdoMv e.1, min (pdoMa e.1) (w * 1000000 / pdoMv e.1) / 10 * 10)
  | none => (1, 5000, (pdX s 1).rpMa)

/-- R552: PD1 as sink receives Source_Capabilities and requests. -/
def sinkCaps (s : State) (pdos : List Nat) : State :=
  if pdState s 1 ≠ 5 then s
  else
    let p := sinkPick s pdos
    let s1 := setPdX s 1 { pdX s 1 with want := some (quotOpen p.2.1 20, quotOpen p.2.2 50, quotOpen (p.2.1 * p.2.2) 1000) }
    pdSend s1 1 (.request (p.1 * 2 ^ 28 + p.2.2 / 10 * 2 ^ 10 + p.2.2 / 10))

/-- R552: PS_RDY: the contract holds and the sink switch closes. -/
def sinkReady (s : State) : State :=
  match (pdX s 1).want with
  | some (v, i, mw) =>
    if pdState s 1 = 5 then
      let s1 := fset (fset (fset s (PD.STAT.CONTRACT 1) 1) (PD.CONTR.V 1) v) (PD.CONTR.I 1) i
      pdFlag (setPdX s1 1 { pdX s1 1 with want := none, sinkMw := mw, sinkOn := true }) 1 (PD.EVT.CONTRACT 1)
    else s
  | none => s

/-! ### Port commands and swaps -/

/-- R561, R547: enable. A source needs the admission of a sink attach; a launch strobe brings it. -/
def pdEnable (s : State) (n : Nat) (strobe : Bool) : State × Nat :=
  if pdState s n ≠ 0 then (s, stIllegal)
  else if !pdSources s n || strobe then (pdUnattached s n, stOk)
  else
    let s1 := setPdX s n { pdX s n with partner := none }
    (pdAsk (fset s1 (PD.STAT.STATE n) 3) n 1 (pdLevel s n (fget s (PD.CFG.RP_DEF n))), stOk)

/-- R561, R424: disable, a target reset of the port. -/
def pdDisable (s : State) (n : Nat) : State × Nat :=
  let st := pdState s n
  if st = 0xA then (s, stIllegal)
  else if st = 0 then (s, stOk)
  else (targetReset (pdResv (fset (pdDown s n 0 0) (PD.STAT.FLIP n) 0) n 0) (0x52 + n), stOk)

/-- R557, R558: PR_Swap on command 0x4. -/
def pdSwapCmd (s : State) (n : Nat) : State × Nat :=
  let st := pdState s n
  if n = 0 ∨ !fon s (PD.STAT.CONTRACT n) then (s, stIllegal)
  else if st = 4 then (pdSwapBegin (pdDrop s n) n false true, stOk)
  else if st = 5 then
    let s1 := pdAsk s n 4 (pdLevel s n (fget s (PD.CFG.RP_DEF n)))
    (setPdX s1 n { pdX s1 n with swap := some (true, true) }, stOk)
  else (s, stIllegal)

/-- R558: PD1 as sink abandons its own swap. -/
def pdSwapQuit (s : State) (n : Nat) : State :=
  let s1 := pdFlag (pdDrop s n) n (PD.EVT.SWAP_ABORT n)
  setPdX s1 n { pdX s1 n with swap := none }

/-- R557, R558: a received PR_Swap; `toSource` is the new role of PD1. Its own swap toward source is abandoned, and the
reservation that E0 has admitted for it serves an accepted one. -/
def pdSwapRx (s : State) (n : Nat) (toSource : Bool) : State :=
  let st := pdState s n
  let c := fget s (PD.CFG.SWAP n)
  let own := (pdX s n).swap == some (true, true)
  if st ≠ 4 ∧ st ≠ 5 ∧ st ≠ 6 then s
  else if n = 0 then pdSend s n .reject
  else if st = 6 then
    if own ∧ toSource then
      let s1 := pdSwapQuit s n
      if bitOf c 1 then pdSwapBegin s1 n true false else pdSend (pdResv (fset s1 (PD.STAT.STATE n) 5) n 0) n .reject
    else s
  else if st = 5 ∧ toSource then
    let s1 := if own then pdSwapQuit s n else s
    if bitOf c 1 then
      let s2 := pdAsk s1 n 4 (pdLevel s n (fget s (PD.CFG.RP_DEF n)))
      setPdX s2 n { pdX s2 n with swap := some (true, false) }
    else pdSend s1 n .reject
  else if st = 4 ∧ !toSource ∧ bitOf c 0 then pdSwapBegin (pdDrop s n) n false false
  else pdSend s n .reject

/-- R557: a PR_Swap completes. -/
def pdSwapDone (s : State) (n : Nat) : State :=
  match (pdX s n).swap with
  | some (src, _) =>
    if pdState s n = 6 then
      let s1 := pdJournal (finc (setPdX (pdNoContract s n) n { pdX s n with swap := none }) (PD.CNT.SWAPS n)) n 0xE1
      if src then pdSource s1 n (fget s1 (PD.CFG.RP_DEF n))
      else pdResv (fset (fset (fset s1 (PD.STAT.STATE n) 5) (PD.STAT.RP n) 0) (PD.STAT.VCONN n) 0) n 0
    else s
  | none => s

/-- R561: a port command. -/
def pdCommand (s : State) (n cmd : Nat) (strobe : Bool) : State × Nat :=
  let st := pdState s n
  if !s.start.running then (s, if cmd = 0 then stOk else stIllegal)
  else if cmd = 0 then (s, stOk)
  else if cmd = 1 then pdEnable s n strobe
  else if cmd = 2 then pdDisable s n
  else if cmd = 3 then
    if st = 4 ∨ st = 5 ∨ st = 6 then (pdSend (pdHardReset s n) n .hardReset, stOk) else (s, stIllegal)
  else if cmd = 4 then pdSwapCmd s n
  else if cmd = 5 then (if st = 4 then (pdSendCaps s n, stOk) else (s, stIllegal))
  else if cmd = 6 then (if st = 4 then (pdSend (fset s (PD.STAT.MUX n) 0) n .exitMode, stOk) else (s, stIllegal))
  else if cmd = 7 then (if st = 9 then (pdUnattached s n, stOk) else (s, stIllegal))
  else (s, stIllegal)

/-- R549, R564: a write of CAP_W. -/
def pdCapWrite (s : State) (n w : Nat) : State :=
  let s1 := fset s (PD.CAP.CAP_W n) w
  if pdState s n = 4 ∧ fget s (PD.CAP.CAP_W n) ≠ w then pdSendCaps s1 n else s1

/-! ### The commands -/

/-- PD_ENABLE. -/
def execPdEnable (n : Fin 2) (s : State) : Host.Outcome State Fault Refusal :=
  .next (atTarget s (0x52 + n.val) fun t => pdCommand t n 1 false)

/-- PD_DISABLE. -/
def execPdDisable (n : Fin 2) (s : State) : Host.Outcome State Fault Refusal :=
  .next (atTarget s (0x52 + n.val) fun t => pdCommand t n 2 false)

/-- PD_HARD_RESET_CMD. -/
def execPdHardResetCmd (n : Fin 2) (s : State) : Host.Outcome State Fault Refusal :=
  .next (atTarget s (0x52 + n.val) fun t => pdCommand t n 3 false)

/-- PD_PR_SWAP_CMD. -/
def execPdPrSwapCmd (n : Fin 2) (s : State) : Host.Outcome State Fault Refusal :=
  .next (atTarget s (0x52 + n.val) fun t => pdCommand t n 4 false)

/-- PD_RESEND_CAPS. -/
def execPdResendCaps (n : Fin 2) (s : State) : Host.Outcome State Fault Refusal :=
  .next (atTarget s (0x52 + n.val) fun t => pdCommand t n 5 false)

/-- PD_EXIT_ALT_MODE. -/
def execPdExitAltMode (n : Fin 2) (s : State) : Host.Outcome State Fault Refusal :=
  .next (atTarget s (0x52 + n.val) fun t => pdCommand t n 6 false)

/-- PD_CLEAR_LATCH. -/
def execPdClearLatch (n : Fin 2) (s : State) : Host.Outcome State Fault Refusal :=
  .next (atTarget s (0x52 + n.val) fun t => pdCommand t n 7 false)

/-- PD_CAP_W_WRITE. -/
def execPdCapWWrite (n : Fin 2) (capW : BitVec 8) (s : State) : Host.Outcome State Fault Refusal :=
  .next (atTarget s (0x52 + n.val) fun t => (pdCapWrite t n capW.toNat, stOk))

/-- PD_SINK_ATTACH: the orientation and Ra as the debounced attach shows them. -/
def execPdSinkAttach (n : Fin 2) (flip ra : Bool) (s : State) : Host.Outcome State Fault Refusal :=
  .next (if (pdState s n = 1 ∨ pdState s n = 2) ∧ pdSources s n then
      let s1 := setPdX (fsetB s (PD.STAT.FLIP n) flip) n { pdX s n with partner := some false, ra := ra }
      pdTypeC s1 n
    else s)

/-- PD_DETACH. -/
def execPdDetach (n : Fin 2) (s : State) : Host.Outcome State Fault Refusal :=
  let st := pdState s n
  .next (if 2 ≤ st ∧ st ≤ 8 then pdUnattached (pdResv s n 0) n else s)

/-- PD_NOPOWER_RETRY. -/
def execPdNopowerRetry (n : Fin 2) (s : State) : Host.Outcome State Fault Refusal :=
  .next (if pdState s n = 8 ∧ (pdX s n).ask = 0 then pdAsk s n 2 (pdLevel s n 1) else s)

/-- PD_REQUEST_RX. -/
def execPdRequestRx (n : Fin 2) (rdo : Word) (s : State) : Host.Outcome State Fault Refusal := .next (pdRequest s n rdo.toNat)

/-- PD_REOFFER: the full set is offered again. -/
def execPdReoffer (n : Fin 2) (s : State) : Host.Outcome State Fault Refusal :=
  .next (if pdState s n = 4 ∧ (pdX s n).reduced then pdSendCaps (setPdX s n { pdX s n with reduced := false }) n else s)

/-- PD_SOURCE_CAPS_RX: PD0 never sinks. -/
def execPdSourceCapsRx (n : Fin 2) (pdos : List Word) (s : State) : Host.Outcome State Fault Refusal :=
  .next (if n.val = 1 then sinkCaps s (pdos.map (·.toNat)) else s)

/-- PD_PS_RDY_RX. -/
def execPdPsRdyRx (n : Fin 2) (s : State) : Host.Outcome State Fault Refusal := .next (if n.val = 1 then sinkReady s else s)

/-- PD_PR_SWAP_RX. -/
def execPdPrSwapRx (n : Fin 2) (toSource : Bool) (s : State) : Host.Outcome State Fault Refusal := .next (pdSwapRx s n toSource)

/-- PD_PR_SWAP_DONE. -/
def execPdPrSwapDone (n : Fin 2) (s : State) : Host.Outcome State Fault Refusal := .next (pdSwapDone s n)

/-- PD_HARD_RESET_RX. -/
def execPdHardResetRx (n : Fin 2) (s : State) : Host.Outcome State Fault Refusal :=
  let st := pdState s n
  .next (if st = 4 ∨ st = 5 ∨ st = 6 then pdHardReset s n else s)

/-- PD_UNSUPPORTED_MESSAGE: Not_Supported, or Reject to a partner of Revision 2.0. -/
def execPdUnsupportedMessage (n : Fin 2) (pd2 : Bool) (s : State) : Host.Outcome State Fault Refusal :=
  let st := pdState s n
  .next (if st = 4 ∨ st = 5 ∨ st = 6 then pdSend s n (if pd2 then .reject else .notSupported) else s)

/-- PD_CABLE_IDENTITY: the Cable VDO, and then the capabilities. -/
def execPdCableIdentity (n : Fin 2) (vdo : Word) (s : State) : Host.Outcome State Fault Refusal :=
  .next (if pdState s n = 4 ∧ fon s (PD.STAT.VCONN n) then
      let s1 := fsetB (fset s (PD.CABLE.VDO n) vdo.toNat) (PD.STAT.CABLE_5A n) (bitsOf vdo.toNat 6 5 == 2)
      pdSendCaps s1 n
    else s)

/-- PD_DISCOVER_RETRY: up to 20 times; then the cable counts as 3 A. -/
def execPdDiscoverRetry (n : Fin 2) (s : State) : Host.Outcome State Fault Refusal :=
  let x := pdX s n
  .next (if pdState s n = 4 ∧ fon s (PD.STAT.VCONN n) then
      if x.tries ≤ 20 then pdSend (setPdX s n { x with tries := x.tries + 1 }) n .discoverIdentity else pdSendCaps s n
    else s)

/-- PD_DP_CONFIGURE_ACK. -/
def execPdDpConfigureAck (n : Fin 2) (s : State) : Host.Outcome State Fault Refusal :=
  .next (if pdState s n = 4 ∧ fon s (PD.CFG.ALT_EN n) then fset s (PD.STAT.MUX n) 1 else s)

/-- PD_ATTENTION_RX. -/
def execPdAttentionRx (n : Fin 2) (hpd : Bool) (s : State) : Host.Outcome State Fault Refusal :=
  .next (if pdState s n = 4 then fsetB s (PD.STAT.HPD n) hpd else s)

/-- PD_OVP_TRIP: while the port sources, and while PD1 sinks. -/
def execPdOvpTrip (n : Fin 2) (s : State) : Host.Outcome State Fault Refusal :=
  .next (if pdSourcing s n || pdState s n == 5 then pdTrip s n (PD.EVT.OVP n) 0 else s)

/-- PD_OCP_FAST_TRIP. -/
def execPdOcpFastTrip (n : Fin 2) (s : State) : Host.Outcome State Fault Refusal :=
  .next (if pdSourcing s n then pdTrip s n (PD.EVT.OCP n) 1 else s)

/-- PD_OCP_SLOW_TRIP: not in a PPS contract. -/
def execPdOcpSlowTrip (n : Fin 2) (s : State) : Host.Outcome State Fault Refusal :=
  .next (if pdSourcing s n && !fon s (PD.STAT.PPS n) then pdTrip s n (PD.EVT.OCP n) 1 else s)

/-- PD_RCP_TRIP. -/
def execPdRcpTrip (n : Fin 2) (s : State) : Host.Outcome State Fault Refusal :=
  .next (if pdSourcing s n || pdState s n == 5 then pdTrip s n (PD.EVT.RCP n) 2 else s)

/-- PD_RECOVERY_END: the port re-attaches. -/
def execPdRecoveryEnd (n : Fin 2) (s : State) : Host.Outcome State Fault Refusal :=
  .next (if pdState s n = 7 then
      if (pdX s n).partner = some false then pdTypeC s n else pdUnattached s n
    else s)

/-- PD1_SOURCE_ATTACH: PD1 takes the sink role at the Type-C current that the source's Rp shows. -/
def execPd1SourceAttach (rp : Fin 3) (s : State) : Host.Outcome State Fault Refusal :=
  .next (if (pdState s 1 = 1 ∨ pdState s 1 = 2) ∧ fget s (PD.CFG.ROLE 1) ≠ 0 then
      let s1 := fset (fset s (PD.STAT.STATE 1) 5) (PD.STAT.RP 1) 0
      let ma := rpMa (rp.val + 1)
      setPdX s1 1 { pdX s1 1 with partner := some true, rpMa := ma, sinkMw := 5 * ma, sinkOn := true }
    else s)

end Sys2Proof.Machine
end

