-- ==== Sys2Proof/Machine/Loop.lean ====
section
/-!
DEFINITION. Machine/Loop.lean: the multiphase loops, announced load steps, braking and hiccup (R181-R255).
-/
namespace Sys2Proof.Machine

/-! ### Targets and admission -/

/-- R196: a VSET code, taken as 4,200 where it lies above. -/
def vsetCode (c : Nat) : Nat := min c 4200

/-- R200: the reservation for target code `c`. -/
def loopR (s : State) (n c : Nat) : Nat := fget s (LOOP.LEDG.RESV_MW n) * (c + 200) / (fget s (LOOP.LEDG_V.VNOM n) + 200)

/-- R200: the voltage of a code in microvolt. -/
def codeUv (c : Nat) : Nat := (c + 200) * 1250

/-- R208: a reference in microvolt as VREF shows it; below code 0 it reads 0 (assumption 25). -/
def vrefShow (uv : Nat) : Nat := (uv - 250000) * 64 / 1250

/-- R196: SLEWING shows that VREF differs from VTGT in REG. -/
def loopSlewFlag (s : State) (n : Nat) : State :=
  fsetB s (LOOP.STAT.SLEWING n) (loopState s n == 4 && (loopX s n).vref != codeUv (fget s (LOOP.VREF.VTGT n)))

/-- R196, R222: VTGT takes a code; where a slew begins with it, STEP_CT records the CT of the next sample. -/
def loopTarget (s : State) (n c : Nat) : State := loopSlewFlag (fset s (LOOP.VREF.VTGT n) (vsetCode c)) n

/-- R198, R200: the turn-on request of loop `n`, for R(VTGT), VTGT taking VSET. -/
def loopPend (s : State) (n : Nat) : State :=
  let c := vsetCode (fget s (LOOP.VSET.VSET n))
  let s1 := fset (fset (fset (fset s (LOOP.VREF.VTGT n) c) (LOOP.CTL.EN n) 1) (LOOP.STAT.STATE n) 1) (LOOP.STAT.PENDING n) 1
  request s1 (.loopOn n) (loopR s1 n c)

/-- R198: EN ← 1. -/
def loopEnable (s : State) (n : Nat) : State × Nat :=
  let st := loopState s n
  if loopPhases s n = [] ∨ st = 7 ∨ st = 8 then (s, stIllegal)
  else if !s.start.running then (fset s (LOOP.CTL.EN n) 1, stOk)
  else if st = 0 then (loopPend s n, stOk)
  else if st = 5 then (loopGo (fset s (LOOP.CTL.EN n) 1) n 3, stOk)
  else (s, stOk)

/-- R198: EN ← 0. A loop in CHECK, which the table does not list, turns off as one in START does (assumption 26). -/
def loopDisable (s : State) (n : Nat) : State :=
  let st := loopState s n
  let s1 := fset s (LOOP.CTL.EN n) 0
  if st = 1 ∨ st = 2 ∨ st = 6 then loopOff s1 n
  else if st = 3 ∨ st = 4 then
    if fon s (LOOP.CTL.OFF_MODE n) then loopGo (loopDropRaise s1 n) n 5 else loopOff s1 n
  else s1

/-- R198: LATCHED to OFF. -/
def loopClrLatch (s : State) (n : Nat) : State := if loopState s n = 7 then loopGo (fset s (LOOP.CTL.EN n) 0) n 0 else s

/-- R198: an admitted turn-on. -/
def loopAdmitted (s : State) (n : Nat) : State :=
  if loopState s n = 1 then loopGo (fset s (LOOP.STAT.PENDING n) (b2n (loopRaising s n))) n 2 else s

/-- R198: a refused turn-on. -/
def loopRefused (s : State) (n code : Nat) : State :=
  if loopState s n = 1 then
    fset (fset (loopOff s n) (LOOP.EVT.REFUSED n) 1) (LOOP.STAT.REFUSE_CODE n) code
  else s

/-- R200: an admitted raise. -/
def loopRaised (s : State) (n code : Nat) : State := loopTarget (fset s (LOOP.STAT.PENDING n) 0) n code

/-- R200: a refused raise. -/
def loopRaiseRefused (s : State) (n code : Nat) : State :=
  fset (fset (fset (fset s (LOOP.STAT.PENDING n) 0) (LOOP.VSET.VSET n) (fget s (LOOP.VREF.VTGT n))) (LOOP.EVT.REFUSED n) 1)
    (LOOP.STAT.REFUSE_CODE n) code

/-- R198, R404: a ledger shed. -/
def loopShed (s : State) (n : Nat) : State :=
  let st := loopState s n
  if 1 ≤ st ∧ st ≤ 6 then fset (loopOff s n) (LOOP.EVT.SHED n) 1 else s

/-- R200, R201: a write of VSET. In OFF, LATCHED and SAFE, and before step 5 of R50, it only stores the value. -/
def loopVset (s : State) (n code : Nat) : State :=
  let st := loopState s n
  let s1 := fset (loopDropRaise s n) (LOOP.VSET.VSET n) code
  let c := vsetCode code
  if st = 0 ∨ st = 7 ∨ st = 8 ∨ !s.start.running then s1
  else if fget s1 (LOOP.VREF.VTGT n) < c then
    request (fset s1 (LOOP.STAT.PENDING n) 1) (.loopRaise n code) (loopR s1 n c - loopR s1 n (fget s1 (LOOP.VREF.VTGT n)))
  else loopTarget s1 n code

/-- R198, R23: the launch strobe of an enable or a disable; admission is already obtained. -/
def loopStrobeEn (s : State) (n : Nat) (en : Bool) : State × Nat :=
  if en then
    if loopState s n = 0 ∧ loopPhases s n ≠ [] then
      let s1 := fset (fset s (LOOP.CTL.EN n) 1) (LOOP.VREF.VTGT n) (vsetCode (fget s (LOOP.VSET.VSET n)))
      (loopGo s1 n 2, stOk)
    else loopEnable s n
  else (loopDisable s n, stOk)

/-- R201: the launch strobe of a voltage step. -/
def loopStrobeV (s : State) (n code : Nat) : State × Nat :=
  let st := loopState s n
  if st = 6 ∨ st = 7 ∨ st = 8 then (s, stIllegal)
  else (loopTarget (fset (loopDropRaise s n) (LOOP.VSET.VSET n) code) n code, stOk)

/-! ### The sample -/

/-- R192: the ROM presets. -/
def romCoefs : List Coef :=
  [⟨4096, 32, 16384, 16384, 32768⟩, ⟨8192, 64, 32768, 20000, 40000⟩, ⟨12288, 96, 49152, 24000, 45000⟩,
   ⟨16384, 128, 65536, 24000, 45000⟩, ⟨24576, 160, 98304, 28000, 50000⟩, ⟨32768, 192, 131072, 28000, 50000⟩,
   ⟨40960, 256, 163840, 32000, 55000⟩, ⟨49152, 320, 196608, 36000, 58000⟩]

/-- R190: does CSEL name a set: an image set that is present, or a ROM preset? -/
def cselOk (s : State) (c : Nat) : Bool := decide (c < s.lps.coefs.length ∨ 0x20 ≤ c ∧ c ≤ 0x27)

/-- R190: the coefficients in use. -/
def loopCoef (s : State) (n : Nat) : Coef :=
  let c := fget s (LOOP.CTL.CSEL n)
  if c < 0x20 then s.lps.coefs.getD c ⟨4096, 32, 16384, 16384, 32768⟩ else romCoefs.getD (c - 0x20) ⟨4096, 32, 16384, 16384, 32768⟩

/-- R189: the fixed VIN in microvolt. -/
def vinFixed (s : State) (n : Nat) : Nat :=
  let f := fget s (LOOP.VIN_CFG.FIX_MV n)
  (if f = 0 then 12000 else f) * 1000

/-- R189: the measured VIN in microvolt, where it is valid: at least 1,000 mV and no more than 100 µs old. -/
def vinMeasured (s : State) (n : Nat) : Option Nat :=
  let i := fget s (LOOP.VIN_CFG.RIDX n)
  let v := (fgetI s (ADC.RES.VALUE i)).toNat * fget s (LOOP.VIN_GAIN.UV_PER_CODE n)
  if i < 256 ∧ resFresh s i 100000 ∧ 1000000 ≤ v then some v else none

/-- R189: VIN in use. -/
def loopVin (s : State) (n : Nat) : Nat :=
  if fget s (LOOP.VIN_CFG.SRC n) = 1 then (vinMeasured s n).getD (vinFixed s n) else vinFixed s n

/-- R189: the fallback to FIX_MV, flagged and raised when it begins; a valid result ends it. -/
def vinJudge (s : State) (n : Nat) : State :=
  if fget s (LOOP.VIN_CFG.SRC n) = 1 ∧ (vinMeasured s n).isNone then
    if (loopX s n).vinFb then s
    else raise (fset (setLoopX s n { loopX s n with vinFb := true }) (LOOP.EVT.VIN_FB n) 1) (0x1F0 + 7 * n)
  else if (loopX s n).vinFb then setLoopX s n { loopX s n with vinFb := false } else s

/-- R196: VREF one sample nearer its target. -/
def slewTo (vref target step : Nat) : Nat :=
  if vref < target then min target (vref + step) else max target (vref - step)

/-- R196, R197: VREF after this sample: slewing in REG, ramping in START and STOP. -/
def loopRef (s : State) (n : Nat) : Nat :=
  let st := loopState s n
  let rate := if st = 4 then fget s (LOOP.SLEW.SLEW n) else fget s (LOOP.SLEW.SS n)
  slewTo (loopX s n).vref (if st = 5 then 0 else codeUv (fget s (LOOP.VREF.VTGT n))) (clampNat 1 1000 rate * 2)

/-- R187: I_tot in mA, over the loop's active phases. -/
def loopItot (s : State) (n : Nat) : Int := (loopActive s n).foldl (fun a k => a + fgetI s (LOOP.PHS.MEAS.I_MA k)) 0

/-- R186, R187: V_cmd less the output, in nanovolt. -/
def loopErrNv (s : State) (n vref : Nat) (vout : Int) : Int :=
  (vref : Int) * 1000 - (min 2000 (fget s (LOOP.LL.RLL n)) : Nat) * loopItot s n - vout * 1000

/-- R186: the code of an error. Between two codes the spec does not state the rounding: a free choice of the two. -/
def errCode (s : State) (nv : Int) : Int × Bool × State :=
  let r := if nv % 625000 = 0 then (false, s) else drawBool s
  let c := nv / 625000 + (b2n r.1 : Int)
  (clampInt (-256) 255 c, decide (nv < -160000000 ∨ 160000000 < nv), r.2)

/-- R212: the duty limits in 2^-24. -/
def dutyMax (s : State) (n : Nat) : Int := (fget s (LOOP.DLIM.DMAX n) * 256 : Nat)

/-- R212: DMIN at or above DMAX is taken as 0. -/
def dutyMin (s : State) (n : Nat) : Int :=
  let lo := fget s (LOOP.DLIM.DMIN n)
  if fget s (LOOP.DLIM.DMAX n) ≤ lo then 0 else (lo * 256 : Nat)

/-- R188: one step of the compensator. `hold` keeps the integrator as it is (R234). -/
def compStep (x : LoopX) (k : Coef) (e d0 ff dmin dmax : Int) (hold : Bool) : LoopX :=
  let sat := decide (dmax ≤ x.dPrev ∧ 0 < e ∨ x.dPrev ≤ dmin ∧ e < 0)
  let i := if sat || hold then x.i else clampInt (-16777216) 16777216 (x.i + k.ki * e)
  let v := k.kp * e + i + k.kd * (e - x.ePrev)
  let y1 := x.y1 + (k.a1 * (v - x.y1)) / 65536
  let y2 := x.y2 + (k.a2 * (y1 - x.y2)) / 65536
  { x with i := i, y1 := y1, y2 := y2, ePrev := e, dPrev := clampInt dmin dmax (y2 + d0 + ff) }

/-- R242: FF_MAX in 2^-24. -/
def ffMax (s : State) (n : Nat) : Int := (fget s (LOOP.FF.FF_MAX n) * 256 : Nat)

/-- R243: HOLD. -/
def ffHold (s : State) (n : Nat) : Nat := atLeast1 (fget s (LOOP.FF_SHAPE.HOLD n))

/-- R231: the shape of an announcement at its present sample. -/
def annShape (s : State) (n : Nat) (a : Ann) : Int :=
  let amp := clampInt (-(ffMax s n)) (ffMax s n) (a.di * (fget s (LOOP.FF.GAIN n) : Int))
  let h := ffHold s n
  let d := fget s (LOOP.FF_SHAPE.DECAY n)
  if a.s < h then amp
  else if a.s < h + d then (amp * ((h + d - a.s : Nat) : Int)).tdiv d
  else 0

/-- R229, R231: ff_j of an announcement: its shape, or the ramp of its cancel. -/
def annFf (s : State) (n : Nat) (a : Ann) : Int :=
  if !a.applied then 0
  else match a.cancel with
    | some (v, j) =>
      let c := fget s (LOOP.FF_SHAPE.CANCEL n)
      if c = 0 then 0 else (v * ((c - j : Nat) : Int)).tdiv c
    | none => annShape s n a

/-- R231: an announcement leaves the active set when its shape or its ramp has ended. -/
def annOver (s : State) (n : Nat) (a : Ann) : Bool :=
  a.applied && match a.cancel with
    | some (_, j) => decide (fget s (LOOP.FF_SHAPE.CANCEL n) ≤ j)
    | none => decide (ffHold s n + fget s (LOOP.FF_SHAPE.DECAY n) ≤ a.s)

/-- One more sample of an applied announcement. -/
def annNext (a : Ann) : Ann :=
  if a.applied then { a with s := a.s + 1, cancel := a.cancel.map fun c => (c.1, c.2 + 1) } else a

/-- R231: ff_step. -/
def ffStep (s : State) (n : Nat) : Int :=
  clampInt (-(ffMax s n)) (ffMax s n) ((loopX s n).anns.foldl (fun a j => a + annFf s n j) 0)

/-- R231, R232: the announcements after one sample; when the last one leaves, DWELL is counted afresh. -/
def annAdvance (s : State) (n : Nat) (ff : Int) : State :=
  let x := loopX s n
  let l := (x.anns.map annNext).filter fun a => !annOver s n a
  let s1 := setLoopX s n { x with anns := l, dwell := if l = [] ∧ x.anns ≠ [] then 0 else x.dwell }
  annShow (fsetB s1 (LOOP.ANN_STAT.ACTIVE n) (ff != 0)) n

/-- R234: braking is entered. -/
def brakeEnter (s : State) (n : Nat) : State :=
  let s1 := setLoopX s n { loopX s n with brakeN := 0, brakeHit := false }
  finc (fset (fset s1 (LOOP.PROT_STAT.BRAKING n) 1) (LOOP.PROT_EVT.BRAKE n) 1) (LOOP.BRK_CNT.BRAKES n)

/-- R234: may the loop enter braking? -/
def brakeArmed (s : State) (n : Nat) : Bool :=
  fon s (LOOP.BRAKE.EN n) && loopState s n == 4 && !fon s (LOOP.PROT_STAT.BRAKING n) && decide ((loopX s n).brakeBar ≤ localNs s)

/-- R234, R235: braking at one sample. -/
def brakeSample (s : State) (n : Nat) (e : Int) : State :=
  let enter := atLeast1 (fget s (LOOP.BRAKE.ENTER n))
  let x := loopX s n
  if fon s (LOOP.PROT_STAT.BRAKING n) then
    if -((min (fget s (LOOP.BRAKE.EXIT n)) enter : Nat) : Int) ≤ e then brakeExit s n
    else setLoopX s n { x with brakeN := x.brakeN + 1 }
  else
    let hit := decide (e ≤ -(enter : Int)) && !fon s (LOOP.STAT.SLEWING n) && brakeArmed s n
    if hit && x.brakeHit then brakeEnter s n else setLoopX s n { x with brakeHit := hit }

/-- R205, R206, R220: what an error code shows. -/
def errShow (s : State) (n : Nat) (e : Int) (out : Bool) : State :=
  let hi := out && decide (0 < e)
  let lo := out && decide (e < 0)
  let s1 := fsetB (fsetB s (LOOP.STAT.ESAT_HI n) hi) (LOOP.STAT.ESAT_LO n) lo
  let s2 := if out then fset s1 (LOOP.EVT.SAT n) 1 else s1
  let s3 := if fgetI s2 (LOOP.ERR_PK.EMAX n) < e then fsetI s2 (LOOP.ERR_PK.EMAX n) e else s2
  let s4 := if e < fgetI s3 (LOOP.ERR_PK.EMIN n) then fsetI s3 (LOOP.ERR_PK.EMIN n) e else s3
  let w := if loopState s n = 4 ∧ e.natAbs ≤ fget s (LOOP.LL.REG_WIN n) then (loopX s n).inWin + 1 else 0
  fsetB (setLoopX s4 n { loopX s4 n with inWin := min w 50 }) (LOOP.STAT.INREG n) (decide (50 ≤ w))

/-- A signed quotient whose rounding the spec does not state: a free choice of the two whole numbers around it. -/
def quotFreeI (s : State) (num : Int) (den : Nat) : Int × State :=
  if num % (den : Int) = 0 then (num / den, s)
  else
    let b := drawBool s
    (num / den + (b2n b.1 : Int), b.2)

/-- R218, R219: MEAS_V and MEAS_I, means over 10 µs, which are 250 samples. -/
def measSample (s : State) (n : Nat) (vout : Int) (vin : Nat) : State :=
  let x := loopX s n
  let x1 := { x with nAcc := x.nAcc + 1, sumV := x.sumV + vout, sumVin := x.sumVin + vin, sumI := x.sumI + loopItot s n }
  if x1.nAcc < 250 then setLoopX s n x1
  else
    let s0 := setLoopX s n { x1 with nAcc := 0, sumV := 0, sumVin := 0, sumI := 0 }
    let v := quotFree s0 (max 0 x1.sumV).toNat 25000
    let w := quotFree v.2 x1.sumVin 250000
    let i := quotFreeI w.2 x1.sumI 2500
    fset (fset (fsetI i.2 (LOOP.MEAS_I.ITOT n) i.1) (LOOP.MEAS_V.VIN_MV n) (min w.1 0xFFFF)) (LOOP.MEAS_V.VOUT n) (min v.1 0xFFFF)

/-- R196, R222: VREF moves; where a slew begins, STEP_CT records this sample. -/
def refSample (s : State) (n : Nat) : State :=
  let vref := loopRef s n
  let began := fon s (LOOP.STAT.SLEWING n) && (loopX s n).vref != vref && !(loopX s n).slewing
  let s1 := if began then fset64 s (LOOP.STEP_CT_LO.CT n) (LOOP.STEP_CT_HI.CT n) (served s) else s
  let x := loopX s1 n
  let s2 := setLoopX s1 n { x with vref := vref, enabled := x.enabled || decide (x.sensed < vref) || loopState s n == 4 }
  let s3 := loopSlewFlag (fset s2 (LOOP.VREF.VREF n) (vrefShow vref)) n
  setLoopX s3 n { loopX s3 n with slewing := fon s3 (LOOP.STAT.SLEWING n) }

/-- R198: the ends of START and STOP. -/
def loopArrive (s : State) (n : Nat) : State :=
  let st := loopState s n
  let v := (loopX s n).vref
  if st = 3 ∧ v = codeUv (fget s (LOOP.VREF.VTGT n)) then loopGo s n 4
  else if st = 5 ∧ v = 0 then loopOff s n
  else s

/-- R188, R234: one 40 ns sample of a loop that switches. -/
def loopSample (s : State) (n : Nat) (vout : Int) : State :=
  let s1 := refSample (vinJudge s n) n
  let x := loopX s1 n
  let r := errCode s1 (loopErrNv s1 n x.vref vout)
  let vin := loopVin r.2.2 n
  let ff := ffStep r.2.2 n
  let d0 : Int := ((x.vref * 16777216 / vin : Nat) : Int)
  let s2 := brakeSample (errShow r.2.2 n r.1 r.2.1) n r.1
  let y := compStep (loopX s2 n) (loopCoef s2 n) r.1 d0 ff (dutyMin s2 n) (dutyMax s2 n) (fon s2 (LOOP.PROT_STAT.BRAKING n))
  let s3 := annAdvance (setLoopX s2 n y) n ff
  loopArrive (measure (measSample s3 n vout vin) (0x48 + n) (vout.toNat * (loopItot s3 n).toNat)) n

/-- R197: the states in which a loop switches. -/
def loopSwitches (s : State) (n : Nat) : Bool := decide (3 ≤ loopState s n ∧ loopState s n ≤ 5)

/-! ### Phases -/

/-- R184: the period in fine steps. -/
def loopPer (s : State) (n : Nat) : Nat := clampNat 8534 128000 (fget s (LOOP.PER.PER n))

/-- R185: the on-time of phase `k`. -/
def tOn (s : State) (n k : Nat) : Nat :=
  let per := loopPer s n
  let b := if fon s (LOOP.BAL.EN n) then (phaseX s k).trim else 0
  (clampInt (fget s (LOOP.TMIN.TON_MIN n)) ((per : Int) - fget s (LOOP.TMIN.TOFF_MIN n)) (((loopX s n).dPrev + b) * (per : Int) / 16777216)).toNat

/-- R184, R193: a period of phase `k`, the `j`-th of `m`: its start, its on-time, and the mean current of the last one. -/
def phasePeriod (n m : Nat) (s : State) (e : Nat × Nat) : State :=
  let k := e.1
  let p := phaseX s k
  let r := if p.cnt = 0 then (fgetI s (LOOP.PHS.MEAS.I_MA k), s) else quotFreeI s p.sum (16 * p.cnt)
  let s1 := fsetI r.2 (LOOP.PHS.MEAS.I_MA k) r.1
  setPhaseX s1 k { p with sum := 0, cnt := 0, ton := tOn s1 n k, begin := e.2 * loopPer s1 n / m, limited := false, hiZ := false }

/-- R236: RUN and LIM_PER at the end of a period. -/
def limitPeriod (s : State) (n : Nat) : State :=
  if (loopActive s n).any fun k => (phaseX s k).limited then finc (finc s (LOOP.PROT_STAT.RUN n)) (LOOP.PROT_CNT.LIM_PER n)
  else fset s (LOOP.PROT_STAT.RUN n) 0

/-- R193, R197, R236: one IMON sample of phase `k` of loop `n`. -/
def imonSample (s : State) (n k : Nat) (code : Int) (onTime : Bool) : State :=
  let p := phaseX s k
  let i16 := (code - fgetI s (LOOP.PHS.TRIM.OFFS k)) * (fget s (LOOP.PHS.CFG.GAIN k) : Int)
  let neg := if code < 0 then p.neg + 1 else 0
  let emul := decide (2 ≤ neg) && (loopState s n == 3 || loopState s n == 5)
  let lim := fget s (LOOP.OCL.I_LIM n)
  let hot := onTime && decide (((if lim = 0 then 255 else lim) * 16000 : Nat) ≤ i16) && loopSwitches s n && !fon s (LOOP.PROT_STAT.BRAKING n)
  let s1 := setPhaseX s k { p with sum := p.sum + i16, cnt := p.cnt + 1, neg := neg, hiZ := p.hiZ || emul, limited := p.limited || hot }
  if hot then fset (fset s1 (LOOP.PH_LIM n k) 1) (LOOP.PROT_EVT.LIMIT n) 1 else s1

/-- R194: the trim limit in 2^-24. -/
def balLim (s : State) (n : Nat) : Int := (fget s (LOOP.BAL.BAL_LIM n) * 256 : Nat)

/-- A phase's trim and its register. -/
def setTrim (s : State) (k : Nat) (b : Int) : State :=
  fsetI (setPhaseX s k { phaseX s k with trim := b }) (LOOP.PHS.MEAS.BAL k) (b / 256)

/-- R194: with EN = 0 every trim is 0. -/
def balClear (s : State) (n : Nat) : State :=
  fset ((loopPhases s n).foldl (fun t k => setTrim t k 0) s) (LOOP.STAT.BAL_LIM n) 0

/-- R194: a trim stands at its limit. -/
def atBalLim (s : State) (n k : Nat) : Bool := (phaseX s k).trim.natAbs == (balLim s n).natAbs

/-- R194: the 1 µs step of the current balance. -/
def balanceStep (s : State) (n : Nat) : State :=
  let act := loopActive s n
  if !fon s (LOOP.BAL.EN n) then balClear s n
  else if act = [] then s
  else
    let avg := (loopItot s n).tdiv act.length
    let upd (t : State) (k : Nat) : State :=
      let d := ((fget s (LOOP.BAL.KBAL n) : Int) * (avg - fgetI s (LOOP.PHS.MEAS.I_MA k))).tdiv 1000
      setTrim t k (clampInt (-(balLim s n)) (balLim s n) ((phaseX t k).trim + d))
    let s1 := act.foldl upd s
    if act.any (atBalLim s1 n) then s1 else fset s1 (LOOP.STAT.BAL_LIM n) 0

/-- R195: the end of a 10 µs window in which I_tot had the mean `iMa` in mA. -/
def shedWindow (s : State) (n : Nat) (iMa : Int) : State :=
  let x := loopX s n
  let full := (loopPhases s n).length
  let act := (loopActive s n).length
  if !fon s (LOOP.SHED.EN n) then setActive (setLoopX s n { x with dwell := 0 }) n full
  else
    let nMin := clampNat 1 (max 1 full) (fget s (LOOP.SHED.N_MIN n))
    let iAdd := atLeast1 (fget s (LOOP.SHED.I_ADD n))
    let iDrop := min (fget s (LOOP.SHED.I_DROP n)) iAdd
    let req := clampNat nMin full (ceilDiv iMa.toNat (1000 * iAdd))
    if act < req then setActive (setLoopX s n { x with dwell := 0 }) n req
    else if iMa < (((act - 1) * iDrop * 1000 : Nat) : Int) ∧ loopState s n ≠ 3 ∧ x.anns = [] ∧ !fon s (LOOP.STAT.SLEWING n) then
      if fget s (LOOP.SHED.DWELL n) ≤ x.dwell + 1 ∧ nMin < act then setActive (setLoopX s n { x with dwell := 0 }) n (act - 1)
      else setLoopX s n { x with dwell := x.dwell + 1 }
    else setLoopX s n { x with dwell := 0 }

/-! ### Announcements -/

/-- R228, R240: a rejection and its reporting. -/
def annReject (s : State) (n code : Nat) (a : Ann) : State :=
  let s1 := fset (fset (fset s (LOOP.ANN_STAT.REJ_CODE n) code) (LOOP.ANN_STAT.REJ_ID n) a.id) (LOOP.ANN_EVT.REJECTED n) 1
  let s2 := annJournal (finc s1 (LOOP.ANN_CNT.REJECTED n)) n 0x23 code a
  if code = 1 ∨ code = 2 ∨ code = 4 ∨ code = 5 then raise s2 (0x1F3 + 7 * n) else s2

/-- R228: the shape would have ended at the next sample, the samples being whole multiples of 40 ns. -/
def annEnded (s : State) (n apply : Nat) : Bool :=
  decide (apply < served s) &&
    decide (ffHold s n + fget s (LOOP.FF_SHAPE.DECAY n) ≤ ((served s + 39) / 40 * 40 - apply) / 40)

/-- R228: the reject code of an announcement, 0 where it is accepted. `pin` says that it came from STEPn. -/
def annCode (s : State) (n : Nat) (pin : Bool) (a : Ann) : Nat :=
  let l := (loopX s n).anns
  if !fon s (LOOP.STEP_CFG.EN n) then 8
  else if loopState s n ≠ 4 then 3
  else if !pin && !hasCT s then 5
  else if !pin && a.id == 0 then 9
  else if l.any fun b => b.id == a.id then 6
  else if 4 ≤ l.length then 4
  else if served s + 50000 < a.apply then 1
  else if a.apply + min 100 (fget s (LOOP.STEP_CFG.LATE_MAX n)) * 100 < served s || annEnded s n a.apply then 2
  else 0

/-- R228, R232: an accepted announcement. -/
def annAccept (s : State) (n : Nat) (a : Ann) : State :=
  let s1 := annShow (setLoopX s n { loopX s n with anns := (loopX s n).anns ++ [a] }) n
  let s2 := if a.apply < served s then annJournal (fset s1 (LOOP.ANN_EVT.LATE n) 1) n 0x22 0 a
    else if a.apply < served s + 500 then fset s1 (LOOP.ANN_EVT.SHORT n) 1 else s1
  if fon s (LOOP.SHED.EN n) ∧ 0 < a.di then setActive s2 n (loopPhases s2 n).length else s2

/-- R226, R228: an announcement is judged; the status is that of a coach that carries it. -/
def annJudge (s : State) (n id : Nat) (di : Int) (apply : Nat) (pin : Bool) : State × Nat :=
  let a : Ann := { id := id, di := di, arrival := served s, apply := apply }
  let c := annCode s n pin a
  if c = 0 then (annAccept s n a, stOk)
  else (annReject s n c a, if c = 3 ∨ c = 8 then stIllegal else stOk)

/-- R229: a cancel of identifier `id`. -/
def annCancel (s : State) (n id : Nat) (pin : Bool) : State :=
  let x := loopX s n
  if !pin && id == 0 then annReject s n 9 { id := id, di := 0, arrival := served s, apply := 0 }
  else match x.anns.find? fun a => a.id == id with
    | none => annReject s n 7 { id := id, di := 0, arrival := served s, apply := 0 }
    | some a =>
      if a.applied then
        let v := annFf s n a
        let rest := x.anns.map fun b => if b.id = id then { b with cancel := some (v, 1) } else b
        let keep := rest.filter fun b => !(b.id == id && fget s (LOOP.FF_SHAPE.CANCEL n) == 0)
        let s1 := annShow (setLoopX s n { x with anns := keep }) n
        annJournal (finc (fset s1 (LOOP.ANN_EVT.CANCEL_POST n) 1) (LOOP.ANN_CNT.CANCELLED n)) n 0x25 0 a
      else
        let l := x.anns.filter fun b => b.id != id
        let s1 := annShow (setLoopX s n { x with anns := l, dwell := if l = [] then 0 else x.dwell }) n
        finc (fset s1 (LOOP.ANN_EVT.CANCEL_PRE n) 1) (LOOP.ANN_CNT.CANCELLED n)

/-- R231, R234, R235: the apply instant of an announcement. -/
def annApply (s : State) (n : Nat) (a : Ann) : State :=
  let s0 := passTo s a.apply
  let x := loopX s0 n
  let k := (served s0 - a.apply) / 40
  let s1 := setLoopX s0 n { x with anns := x.anns.map fun b => if b.id = a.id then { b with applied := true, s := k } else b }
  let s2 := finc (fset s1 (LOOP.ANN_EVT.APPLIED n) 1) (LOOP.ANN_CNT.APPLIED n)
  let s3 := fset64 s2 (LOOP.LAST_CT_LO.CT n) (LOOP.LAST_CT_HI.CT n) (served s2)
  if 0 < a.di ∧ fon s3 (LOOP.PROT_STAT.BRAKING n) then brakeExit s3 n
  else if a.di < 0 ∧ fon s3 (LOOP.BRAKE.ANN n) ∧ brakeArmed s3 n then brakeEnter s3 n
  else s3

/-- A two's complement DI of 12 bits, in amperes. -/
def diOf (d : BitVec 12) : Int := d.toInt

/-! ### Hiccup -/

/-- R237: the loop enters HICCUP. -/
def hiccupEnter (s : State) (n : Nat) : State :=
  let s1 := loopGo s n 6
  let s2 := setLoopX s1 n { loopX s1 n with hiccupAt := localNs s1 }
  let s3 := finc (fset (fset s2 (LOOP.PROT_STAT.RUN n) 0) (LOOP.PROT_EVT.HICCUP n) 1) (LOOP.PROT_CNT.HICCUPS n)
  protJournal (raise s3 (0x1F5 + 7 * n)) n 0x43

/-- R237: the off time has passed; `sense` is the sensed voltage in microvolt. -/
def hiccupEnd (s : State) (n : Nat) (sense : Int) : State :=
  let retry := fget s (LOOP.HICCUP.RETRY n)
  let x := loopX s n
  if retry = 15 ∨ x.r < retry then
    let s1 := fset (setLoopX s n { x with r := x.r + 1 }) (LOOP.PROT_STAT.RTRY n) (min 15 (x.r + 1))
    protJournal (loopStart s1 n sense.toNat) n 0xE0
  else
    let s1 := fset (loopGo (loopDropRaise s n) n 7) (LOOP.PROT_EVT.LATCH n) 1
    protJournal (raise s1 (0x1F6 + 7 * n)) n 0x44

/-! ### The commands -/

/-- LOOP_ENABLE. -/
def execLoopEnable (l : Fin 4) (s : State) : Host.Outcome State Fault Refusal :=
  .next (atTarget s (0x48 + l.val) fun t => loopEnable t l)

/-- LOOP_DISABLE. -/
def execLoopDisable (l : Fin 4) (s : State) : Host.Outcome State Fault Refusal :=
  .next (atTarget s (0x48 + l.val) fun t => (loopDisable t l, stOk))

/-- LOOP_CLR_LATCH. -/
def execLoopClrLatch (l : Fin 4) (s : State) : Host.Outcome State Fault Refusal :=
  .next (atTarget s (0x48 + l.val) fun t => (loopClrLatch t l, stOk))

/-- LOOP_CSEL_CHANGE: a value that names no set is a reserved encoding and keeps the old one (R190, R5). -/
def execLoopCselChange (l : Fin 4) (sel : Fin 64) (s : State) : Host.Outcome State Fault Refusal :=
  .next (atTarget s (0x48 + l.val) fun t => (fsetIf t (LOOP.CTL.CSEL l) sel (cselOk t sel), stOk))

/-- LOOP_VSET_WRITE. -/
def execLoopVsetWrite (l : Fin 4) (code : Fin 8192) (s : State) : Host.Outcome State Fault Refusal :=
  .next (atTarget s (0x48 + l.val) fun t => (loopVset t l code, stOk))

/-- SENSE_CHECK_DONE (R198, R199). -/
def execSenseCheckDone (l : Fin 4) (openLine : Bool) (senseUv : Int) (s : State) : Host.Outcome State Fault Refusal :=
  if loopState s l = 2 then
    if openLine then .next (raise (fset (loopOff s l) (LOOP.EVT.SENSE_OPEN l) 1) (0x1F2 + 7 * l.val))
    else .next (loopStart s l senseUv.toNat)
  else .next s

/-- LOOP_SAMPLE. -/
def execLoopSample (l : Fin 4) (voutUv : Int) (s : State) : Host.Outcome State Fault Refusal :=
  .next (if loopSwitches s l then loopSample s l voutUv else s)

/-- LOOP_PERIOD_START: the period that ends is judged for the current limit, and the new one begins (R184, R185, R236).
It is a source event of the common triggers (R452). -/
def execLoopPeriodStart (l : Fin 4) (s : State) : Host.Outcome State Fault Refusal :=
  if loopSwitches s l then
    let s1 := if fon s (LOOP.PROT_STAT.BRAKING l) then s else limitPeriod s l
    let act := loopActive s1 l
    .next (trgEvent (act.zipIdx.foldl (phasePeriod l act.length) s1) 2 l)
  else .next s

/-- IMON_SAMPLE: `onTime` says that the phase is in its on-time. -/
def execImonSample (k : Fin 16) (code : BitVec 11) (onTime : Bool) (s : State) : Host.Outcome State Fault Refusal :=
  let n := fget s (LOOP.PHS.CFG.LOOP k)
  .next (if n < 4 ∧ fon s (LOOP.PHS.CFG.ACT k) then imonSample s n k code.toInt onTime else s)

/-- BALANCE_UPDATE. -/
def execBalanceUpdate (l : Fin 4) (s : State) : Host.Outcome State Fault Refusal := .next (balanceStep s l)

/-- BALANCE_LIMIT_TIMEOUT: the trim of phase `k` has stood at its limit for 1 ms (R194). -/
def execBalanceLimitTimeout (k : Fin 16) (s : State) : Host.Outcome State Fault Refusal :=
  let n := fget s (LOOP.PHS.CFG.LOOP k)
  .next (if n < 4 ∧ fon s (LOOP.BAL.EN n) ∧ fon s (LOOP.PHS.CFG.ACT k) ∧ atBalLim s n k then
    raise (fset (fset s (LOOP.STAT.BAL_LIM n) 1) (LOOP.EVT.IMBAL n) 1) (0x1F1 + 7 * n) else s)

/-- PHASE_SHED_WINDOW. -/
def execPhaseShedWindow (l : Fin 4) (iMa : Int) (s : State) : Host.Outcome State Fault Refusal :=
  .next (if loopSwitches s l then shedWindow s l iMa else s)

/-- VIN_FALLBACK. -/
def execVinFallback (l : Fin 4) (s : State) : Host.Outcome State Fault Refusal :=
  .next (if loopSwitches s l then vinJudge s l else s)

/-- STEP_PIN_ACTIVE: the pin announces PIN_DI for PIN_LEAD after the edge (R226, R227). Without VDDIO the pin reads
inactive (R43). -/
def execStepPinActive (l : Fin 4) (s : State) : Host.Outcome State Fault Refusal :=
  .next (if fon s (LOOP.STEP_CFG.PIN_EN l) && fon s TOP.SUPPLY.VDDIO then
    (annJudge s l 0 (fgetI s (LOOP.STEP_CFG.PIN_DI l)) (served s + clampNat 5 500 (fget s (LOOP.STEP_CFG.PIN_LEAD l)) * 100) true).1 else s)

/-- STEP_PIN_INACTIVE: before the apply instant it cancels the pin's announcement; else it has no effect (R227). -/
def execStepPinInactive (l : Fin 4) (s : State) : Host.Outcome State Fault Refusal :=
  .next (if fon s (LOOP.STEP_CFG.PIN_EN l) && (loopX s l).anns.any (fun a => a.id == 0 && !a.applied && decide (served s < a.apply)) then
    annCancel s l 0 true else s)

/-- ANN_CTL_ANNOUNCE: the apply CT stands in ANN_CT (R245). -/
def execAnnCtlAnnounce (l : Fin 4) (id : BitVec 8) (di : BitVec 12) (s : State) : Host.Outcome State Fault Refusal :=
  .next (atTarget s (0x48 + l.val) fun t => annJudge t l id.toNat (diOf di) (fget64 t (LOOP.ANN_CT_LO.CT l) (LOOP.ANN_CT_HI.CT l)) false)

/-- ANN_CTL_CANCEL. -/
def execAnnCtlCancel (l : Fin 4) (id : BitVec 8) (s : State) : Host.Outcome State Fault Refusal :=
  .next (atTarget s (0x48 + l.val) fun t => (annCancel t l id.toNat false, stOk))

/-- STEP_ANN_ANNOUNCE: a STEP_ANN frame with CMD announce (R226). -/
def execStepAnnAnnounce (l : Fin 4) (id : BitVec 8) (di : BitVec 12) (ct : BitVec 64) (s : State) : Host.Outcome State Fault Refusal :=
  .next (annJudge s l id.toNat (diOf di) ct.toNat false).1

/-- STEP_ANN_CANCEL: a STEP_ANN frame with CMD cancel (R229). -/
def execStepAnnCancel (l : Fin 4) (id : BitVec 8) (s : State) : Host.Outcome State Fault Refusal :=
  .next (annCancel s l id.toNat false)

/-- ANN_APPLY: the apply instant of a pending announcement. -/
def execAnnApply (l : Fin 4) (id : BitVec 8) (s : State) : Host.Outcome State Fault Refusal :=
  match (loopX s l).anns.find? fun a => a.id == id.toNat && !a.applied with
  | some a => .next (annApply s l a)
  | none => .next s

/-- BRAKE_TIMEOUT: TMAX samples of braking have passed (R235). -/
def execBrakeTimeout (l : Fin 4) (s : State) : Host.Outcome State Fault Refusal :=
  if fon s (LOOP.PROT_STAT.BRAKING l) ∧ atLeast1 (fget s (LOOP.BRAKE.TMAX l)) ≤ (loopX s l).brakeN then
    let s1 := finc (fset (brakeExit s l) (LOOP.PROT_EVT.BRAKE_TMO l) 1) (LOOP.BRK_CNT.TMO l)
    .next (protJournal (raise s1 (0x1F4 + 7 * l.val)) l 0x41)
  else .next s

/-- HICCUP_ENTRY: RUN has reached OCL.N (R237). -/
def execHiccupEntry (l : Fin 4) (s : State) : Host.Outcome State Fault Refusal :=
  .next (if loopSwitches s l ∧ atLeast1 (fget s (LOOP.OCL.N l)) ≤ fget s (LOOP.PROT_STAT.RUN l) then hiccupEnter s l else s)

/-- HICCUP_OFF_EXPIRY: OFF_MS after the entry (R237, R252). -/
def execHiccupOffExpiry (l : Fin 4) (senseUv : Int) (s : State) : Host.Outcome State Fault Refusal :=
  .next (if loopState s l = 6 then
    hiccupEnd (passLoc s ((loopX s l).hiccupAt + clampNat 1 1000 (fget s (LOOP.HICCUP.OFF_MS l)) * 1000000)) l senseUv else s)

/-- LOOP_HICCUP_COUNT_RESET: the loop has stayed in REG for 1 s (R237). -/
def execLoopHiccupCountReset (l : Fin 4) (s : State) : Host.Outcome State Fault Refusal :=
  .next (if loopState s l = 4 then fset (setLoopX s l { loopX s l with r := 0 }) (LOOP.PROT_STAT.RTRY l) 0 else s)

end Sys2Proof.Machine
end

