-- ==== Sys2Proof/Machine/Regulator.lean ====
section
/-!
DEFINITION. Machine/Regulator.lean: the integrated bucks and LDOs (R256-R275). Regulators 0-3 are bucks, 4-7 LDOs.
-/
namespace Sys2Proof.Machine

/-- What the part holds of regulator `r` beside its registers. -/
def regX (s : State) (r : Nat) : RegX := tabGet (fun _ => {}) s.rgs r

/-- What the part holds of regulator `r` beside its registers, replaced. -/
def setRegX (s : State) (r : Nat) (x : RegX) : State := { s with rgs := tabPut (fun _ => {}) s.rgs r x }

/-- R260: the state of regulator `r`. -/
def regState (s : State) (r : Nat) : Nat := fget s (REG.STAT.STATE r)

/-- A buck, or an LDO. -/
def isBuck (r : Nat) : Bool := decide (r < 4)

/-- R258: a voltage code, taken as the greatest one where it lies above. -/
def regCode (r c : Nat) : Nat := min c (if isBuck r then 880 else 540)

/-- R263: the reservation for code `c`. -/
def regR (s : State) (r c : Nat) : Nat :=
  let m := fget s (REG.LEDG.RESV_MW r)
  if isBuck r then m * (c + 120) / (fget s (REG.LEDG_V.VNOM r) + 120) else m

/-- R258: the voltage of a code in half microvolt. -/
def regRef (c : Nat) : Nat := (600000 + c * 5000) * 2

/-- R273: how far the reference moves in half microvolt per ns. -/
def regRate (s : State) (r : Nat) : Nat := [1, 2, 5, 10].getD (fget s (REG.CFG.SLEW r)) 2

/-- The reference at this instant, in half microvolt. -/
def regNow (s : State) (r : Nat) : Nat :=
  let x := regX s r
  let t := regRef (fget s (REG.VSET.VTGT r))
  let d := regRate s r * (localNs s - x.slewAt)
  if x.refFrom < t then min t (x.refFrom + d) else max t (x.refFrom - d)

/-- R269: SLEWING: the reference of a regulator in ON moves toward its target. -/
def regSlewing (s : State) (r : Nat) : Bool := regState s r == 3 && regNow s r != regRef (fget s (REG.VSET.VTGT r))

/-- R259, R269: the output stage of regulator `r` runs, so that LIMIT and FOLD show what it does. -/
def regRuns (s : State) (r : Nat) : Bool := (regState s r == 2 || regState s r == 3) && !fon s (REG.STAT.NOIN r)

/-- R269: the STAT word. LIMIT and FOLD of a running stage show what its current and duty are at this instant, which no
command carries: they are free (assumption 277). -/
def regStatWord (s : State) (r : Nat) : Nat :=
  let w := putBits (regWord s (0x50004 + 0x40 * r)) (b2n (regSlewing s r)) 22 22
  let f := (drawNat s 4).1
  if regRuns s r then putBits (putBits w (f % 2) 25 25) (if isBuck r then f / 2 else 0) 23 23 else w

/-- The state that has drawn the free bits of STAT. -/
def regStatDrawn (s : State) (r : Nat) : State := if regRuns s r then (drawNat s 4).2 else s

/-- A journal record of a flag of regulator `r` (R642; assumption 27). -/
def regJournal (s : State) (r bit : Nat) : State :=
  journal (regStatDrawn s r) 0x05 r bit (fget s (REG.STAT.REFUSE_CODE r)) [regStatWord s r, regWord s (0x50010 + 0x40 * r)]

/-- R261, R265: regulator `r` enters state `st`; outside ON there is no power good, and outside SS and ON its output stage
is off. -/
def regGo (s : State) (r st : Nat) : State :=
  let s1 := fset s (REG.STAT.STATE r) st
  let s2 := if st = 3 then s1 else fset s1 (REG.STAT.PG r) 0
  if st = 2 ∨ st = 3 then s2
  else
    let s3 := fset (fset (fset s2 (REG.STAT.NOIN r) 0) (REG.STAT.LIMIT r) 0) (REG.STAT.FOLD r) 0
    setRegX s3 r { regX s3 r with ov := false }

/-- R261: the regulator is off and its requests are withdrawn. -/
def regOff (s : State) (r : Nat) : State :=
  regGo (fset (fset (withdraw s (isRegReq r)) (REG.STAT.PENDING r) 0) (REG.CTL.EN r) 0) r 0

/-- VTGT takes a code, and the reference moves toward it from where it is. -/
def regTarget (s : State) (r c : Nat) : State :=
  fset (setRegX s r { regX s r with refFrom := regNow s r, slewAt := localNs s }) (REG.VSET.VTGT r) (regCode r c)

/-- R263, R400: is a request of regulator `r` for a raise outstanding? -/
def regRaising (s : State) (r : Nat) : Bool :=
  s.ldg.reqs.any fun q => match q.kind with
    | .regRaise m _ => m == r
    | _ => false

/-- R263: an outstanding raise of regulator `r` is withdrawn. -/
def regDropRaise (s : State) (r : Nat) : State :=
  if regRaising s r then
    fset (withdraw s fun k => match k with
      | .regRaise m _ => m == r
      | _ => false) (REG.STAT.PENDING r) 0
  else s

/-- R261, R263: the turn-on request. -/
def regPend (s : State) (r : Nat) : State :=
  let c := regCode r (fget s (REG.VSET.VSET r))
  let s1 := fset (fset (fset (fset s (REG.VSET.VTGT r) c) (REG.CTL.EN r) 1) (REG.STAT.STATE r) 1) (REG.STAT.PENDING r) 1
  request s1 (.regOn r) (regR s1 r c)

/-- R261: EN ← 1; before step 5 of R50 it only stores the bit. -/
def regEnable (s : State) (r : Nat) : State × Nat :=
  let st := regState s r
  if st = 6 ∨ st = 7 then (s, stIllegal)
  else if !s.start.running then (fset s (REG.CTL.EN r) 1, stOk)
  else if st = 0 then (regPend s r, stOk)
  else (s, stOk)

/-- R261: EN ← 0. -/
def regDisable (s : State) (r : Nat) : State :=
  let st := regState s r
  if 1 ≤ st ∧ st ≤ 5 then regOff s r else fset s (REG.CTL.EN r) 0

/-- R261: LATCHED to OFF. -/
def regClrLatch (s : State) (r : Nat) : State := if regState s r = 6 then regGo (fset s (REG.CTL.EN r) 0) r 0 else s

/-- R261: an admitted turn-on. -/
def regAdmitted (s : State) (r : Nat) : State := if regState s r = 1 then regGo (fset s (REG.STAT.PENDING r) (b2n (regRaising s r))) r 2 else s

/-- R261: a refused turn-on. -/
def regRefused (s : State) (r code : Nat) : State :=
  if regState s r = 1 then regJournal (fset (fset (regOff s r) (REG.EVT.REFUSED r) 1) (REG.STAT.REFUSE_CODE r) code) r 0 else s

/-- R263: an admitted raise. -/
def regRaised (s : State) (r code : Nat) : State := regTarget (fset s (REG.STAT.PENDING r) 0) r code

/-- R263: a refused raise. -/
def regRaiseRefused (s : State) (r code : Nat) : State :=
  let s1 := fset (fset s (REG.STAT.PENDING r) 0) (REG.VSET.VSET r) (fget s (REG.VSET.VTGT r))
  regJournal (fset (fset s1 (REG.EVT.REFUSED r) 1) (REG.STAT.REFUSE_CODE r) code) r 0

/-- R261, R404: a ledger shed. -/
def regShed (s : State) (r : Nat) : State :=
  let st := regState s r
  if 1 ≤ st ∧ st ≤ 5 then regJournal (fset (regOff s r) (REG.EVT.SHED r) 1) r 1 else s

/-- R263, R266: a write of VSET. In OFF, LATCHED and SAFE, and before step 5 of R50, it only stores the code. -/
def regVset (s : State) (r code : Nat) : State :=
  let st := regState s r
  let s1 := fset (regDropRaise s r) (REG.VSET.VSET r) code
  let c := regCode r code
  if st = 0 ∨ st = 6 ∨ st = 7 ∨ !s.start.running then s1
  else if isBuck r ∧ fget s1 (REG.VSET.VTGT r) < c then
    request (fset s1 (REG.STAT.PENDING r) 1) (.regRaise r code) (regR s1 r c - regR s1 r (fget s1 (REG.VSET.VTGT r)))
  else regTarget s1 r code

/-- R261: the launch strobe of an enable or a disable. -/
def regStrobeEn (s : State) (r : Nat) (en : Bool) : State × Nat :=
  if en then
    if regState s r = 0 then
      (regGo (fset (fset s (REG.CTL.EN r) 1) (REG.VSET.VTGT r) (regCode r (fget s (REG.VSET.VSET r)))) r 2, stOk)
    else regEnable s r
  else (regDisable s r, stOk)

/-- R263, R201: the launch strobe of a voltage step, as for a loop. -/
def regStrobeV (s : State) (r code : Nat) : State × Nat :=
  let st := regState s r
  if st = 4 ∨ st = 6 ∨ st = 7 then (s, stIllegal)
  else (regTarget (fset (regDropRaise s r) (REG.VSET.VSET r) code) r code, stOk)

/-- R262: the input of regulator `r` leaves its range. -/
def regInputLoss (s : State) (r : Nat) : State :=
  if regState s r = 2 ∨ regState s r = 3 then fset s (REG.STAT.NOIN r) 1 else s

/-- R262: the input is back: the regulator re-enters SS from the sensed output. -/
def regInputReturn (s : State) (r : Nat) : State :=
  if fon s (REG.STAT.NOIN r) then
    let s1 := fset s (REG.STAT.NOIN r) 0
    if regState s r = 2 ∨ regState s r = 3 then regGo s1 r 2 else s1
  else s

/-! ### The commands -/

/-- REG_ENABLE. -/
def execRegEnable (r : Fin 8) (s : State) : Host.Outcome State Fault Refusal :=
  .next (atTarget s (0x40 + r.val) fun t => regEnable t r)

/-- REG_DISABLE. -/
def execRegDisable (r : Fin 8) (s : State) : Host.Outcome State Fault Refusal :=
  .next (atTarget s (0x40 + r.val) fun t => (regDisable t r, stOk))

/-- REG_CLR_LATCH. -/
def execRegClrLatch (r : Fin 8) (s : State) : Host.Outcome State Fault Refusal :=
  .next (atTarget s (0x40 + r.val) fun t => (regClrLatch t r, stOk))

/-- REG_VSET_WRITE. -/
def execRegVsetWrite (r : Fin 8) (code : Fin 2048) (s : State) : Host.Outcome State Fault Refusal :=
  .next (atTarget s (0x40 + r.val) fun t => (regVset t r code, stOk))

/-- REG_SS_COMPLETE: the reference has reached the target (R261). -/
def execRegSsComplete (r : Fin 8) (s : State) : Host.Outcome State Fault Refusal :=
  .next (if regState s r = 2 ∧ !fon s (REG.STAT.NOIN r) then
    let s1 := setRegX s r { regX s r with refFrom := regRef (fget s (REG.VSET.VTGT r)), slewAt := localNs s }
    regGo s1 r 3 else s)

/-- REG_LIMIT_CONDITION: SS or ON to HICCUP (R264). -/
def execRegLimitCondition (r : Fin 8) (s : State) : Host.Outcome State Fault Refusal :=
  if regState s r = 2 ∨ regState s r = 3 then
    let s1 := fset (regGo s r 4) (REG.EVT.HICCUP r) 1
    .next (regJournal (raise (setRegX s1 r { regX s1 r with hiccupAt := localNs s1 }) (0x20C + 4 * r.val)) r 3)
  else .next s

/-- REG_HICCUP_RESTART: OFF_MS after HICCUP was entered (R264). -/
def execRegHiccupRestart (r : Fin 8) (s : State) : Host.Outcome State Fault Refusal :=
  if regState s r = 4 then
    let s0 := passLoc s ((regX s r).hiccupAt + atLeast1 (fget s (REG.PROT.OFF_MS r)) * 1000000)
    let retry := fget s (REG.PROT.RETRY r)
    let x := regX s0 r
    if retry = 15 ∨ x.r < retry then
      .next (regGo (fset (setRegX s0 r { x with r := x.r + 1 }) (REG.STAT.RTRY r) (min 15 (x.r + 1))) r 2)
    else .next (regJournal (raise (fset (regGo (regDropRaise s0 r) r 6) (REG.EVT.LATCH r) 1) (0x20D + 4 * r.val)) r 4)
  else .next s

/-- REG_OVERTEMP: SS, ON or HICCUP to THERM (R261, R264). -/
def execRegOvertemp (r : Fin 8) (s : State) : Host.Outcome State Fault Refusal :=
  .next (if 2 ≤ regState s r ∧ regState s r ≤ 4 then
    regJournal (raise (fset (regGo s r 5) (REG.EVT.THERM r) 1) (0x20E + 4 * r.val)) r 5 else s)

/-- REG_TEMP_RECOVER: THERM to SS, without new admission (R261). -/
def execRegTempRecover (r : Fin 8) (s : State) : Host.Outcome State Fault Refusal :=
  .next (if regState s r = 5 then regGo s r 2 else s)

/-- REG_INPUT_LOSS. -/
def execRegInputLoss (r : Fin 8) (s : State) : Host.Outcome State Fault Refusal := .next (regInputLoss s r)

/-- REG_INPUT_RETURN. -/
def execRegInputReturn (r : Fin 8) (s : State) : Host.Outcome State Fault Refusal := .next (regInputReturn s r)

/-- REG_OVERVOLTAGE: FB above 115 % of the reference turns off a buck's high side (R264). -/
def execRegOvervoltage (r : Fin 8) (s : State) : Host.Outcome State Fault Refusal :=
  .next (if isBuck r ∧ (regState s r = 2 ∨ regState s r = 3) then
    regJournal (fset (setRegX s r { regX s r with ov := true }) (REG.EVT.OV r) 1) r 6 else s)

/-- REG_OV_RECOVER: FB below 105 %: switching resumes (R264). -/
def execRegOvRecover (r : Fin 8) (s : State) : Host.Outcome State Fault Refusal :=
  .next (setRegX s r { regX s r with ov := false })

/-- REG_PG_SET: 50 µs within ±8 % after entry to ON (R265). -/
def execRegPgSet (r : Fin 8) (s : State) : Host.Outcome State Fault Refusal :=
  .next (if regState s r = 3 then fset s (REG.STAT.PG r) 1 else s)

/-- REG_PG_LOST: 2 µs outside ±8 % (R265). -/
def execRegPgLost (r : Fin 8) (s : State) : Host.Outcome State Fault Refusal :=
  .next (if regState s r = 3 ∧ fon s (REG.STAT.PG r) then
    regJournal (raise (fset (fset s (REG.STAT.PG r) 0) (REG.EVT.PG_LOST r) 1) (0x20F + 4 * r.val)) r 2 else s)

/-- REG_HICCUP_COUNT_RESET: 1 s in ON without a hiccup (R264). -/
def execRegHiccupCountReset (r : Fin 8) (s : State) : Host.Outcome State Fault Refusal :=
  .next (if regState s r = 3 then fset (setRegX s r { regX s r with r := 0 }) (REG.STAT.RTRY r) 0 else s)

end Sys2Proof.Machine
end

