-- ==== Sys2Proof/Machine/Sequence.lean ====
section
/-!
DEFINITION. Machine/Sequence.lean: the steps of sequences, the window monitors and SEQ_FLT (R276-R306).
-/
namespace Sys2Proof.Machine

/-- R285: a step of a sequence that SUPPLY_LOW started has completed or failed: SEQ.PF_LAST. -/
def seqPfLast (s : State) (q : Nat) : State :=
  if (seqX s q).powerFail then
    fset (fset (fset s SEQ.PF_LAST.VALID 1) SEQ.PF_LAST.SEQ q) SEQ.PF_LAST.STEP (fget s (SEQ.STAT.STEP q))
  else s

/-- R278, R279: the present step is over: the next one begins, or the sequence enters DONE. -/
def seqNext (s : State) (q : Nat) : State :=
  let x := seqX s q
  let i := fget s (SEQ.STAT.STEP q)
  if i + 1 < (seqHead s q).count then
    setSeqX (fset s (SEQ.STAT.STEP q) (i + 1)) q { x with stepAt := localNs s, issued := false }
  else
    let s1 := fset s (SEQ.TIME.ELAPSED q) (seqElapsed s q)
    let s2 := fset (fset s1 (SEQ.STAT.STATE q) 2) (SEQ.EVT.DONE q) 1
    seqJournal (setSeqX s2 q { x with issued := false }) q 0x01

/-- R279: the present step of sequence `q` has completed. -/
def seqDone (s : State) (q : Nat) : State := seqNext (seqPfLast s q) q

/-- R279: the sequence enters FAILED, drives SEQ_FLT low for itself with FAIL_FLT and starts FAIL_SEQ. -/
def seqFailed (s : State) (q : Nat) : State :=
  let h := seqHead s q
  let s1 := fset s (SEQ.TIME.ELAPSED q) (seqElapsed s q)
  let s2 := fset (fset s1 (SEQ.STAT.STATE q) 3) (SEQ.EVT.FAILED q) 1
  let s3 := seqJournal (setSeqX s2 q { seqX s2 q with issued := false }) q 0x02
  let s4 := if bitOf h.flags 1 then fltUpdate (fset s3 (SEQ.STAT.FLT_HOLD q) 1) else s3
  let s5 := raise s4 0x25E
  if h.failSeq < 16 then (seqStart s5 h.failSeq (served s5) false).1 else s5

/-- R279, R284: the present step of sequence `q` fails with a code: a monitor in discharge becomes unarmed, and with CONT
the sequence goes on. -/
def seqFail (s : State) (q code : Nat) : State :=
  let st := seqStep s q
  let s1 := if st.op = 6 ∧ (seqX s q).issued then monUnarm s st.mon else s
  let s2 := seqJournal (fset s1 (SEQ.STAT.FAIL_CODE q) code) q 0xE0
  let s3 := seqPfLast s2 q
  if bitOf st.sflags 0 then seqNext s3 q else seqFailed s3 q

/-- Is `op` the operation of the present step of a running sequence, and not yet begun? -/
def seqReady (s : State) (q op : Nat) : Bool :=
  fget s (SEQ.STAT.STATE q) == 1 && (seqStep s q).op == op && !(seqX s q).issued

/-- The present step's command is issued and its completion awaited. -/
def seqIssue (s : State) (q : Nat) : State := setSeqX s q { seqX s q with issued := true }

/-- R276, R278: the step's command as a coach of the sequencer (requester port 11) to target `k`; a step whose command
does not complete OK fails with the code of its status. -/
def seqCoach (s : State) (q k : Nat) (f : State → State × Nat) : State :=
  let s0 := asCoach (seqIssue s q) 11 k 0 fun t => ((f t).1, (f t).2, [])
  let c := s0.comp.status
  if c = stOk then s0
  else seqFail s0 q (if c = stIllegal then 3 else if c = stPreempted then 6 else 5)

/-- The target of a rail command. -/
def railCmd (s : State) (tgt : Nat) (on : Bool) : State × Nat :=
  if tgt < 0x40 then chMode s tgt (b2n on)
  else if tgt < 0x48 then (if on then regEnable s (tgt - 0x40) else (regDisable s (tgt - 0x40), stOk))
  else if on then loopEnable s (tgt - 0x48) else (loopDisable s (tgt - 0x48), stOk)

/-- R278: a rail in a running state: driven, past admission. -/
def railRuns (s : State) (tgt : Nat) : Bool :=
  if tgt < 0x40 then chDriven s tgt
  else if tgt < 0x48 then decide (2 ≤ regState s (tgt - 0x40) ∧ regState s (tgt - 0x40) ≤ 5)
  else decide (2 ≤ loopState s (tgt - 0x48) ∧ loopState s (tgt - 0x48) ≤ 6)

/-- R278: the power-good condition of a WAIT_PG target. -/
def railGood (s : State) (tgt : Nat) : Bool :=
  if tgt < 0x40 then chState s tgt == 5
  else if tgt < 0x48 then fon s (REG.STAT.PG (tgt - 0x40))
  else if tgt < 0x4C then loopState s (tgt - 0x48) == 4 && fon s (LOOP.STAT.INREG (tgt - 0x48))
  else
    let m := tgt - 0x50
    fget s (MON.STAT.MODE m) == 1 && !fon s (MON.STAT.ABOVE m) && !fon s (MON.STAT.BELOW m)

/-- R278: VTGT of a regulator or loop. -/
def railVtgt (s : State) (tgt : Nat) : Nat :=
  if tgt < 0x48 then fget s (REG.VSET.VTGT (tgt - 0x40)) else fget s (LOOP.VREF.VTGT (tgt - 0x48))

/-- R278: the condition on which a begun step completes. -/
def stepMet (s : State) (st : Step) : Bool :=
  if st.op = 1 then railRuns s st.tgt
  else if st.op = 3 then railGood s st.tgt
  else if st.op = 6 then true
  else if st.op = 8 then railVtgt s st.tgt == st.arg
  else false

/-- R293: an OFF_WAIT completes, with its elapsed time. -/
def offWaitRecord (s : State) (q : Nat) (st : Step) : State :=
  if bitOf st.sflags 1 then s
  else seqRecord s q 0xE1 0 [fget s (SEQ.STAT.STEP q) * 2 ^ 16 + st.op * 2 ^ 8 + st.tgt,
    (localNs s - (seqX s q).stepAt) / 1000, st.mon, fget s SEQ.FLT_STAT.LINE]

/-- R278, R284: a begun step completes; an OFF_WAIT leaves its monitor unarmed. -/
def stepComplete (s : State) (q : Nat) : State :=
  let st := seqStep s q
  if fget s (SEQ.STAT.STATE q) = 1 ∧ (seqX s q).issued ∧ stepMet s st then
    let s1 := if st.op = 6 then
        offWaitRecord (fset (monUnarm s st.mon) (MON.STAT.DIS_BELOW st.mon) 1) q st
      else s
    seqDone s1 q
  else s

/-- A begun step whose completion condition already holds completes at once. -/
def seqSettle (s : State) (q op : Nat) : State := if op = 6 then s else stepComplete s q

/-- R278, R283: a request of sequence steps for target `tgt` is refused: the waiting steps fail with 0x02. -/
def seqRefused (s : State) (tgt : Nat) : State :=
  (List.range 16).foldl (fun t q =>
    let st := seqStep t q
    if fget t (SEQ.STAT.STATE q) = 1 ∧ (seqX t q).issued ∧ (st.op = 1 ∨ st.op = 8) ∧ st.tgt = tgt then seqFail t q 2 else t) s

/-- R278, R290: a target is reset while steps wait on it: they fail with 0x05. -/
def seqTargetLost (s : State) (tgt : Nat) : State :=
  (List.range 16).foldl (fun t q =>
    let st := seqStep t q
    if fget t (SEQ.STAT.STATE q) = 1 ∧ (seqX t q).issued ∧ (st.op = 1 ∨ st.op = 3 ∨ st.op = 6 ∨ st.op = 8) ∧ st.tgt = tgt then
      seqFail t q 5 else t) s

/-- R284: a monitor enters discharge mode. -/
def monDischarge (s : State) (m : Nat) : State :=
  fset (fset (fset s (MON.STAT.MODE m) 2) (MON.CFG.ARM m) 0) (MON.STAT.BELOW m) 0

/-- R287: a write of CFG.ARM; ARM = 1 in discharge mode is ILLEGAL_STATE and has no effect. -/
def monArm (s : State) (m : Nat) (arm : Bool) : State × Nat :=
  if fget s (MON.STAT.MODE m) = 2 then (s, if arm then stIllegal else stOk)
  else (fsetB (fsetB s (MON.STAT.MODE m) arm) (MON.CFG.ARM m) arm, stOk)

/-- R288, R289: a detected condition of monitor `m`; while its flag is set there is no further event. -/
def monEvent (s : State) (m : Nat) (isOver : Bool) : State :=
  let f := if isOver then MON.EVT.OV m else MON.EVT.UV m
  if fon s f then s
  else
    let s1 := seqRecord (fset s f 1) 0 (0x20 + b2n isOver) 0 [0, 0, m, fget s SEQ.FLT_STAT.LINE]
    let s2 := fltUpdate (raise s1 (if isOver then 0x180 + m else 0x1B0 + m))
    if fon s2 (MON.CFG.SEQ_EN m) ∧ (8 ≤ m ∨ 2 ≤ stage s2) then
      (seqStart s2 (fget s2 (MON.CFG.SEQ m)) (served s2) false).1
    else s2

/-! ### The commands -/

/-- SEQ_CMD_START: SEQ.CMD with CMD = start. -/
def execSeqCmdStart (q : Fin 16) (s : State) : Host.Outcome State Fault Refusal :=
  .next (atTarget s 0x7F fun t => seqHostStart t q)

/-- SEQ_CMD_ABORT: SEQ.CMD with CMD = abort. -/
def execSeqCmdAbort (q : Fin 16) (s : State) : Host.Outcome State Fault Refusal :=
  .next (atTarget s 0x7F fun t => (seqAbort t q, stOk))

/-- SEQ_OP_ON. -/
def execSeqOpOn (q : Fin 16) (s : State) : Host.Outcome State Fault Refusal :=
  let st := seqStep s q
  .next (if seqReady s q 1 then seqSettle (seqCoach s q st.tgt fun t => railCmd t st.tgt true) q 1 else s)

/-- SEQ_OP_OFF: complete when its command is accepted. -/
def execSeqOpOff (q : Fin 16) (s : State) : Host.Outcome State Fault Refusal :=
  let st := seqStep s q
  .next (if seqReady s q 2 then
      let s1 := seqCoach s q st.tgt fun t => railCmd t st.tgt false
      if s1.comp.status = stOk then seqDone s1 q else s1
    else s)

/-- SEQ_OP_WAIT_PG. -/
def execSeqOpWaitPg (q : Fin 16) (s : State) : Host.Outcome State Fault Refusal :=
  .next (if seqReady s q 3 then
      seqSettle (seqCoach s q (if (seqStep s q).tgt < 0x4C then (seqStep s q).tgt else 0x7F) fun t => (t, stOk)) q 3
    else s)

/-- SEQ_OP_WAIT_TIME: the wait begins. -/
def execSeqOpWaitTime (q : Fin 16) (s : State) : Host.Outcome State Fault Refusal :=
  .next (if seqReady s q 4 then seqIssue s q else s)

/-- SEQ_OP_WAIT_CT: the wait begins; a CT already past completes it. -/
def execSeqOpWaitCt (q : Fin 16) (s : State) : Host.Outcome State Fault Refusal :=
  .next (if seqReady s q 5 then
      if (seqX s q).base + (seqStep s q).arg * 10000 ≤ served s then seqDone s q else seqIssue s q
    else s)

/-- SEQ_OP_OFF_WAIT: the rail is turned off and the monitor enters discharge mode. -/
def execSeqOpOffWait (q : Fin 16) (s : State) : Host.Outcome State Fault Refusal :=
  let st := seqStep s q
  .next (if seqReady s q 6 then
      seqCoach s q st.tgt fun t =>
        let r := railCmd t st.tgt false
        (if r.2 = stOk then monDischarge r.1 st.mon else r.1, r.2)
    else s)

/-- SEQ_OP_ARM: a monitor in discharge mode fails the step with 0x03. -/
def execSeqOpArm (q : Fin 16) (s : State) : Host.Outcome State Fault Refusal :=
  let st := seqStep s q
  .next (if seqReady s q 7 then
      let s1 := seqCoach s q 0x7F fun t =>
        if fget t (MON.STAT.MODE (st.tgt - 0x50)) = 2 then (t, stIllegal) else monArm t (st.tgt - 0x50) (bitOf st.arg 0)
      if s1.comp.status = stOk then seqDone s1 q else s1
    else s)

/-- SEQ_OP_SET_V. -/
def execSeqOpSetV (q : Fin 16) (s : State) : Host.Outcome State Fault Refusal :=
  let st := seqStep s q
  .next (if seqReady s q 8 then
      seqSettle (seqCoach s q st.tgt fun t =>
        if st.tgt < 0x48 then (regVset t (st.tgt - 0x40) (st.arg % 2048), stOk)
        else (loopVset t (st.tgt - 0x48) (st.arg % 8192), stOk)) q 8
    else s)

/-- SEQ_OP_FLT. -/
def execSeqOpFlt (q : Fin 16) (s : State) : Host.Outcome State Fault Refusal :=
  .next (if seqReady s q 9 then
      seqDone (fltUpdate (fsetB s (SEQ.STAT.FLT_HOLD q) (bitOf (seqStep s q).arg 0))) q
    else s)

/-- SEQ_STEP_COMPLETE: the begun step completes where its condition holds; the command itself is the reading below DIS
of an OFF_WAIT. -/
def execSeqStepComplete (q : Fin 16) (s : State) : Host.Outcome State Fault Refusal := .next (stepComplete s q)

/-- SEQ_STEP_TIMEOUT: TMO counted from the start of the step. -/
def execSeqStepTimeout (q : Fin 16) (s : State) : Host.Outcome State Fault Refusal :=
  let st := seqStep s q
  .next (if fget s (SEQ.STAT.STATE q) = 1 ∧ (seqX s q).issued ∧ (st.op = 1 ∨ st.op = 3 ∨ st.op = 6 ∨ st.op = 8) then
      let s1 := passLoc s ((seqX s q).stepAt + st.tmo * 10000)
      if st.op = 6 then raise (seqFail s1 q 4) 0x25F else seqFail s1 q 1
    else s)

/-- SEQ_WAIT_EXPIRY: the nominal instant of a WAIT_TIME or WAIT_CT. -/
def execSeqWaitExpiry (q : Fin 16) (s : State) : Host.Outcome State Fault Refusal :=
  let st := seqStep s q
  let x := seqX s q
  .next (if fget s (SEQ.STAT.STATE q) = 1 ∧ x.issued ∧ st.op = 4 then seqDone (passLoc s (x.stepAt + st.arg * 10000)) q
    else if fget s (SEQ.STAT.STATE q) = 1 ∧ x.issued ∧ st.op = 5 then seqDone (passTo s (x.base + st.arg * 10000)) q
    else s)

/-- MON_ARM_WRITE. -/
def execMonArmWrite (m : Fin 48) (arm : Bool) (s : State) : Host.Outcome State Fault Refusal :=
  .next (atTarget s 0x7F fun t => monArm t m arm)

/-- R305: the comparator bits of monitor `m` with its input above OV, below UV, or neither. In discharge mode BELOW stays 0.
An input at or above a threshold that is itself at or above DIS is not below DIS. -/
def monBits (s : State) (m : Nat) (above below : Bool) : State :=
  let s1 := fsetB (fsetB s (MON.STAT.ABOVE m) above) (MON.STAT.BELOW m) (below && fget s (MON.STAT.MODE m) != 2)
  let floor := if above then fget s (MON.THR.OV m) else fget s (MON.THR.UV m)
  if !below && decide (fget s (MON.THR.DIS m) ≤ floor) then fset s1 (MON.STAT.DIS_BELOW m) 0 else s1

/-- MON_CONDITION: the comparator shows the condition; an armed monitor, and one in discharge mode for over-voltage,
detects it. -/
def execMonCondition (m : Fin 48) (isOver : Bool) (s : State) : Host.Outcome State Fault Refusal :=
  let md := fget s (MON.STAT.MODE m)
  let s1 := monBits s m isOver (!isOver)
  .next (if md = 1 ∨ md = 2 ∧ isOver then
      monEvent { s1 with sqs := { s1.sqs with cond := m.val :: s1.sqs.cond.filter (· != m.val) } } m isOver
    else s1)

/-- MON_CONDITION_CLEAR. -/
def execMonConditionClear (m : Fin 48) (s : State) : Host.Outcome State Fault Refusal :=
  let s1 := monBits s m false false
  .next (fltUpdate { s1 with sqs := { s1.sqs with cond := s1.sqs.cond.filter (· != m.val) } })

/-- SEQ_FLT_EXTERNAL: from step 5 of R50, and only while the part does not drive the pin itself. -/
def execSeqFltExternal (s : State) : Host.Outcome State Fault Refusal :=
  .next (if s.start.running && !fon s SEQ.FLT_STAT.DRIVE && !fon s SEQ.FLT_STAT.EXT then
      let s1 := fltLine (fset (fset s SEQ.FLT_STAT.EXT 1) SEQ.FLT_STAT.EXT_EVT 1)
      seqTrigger (raise s1 0x260) 1
    else s)

/-- SEQ_FLT_EXTERNAL_RELEASE. -/
def execSeqFltExternalRelease (s : State) : Host.Outcome State Fault Refusal :=
  .next (if fon s SEQ.FLT_STAT.EXT then fltLine (fset s SEQ.FLT_STAT.EXT 0) else s)

/-- SEQ_FLT_MIN_EXPIRY. -/
def execSeqFltMinExpiry (s : State) : Host.Outcome State Fault Refusal :=
  .next (fltUpdate { s with sqs := { s.sqs with minHold := false } })

end Sys2Proof.Machine
end

