-- ==== Sys2Proof/Machine/Itin.lean ====
section
/-!
DEFINITION. Machine/Itin.lean: the itinerary, from activation to launch (R354-R367).
-/
namespace Sys2Proof.Machine

/-! ### Entries -/

/-- Word `j` of entry `i`. -/
def itinWord (s : State) (i j : Nat) : Nat := regWord s (0x100000 + 16 * i + 4 * j)

/-- R380: the entries with EN = 1. EN resets to 0, so they are the listed ones. -/
def itinEnabled (s : State) : List Nat :=
  s.regs.filterMap fun e =>
    if 0x100000 * 32 ≤ e.1 ∧ e.1 < 0x120000 * 32 ∧ e.1 % 512 = 415 ∧ e.2 ≠ 0 then some ((e.1 / 32 - 0x100000) / 16) else none

/-- R356: may the action be given this target? -/
def actTgt (act tgt : Nat) : Bool :=
  if act = 1 ∨ act = 2 ∨ act = 3 then decide (tgt < 0x40)
  else if act = 8 ∨ act = 9 then decide (0x40 ≤ tgt ∧ tgt < 0x4C)
  else if act = 0x10 then decide (0x80 ≤ tgt ∧ tgt < 0x90)
  else if act = 0x18 then tgt == 0x90
  else if act = 0x20 then tgt == 0x98
  else if act = 0x28 then tgt == 0x9C || tgt == 0x9D
  else (act == 0x30 || act == 0x38 || act == 0x40 || act == 0x41 || act == 0x42) && tgt == 0

/-- R356: has the argument no reserved bit and no reserved encoding? -/
def actArg (act tgt arg : Nat) : Bool :=
  if act = 1 then decide (arg % 0x8000 ≤ 4)
  else if act = 2 then decide (arg < 0x2000)
  else if act = 8 then decide (arg < 2)
  else if act = 9 then decide (arg < (if tgt < 0x48 then 0x800 else 0x2000))
  else if act = 0x20 then decide (arg / 0x1000 ≤ 9)
  else if act = 0x28 then arg % 0x1000 == 0 && decide (arg / 0x1000 ≤ 7)
  else if act = 0x30 then decide (arg < 16)
  else if act = 0x10 ∨ act = 0x41 ∨ act = 0x42 then arg == 0
  else true

/-- R355: is an entry with these words valid with EN = 1? -/
def entValid (w1 w2 w3 : Nat) : Bool :=
  let act := bitsOf w2 31 24
  let tgt := bitsOf w2 23 16
  let timed := bitsOf w3 26 11 != 0 || bitsOf w3 10 0 != 0
  actTgt act tgt && actArg act tgt (bitsOf w2 15 0) && bitsOf w1 10 8 == 0 &&
    !(bitOf w3 30 && (timed || bitOf w1 11)) && !(bitOf w3 29 && !bitOf w3 30 && bitsOf w1 7 0 == 0) &&
    !(bitsOf w3 26 11 == 0 && bitsOf w3 10 0 != 0)

/-- The action of entry `i`. -/
def entAct (s : State) (i : Nat) : Nat := fget s (ITIN.W2.ACT i)

/-- The target code of entry `i`. -/
def entTgt (s : State) (i : Nat) : Nat := fget s (ITIN.W2.TGT i)

/-- The argument of entry `i`. -/
def entArg (s : State) (i : Nat) : Nat := fget s (ITIN.W2.ARG i)

/-- The convoy of entry `i`. -/
def entConv (s : State) (i : Nat) : Nat := fget s (ITIN.W1.CONVOY i)

/-- Is entry `i` a chain-wide convoy member's? -/
def entChain (s : State) (i : Nat) : Bool := fon s (ITIN.W3.CHAIN i)

/-- ITIN_ST.STATE of entry `i` (R390). -/
def entState (s : State) (i : Nat) : Nat := fget s (TIME.ITIN_ST.STATE i)

/-- LAUNCH of entry `i` in ns. -/
def entLaunch (s : State) (i : Nat) : Nat := fget s (ITIN.W0.LAUNCH_LO i) + 2 ^ 32 * fget s (ITIN.W1.LAUNCH_HI i)

/-- R358: the late window of entry `i` in ns. -/
def entWin (s : State) (i : Nat) : Nat := 10000 * 2 ^ fget s (ITIN.W1.WIN i)

/-- R359: the period of entry `i` in ns; periods above 1 h are taken as 1 h. -/
def entPer (s : State) (i : Nat) : Nat :=
  min 3600000000000 (fget s (ITIN.W3.PER i) * [10000, 1000000, 100000000, 1000000000].getD (fget s (ITIN.W3.PUNIT i)) 0)

/-- R354: the actions that use no slot. -/
def actNoSlot (act : Nat) : Bool := decide (0x30 ≤ act)

/-- R360: the unique CT whose low 48 bits are LAUNCH in (now - W, now - W + 2^48]. -/
def entResolve (s : State) (i now : Nat) : Nat :=
  let base : Int := (now : Int) - entWin s i
  let d := ((entLaunch s i : Int) - base) % (2 ^ 48 : Nat)
  (base + (if d = 0 then ((2 ^ 48 : Nat) : Int) else d)).toNat

/-! ### Admission -/

/-- R362: is the action a turn-on? -/
def entTurnOn (s : State) (i : Nat) : Bool :=
  (entAct s i == 1 && entArg s i % 8 != 0) || (entAct s i == 8 && entArg s i == 1)

/-- R362: is the target already running? -/
def tgtRuns (s : State) (tgt : Nat) : Bool :=
  if tgt < 0x40 then chDriven s tgt
  else if tgt < 0x48 then decide (2 ≤ regState s (tgt - 0x40) ∧ regState s (tgt - 0x40) ≤ 5)
  else decide (3 ≤ loopState s (tgt - 0x48) ∧ loopState s (tgt - 0x48) ≤ 6)

/-- R200, R263: does a code raise the target? -/
def tgtRaises (s : State) (tgt code : Nat) : Bool :=
  if tgt < 0x48 then
    let r := tgt - 0x40
    isBuck r && decide (1 ≤ regState s r ∧ regState s r ≤ 5 ∧ fget s (REG.VSET.VTGT r) < regCode r code)
  else
    let n := tgt - 0x48
    decide (1 ≤ loopState s n ∧ loopState s n ≤ 6 ∧ fget s (LOOP.VREF.VTGT n) < vsetCode code)

/-- R399: what entry `i` asks of the ledger, as its chapter names it; none where it needs no admission (R362). -/
def entAsk (s : State) (i : Nat) : Option Nat :=
  let tgt := entTgt s i
  let arg := entArg s i
  let act := entAct s i
  if act = 1 ∨ act = 8 then
    if !entTurnOn s i || tgtRuns s tgt then none
    else if tgt < 0x40 then some (fget s (CHN.LEDG.RESV_MW tgt))
    else if tgt < 0x48 then some (regR s (tgt - 0x40) (regCode (tgt - 0x40) (fget s (REG.VSET.VSET (tgt - 0x40)))))
    else some (loopR s (tgt - 0x48) (vsetCode (fget s (LOOP.VSET.VSET (tgt - 0x48)))))
  else if act = 9 then
    if !tgtRaises s tgt arg then none
    else if tgt < 0x48 then some (regR s (tgt - 0x40) (regCode (tgt - 0x40) arg) - regR s (tgt - 0x40) (fget s (REG.VSET.VTGT (tgt - 0x40))))
    else some (loopR s (tgt - 0x48) (vsetCode arg) - loopR s (tgt - 0x48) (fget s (LOOP.VREF.VTGT (tgt - 0x48))))
  else if act = 0x20 then
    let new := min (iccMa s) (max 10 (arg % 0x1000 * 10))
    if arg / 0x1000 = 3 ∧ chgCharging (chgState s) ∧ s.chg.it < new then some (chgR s new - chgR s s.chg.it) else none
  else if act = 0x28 then
    let n := tgt - 0x9C
    if arg / 0x1000 = 1 ∧ pdSources s n ∧ pdState s n = 0 then some (pdLevel s n (fget s (PD.CFG.RP_DEF n))) else none
  else none

/-- R424: the target index whose consumer entry `i` draws on. -/
def entConsumer (s : State) (i : Nat) : Nat :=
  let tgt := entTgt s i
  if tgt = 0x98 then 0x50 else if tgt = 0x9C then 0x52 else if tgt = 0x9D then 0x53
  else if 0x80 ≤ tgt then 0x7F else tgt

/-! ### Completion -/

/-- R390: the state, result and reason of entry `i`. -/
def entShow (s : State) (i st result reason : Nat) : State :=
  fset (fset (fset s (TIME.ITIN_ST.STATE i) st) (TIME.ITIN_ST.RESULT i) result) (TIME.ITIN_ST.REASON i) reason

/-- R361: entry `i` gives back the reservation it holds. -/
def entRelease (s : State) (i : Nat) : State :=
  let e := ent s i
  release (setEnt s i { e with held := 0, got := false }) (entConsumer s i) e.held

/-- R361: the request outstanding for entry `i` is withdrawn; the other entries of its convoy stay requested. -/
def entWithdraw (s : State) (i : Nat) : State :=
  let mine : ReqKind → Bool := fun k => match k with
    | .entries l => l == [i]
    | _ => false
  let s1 := withdraw s mine
  let mw := (ent s i).ask.getD 0
  { s1 with ldg := { s1.ldg with reqs := s1.ldg.reqs.map fun r => match r.kind with
      | .entries l => if l.contains i then { r with kind := .entries (l.filter (· != i)), mw := r.mw - mw } else r
      | _ => r } }

/-- The slot of entry `i` is freed. -/
def entFree (s : State) (i : Nat) : State :=
  let s1 := { s with slots := s.slots.filter fun x => x.entry != i }
  setEnt s1 i { ent s1 i with waitSlot := false }

/-- R368: the ARM_ID under which entry `i` is held; 0 for a CHAIN = 0 entry. -/
def entArm (s : State) (i : Nat) : Nat :=
  if entChain s i then
    match s.cvy.member.find? fun m => m.conv == entConv s i with
    | some m => m.armId
    | none => 0
  else 0

/-- R642: the journal record of a launch. -/
def entJournal (s : State) (i result reason : Nat) : State :=
  journal s 0x08 i (0xE0 + result) reason
    [entConv s i * 2 ^ 16 + entArg s i, fget s (TIME.ITIN_ST.LAG i), entArm s i]

/-- R530: the launch that the gauge has asked for completes. -/
def gaugeJudge (s : State) (i result : Nat) : State :=
  if s.gau.reqOut ∧ fget s GAUGE.REF.REFENT = i then
    let s1 := { s with gau := { s.gau with reqOut := false } }
    if result = 1 ∨ result = 3 then s1 else raise (fset s1 GAUGE.EVT.REQ_FAIL 1) 0x23C
  else s

/-- R361, R367: a launch of entry `i` completes: its slot is freed, its reservation goes unless the launch keeps it, and
the entry goes on to its next launch or ends. `fired` is S, where the launch fired. -/
def entDone (s : State) (i result reason : Nat) (keep : Bool) (fired : Option Nat) : State :=
  let s1 := entFree s i
  let s2 := if keep then setEnt s1 i { ent s1 i with held := 0, got := false } else entRelease s1 i
  let s3 := if result = 2 then fset s2 TIME.ITIN_EVT.REFUSED 1 else s2
  let e := ent s3 i
  let k := e.k + 1
  let per := entPer s3 i
  let rep := fget s3 (ITIN.W3.REPEAT i)
  let s4 :=
    if entChain s3 i && !e.gone then
      entShow (setEnt s3 i { e with k := 0, ask := none, moved := false, fired := fired.isSome }) i 1 result reason
    else if e.gone || per == 0 || (rep != 0x7FF && decide (rep < k)) then
      entShow (fset (setEnt s3 i {}) (ITIN.W3.EN i) 0) i 5 result reason
    else
      let t := e.nominal + per
      let placed := match fired with
        | some x => max t (x + per * 3 / 4)
        | none => t
      entShow (setEnt s3 i { k := k, nominal := t, placed := placed }) i 1 result reason
  gaugeJudge (entJournal s4 i result reason) i result

/-- A launch of entry `i` ends without firing. -/
def entEnd (s : State) (i result reason : Nat) : State :=
  entDone (fset s (TIME.ITIN_ST.LAG i) 0) i result reason false none

/-- R363, R369: a launch is missed. -/
def entMissed (s : State) (i : Nat) : State :=
  let chain := entChain s i
  let s1 := finc s TIME.ITIN_CNT.MISSED
  let s2 := if chain then fset s1 TIME.CVY_EVT.MISS 1 else fset s1 TIME.ITIN_EVT.MISS 1
  raise (entEnd s2 i 4 0) (if chain then 0x26D else 0x26B)

/-! ### Slots and preparation -/

/-- R354: is there a free slot for the target code? -/
def slotFree (s : State) (tgt : Nat) : Bool :=
  decide (s.slots.length < 512) && decide ((s.slots.filter fun x => x.tgt == tgt).length < 4)

/-- R363, R369: is it too late to load entry `i`? -/
def entTooLate (s : State) (i : Nat) : Bool :=
  let e := ent s i
  if entChain s i then decide (e.nominal < served s) else e.k == 0 && decide (e.nominal + entWin s i < served s)

/-- R354, R363, R362: a prepared action is loaded into a slot, waits for one, or is missed. In the safe state no slot is
loaded (R574). -/
def entLoad (s : State) (i : Nat) : State :=
  let loaded (t : State) : State := fset (setEnt t i { ent t i with waitSlot := false }) (TIME.ITIN_ST.STATE i) 4
  if safe s || actNoSlot (entAct s i) then loaded s
  else if entTooLate s i then entMissed s i
  else if targetDown s (entConsumer s i) then entEnd s i 8 0
  else if slotFree s (entTgt s i) then
    let t := max (ent s i).placed (served s)
    loaded { s with slots := s.slots ++ [⟨entTgt s i, i, t⟩] }
  else fset (setEnt s i { ent s i with waitSlot := true }) (TIME.ITIN_ST.STATE i) 2

/-- R387: what CVY_STAT shows of local convoy `c`. -/
def locShow (s : State) (c st reason : Nat) : State :=
  if c = 0 then s
  else
    { s with cvy := { s.cvy with
        loc := (s.cvy.loc.filter fun x => x.conv != c) ++ [{ conv := c, st := st, reason := reason }] } }

/-- R362: entries that are admitted, or need no admission, are loaded; a tentative local convoy is held. -/
def entAdmitted (s : State) (l : List Nat) : State :=
  let take (t : State) (i : Nat) : State := setEnt t i { ent t i with held := (ent t i).ask.getD 0, got := (ent t i).ask.isSome }
  let s1 := l.foldl take s
  let c := entConv s (l.headD 0)
  if l.any (fun i => fon s (ITIN.W3.TENT i)) && !l.any (fun i => (ent s i).commit) then
    locShow (l.foldl (fun t i => fset t (TIME.ITIN_ST.STATE i) 3) s1) c 2 0
  else l.foldl entLoad (locShow s1 c 3 0)

/-- R362: the entries of a refused request. -/
def entRefused (s : State) (l : List Nat) (code : Nat) : State :=
  l.foldl (fun t i => entEnd t i 2 code) (locShow s (entConv s (l.headD 0)) 5 1)

/-- R362: the entries that are prepared with entry `i`: those of its local convoy. -/
def entGroup (s : State) (i : Nat) : List Nat :=
  if entConv s i = 0 then [i]
  else (itinEnabled s).filter fun j =>
    !entChain s j && entConv s j == entConv s i && entState s j == 1 && (ent s j).nominal == (ent s i).nominal &&
      !actNoSlot (entAct s j)

/-- The entries `l` ask for admission: the sum of what they ask, or none where none needs admission. -/
def askSum (s : State) (l : List Nat) : Option Nat :=
  l.foldl (fun a i => match (ent s i).ask with
    | some m => some (a.getD 0 + m)
    | none => a) none

/-- R362: preparation of the local convoy or the single entry `l`. -/
def entPrepare (s : State) (l : List Nat) : State :=
  let s1 := l.foldl (fun t i => fset (setEnt t i { ent t i with ask := entAsk t i }) (TIME.ITIN_ST.STATE i) 2) s
  match askSum s1 l with
  | some mw => request (locShow s1 (entConv s (l.headD 0)) 1 0) (.entries l) mw
  | none => entAdmitted s1 l

/-- R379: the preparation lead in ns. -/
def itinLead (s : State) : Nat := max 30 (fget s TIME.ITIN_CFG.LEAD) * 1000

/-! ### Activation and withdrawal -/

/-- R360: entry `i` with EN = 1 is activated at this instant. -/
def entActivate (s : State) (i : Nat) : State :=
  let now := served s
  let t := if fon s (ITIN.W1.REL i) then now + entLaunch s i else entResolve s i now
  let s1 := fset (setEnt (entFree s i) i { nominal := t, placed := t }) (TIME.ITIN_ST.LAG i) 0
  entShow s1 i 1 0 0

/-- R361: entry `i` is withdrawn, its EN now 0. Less than 1 µs before a loaded launch it is open whether the withdrawal
prevents it. -/
def entWithdrawn (s : State) (i : Nat) : State :=
  let e := ent s i
  let late := entState s i == 4 && decide (e.placed < served s + 1000)
  let r := if late then drawBool s else (true, s)
  let s1 := setEnt r.2 i { ent r.2 i with gone := true }
  if r.1 then entEnd (entWithdraw s1 i) i 5 0 else s1

/-- The fields of W3 of entry `i` take a word. -/
def entW3 (s : State) (i w : Nat) : State :=
  let s1 := fset (fset (fset s (ITIN.W3.EN i) (bitsOf w 31 31)) (ITIN.W3.CHAIN i) (bitsOf w 30 30)) (ITIN.W3.TENT i) (bitsOf w 29 29)
  fset (fset (fset s1 (ITIN.W3.PUNIT i) (bitsOf w 28 27)) (ITIN.W3.PER i) (bitsOf w 26 11)) (ITIN.W3.REPEAT i) (bitsOf w 10 0)

/-- R360, R361: a write of W3. Before step 5 of R50 a valid activation is stored, and takes place at step 5. -/
def itinWriteW3 (s : State) (i w : Nat) : State × Nat :=
  if fon s (ITIN.W3.EN i) then
    if bitOf w 31 then (s, stIllegal) else (entWithdrawn (entW3 s i w) i, stOk)
  else if bitOf w 31 then
    if entValid (itinWord s i 1) (itinWord s i 2) w then
      let s1 := entW3 s i w
      (if s.start.running then entActivate s1 i else s1, stOk)
    else (s, stIllegal)
  else (entW3 s i w, stOk)

/-- R360: step 5 of R50: every entry with EN = 1 is activated. -/
def itinStart (s : State) : State := (itinEnabled s).foldl entActivate s

/-! ### Launch -/

/-- R367, R381, R382: what a fired launch with lag `lag` (ns) records, and whether the lag is over its limit. -/
def entLag (s : State) (i lag : Nat) : State × Bool :=
  let u := min 0xFFFF (lag / 100)
  let s1 := fset s (TIME.ITIN_ST.LAG i) u
  let s2 := if lag = 0 then s1 else finc s1 TIME.ITIN_CNT.LATE
  let s3 := if fget s TIME.ITIN_WORST.LAG < u then fset (fset s2 TIME.ITIN_WORST.LAG u) TIME.ITIN_WORST.INDEX i else s2
  let lim := fget s TIME.ITIN_CFG.LAG_LIMIT
  if lim ≠ 0 ∧ lim * 100 < lag then (fset (finc s3 TIME.ITIN_CNT.LIMIT_EXC) TIME.ITIN_EVT.LAG_FLT 1, true) else (s3, false)

/-- R366: the result that a status code gives. -/
def entResult (status : Nat) (late : Bool) : Nat :=
  if status = stOk then (if late then 3 else 1) else if status = stIllegal then 7 else if status = stPreempted then 6
  else if status = stLost ∨ status = stDown then 8 else 7

/-- R362: a turn-on that was loaded without admission finds its target no longer running; a raise loaded without
admission would now need it (R22). -/
def entUnadmitted (s : State) (i : Nat) : Bool :=
  (ent s i).ask.isNone && ((entTurnOn s i && !tgtRuns s (entTgt s i)) || (entAct s i == 9 && tgtRaises s (entTgt s i) (entArg s i)))

/-- Does the launch keep the reservation its entry holds? A turn-on keeps it where the target came to run by it, as a
run-ahead channel did. -/
def entKeeps (before after : State) (i status : Nat) : Bool :=
  if status ≠ stOk then false
  else if entTurnOn before i then
    tgtRuns after (entTgt before i) && (!tgtRuns before (entTgt before i) || (entAct before i == 1 && bitOf (entArg before i) 15))
  else true

/-- R354, R363, R367, R601: the launch of entry `i`, loaded with action `act`, at its instant: `f` is what the strobe does. -/
def entFire (s : State) (i act : Nat) (f : State → State × Nat) : State :=
  if entState s i = 4 ∧ entAct s i = act ∧ (fon s (ITIN.W3.EN i) ∨ (ent s i).gone) then
    let e := ent s i
    let s1 := passTo s e.placed
    let now := served s1
    let late := e.k == 0 && !entChain s i && decide (e.nominal < now)
    if safe s then entEnd s1 i 7 0
    else if stage s1 = 4 then entMissed s1 i
    else if late && decide (e.nominal + entWin s i < now) then entMissed s1 i
    else
      let l := entLag s1 i (if e.moved then 0 else now - e.nominal)
      let r := if entUnadmitted l.1 i then (l.1, stIllegal) else f l.1
      let s2 := entDone r.1 i (entResult r.2 late) 0 (entKeeps l.1 r.1 i r.2) (some now)
      if l.2 then raise s2 0x26C else s2
  else s

/-- The strobe of a MODE action. -/
def strobeMode (i : Nat) (s : State) : State × Nat := chCommand s (entTgt s i) (entArg s i % 8) true

/-- The strobe of a DUTY action. -/
def strobeDuty (i : Nat) (s : State) : State × Nat := (fset s (CHN.PWM_DUTY.DUTY (entTgt s i)) (entArg s i), stOk)

/-- The strobe of a CREG action. -/
def strobeCreg (i : Nat) (s : State) : State × Nat := (fset s (CHN.CREG.TARGET_MA (entTgt s i)) (entArg s i), stOk)

/-- The strobe of an ENABLE action. -/
def strobeEnable (i : Nat) (s : State) : State × Nat :=
  let t := entTgt s i
  if t < 0x48 then regStrobeEn s (t - 0x40) (entArg s i == 1) else loopStrobeEn s (t - 0x48) (entArg s i == 1)

/-- The strobe of a VSET action. -/
def strobeVset (i : Nat) (s : State) : State × Nat :=
  let t := entTgt s i
  if t < 0x48 then regStrobeV s (t - 0x40) (entArg s i) else loopStrobeV s (t - 0x48) (entArg s i)

/-- The strobe of a SEQ action: T_base is the launch CT (R278). -/
def strobeSeq (i : Nat) (s : State) : State × Nat := seqStart s (entTgt s i - 0x80) (ent s i).placed false

/-- The strobe of an ADC_TRIG action: OK where at least one sequence started (R451). -/
def strobeAdc (i : Nat) (s : State) : State × Nat :=
  let r := adcCommon s (adcMask (entArg s i))
  (r.1, if r.2 then stOk else stIllegal)

/-- The strobe of a CHG action. -/
def strobeChg (i : Nat) (s : State) : State × Nat :=
  chgCommand s (entArg s i / 0x1000) (entArg s i % 0x1000) (ent s i).ask.isSome

/-- The strobe of a PORT action. -/
def strobePort (i : Nat) (s : State) : State × Nat :=
  pdCommand s (entTgt s i - 0x9C) (entArg s i / 0x1000) (ent s i).ask.isSome

/-! ### Steps and the first acquisition of CT -/

/-- R365: a loaded slot whose launch has moved is freed and loaded again. -/
def entReload (s : State) (i : Nat) : State := if entState s i = 4 then entLoad (entFree s i) i else s

/-- The first instant of the schedule `a + j * p`, j a whole number, that is not earlier than `now`. -/
def scheduleFrom (a p now : Nat) : Nat := now + (((a : Int) - now) % (atLeast1 p : Nat)).toNat

/-- The entries whose next launch has not fired and is resolved in the time served. -/
def entTimed (s : State) : List Nat := (itinEnabled s).filter fun i => !entChain s i && entState s i != 0 && entState s i != 5

/-- R364: a step of `d` ns that users see. -/
def itinStep (s : State) (d : Int) : State :=
  let move (t : State) (i : Nat) : State :=
    let e := ent t i
    if fon t (ITIN.W1.REL i) then
      entReload (setEnt t i { e with nominal := ((e.nominal : Int) + d).toNat, placed := ((e.placed : Int) + d).toNat, moved := true }) i
    else if e.k = 0 then setEnt t i { e with moved := true }
    else
      let n := scheduleFrom e.nominal (entPer t i) (served t)
      entReload (setEnt t i { e with nominal := n, placed := n, moved := true }) i
  (entTimed s).foldl move s

/-- R365: the first acquisition of CT: the local timebase read `l` at the instant at which CT is the served time. -/
def itinAcquire (s : State) (l : Nat) : State :=
  let move (t : State) (i : Nat) : State :=
    let e := ent t i
    let c := served t
    let n := if fon t (ITIN.W1.REL i) then ((c : Int) + ((e.nominal : Int) - l)).toNat
      else if e.k = 0 then entResolve t i c
      else scheduleFrom (entResolve t i c) (entPer t i) c
    entReload (setEnt t i { e with nominal := n, placed := n, moved := true }) i
  (entTimed s).foldl move s

/-- R403: the shed level `c` now stands: the entries that hold a reservation of a class that `hit` names by target index
complete REFUSED in place of their next launch; a member's do not fire. -/
def itinShed (s : State) (hit : Nat → Bool) : State :=
  let drop (t : State) (i : Nat) : State :=
    if (ent t i).got && hit (entConsumer t i) && !(ent t i).fired then
      let u := entEnd t i 2 4
      if entChain u i then setEnt u i { ent u i with skip := true } else u
    else t
  (itinEnabled s).foldl drop s

/-! ### The commands -/

/-- ITIN_ACTIVATE: the W3 write. -/
def execItinActivate (i : Fin 8192) (w3 : Word) (s : State) : Host.Outcome State Fault Refusal :=
  .next (let r := itinWriteW3 s i w3.toNat; complete r.1 r.2)

/-- ITIN_WITHDRAW: the W3 write that clears EN and keeps the word's other fields. -/
def execItinWithdraw (i : Fin 8192) (s : State) : Host.Outcome State Fault Refusal :=
  .next (let r := itinWriteW3 s i (itinWord s i 3 % 2 ^ 31); complete r.1 r.2)

/-- ITIN_PREPARE: the preparation of a CHAIN = 0 launch, LEAD before it (R362). -/
def execItinPrepare (i : Fin 8192) (s : State) : Host.Outcome State Fault Refusal :=
  .next (byEngine s 1 (if s.start.running ∧ fon s (ITIN.W3.EN i) ∧ !entChain s i ∧ entState s i = 1 then
    let s1 := passTo s ((ent s i).placed - itinLead s)
    if safe s || actNoSlot (entAct s i) then fset s1 (TIME.ITIN_ST.STATE i) 4 else entPrepare s1 (entGroup s1 i)
  else s))

/-- ITIN_SLOT_LOAD: an entry that waits for a slot is loaded once one is free (R354). -/
def execItinSlotLoad (i : Fin 8192) (s : State) : Host.Outcome State Fault Refusal :=
  .next (byEngine s 1 (if (ent s i).waitSlot then entLoad s i else s))

/-- ITIN_LAUNCH_MISSED: a launch not yet loaded is past its late window, or a member's past its launch CT (R363, R369). -/
def execItinLaunchMissed (i : Fin 8192) (s : State) : Host.Outcome State Fault Refusal :=
  .next (byEngine s 1 (if entState s i = 2 ∧ (entChain s i ∨ (ent s i).k = 0) ∧ !safe s then
    let t := (ent s i).nominal + if entChain s i then 1 else entWin s i + 1
    entMissed (entWithdraw (passTo s t) i) i
  else s))

/-- The entries of local convoy `c` in the states that `p` names. -/
def locEntries (s : State) (c : Nat) (p : Nat → Bool) : List Nat :=
  if c = 0 then []
  else (itinEnabled s).filter fun i => !entChain s i && entConv s i == c && p (entState s i) && !actNoSlot (entAct s i)

/-- LOCAL_CONVOY_NO_COMMIT: the launch CT of a held local convoy has come (R362). -/
def execLocalConvoyNoCommit (c : BitVec 8) (s : State) : Host.Outcome State Fault Refusal :=
  let l := locEntries s c.toNat (· == 3)
  .next (byEngine s 1 (match l with
    | [] => s
    | i :: is =>
      let t := is.foldl (fun m j => min m (ent s j).nominal) (ent s i).nominal
      let s1 := passTo s t
      (l.filter fun j => decide ((ent s j).nominal ≤ served s1)).foldl (fun u j => entEnd u j 9 0) (locShow s1 c.toNat 5 3)))

/-- ITIN_ACT_MODE. -/
def execItinActMode (i : Fin 8192) (s : State) : Host.Outcome State Fault Refusal := .next (wireNightStop (entFire s i 0x01 (strobeMode i)))

/-- ITIN_ACT_DUTY. -/
def execItinActDuty (i : Fin 8192) (s : State) : Host.Outcome State Fault Refusal := .next (entFire s i 0x02 (strobeDuty i))

/-- ITIN_ACT_CREG. -/
def execItinActCreg (i : Fin 8192) (s : State) : Host.Outcome State Fault Refusal := .next (entFire s i 0x03 (strobeCreg i))

/-- ITIN_ACT_ENABLE. -/
def execItinActEnable (i : Fin 8192) (s : State) : Host.Outcome State Fault Refusal := .next (entFire s i 0x08 (strobeEnable i))

/-- ITIN_ACT_VSET. -/
def execItinActVset (i : Fin 8192) (s : State) : Host.Outcome State Fault Refusal := .next (entFire s i 0x09 (strobeVset i))

/-- ITIN_ACT_SEQ. -/
def execItinActSeq (i : Fin 8192) (s : State) : Host.Outcome State Fault Refusal := .next (entFire s i 0x10 (strobeSeq i))

/-- ITIN_ACT_ADC_TRIG. -/
def execItinActAdcTrig (i : Fin 8192) (s : State) : Host.Outcome State Fault Refusal := .next (entFire s i 0x18 (strobeAdc i))

/-- ITIN_ACT_CHG. -/
def execItinActChg (i : Fin 8192) (s : State) : Host.Outcome State Fault Refusal := .next (entFire s i 0x20 (strobeChg i))

/-- ITIN_ACT_PORT. -/
def execItinActPort (i : Fin 8192) (s : State) : Host.Outcome State Fault Refusal := .next (entFire s i 0x28 (strobePort i))

/-- ITIN_ACT_SHED (R403). -/
def execItinActShed (i : Fin 8192) (s : State) : Host.Outcome State Fault Refusal :=
  .next (entFire s i 0x30 fun t => setShedLevel t (entArg t i))

/-- ITIN_ACT_MARK: the marker record of R642. -/
def execItinActMark (i : Fin 8192) (s : State) : Host.Outcome State Fault Refusal :=
  .next (entFire s i 0x38 fun t => (journal t 0x0F i 0xE0 0 [entArg t i], stOk))

end Sys2Proof.Machine
end

