-- ==== Sys2Proof/Machine/Convoy.lean ====
section
/-!
DEFINITION. Machine/Convoy.lean: chain-wide convoys, on the head and on each member, and commands of local ones
(R368-R372, R385).
-/
namespace Sys2Proof.Machine

/-- The record of convoy `c` in a list. -/
def cvyFind (l : List Cvy) (c : Nat) : Option Cvy := l.find? fun x => x.conv == c

/-- The record of its convoy put into a list. -/
def cvyPut (l : List Cvy) (x : Cvy) : List Cvy := l.filter (fun y => y.conv != x.conv) ++ [x]

/-- The head's record put. -/
def headPut (s : State) (x : Cvy) : State := { s with cvy := { s.cvy with head := cvyPut s.cvy.head x } }

/-- The member's record put. -/
def memberPut (s : State) (x : Cvy) : State := { s with cvy := { s.cvy with member := cvyPut s.cvy.member x } }

/-- R388: a committed convoy is LAUNCHED from its launch CT on. -/
def cvySt (s : State) (x : Cvy) : Nat := if x.st = 3 ∧ x.launch ≤ served s then 4 else x.st

/-- R384: the commit guard in ns. -/
def cvyGuard (s : State) : Nat := max 20 (fget s TIME.CVY_CFG.GUARD) * 1000

/-- R384: the least arm lead in ns. -/
def cvyLead (s : State) : Nat := max 200 (fget s TIME.CVY_CFG.MIN_LEAD) * 1000

/-- LNK.REACH as a map of units. -/
def reachMap (s : State) : Nat := (List.range 32).foldl (fun m u => m + (if fon s (LNK.REACH u) then 2 ^ u else 0)) 0

/-! ### The member -/

/-- The enabled CHAIN = 1 entries of convoy `c`. -/
def cvyEntries (s : State) (c : Nat) : List Nat := (itinEnabled s).filter fun i => entChain s i && entConv s i == c

/-- R356: the run-ahead entries of convoy `c`. -/
def cvyRunAhead (s : State) (c : Nat) : List Nat :=
  (cvyEntries s c).filter fun i => entAct s i == 1 && bitOf (entArg s i) 15 && entArg s i % 8 != 0

/-- R368: the run-ahead channels that are off enter PRE within the convoy's reservation. -/
def cvyRun (s : State) (c : Nat) : State :=
  (cvyRunAhead s c).foldl (fun t i =>
    let n := entTgt t i
    if chStartable (chState t n) && !chModeIllegal t n 4 then chEnter (fset t (CHN.CTL.MODE n) 4) n 8 else t) s

/-- R370, R112: every run-ahead pre-charge of convoy `c` stops. -/
def cvyStop (s : State) (c : Nat) : State :=
  (cvyRunAhead s c).foldl (fun t i =>
    let n := entTgt t i
    if chState t n = 8 then chPreEnd t n (CHN.EVT.PRE_STOP n) else t) s

/-- R370, R372: the member's state for convoy `c` is released: requests, reservations, slots and run-ahead; the entries
that have not fired return to WAIT with a result. -/
def memberRelease (s : State) (c result reason : Nat) : State :=
  let mine : ReqKind → Bool := fun k => match k with
    | .member d => d == c
    | _ => false
  let s1 := withdraw s mine
  let l := (cvyEntries s1 c).filter fun i => !(ent s1 i).fired
  let s2 := l.foldl (fun t i => entFree (entRelease t i) i) s1
  l.foldl (fun t i => entEnd t i result reason) (cvyStop s2 c)

/-- R370, R371: the member acts on a cancel of the arm it holds. -/
def memberAct (s : State) (m : Cvy) (reason : Nat) : State :=
  memberRelease (memberPut (fset s TIME.CVY_EVT.CANCEL 1) { m with st := 5, reason := reason }) m.conv 5 reason

/-- R370, R372: a CONVOY_CANCEL; the flag says that the member acted on it. -/
def memberCancel (s : State) (c armId reason : Nat) : State × Bool :=
  match (s.cvy.member.find? fun m => m.conv == c && m.armId == armId) with
  | none => (fset s TIME.CVY_EVT.ORPHAN 1, false)
  | some m =>
    if m.st = 5 then (s, false)
    else if (cvyEntries s c).any fun i => (ent s i).fired then (fset s TIME.CVY_EVT.LATE_CANCEL 1, false)
    else (memberAct s m reason, true)

/-- R368, R369: a CONVOY_COMMIT: the member loads its entries for the launch CT. -/
def memberCommit (s : State) (c armId launch : Nat) : State :=
  match (s.cvy.member.find? fun m => m.conv == c && m.armId == armId) with
  | none => fset s TIME.CVY_EVT.ORPHAN 1
  | some m =>
    if m.st ≠ 1 then s
    else
      let s1 := memberPut s { m with st := 3, launch := launch }
      let l := (cvyEntries s1 c).filter fun i => !(ent s1 i).skip
      l.foldl (fun t i =>
        let x := launch + entLaunch t i
        entLoad (setEnt t i { ent t i with nominal := x, placed := x, k := 0, fired := false }) i) s1

/-! ### The head -/

/-- R368, R371: the head cancels convoy `x`, itself as a member included. -/
def cvyCancel (s : State) (x : Cvy) (reason : Nat) : State :=
  let s1 := headPut (fset s TIME.CVY_EVT.CANCEL 1) { x with st := 5, reason := reason }
  let s2 := send s1 { typ := 0x33, bc := true, pay := [x.armId * 2 ^ 16 + reason * 2 ^ 8 + x.conv] }
  let s3 := if (cvyFind s2.cvy.member x.conv).isSome then (memberCancel s2 x.conv x.armId reason).1 else s2
  raise s3 0x26E

/-- R368: the head commits convoy `x`, itself as a member included. -/
def cvyCommit (s : State) (x : Cvy) (launch : Nat) : State :=
  let s1 := headPut s { x with st := 3, launch := launch }
  let s2 := send s1 { typ := 0x32, bc := true, pay := (x.armId * 2 ^ 16 + x.conv) :: ctWords launch }
  if (cvyFind s2.cvy.member x.conv).isSome then memberCommit s2 x.conv x.armId launch else s2

/-- R368: the head records an acknowledgement. -/
def cvyAck (s : State) (src c result armId : Nat) : State :=
  match s.cvy.head.find? fun x => x.conv == c && x.armId == armId && x.st == 1 && bitOf x.members src with
  | none => s
  | some x =>
    if result ≠ 0 then cvyCancel s x 1
    else
      let y := { x with acks := x.acks ||| 2 ^ src }
      if y.acks &&& y.members ≠ y.members then headPut s y
      else if y.tent then headPut s { y with st := 2 }
      else cvyCommit s y y.launch

/-- R368, R574: a member acknowledges; an accepting acknowledgement starts its run-ahead. In the safe state it sends none. -/
def memberAck (s : State) (c result mw : Nat) : State :=
  match cvyFind s.cvy.member c with
  | none => s
  | some m =>
    if safe s || m.st != 1 then s
    else
      let s1 := if result = 0 then cvyRun s c else s
      if isHead s then cvyAck s1 (myAddr s1) c result m.armId
      else send s1 { typ := 0x31, dst := 0, pay := [m.armId * 2 ^ 16 + result * 2 ^ 8 + c, mw % 2 ^ 32] }

/-- R368: the request of a member for convoy `c` is decided. -/
def memberAnswer (s : State) (c code : Nat) : State :=
  let l := cvyEntries s c
  let mw := (askSum s l).getD 0
  let s1 := if code = 0 then l.foldl (fun t i => setEnt t i { ent t i with held := (ent t i).ask.getD 0, got := (ent t i).ask.isSome }) s else s
  memberAck s1 c code mw

/-- R370: does the arm held still stand: not cancelled, and not launched with no entry left to fire? -/
def memberHolds (s : State) (m : Cvy) : Bool :=
  let st := cvySt s m
  st == 1 || st == 3 || (st == 4 && (cvyEntries s m.conv).any fun i => !(ent s i).fired && 2 ≤ entState s i && entState s i ≤ 4)

/-- R370: what a new arm of a convoy does to the arm held; the flag says that the member acted as on a cancel. -/
def memberReplace (s : State) (c armId : Nat) : State × Bool :=
  match cvyFind s.cvy.member c with
  | some m => if m.armId ≠ armId ∧ memberHolds s m then (memberAct s m 6, true) else (s, false)
  | none => (s, false)

/-- R368: a member takes an arm: it asks for its entries as one request, and acknowledges where it can at once. -/
def memberTake (s : State) (c armId launch members : Nat) : State :=
  let s1 := memberPut s { conv := c, armId := armId, launch := launch, members := members, st := 1 }
  let l := cvyEntries s1 c
  let s2 := l.foldl (fun t i => setEnt t i { ent t i with ask := entAsk t i, fired := false, skip := false }) s1
  let mw := (askSum s2 l).getD 0
  if safe s then s2
  else if !hasCT s2 then memberAck s2 c 0x09 mw
  else if fon s2 TOP.STATUS.CFG_DEFAULTS then memberAck s2 c 0x0A mw
  else match askSum s2 l with
    | some w => request s2 (.member c) w
    | none => memberAck s2 c 0 0

/-- R368, R370: a CONVOY_ARM at a unit. The same ARM_ID a second time has no effect. -/
def memberArm (s : State) (c armId launch members : Nat) : State :=
  if !addressed s || !bitOf members (myAddr s) || s.cvy.member.any (fun m => m.conv == c && m.armId == armId) then s
  else
    let r := memberReplace s c armId
    let s1 := memberTake r.1 c armId launch members
    if r.2 then raise s1 0x26E else s1

/-- R368: the full form of Noon. -/
def fullNoon (s : State) : Bool := stage s == 2 && !fon s TOP.STATUS.CFG_DEFAULTS && !fon s TOP.STATUS.SOLO

/-- Convoys in ARMING, HELD or COMMITTED. -/
def cvyArmed (s : State) (x : Cvy) : Bool := decide (1 ≤ cvySt s x ∧ cvySt s x ≤ 3)

/-- R368: an arm at the instant `at_`. -/
def cvyArm (s : State) (c : Nat) (tent : Bool) (launch members at_ : Nat) : State × Nat :=
  let armed := s.cvy.head.filter (cvyArmed s)
  if !isHead s || !fullNoon s || armed.any (fun x => x.conv == c) || decide (16 ≤ armed.length) || decide (launch < at_ + cvyLead s) then
    (s, stIllegal)
  else
    let id := s.cvy.nextArm
    let s1 := headPut s { conv := c, armId := id, tent := tent, launch := launch, members := members, st := 1 }
    let s2 := { s1 with cvy := { s1.cvy with nextArm := id % 0xFFFF + 1 } }
    let w := [id * 2 ^ 16 + b2n tent * 2 ^ 8 + c] ++ ctWords launch ++ [members]
    (memberArm (send s2 { typ := 0x30, bc := true, pay := w }) c id launch members, stOk)

/-- R368: a commit of convoy `c`, with a later launch CT or 0. A convoy that is not HELD, or past its commit instant,
cannot be committed. -/
def cvyCommitCmd (s : State) (c launch : Nat) : State × Nat :=
  match cvyFind s.cvy.head c with
  | some x =>
    if !isHead s || x.st != 2 || decide (launch ≠ 0 ∧ launch < x.launch) || decide (x.launch < served s + cvyGuard s) then (s, stIllegal)
    else (cvyCommit s x (if launch = 0 then x.launch else launch), stOk)
  | none => (s, stIllegal)

/-- R371: a cancel of convoy `c`. -/
def cvyCancelCmd (s : State) (c : Nat) : State × Nat :=
  match cvyFind s.cvy.head c with
  | some x =>
    if !isHead s || !cvyArmed s x || (x.st == 3 && decide (x.launch < served s + cvyGuard s)) then (s, stIllegal)
    else (cvyCancel s x 5, stOk)
  | none => (s, stIllegal)

/-- R372: the units of `mask` have left REACH (`left`) or have sent JOINED: a convoy not yet committed is cancelled with
reason 0x04; a member that leaves after the commit makes it PARTIAL. -/
def cvyLost (s : State) (mask : Nat) (left : Bool) : State :=
  if isHead s then
    s.cvy.head.foldl (fun t x =>
      if x.members &&& mask = 0 then t
      else if x.st = 1 ∨ x.st = 2 then cvyCancel t x 4
      else if left && cvySt t x == 3 then raise (fset t TIME.CVY_EVT.PARTIAL 1) 0x26F
      else t) s
  else s

/-- R372: a member that becomes detached before the commit releases its state; its entries complete DETACHED. -/
def cvyDetach (s : State) : State :=
  if isHead s then s
  else
    (s.cvy.member.filter fun m => m.st == 1).foldl (fun t m =>
      let u := memberRelease t m.conv 0xA 0
      { u with cvy := { u.cvy with member := u.cvy.member.filter fun y => y.conv != m.conv } }) s

/-! ### Local convoys -/

/-- R385, R362: a commit of local convoy `c`. -/
def locCommit (s : State) (c : Nat) : State × Nat :=
  let l := locEntries s c fun st => st == 2 || st == 3
  if l = [] then (s, stIllegal)
  else (l.foldl (fun t i => if entState t i = 3 then entLoad t i else setEnt t i { ent t i with commit := true }) (locShow s c 3 0), stOk)

/-- R385, R371: a cancel of local convoy `c`. -/
def locCancel (s : State) (c : Nat) : State × Nat :=
  let l := locEntries s c fun st => st == 2 || st == 3
  if l = [] then (s, stIllegal)
  else (l.foldl (fun t i => entEnd (entWithdraw t i) i 5 5) (locShow s c 5 5), stOk)

/-! ### The commands -/

/-- ITIN_ACT_ARM: the members are every unit in REACH (R356, R368). -/
def execItinActArm (i : Fin 8192) (s : State) : Host.Outcome State Fault Refusal :=
  .next (entFire s i 0x40 fun t =>
    let a := (ent t i).placed
    cvyArm t (entConv t i) (fon t (ITIN.W3.TENT i)) (a + entArg t i * 10000) (reachMap t) a)

/-- ITIN_ACT_COMMIT. -/
def execItinActCommit (i : Fin 8192) (s : State) : Host.Outcome State Fault Refusal :=
  .next (entFire s i 0x41 fun t => cvyCommitCmd t (entConv t i) 0)

/-- ITIN_ACT_CANCEL. -/
def execItinActCancel (i : Fin 8192) (s : State) : Host.Outcome State Fault Refusal :=
  .next (entFire s i 0x42 fun t => cvyCancelCmd t (entConv t i))

/-- CVY_CMD as a register write: its LOCAL form and its chain-wide form. -/
def cvyCmd (s : State) (cmd c : Nat) (tent loc : Bool) : State × Nat :=
  let launch := fget64 s TIME.CVY_LAUNCH_LO.CT TIME.CVY_LAUNCH_HI.CT
  if cmd = 0 then (s, stOk)
  else if cmd = 1 then
    if loc then (s, stIllegal)
    else
      let m := fget s TIME.CVY_MEMB.MAP
      cvyArm s c tent launch (if m = 0 then reachMap s else m) (served s)
  else if cmd = 2 then (if loc then locCommit s c else cvyCommitCmd s c launch)
  else (if loc then locCancel s c else cvyCancelCmd s c)

/-- CVY_CMD_ARM. -/
def execCvyCmdArm (rq : Fin 24) (c : BitVec 8) (tent loc : Bool) (s : State) : Host.Outcome State Fault Refusal :=
  .next (asCoach s rq 0x7F 0x80054 fun t => let r := cvyCmd t 1 c.toNat tent loc; (r.1, r.2, []))

/-- CVY_CMD_COMMIT. -/
def execCvyCmdCommit (rq : Fin 24) (c : BitVec 8) (loc : Bool) (s : State) : Host.Outcome State Fault Refusal :=
  .next (asCoach s rq 0x7F 0x80054 fun t => let r := cvyCmd t 2 c.toNat false loc; (r.1, r.2, []))

/-- CVY_CMD_CANCEL. -/
def execCvyCmdCancel (rq : Fin 24) (c : BitVec 8) (loc : Bool) (s : State) : Host.Outcome State Fault Refusal :=
  .next (asCoach s rq 0x7F 0x80054 fun t => let r := cvyCmd t 3 c.toNat false loc; (r.1, r.2, []))

/-- CONVOY_ARM_RX: on a unit other than the head, which sends it. -/
def execConvoyArmRx (c : BitVec 8) (_tent : Bool) (armId : BitVec 16) (launch : BitVec 64) (members : Word) (s : State) :
    Host.Outcome State Fault Refusal :=
  .next (byEngine s 1 (if isHead s then s else memberArm s c.toNat armId.toNat launch.toNat members.toNat))

/-- CONVOY_ACK_RX: the head takes an acknowledgement. -/
def execConvoyAckRx (src : Fin 32) (c : BitVec 8) (result : BitVec 8) (armId : BitVec 16) (_resv : Word) (s : State) :
    Host.Outcome State Fault Refusal :=
  .next (byEngine s 1 (if isHead s then cvyAck s src c.toNat result.toNat armId.toNat else s))

/-- CONVOY_ACK_DEADLINE: the deadline of a convoy in ARMING (R368). -/
def execConvoyAckDeadline (c : BitVec 8) (s : State) : Host.Outcome State Fault Refusal :=
  .next (byEngine s 1 (match cvyFind s.cvy.head c.toNat with
    | some x => if isHead s && x.st == 1 then cvyCancel (passTo s (x.launch - cvyGuard s - 10000)) x 2 else s
    | none => s))

/-- CONVOY_HELD_EXPIRY: a convoy still HELD at LAUNCH_CT - GUARD (R368). -/
def execConvoyHeldExpiry (c : BitVec 8) (s : State) : Host.Outcome State Fault Refusal :=
  .next (byEngine s 1 (match cvyFind s.cvy.head c.toNat with
    | some x => if isHead s && x.st == 2 then cvyCancel (passTo s (x.launch - cvyGuard s)) x 3 else s
    | none => s))

/-- CONVOY_COMMIT_RX. -/
def execConvoyCommitRx (c : BitVec 8) (armId : BitVec 16) (launch : BitVec 64) (s : State) : Host.Outcome State Fault Refusal :=
  .next (byEngine s 1 (if isHead s then s else memberCommit s c.toNat armId.toNat launch.toNat))

/-- CONVOY_CANCEL_RX: a member that acts on it raises CVY_CANCEL (R371). -/
def execConvoyCancelRx (c : BitVec 8) (reason : BitVec 8) (armId : BitVec 16) (s : State) : Host.Outcome State Fault Refusal :=
  .next (byEngine s 1 (if isHead s then s else
    let r := memberCancel s c.toNat armId.toNat reason.toNat
    if r.2 then raise r.1 0x26E else r.1))

end Sys2Proof.Machine
end

