-- ==== Sys2Proof/Machine/Admit.lean ====
section
/-!
DEFINITION. Machine/Admit.lean: the power ledger: sources, consumers, the ledger frame and chain-wide feeds (R391-R421).

A consumer is named by its index 0-127 in the ledger section, or by 128 + its target index where it has no entry (R395).
-/
namespace Sys2Proof.Machine

/-! ### Sources and consumers -/

/-- R424, R398: the target index of a consumer entry. -/
def consTgt (e : ConsE) : Nat :=
  if e.typ = 1 then e.inst else if e.typ = 2 then 0x48 + e.inst else if e.typ = 3 then 0x40 + e.inst
  else if e.typ = 4 then 0x50 else 0x52 + e.inst

/-- The consumer of the target at index `tgt`. -/
def consOf (s : State) (tgt : Nat) : Nat :=
  match s.ldg.cons.findIdx? fun e => consTgt e == tgt with
  | some i => i
  | none => 128 + tgt

/-- The entry of a listed consumer. -/
def consE (s : State) (c : Nat) : ConsE := s.ldg.cons.getD c ⟨0, 0, 0, 15, 0, 0, 255, 0, 1000⟩

/-- The target index of consumer `c`. -/
def consTarget (s : State) (c : Nat) : Nat := if c < 128 then consTgt (consE s c) else c - 128

/-- Every consumer: the listed ones and the targets without an entry that count. -/
def consAll (s : State) : List Nat := List.range s.ldg.cons.length ++ s.ldg.unlisted.map fun u => 128 + u.tgt

/-- The record of a target without an entry. -/
def unlistedOf (s : State) (c : Nat) : Unlisted :=
  (s.ldg.unlisted.find? fun u => 128 + u.tgt == c).getD ⟨c - 128, 0, 0⟩

/-- The record of a target without an entry put; one that is IDLE is dropped. -/
def unlistedPut (s : State) (u : Unlisted) : State :=
  let l := s.ldg.unlisted.filter fun x => x.tgt != u.tgt
  { s with ldg := { s.ldg with unlisted := if u.st = 0 then l else l ++ [u] } }

/-- R393: the ledger state of a consumer by what it holds: 0 IDLE, 3 RESERVED, 4 RUNNING. -/
def consSt (s : State) (c : Nat) : Nat :=
  if c < 128 then (let v := fget s (LEDG.CONS.CFG.STATE c); if v < 3 then 0 else v) else (unlistedOf s c).st

/-- RSV of a consumer. -/
def consRsv (s : State) (c : Nat) : Int := if c < 128 then fgetI s (LEDG.CONS.RSV.MW c) else 0

/-- DRAW of a consumer. -/
def consDraw (s : State) (c : Nat) : Nat := if c < 128 then fget s (LEDG.CONS.DRAW.MW c) else (unlistedOf s c).draw

/-- The ledger state and RSV of a consumer set. -/
def consPut (s : State) (c st : Nat) (rsv : Int) : State :=
  if c < 128 then fsetI (fset s (LEDG.CONS.CFG.STATE c) st) (LEDG.CONS.RSV.MW c) rsv
  else unlistedPut s { unlistedOf s c with st := st }

/-- DRAW of a consumer set. -/
def consPutDraw (s : State) (c d : Nat) : State :=
  if c < 128 then fset s (LEDG.CONS.DRAW.MW c) (min d 0x7FFFFFFF)
  else if (unlistedOf s c).st = 0 then s else unlistedPut s { unlistedOf s c with draw := d }

/-- R400: what requests in WAIT_HEAD hold at a consumer. -/
def consHold (s : State) (c : Nat) : Nat :=
  s.ldg.reqs.foldl (fun n r => r.held.foldl (fun m e => if e.1 = c then m + e.2 else m) n) 0

/-- R393: CLAIM of a consumer. -/
def consClaim (s : State) (c : Nat) : Int :=
  let base : Int := if consSt s c = 3 then consRsv s c
    else if consSt s c = 4 then max (consDraw s c : Int) (quotOpen ((consRsv s c).toNat * (consE s c).keep) 100 : Nat)
    else 0
  base + consHold s c

/-- R397: is the target a privileged channel? -/
def privileged (s : State) (tgt : Nat) : Bool := decide (tgt < 64) && fon s (CHN.CFG.PRIV_ACT tgt)

/-- The lowest-numbered valid source of a kind. -/
def srcOfKind (s : State) (k : Nat) : Option Nat := s.ldg.srcs.findIdx? fun e => e.valid && e.kind == k

/-- R391, R397, R493, R395: the source that a consumer draws from. -/
def consSrc (s : State) (c : Nat) : Option Nat :=
  let tgt := consTarget s c
  let own := if c < 128 then (consE s c).src else 0
  if privileged s tgt && decide (c < 128) then some ((srcOfKind s 3).getD own)
  else if tgt = 0x50 ∧ chgState s = 0xC then srcOfKind s 3
  else if tgt = 0x50 ∧ fget s CHG.STAT.INSEL = 2 then srcOfKind s 4
  else some own

/-- R395, R397: the class of a consumer. -/
def consCls (s : State) (c : Nat) : Nat :=
  if privileged s (consTarget s c) then 0 else if c < 128 then (consE s c).cls else 15

/-- R396: the parent of a consumer. -/
def consParent (s : State) (c : Nat) : Option Nat :=
  if decide (128 ≤ c) || privileged s (consTarget s c) || (consE s c).parent == 255 then none else some (consE s c).parent

/-- R393, R396, R499: CLAIM of a source, the support claim included. -/
def srcClaim (s : State) (i : Nat) : Int :=
  let own := (consAll s).filter fun c => (consParent s c).isNone && consSrc s c == some i
  own.foldl (fun n c => n + consClaim s c) (if srcOfKind s 3 = some i then (s.ldg.sup : Int) else 0)

/-- Σ DRAW of a source's consumers. -/
def srcDraw (s : State) (i : Nat) : Nat :=
  ((consAll s).filter fun c => (consParent s c).isNone && consSrc s c == some i).foldl (fun n c => n + consDraw s c) 0

/-- The source entry. -/
def srcE (s : State) (i : Nat) : SrcE := s.ldg.srcs.getD i ⟨0, false, false, 0, 0, 0⟩

/-- The common feeds that valid sources name. -/
def chainFeeds (s : State) : List Nat :=
  (List.range 16).filter fun f => s.ldg.srcs.any fun e => e.valid && e.chain && e.feed == f

/-- R394, R601: the ledger mode. In Night a unit that holds its shares reads Detached; one that holds none keeps its mode
(assumption 70). -/
def ledgMode (s : State) : Nat :=
  if !s.start.running then 0
  else if fon s TOP.STATUS.CFG_DEFAULTS then 5
  else if fon s TOP.STATUS.SOLO then 4
  else if chainFeeds s ≠ [] ∧ (chainFeeds s).all (fun f => fon s (LEDG.FEED.STAT.VALID f)) then
    if fon s LNK.STAT.ATTACHED && stage s != 4 then 2 else 3
  else 1

/-- R392, R394: AVAIL of a source. -/
def srcAvail (s : State) (m i : Nat) : Int :=
  let e := srcE s i
  if !e.valid then 0
  else if (e.kind = 1 ∧ !fon s TOP.SUPPLY.VIN48) ∨ (e.kind = 2 ∧ !fon s TOP.SUPPLY.VIN12) then 0
  else if e.chain then
    if m = 2 ∨ m = 3 then min (e.limit : Int) (fgetI s (LEDG.FEED.SHARE.MW e.feed)) else min e.limit e.solo
  else if e.kind = 3 then (min e.limit (packFigure s) : Nat)
  else if e.kind = 4 then (min e.limit (solarFigure s) : Nat)
  else if e.kind = 5 then (min e.limit (pdX s 1).sinkMw : Nat)
  else if e.kind = 6 then (min e.limit (supportFigure s) : Nat)
  else (e.limit : Nat)

/-- AVAIL as this frame computed it. -/
def avail (s : State) (i : Nat) : Int := fgetI s (LEDG.SRC.AVAIL.MW i)

/-- R392: every AVAIL is recomputed. -/
def updateAvail (s : State) : State :=
  let m := ledgMode s
  (List.range s.ldg.srcs.length).foldl (fun t i => fsetI t (LEDG.SRC.AVAIL.MW i) (srcAvail t m i)) s

/-! ### Claims -/

/-- R393: what the block of a target reports: `some true` running, `some false` off, shed, tripped or latched. -/
def tgtReport (s : State) (tgt : Nat) : Option Bool :=
  if tgt < 0x40 then
    let st := chState s tgt
    if 5 ≤ st ∧ st ≤ 7 then some true
    else if st = 4 ∨ st = 8 ∨ (st = 0xD ∧ (chan s tgt).kept) then none
    else some false
  else if tgt < 0x48 then
    let st := regState s (tgt - 0x40)
    if st = 3 then some true else if st = 2 ∨ st = 4 ∨ st = 5 then none else some false
  else if tgt < 0x4C then
    let st := loopState s (tgt - 0x48)
    if st = 4 then some true else if st = 2 ∨ st = 3 ∨ st = 5 ∨ st = 6 then none else some false
  else if tgt = 0x50 then
    some (chgCharging (chgState s) || chgState s == 0xB || chgState s == 0xC)
  else
    some (pdState s (tgt - 0x52) == 4 || pdState s (tgt - 0x52) == 6)

/-- The itinerary entries that hold a reservation of the target. -/
def entHolders (s : State) (tgt : Nat) : List Nat :=
  (itinEnabled s).filter fun i => entConsumer s i == tgt && (ent s i).got

/-- R361: what itinerary entries hold of the target, in mW. -/
def entHeld (s : State) (tgt : Nat) : Nat := (entHolders s tgt).foldl (fun n i => n + (ent s i).held) 0

/-- R361, R409: a release is taken off its consumer; one that is RESERVED and holds nothing more is IDLE. -/
def takeRelease (s : State) (e : Nat × Nat) : State :=
  let c := consOf s e.1
  let v := max 0 (consRsv s c - (e.2 : Int))
  if consSt s c = 3 then
    if c < 128 then consPut s c (if v = 0 then 0 else 3) v else if entHolders s e.1 = [] then consPut s c 0 0 else s
  else if consSt s c = 4 then consPut s c 4 v
  else s

/-- R200, R263: the reservation of a running loop or buck that does not slew is R at its target, beside what entries hold.
R496, R498, R499: in HOLD and SUPPORT the charger's own reservation is released. -/
def settleRsv (s : State) (c tgt : Nat) : State :=
  if 0x40 ≤ tgt ∧ tgt < 0x44 ∧ c < 128 ∧ !regSlewing s (tgt - 0x40) then
    consPut s c 4 (regR s (tgt - 0x40) (fget s (REG.VSET.VTGT (tgt - 0x40))) + entHeld s tgt : Nat)
  else if 0x48 ≤ tgt ∧ tgt < 0x4C ∧ c < 128 ∧ !fon s (LOOP.STAT.SLEWING (tgt - 0x48)) then
    consPut s c 4 (loopR s (tgt - 0x48) (fget s (LOOP.VREF.VTGT (tgt - 0x48))) + entHeld s tgt : Nat)
  else if tgt = 0x50 ∧ !chgCharging (chgState s) then consPut s c 4 (entHeld s tgt : Nat)
  else s

/-- R393: the state of a consumer follows its block. -/
def consFollow (s : State) (c : Nat) : State :=
  let tgt := consTarget s c
  match tgtReport s tgt with
  | some true => settleRsv (consPut s c 4 (consRsv s c)) c tgt
  | some false =>
    if consSt s c < 3 then s
    else if entHolders s tgt = [] then consPut (consPutDraw s c 0) c 0 0
    else consPut (consPutDraw s c 0) c 3 (entHeld s tgt : Nat)
  | none => s

/-- R393: DRAW in mW of the figures measured since the last frame: EFF of a loop or regulator in per mille. -/
def drawOf (s : State) (c tgt sum n : Nat) : Nat :=
  if tgt < 0x40 then quotOpen sum (n * 8192000000)
  else if tgt < 0x4C then quotOpen sum (n * 1000 * (consE s c).eff)
  else quotOpen sum n

/-- R393: DRAW of a consumer; without a new measurement it keeps the previous one. -/
def consMeasure (s : State) (c : Nat) : State :=
  let tgt := consTarget s c
  let m := tabGet (fun _ => (0, 0)) s.ldg.meas tgt
  if consSt s c = 0 ∨ m.2 = 0 then s else consPutDraw s c (drawOf s c tgt m.1 m.2)

/-- R272: the measured output voltage and current of a regulator, whose product goes to the ledger in nW. -/
def regMeasured (s : State) (e : (Nat × Nat) × Nat) : State :=
  measure (fset (fset s (REG.MEAS.VOUT_MV e.2) (min e.1.1 0xFFFF)) (REG.MEAS.I_MA e.2) (min e.1.2 0xFFFF)) (0x40 + e.2) (e.1.1 * e.1.2 * 1000)

/-- The measured output of a port and the input power of its converter in mW. -/
def portMeasured (s : State) (e : (Nat × Nat × Nat) × Nat) : State :=
  measure (fset (fset s (PD.MEAS.VBUS_MV e.2) (min e.1.1 0xFFFF)) (PD.MEAS.I_MA e.2) (min e.1.2.1 0xFFFF)) (0x52 + e.2) e.1.2.2

/-- R393: new DRAW and state changes from blocks. -/
def updateClaims (s : State) (regMeas : List (Nat × Nat)) (portMeas : List (Nat × Nat × Nat)) : State :=
  let s1 := (portMeas.zipIdx.take 2).foldl portMeasured ((regMeas.zipIdx.take 8).foldl regMeasured s)
  let s2 := measure s1 0x50 (if chgState s1 = 0xC then 0 else fget s1 CHG.MEAS_IN.PIN_DW * 100)
  let s3 := s2.ldg.rel.foldl takeRelease s2
  let s4 := (consAll s3).foldl consFollow { s3 with ldg := { s3.ldg with rel := [] } }
  let s5 := (consAll s4).foldl consMeasure s4
  { s5 with ldg := { s5.ldg with meas := [] } }

/-! ### Requests -/

/-- R399: the targets of a request and what falls on each; the support claim falls on no consumer (R499). -/
def reqParts (s : State) (r : Req) : List (Nat × Nat) :=
  let of (l : List Nat) : List (Nat × Nat) := l.filterMap fun i => ((ent s i).ask).map fun m => (entConsumer s i, m)
  match r.kind with
  | .chan n _ => [(n, r.mw)]
  | .loopOn n => [(0x48 + n, r.mw)]
  | .loopRaise n _ => [(0x48 + n, r.mw)]
  | .regOn n => [(0x40 + n, r.mw)]
  | .regRaise n _ => [(0x40 + n, r.mw)]
  | .charge _ _ => [(0x50, r.mw)]
  | .support => [(0x50, r.mw)]
  | .port n _ => [(0x52 + n, r.mw)]
  | .entries l => of l
  | .member c => of (cvyEntries s c)

/-- The consumers of a request. -/
def reqCons (s : State) (r : Req) : List Nat := (reqParts s r).map fun e => consOf s e.1

/-- The least of a list, or a value where it is empty. -/
def leastOf (d : Nat) : List Nat → Nat
  | [] => d
  | a :: l => l.foldl min a

/-- The class by which a request is ordered and its KEEP_MW taken: the lowest of its consumers' (assumption 40). -/
def reqCls (s : State) (r : Req) : Nat := leastOf 0 ((reqCons s r).map (consCls s))

/-- The consumer that a refusal records: the lowest listed one. -/
def reqIdx (s : State) (r : Req) : Nat := leastOf 0x7F ((reqCons s r).filter fun c => decide (c < 128))

/-- R399: does request `a` come before `b`? -/
def reqBefore (s : State) (a b : Req) : Bool :=
  let ka := (reqCls s a, a.arrival, reqIdx s a)
  let kb := (reqCls s b, b.arrival, reqIdx s b)
  decide (ka.1 < kb.1 ∨ (ka.1 = kb.1 ∧ (ka.2.1 < kb.2.1 ∨ (ka.2.1 = kb.2.1 ∧ ka.2.2 < kb.2.2))))

/-- An element put before the first that it comes before. -/
def insertBy {α : Type} (before : α → α → Bool) (x : α) : List α → List α
  | [] => [x]
  | y :: l => if before x y then x :: y :: l else y :: insertBy before x l

/-- A list sorted, equal elements in their order. -/
def sortBy {α : Type} (before : α → α → Bool) (l : List α) : List α := l.foldl (fun t x => insertBy before x t) []

/-- R410: a journal record of the ledger: consumer, event, code, amount and feed. -/
def ledgJournal (s : State) (c event code : Nat) (mw : Int) (f : Nat) : State :=
  journal s 0x09 (if c < 128 then c else 0xFFFF) event code [ofSigned 32 mw, f, shedLevel s]

/-- The request leaves the queue. -/
def reqDrop (s : State) (r : Req) : State := { s with ldg := { s.ldg with reqs := s.ldg.reqs.erase r } }

/-- What an admitted request's owner does. -/
def reqAdmitted (s : State) (r : Req) : State :=
  match r.kind with
  | .chan n _ => chAdmitted s n
  | .loopOn n => loopAdmitted s n
  | .loopRaise n c => loopRaised s n c
  | .regOn n => regAdmitted s n
  | .regRaise n c => regRaised s n c
  | .charge a b => chgAdmitted s (.charge a b)
  | .support => chgAdmitted s .support
  | .port n _ => pdAdmitted s n r.mw
  | .entries l => entAdmitted s l
  | .member c => memberAnswer s c 0

/-- What a refused request's owner does; a sequence's step on that target fails (R279). -/
def reqRefused (s : State) (r : Req) (code : Nat) : State :=
  match r.kind with
  | .chan n _ => seqRefused (chRefused s n code) n
  | .loopOn n => seqRefused (loopRefused s n code) (0x48 + n)
  | .loopRaise n _ => seqRefused (loopRaiseRefused s n code) (0x48 + n)
  | .regOn n => seqRefused (regRefused s n code) (0x40 + n)
  | .regRaise n _ => seqRefused (regRaiseRefused s n code) (0x40 + n)
  | .charge a b => chgRefused s (.charge a b) code
  | .support => chgRefused s .support code
  | .port n _ => pdRefused s n code
  | .entries l => entRefused s l code
  | .member c => memberAnswer s c code

/-- R399: a part of an admitted request at its consumer: RESERVED, or a raise of what it holds. -/
def consAdmit (zero : Bool) (s : State) (e : Nat × Nat) : State :=
  let c := consOf s e.1
  let mw : Int := if zero || decide (128 ≤ c) then 0 else (e.2 : Nat)
  if consSt s c = 0 then consPut s c 3 mw else consPut s c (consSt s c) (consRsv s c + mw)

/-- R399: a request is admitted; in Defaults mode with RSV 0 (R395). -/
def admitReq (s : State) (r : Req) : State :=
  let s1 := reqDrop (finc s LEDG.CNT.ADMIT) r
  let s2 := if r.kind = .support then s1 else (reqParts s r).foldl (consAdmit (ledgMode s == 5)) s1
  reqAdmitted s2 r

/-- R399, R410, R416: a request is refused. -/
def refuse (s : State) (r : Req) (code : Nat) : State :=
  let s1 := finc (fset (reqDrop s r) LEDG.EVT.REFUSED 1) LEDG.CNT.REFUSE
  let s2 := fset (fset s1 LEDG.LAST.REASON code) LEDG.LAST.CONS (reqIdx s r)
  reqRefused (ledgJournal s2 (leastOf 128 (reqCons s r)) 0 code (r.mw : Nat) 0) r code

/-! ### Common feeds -/

/-- What the part holds of common feed `f` beside its registers. -/
def feedX (s : State) (f : Nat) : FeedX := tabGet (fun _ => {}) s.ldg.feeds f

/-- What the part holds of common feed `f` beside its registers, replaced. -/
def setFeedX (s : State) (f : Nat) (x : FeedX) : State :=
  { s with ldg := { s.ldg with feeds := tabPut (fun _ => {}) s.ldg.feeds f x } }

/-- R412: the borrowing quantum in mW. -/
def quantMw (s : State) : Nat := atLeast1 (fget s LEDG.CHAIN.QUANT_W) * 1000

/-- The feed entry of feed `f`; a feed without one has TOTAL_MW 0 and every BASE_MW 0 (R405). -/
def feedEntry (s : State) (f : Nat) : Option FeedE := s.ldg.feedsE.find? fun e => e.feed == f

/-- A mW quantity of the ledger section, a signed 32-bit count (R391). -/
def mwOf (v : Nat) : Int := toSigned 32 v

/-- BASE_MW of unit `u` on feed `f`. -/
def feedBase (s : State) (f u : Nat) : Int :=
  match feedEntry s f with
  | some e => mwOf (e.base.getD u 0)
  | none => 0

/-- R406: the share of feed `f` is `mw`, and BORROW follows. -/
def setShare (s : State) (f : Nat) (mw : Int) : State :=
  let base := if isHead s then feedBase s f 0 else ((feedX s f).base.getD mw)
  let s1 := fsetI (fsetI s (LEDG.FEED.SHARE.MW f) mw) (LEDG.FEED.BORROW.MW f) (mw - base)
  fset s1 (LEDG.FEED.STAT.VALID f) 1

/-- R405: GRANT of unit `u` on feed `f`. -/
def grantOf (s : State) (f u : Nat) : Int := fgetI s (LEDG.GRANT.MW f u)

/-- R405: POOL of feed `f`. -/
def poolOf (s : State) (f : Nat) : Int :=
  (List.range 32).foldl (fun n u => n - grantOf s f u) (match feedEntry s f with
    | some e => mwOf e.total
    | none => 0)

/-- SHARE_GEN of unit `u` on feed `f` at the head. -/
def genOf (s : State) (f u : Nat) : Nat := tabGet (fun _ => 0) s.ldg.gens (32 * f + u)

/-- R405: the grant of unit `u` on feed `f` changes: SHARE_GEN increments, the pool follows, and the head's own share. -/
def setGrant (s : State) (f u : Nat) (mw : Int) : State :=
  if grantOf s f u = mw then s
  else
    let g := (genOf s f u + 1) % 65536
    let s1 := fsetI { s with ldg := { s.ldg with gens := tabPut (fun _ => 0) s.ldg.gens (32 * f + u) g } } (LEDG.GRANT.MW f u) mw
    let s2 := fsetI s1 (LEDG.FEED.POOL.MW f) (poolOf s1 f)
    if u = 0 then fset (setShare s2 f mw) (LEDG.FEED.STAT.SHARE_GEN f) g else s2

/-- R405: the share of unit `u` on feed `f` is sent to it. -/
def sendShare (s : State) (f u : Nat) : State :=
  if u = 0 ∨ (feedEntry s f).isNone then s
  else send s { typ := 0x40, dst := u, pay := [genOf s f u * 2 ^ 16 + f, ofSigned 32 (grantOf s f u)] }

/-- Does the head resynchronise feed `f` for unit `u` (R407)? -/
def resyncing (s : State) (f u : Nat) : Bool := s.ldg.resync.contains (32 * f + u)

/-- R413: the head's STAT.SYNC. -/
def syncShow (s : State) : State := fsetB s LEDG.STAT.SYNC (s.ldg.resync != [])

/-- R407: the head begins to resynchronise every feed for the units `us`, announced by broadcast or to each. -/
def resyncBegin (s : State) (us : List Nat) (bc : Bool) : State :=
  let one (t : State) (e : FeedE) : State :=
    let keys := us.map fun u => 32 * e.feed + u
    let t1 := { t with ldg := { t.ldg with resync := t.ldg.resync.filter (fun k => !keys.contains k) ++ keys } }
    if bc then send t1 { typ := 0x40, bc := true, pay := [e.feed, 0xFFFFFFFF] }
    else us.foldl (fun v u => send v { typ := 0x40, dst := u, pay := [e.feed, 0xFFFFFFFF] }) t1
  syncShow (s.ldg.feedsE.foldl one s)

/-- R407: the resynchronisation of feed `f` for unit `u` ends with a grant. -/
def resyncEnd (s : State) (f u : Nat) (mw : Int) : State :=
  let s1 := { s with ldg := { s.ldg with resync := s.ldg.resync.filter (· != 32 * f + u) } }
  let s2 := sendShare (setGrant (syncShow s1) f u mw) f u
  if poolOf s2 f < 0 then raise (fset s2 LEDG.EVT.FEED_NEG 1) 0x274 else s2

/-- R405, R407: units have entered the head's REACH: one that was there before gets its shares, one that enters for the
first time since the head's reset is resynchronised. -/
def ledgReach (s : State) (entered : List Nat) : State :=
  if isHead s then
    let new := entered.filter fun u => u != 0 && !s.ldg.met.contains u
    let old := entered.filter fun u => u != 0 && s.ldg.met.contains u
    let s1 := s.ldg.feedsE.foldl (fun t e => old.foldl (fun v u => if resyncing v e.feed u then v else sendShare v e.feed u) t) s
    if new = [] then s1
    else resyncBegin { s1 with ldg := { s1.ldg with met := s1.ldg.met ++ new, fresh := false } } new s1.ldg.fresh
  else s

/-- R407: the head has accepted a JOINED from unit `u`. -/
def ledgJoined (s : State) (u : Nat) : State :=
  resyncBegin { s with ldg := { s.ldg with met := s.ldg.met.filter (· != u) ++ [u] } } [u] false

/-- R405: the head's grants at its entry to the chain stage. -/
def ledgHeadStart (s : State) : State :=
  let base (f : Nat) (t : State) (u : Nat) : State := fsetI t (LEDG.GRANT.MW f u) (feedBase t f u)
  let one (t : State) (f : Nat) : State :=
    let t1 := (List.range 32).foldl (base f) t
    setShare (fsetI t1 (LEDG.FEED.POOL.MW f) (poolOf t1 f)) f (feedBase t1 f 0)
  (List.range 16).foldl (fun t f => if (chainFeeds t).contains f || (feedEntry t f).isSome then one t f else t) s

/-- The next REQ_ID. -/
def takeReqId (s : State) : Nat × State :=
  (s.ldg.nextReq, { s with ldg := { s.ldg with nextReq := s.ldg.nextReq % 65535 + 1 } })

/-- R400, R401: a LEDG_RESV is sent and outstanding; the second result is its REQ_ID. -/
def sendResv (s : State) (f mw : Nat) (rel : Bool) : State × Nat :=
  let r := takeReqId s
  let s1 := fset (setFeedX r.2 f { feedX r.2 f with out := some (r.1, mw, rel) }) (LEDG.FEED.STAT.WAIT f) 1
  (send s1 { typ := 0x41, dst := 0, pay := [b2n rel * 2 ^ 20 + f * 2 ^ 16 + r.1, mw % 2 ^ 32] }, r.1)

/-- R400: a grant is added to the share and to BORROW. -/
def addGrant (s : State) (f : Nat) (mw : Int) : State :=
  ledgJournal (setShare s f (fgetI s (LEDG.FEED.SHARE.MW f) + mw)) 128 0xE0 0 mw f

/-! ### Decisions -/

/-- R399: what falls on each source of the parts that draw on one: listed consumers without a parent. -/
def needOf (s : State) (r : Req) : List (Nat × Nat) :=
  let put (l : List (Nat × Nat)) (i mw : Nat) : List (Nat × Nat) :=
    if l.any fun e => e.1 == i then l.map fun e => if e.1 = i then (i, e.2 + mw) else e else l ++ [(i, mw)]
  (reqParts s r).foldl (fun l e =>
    let c := consOf s e.1
    let src := if r.kind = .support then srcOfKind s 3 else consSrc s c
    if 128 ≤ c ∨ (consParent s c).isSome then l else put l (src.getD 16) e.2) []

/-- R396: does every part with a parent fit in that parent's reservation? -/
def parentFits (s : State) (r : Req) : Bool :=
  (reqParts s r).all fun e =>
    match consParent s (consOf s e.1) with
    | none => true
    | some p =>
      let kids := (consAll s).foldl (fun (n : Int) c => if consParent s c = some p ∧ 3 ≤ consSt s c then n + consRsv s c else n) 0
      let ask := (reqParts s r).foldl (fun n x => if consParent s (consOf s x.1) = some p then n + x.2 else n) 0
      decide (kids + (ask : Nat) ≤ consRsv s p)

/-- Room on a source for a class; a source that does not exist has none. -/
def roomOf (s : State) (cls i : Nat) : Int :=
  if i < s.ldg.srcs.length then avail s i - srcClaim s i - (fget s (LEDG.CLASS.KEEP_MW cls) : Int) else -1

/-- R399: the sources on which the request's part exceeds the room. -/
def shortOf (s : State) (r : Req) : List (Nat × Nat) :=
  (needOf s r).filter fun e => !decide ((e.2 : Int) ≤ roomOf s (reqCls s r) e.1)

/-- R399: the reason with which a shortage on source `i` is refused at once, if it is. -/
def shortCode (s : State) (i : Nat) : Option Nat :=
  let e := srcE s i
  let m := ledgMode s
  if e.chain ∧ m = 2 then (if fon s (LEDG.FEED.STAT.SYNC e.feed) then some 8 else none)
  else some (if m = 3 ∧ e.chain then 7 else 1)

/-- R399: per feed, the shortfall rounded up to QUANT. -/
def borrowOf (s : State) (r : Req) : List (Nat × Nat) :=
  let short := shortOf s r
  let q := quantMw s
  ((List.range 16).map fun f =>
    let v := short.foldl (fun (n : Nat) e =>
      if (srcE s e.1).feed = f then n + ((e.2 : Int) - max (roomOf s (reqCls s r) e.1) 0).toNat else n) 0
    (f, ceilDiv v q * q)).filter fun e => e.2 != 0

/-- R405: the head's own borrowing, from its pool. -/
def headBorrow (s : State) (r : Req) : State :=
  let l := borrowOf s r
  if l.all fun e => decide ((e.2 : Int) ≤ poolOf s e.1) then
    admitReq (l.foldl (fun t e => ledgJournal (setGrant t e.1 0 (grantOf t e.1 0 + (e.2 : Nat))) 128 0xE0 0 (e.2 : Nat) e.1) s) r
  else refuse s r 5

/-- R400: the request waits for the head: what it holds stands at its first consumer on each source. -/
def waitHead (s : State) (r : Req) : State :=
  let l := borrowOf s r
  let short := shortOf s r
  let held := (needOf s r).filterMap fun e =>
    match (reqParts s r).find? fun p => consSrc s (consOf s p.1) == some e.1 with
    | some p => some (consOf s p.1, if short.contains e then (max (roomOf s (reqCls s r) e.1) 0).toNat else e.2)
    | none => none
  let go (a : State × List (Nat × Nat)) (e : Nat × Nat) : State × List (Nat × Nat) :=
    let t := sendResv a.1 e.1 e.2 false
    (t.1, a.2 ++ [(e.1, t.2)])
  let t := l.foldl go (reqDrop s r, [])
  { t.1 with ldg := { t.1.ldg with reqs := t.1.ldg.reqs ++ [{ r with wait := true, held := held, out := t.2 }] } }

/-- R399: one request is decided. -/
def decideReq (s : State) (r : Req) : State :=
  let cs := reqCons s r
  let lvl := shedLevel s
  if ledgMode s = 5 then admitReq s r
  else if cs.any (fun c => decide (128 ≤ c)) && !fon s LEDG.CFG.UNLISTED then refuse s r 3
  else if lvl ≠ 0 ∧ cs.any (fun c => decide (lvl ≤ consCls s c)) then refuse s r 4
  else if !parentFits s r then refuse s r 2
  else
    let short := shortOf s r
    if short = [] then admitReq s r
    else match short.filterMap fun e => shortCode s e.1 with
      | code :: _ => refuse s r code
      | [] =>
        if isHead s then headBorrow s r
        else if (borrowOf s r).any fun e => (feedX s e.1).out.isSome then s
        else waitHead s r

/-- Each of `l` that still stands as it was is taken up. -/
def forReqs (f : State → Req → State) (l : List Req) (s : State) : State :=
  l.foldl (fun t r => if t.ldg.reqs.contains r then f t r else t) s

/-- R400, R408: the requests in WAIT_HEAD: the head's answers are acted on; a detached unit refuses with 0x07. -/
def answered (s : State) (r : Req) : State :=
  if ledgMode s = 3 then refuse s r 7
  else match r.answer with
    | some 0 => admitReq s r
    | some c => refuse s r c
    | none => s

/-! ### Shedding -/

/-- R404: the block of a target is shed. -/
def tgtShed (s : State) (tgt : Nat) : State :=
  if tgt < 0x40 then chShed s tgt
  else if tgt < 0x48 then regShed s (tgt - 0x40)
  else if tgt < 0x4C then loopShed s (tgt - 0x48)
  else if tgt = 0x50 then (let t := chgShed s; if t.ldg.sup = 0 then t else supDisarm t)
  else pdShed s (tgt - 0x52)

/-- R402, R404: one consumer is shed: its block, its reservation, what itinerary entries hold of it, and what waits for the
head in its name (assumption 282). -/
def shedCons (s : State) (c : Nat) : State :=
  let tgt := consTarget s c
  let rsv := consRsv s c
  let s0 := itinShed (tgtShed s tgt) (· == tgt)
  let s1 := forReqs (fun t r => refuse t r 4) (s0.ldg.reqs.filter fun r => r.wait && r.held.any fun e => e.1 == c) s0
  let s2 := finc (fset (consPut (consPutDraw s1 c 0) c 0 0) LEDG.EVT.SHED 1) LEDG.CNT.SHED
  raise (ledgJournal s2 c 2 4 rsv 0) 0x272

/-- Does a consumer count in a state of R403: does it hold a reservation, or ask for one? -/
def consCounts (s : State) (c : Nat) : Bool :=
  consSt s c != 0 || s.ldg.reqs.any (fun r => (reqCons s r).contains c) || (consTarget s c == 0x50 && s.ldg.sup != 0)

/-- R396: a consumer is shed, a parent with its children. -/
def shedOne (s : State) (c : Nat) : State :=
  ((consAll s).filter fun k => consParent s k == some c && consCounts s k).foldl shedCons (shedCons s c)

/-- R402, R395: does consumer `a` go before `b`: higher class, targets without an entry before listed ones, higher index? -/
def shedBefore (s : State) (a b : Nat) : Bool :=
  decide (consCls s b < consCls s a ∨ (consCls s b = consCls s a ∧ b < a))

/-- The consumers of a request that have no entry and do not count yet. -/
def reqUnlisted (s : State) : List Nat :=
  (s.ldg.reqs.map fun r => (reqCons s r).filter fun c => decide (128 ≤ c) && consSt s c == 0).flatten.eraseDups

/-- R403: a level that has been set is applied: consumers of its class and above are shed, their itinerary entries
complete REFUSED, and the requests that name such a class are refused. -/
def applyShed (s : State) : State :=
  if !s.ldg.lvl then s
  else
    let s1 := { s with ldg := { s.ldg with lvl := false } }
    let c := shedLevel s
    if c = 0 ∨ ledgMode s = 5 then s1
    else
      let hit (t : State) (k : Nat) : Bool := decide (c ≤ consCls t k)
      let l := sortBy (shedBefore s1) ((consAll s1 ++ reqUnlisted s1).filter fun k => hit s1 k && consCounts s1 k)
      let s2 := l.foldl (fun t k => if consCounts t k then shedOne t k else t) s1
      let s3 := itinShed s2 fun tgt => hit s2 (consOf s2 tgt)
      forReqs (fun t r => refuse t r 4) (s3.ldg.reqs.filter fun r => (reqCons s3 r).any (hit s3)) s3

/-- R402: the count of consecutive overdrawn frames of a source. -/
def overCount (s : State) (i : Nat) : Nat := tabGet (fun _ => 0) s.ldg.overs i

/-- R402: the count set. -/
def setOver (s : State) (i n : Nat) : State := { s with ldg := { s.ldg with overs := tabPut (fun _ => 0) s.ldg.overs i n } }

/-- R402: the consumers of a source that may be shed, in order. -/
def shedList (s : State) (i : Nat) : List Nat :=
  sortBy (shedBefore s) ((consAll s).filter fun c =>
    (consParent s c).isNone && consCls s c != 0 && (consSt s c != 0 || consHold s c != 0 || (consTarget s c == 0x50 && s.ldg.sup != 0)) &&
      (consSrc s c == some i || (consTarget s c == 0x50 && s.ldg.sup != 0 && srcOfKind s 3 == some i)))

/-- R402: an overdrawn source. -/
def shedOver (s : State) (i : Nat) : State :=
  if srcClaim s i ≤ avail s i then setOver s i 0
  else
    let s1 := setOver (fset s LEDG.EVT.OVER 1) i (overCount s i + 1)
    if overCount s1 i < atLeast1 (fget s LEDG.CFG.OVER_FR) then s1
    else
      let s2 := (shedList s1 i).foldl (fun t c => if srcClaim t i ≤ avail t i then t else shedOne t c) (setOver s1 i 0)
      if srcClaim s2 i ≤ avail s2 i then s2 else raise (fset s2 LEDG.EVT.OVER_C0 1) 0x273

/-! ### Feeds in the frame -/

/-- R401: the largest KEEP_MW of the class table. -/
def keepMax (s : State) : Nat := (List.range 16).foldl (fun m c => max m (fget s (LEDG.CLASS.KEEP_MW c))) 0

/-- The sources of feed `f`. -/
def feedSrcs (s : State) (f : Nat) : List Nat :=
  (List.range s.ldg.srcs.length).filter fun i => (srcE s i).valid && (srcE s i).chain && (srcE s i).feed == f

/-- R401: room on the feed's sources. -/
def feedRoom (s : State) (f : Nat) : Int :=
  (feedSrcs s f).foldl (fun n i => n + avail s i - srcClaim s i) (-(keepMax s : Int))

/-- R401: borrowing that has not been needed for RET_MS is given back. -/
def autoRelease (s : State) (f : Nat) : State :=
  let x := feedX s f
  let room := feedRoom s f
  let q := quantMw s
  let bor := fgetI s (LEDG.FEED.BORROW.MW f)
  if bor ≤ 0 ∨ room < (q : Int) then setFeedX s f { x with since := none }
  else
    let t0 := x.since.getD (localNs s)
    let s1 := setFeedX s f { x with since := some t0 }
    if localNs s < t0 + atLeast1 (fget s LEDG.CHAIN.RET_MS) * 1000000 then s1
    else
      let amt := min bor.toNat (room.toNat / q * q)
      let s2 := setFeedX s1 f { x with since := some (localNs s) }
      if isHead s then ledgJournal (setGrant s2 f 0 (grantOf s2 f 0 - (amt : Nat))) 128 0xE1 0 (amt : Nat) f
      else if x.out.isSome || fon s (LEDG.FEED.STAT.SYNC f) || ledgMode s != 2 then s1
      else
        let s3 := setShare (sendResv s2 f amt true).1 f (fgetI s2 (LEDG.FEED.SHARE.MW f) - (amt : Nat))
        ledgJournal s3 128 0xE1 0 (amt : Nat) f

/-- R405, R407: the head decides one LEDG_RESV. -/
def headDecide (s : State) (r : ResvIn) : State :=
  let rsp (t : State) (code : Nat) (mw : Int) : State :=
    send t { typ := 0x42, dst := r.src, pay := [code * 2 ^ 16 + r.reqId, ofSigned 32 mw] }
  if (feedEntry s r.feed).isNone then rsp s (if r.release then 0 else 5) 0
  else if resyncing s r.feed r.src then rsp s 8 0
  else if r.release then
    let amt := max 0 (min r.mw (grantOf s r.feed r.src - feedBase s r.feed r.src))
    let s1 := rsp (setGrant s r.feed r.src (grantOf s r.feed r.src - amt)) 0 (-amt)
    if amt = 0 then s1 else ledgJournal (sendShare s1 r.feed r.src) 128 0xE1 0 amt r.feed
  else if r.mw ≤ poolOf s r.feed then
    let s1 := rsp (setGrant s r.feed r.src (grantOf s r.feed r.src + r.mw)) 0 r.mw
    ledgJournal (sendShare s1 r.feed r.src) 128 0xE0 0 r.mw r.feed
  else rsp s 5 0

/-- R405: of two requests to the head, the one that arrived first comes first, and in one arrival cycle that of the lower
unit. -/
def resvBefore (a b : ResvIn) : Bool := decide (a.arrival < b.arrival ∨ (a.arrival = b.arrival ∧ a.src < b.src))

/-- R405: the requests that reached the head before this frame are decided, in order of arrival. -/
def headDecides (s : State) : State :=
  let l := sortBy resvBefore (s.ldg.resvIn.filter fun r => decide (r.arrival < localNs s))
  l.foldl headDecide { s with ldg := { s.ldg with resvIn := s.ldg.resvIn.filter fun r => !decide (r.arrival < localNs s) } }

/-- R417, R420: the registers show what the frame found. -/
def ledgShow (s : State) : State :=
  let src (t : State) (i : Nat) : State :=
    fset (fsetI t (LEDG.SRC.CLAIM.MW i) (srcClaim s i)) (LEDG.SRC.DRAW.MW i) (min (srcDraw s i) 0x7FFFFFFF)
  let con (t : State) (c : Nat) : State :=
    let st := if consSt s c ≠ 0 then consSt s c
      else match s.ldg.reqs.find? fun r => (reqCons s r).contains c with
        | some r => if r.wait then 2 else 1
        | none => 0
    let t1 := fset (fset t (LEDG.CONS.CFG.STATE c) st) (LEDG.CONS.CFG.CLASS c) (consCls s c)
    fsetI (fset t1 (LEDG.CONS.CFG.SRC c) ((consSrc s c).getD 0)) (LEDG.CONS.CLAIM.MW c) (consClaim s c)
  let s1 := (List.range s.ldg.srcs.length).foldl src s
  fset ((List.range s.ldg.cons.length).foldl con s1) LEDG.STAT.MODE (ledgMode s)

/-- R404: has the frame that led from `a` to `b` shed a consumer of the request? -/
def shedNow (a b : State) (r : Req) : Bool := (reqCons b r).any fun c => consSt a c != 0 && consSt b c == 0

/-- R399: the ledger frame, whose start is the present instant. Requests that arrived before it are decided (R24). -/
def ledgerFrame (s : State) (regMeas : List (Nat × Nat)) (portMeas : List (Nat × Nat × Nat)) : State :=
  let now := localNs s
  let s1 := updateClaims (updateAvail { s with ldg := { s.ldg with frame := s.ldg.frame + 1 } }) regMeas portMeas
  let s2 := applyShed s1
  let s3 := if ledgMode s2 = 5 then s2 else (List.range s2.ldg.srcs.length).foldl shedOver s2
  let s4 := forReqs answered (s3.ldg.reqs.filter fun r => r.wait && !shedNow s1 s3 r) s3
  let due := s4.ldg.reqs.filter fun r => !r.wait && decide (r.arrival < now) && !shedNow s1 s3 r
  let s5 := forReqs decideReq (sortBy (reqBefore s4) due) s4
  let s6 := (chainFeeds s5).foldl autoRelease s5
  ledgShow (if isHead s6 then headDecides s6 else s6)

/-- R395, R397, R105: step 5 of R50: a channel that runs from its Dawn state enters as RUNNING, with the reservation of
its entry or, without one, at its draw; a privileged channel with an entry and no pack source raises LEDG_CFG. -/
def ledgStart (s : State) : State :=
  let dawn (t : State) (n : Nat) : State :=
    if chDriven t n then
      let c := consOf t n
      consPut t c 4 (if c < 128 then ((consE t c).resv : Nat) else 0)
    else t
  let s1 := (List.range 64).foldl dawn s
  let s2 := ledgShow s1
  if (srcOfKind s2 3).isNone && (List.range 64).any (fun n => privileged s2 n && decide (consOf s2 n < 128)) then raise s2 0x270 else s2

/-! ### The commands -/

/-- LEDGER_FRAME: frame 0 of E0 (R16, R399), with what the part has measured of its regulators and ports. -/
def execLedgerFrame (work : Nat) (regMeas : List (Nat × Nat)) (portMeas : List (Nat × Nat × Nat)) (s : State) :
    Host.Outcome State Fault Refusal :=
  .next (if frameRuns s 0 then ledgerFrame (frameBegin s 0 work).1 regMeas portMeas else s)

/-- LEDG_SHED_LEVEL_WRITE. -/
def execLedgShedLevelWrite (rq : Fin 24) (lvl : Fin 16) (s : State) : Host.Outcome State Fault Refusal :=
  .next (asCoach s rq 0x7F 0x90010 fun t => let r := setShedLevel t lvl; (r.1, r.2, []))

/-- The feed on which a LEDG_RESV with this REQ_ID is outstanding. -/
def feedOf (s : State) (id : Nat) : Option Nat :=
  (List.range 16).find? fun f => match (feedX s f).out with
    | some (i, _, _) => i == id
    | none => false

/-- R400: a LEDG_RESV stops being outstanding; `late` keeps its REQ_ID for a grant that may yet come. -/
def feedClear (s : State) (f id : Nat) (late : Bool) : State :=
  let x := feedX s f
  fset (setFeedX s f { x with out := none, late := if late then x.late ++ [id] else x.late }) (LEDG.FEED.STAT.WAIT f) 0

/-- R400: the answer to the part of a waiting request on feed `f`. -/
def answerReq (s : State) (f id code : Nat) : State :=
  { s with ldg := { s.ldg with reqs := s.ldg.reqs.map fun r =>
      if (r.out.contains (f, id)) = true then
        let out := r.out.filter (· != (f, id))
        { r with out := out, answer := if code ≠ 0 then some code else if out = [] then some (r.answer.getD 0) else r.answer }
      else r } }

/-- LEDG_RESV_TIMEOUT: no response within RESV_TMO (R400). -/
def execLedgResvTimeout (f : Fin 16) (s : State) : Host.Outcome State Fault Refusal :=
  .next (byEngine s 0 (match (feedX s f).out with
    | some (id, _, rel) =>
      let s1 := feedClear s f id (!rel)
      if rel = true then s1 else raise (fset (answerReq s1 f id 6) LEDG.EVT.TIMEOUT 1) 0x271
    | none => s))

/-- LEDG_RESV_RSP_RX: matched by REQ_ID (R400). -/
def execLedgResvRspRx (reqId : BitVec 16) (result : BitVec 8) (mw : Word) (s : State) : Host.Outcome State Fault Refusal :=
  let id := reqId.toNat
  .next (byEngine s 0 (match feedOf s id with
    | some f =>
      let rel := match (feedX s f).out with
        | some (_, _, b) => b
        | none => false
      let s1 := feedClear s f id false
      if rel then s1
      else answerReq (if result = 0 then addGrant s1 f mw.toInt else s1) f id result.toNat
    | none =>
      match (List.range 16).find? fun f => (feedX s f).late.contains id with
      | some f =>
        let x := feedX s f
        let s1 := setFeedX s f { x with late := x.late.filter (· != id) }
        if result = 0 then addGrant s1 f mw.toInt else s1
      | none => s))

/-- LEDG_RESV_RX: decided in the next frame (R405). -/
def execLedgResvRx (src : Fin 32) (release : Bool) (f : Fin 16) (reqId : BitVec 16) (mw : Word) (s : State) :
    Host.Outcome State Fault Refusal :=
  .next (byEngine s 0 (if isHead s then
    { s with ldg := { s.ldg with resvIn := s.ldg.resvIn ++ [⟨src, release, f, reqId.toNat, mw.toInt, localNs s⟩] } } else s))

/-- R405: the report of one feed. -/
def sendReport (s : State) (f : Nat) : State :=
  let l := feedSrcs s f
  let draw := l.foldl (fun n i => n + fget s (LEDG.SRC.DRAW.MW i)) 0
  let claim := l.foldl (fun n i => n + fgetI s (LEDG.SRC.CLAIM.MW i)) 0
  send s { typ := 0x43, dst := 0, pay := [s.ldg.frame % 65536 * 2 ^ 16 + f, draw % 2 ^ 32, ofSigned 32 claim] }

/-- LEDG_SHARE_RX: SHARE_MW = -1 announces a resynchronisation (R406). -/
def execLedgShareRx (gen : BitVec 16) (f : Fin 16) (mw : Word) (s : State) : Host.Outcome State Fault Refusal :=
  let sync := fon s (LEDG.FEED.STAT.SYNC f)
  let held := fon s (LEDG.FEED.STAT.VALID f)
  let newer : Bool := !held || decide (1 ≤ (gen - BitVec.ofNat 16 (fget s (LEDG.FEED.STAT.SHARE_GEN f))).toNat ∧
    (gen - BitVec.ofNat 16 (fget s (LEDG.FEED.STAT.SHARE_GEN f))).toNat < 32768)
  .next (byEngine s 0 (if isHead s then s
    else if mw.toInt = -1 then sendReport (fset s (LEDG.FEED.STAT.SYNC f) 1) f
    else if sync || ((feedX s f).out.isNone && newer) then
      let x := feedX s f
      let s1 := setFeedX s f { x with base := some (x.base.getD mw.toInt) }
      fset (fset (setShare s1 f mw.toInt) (LEDG.FEED.STAT.SHARE_GEN f) gen.toNat) (LEDG.FEED.STAT.SYNC f) 0
    else s))

/-- LEDG_SHARE_SEND: the head's refresh of every share (R405). -/
def execLedgShareSend (s : State) : Host.Outcome State Fault Refusal :=
  .next (byEngine s 0 (if isHead s ∧ s.start.running then
    s.ldg.feedsE.foldl (fun t e => (List.range 32).foldl (fun v u =>
      if fon v (LNK.REACH u) && !resyncing v e.feed u then sendShare v e.feed u else v) t) s else s))

/-- LEDG_REPORT_SEND: in Chain or Detached mode, one report per feed (R405), and none in Night (R601). -/
def execLedgReportSend (s : State) : Host.Outcome State Fault Refusal :=
  .next (byEngine s 0 (if !isHead s ∧ stage s ≠ 4 ∧ (ledgMode s = 2 ∨ ledgMode s = 3) then (chainFeeds s).foldl sendReport s else s))

/-- LEDG_REPORT_RX: the first report ends a unit's resynchronisation (R407). -/
def execLedgReportRx (src : Fin 32) (_seq : BitVec 16) (f : Fin 16) (_draw : Word) (resv : Word) (s : State) :
    Host.Outcome State Fault Refusal :=
  .next (byEngine s 0 (if isHead s ∧ resyncing s f src then resyncEnd s f src (max (feedBase s f src) resv.toInt) else s))

/-- LEDG_RESYNC_TIMEOUT: a unit that has not reported by then keeps BASE_MW (R407). -/
def execLedgResyncTimeout (f : Fin 16) (u : Fin 32) (s : State) : Host.Outcome State Fault Refusal :=
  .next (byEngine s 0 (if isHead s ∧ resyncing s f u then resyncEnd s f u (feedBase s f u) else s))

/-- R408: the unit has become detached: what is outstanding is given up, the request that waits for it is refused with
0x07, and a grant that comes late is still added. -/
def ledgDetach (s : State) : State :=
  (List.range 16).foldl (fun t f => match (feedX t f).out with
    | some (id, _, rel) => answerReq (feedClear t f id (!rel)) f id 7
    | none => t) s

end Sys2Proof.Machine
end

