-- ==== Sys2Proof/Machine/Sync.lean ====
section
/-!
DEFINITION. Machine/Sync.lean: time states, TIME_SYNC and hop delays (R346-R353).
-/
namespace Sys2Proof.Machine

/-- A quotient whose rounding the spec does not state: one of its two neighbours (assumption 21). -/
def quotOpenI (num : Int) (den : Nat) : Int :=
  num / (den : Int) + (if num % (den : Int) ≠ 0 ∧ Config.roundUp (ofSigned 128 num) den then 1 else 0)

/-- R348, R365, R17: users change from the local timebase to CT. -/
def timeAcquire (s : State) : State :=
  itinAcquire (anchorAll s ((s.time.ct : Int) - (s.time.loc : Int))) s.time.loc

/-- R54: a chain-solo unit that is enumerated and locked clears SOLO. -/
def soloEnd (s : State) : State :=
  if fon s TOP.STATUS.SOLO && addressed s && (fget s TIME.STAT.STATE == 2 || fget s TIME.STAT.STATE == 4) then
    fset s TOP.STATUS.SOLO 0 else s

/-- R348: entry to a time state, with its event, its journal record and its fault source. In HOLDOVER the rate is the
last frequency term (R351). BEACON lasts as long as the holdover it tells of (assumption 73). -/
def timeEnter (s : State) (st : Nat) : State :=
  let old := fget s TIME.STAT.STATE
  if st = old then s
  else
    let s1 := fset (fset (fset s TIME.STAT.STATE st) TIME.HOLD_MS.MS 0) TIME.STAT.BEACON 0
    let s2 := if st = 2 then fset s1 TIME.EVT.LOCK 1 else if st = 5 then fset s1 TIME.EVT.RELOCK 1
      else if st = 3 then fsetI (fset { s1 with time := { s1.time with hold := 0 } } TIME.EVT.HOLD 1) TIME.RATE.PPB s1.time.freq
      else s1
    let s3 := journal s2 0x07 st 0xE0 0 [fget s2 TIME.OFFSET.OFF, fget s2 TIME.RATE.PPB]
    let s4 := soloEnd (if old < 2 ∧ 2 ≤ st then timeAcquire s3 else s3)
    if st = 5 ∧ old = 2 then raise s4 0x269 else if st = 3 then raise s4 0x26A else s4

/-- R353: a unit that has become detached is in HOLDOVER. -/
def timeDetach (s : State) : State :=
  if fget s TIME.STAT.STATE = 2 ∨ fget s TIME.STAT.STATE = 5 then timeEnter s 3 else s

/-- R349: a time stamp of this instant in 1/32 of a unit interval, from the internal CT. -/
def stampNow (s : State) : Nat := s.time.ct * 16 / 5 % 2 ^ 64

/-- R349, R378: loss of link makes D of the port invalid and ends a measurement under way. -/
def hopLost (s : State) (p : Nat) : State :=
  let t := if p = 0 then { s.time with hopUp := [], reqUp := none } else { s.time with hopDn := [], reqDn := none }
  fset (fset { s with time := t } (TIME.HOP.VALID p) 0) (TIME.HOP.D p) 0

/-- R373: the unit's own sync interval in ns. -/
def syncInt (s : State) : Nat := atLeast1 (fget s TIME.CFG.SYNC_INT) * 100000

/-- R352: CT as users see it has stepped by `d` ns. -/
def timeStep (s : State) (d : Int) : State := itinStep (anchorAll (fset s TIME.EVT.STEP 1) d) d

/-- The internal CT less `off16` sixteenths of a nanosecond. -/
def ctLess (s : State) (off16 : Int) : State :=
  let v : Int := (s.time.ct : Int) * 1000000000 + s.time.rem - off16 * 62500000
  { s with time := { s.time with ct := ofSigned 64 (v / 1000000000), rem := v % 1000000000 } }

/-- R351: the interval measured between two valid syncs; one whose CT_TX is not later than the last one's leaves it
(assumption 52). -/
def syncMeasure (s : State) (ctTx : Nat) : State :=
  { s with time := { s.time with
      lastTx := some ctTx
      interval := match s.time.lastTx with
        | some b => if b < ctTx then some (ctTx - b) else s.time.interval
        | none => s.time.interval } }

/-- R351: the servo's step branch. -/
def servoStep (s : State) (off16 : Int) : State :=
  let st := fget s TIME.STAT.STATE
  let s1 := ctLess { s with time := { s.time with good := 0 } } off16
  if st = 0 then timeEnter s1 1
  else if st = 1 then s1
  else timeEnter (timeStep s1 ((s1.time.ct : Int) - (s.time.ct : Int))) 5

/-- R351: the servo's frequency and phase terms. -/
def servoRate (s : State) (off16 : Int) : State :=
  let i := s.time.interval.getD (syncInt s)
  let freq := clampInt (-200000) 200000 (s.time.freq - quotOpenI (off16 * 1000000000) (256 * i))
  let rate := clampInt (-200000) 200000 (freq - quotOpenI (off16 * 1000000000) (32 * i))
  fsetI { s with time := { s.time with freq := freq } } TIME.RATE.PPB rate

/-- R351: the counts of good and bad syncs and the states they lead to. -/
def servoCount (s : State) (off16 : Int) : State :=
  let g := if off16.natAbs ≤ 5 * atLeast1 (fget s TIME.CFG.LOCK_THR) then s.time.good + 1 else 0
  let b := if 16 * atLeast1 (fget s TIME.CFG.UNLOCK_THR) < off16.natAbs then s.time.bad + 1 else 0
  let s1 := { s with time := { s.time with good := g, bad := b } }
  let st := fget s TIME.STAT.STATE
  if (st = 1 ∨ st = 5) ∧ 16 ≤ g then timeEnter s1 2 else if st = 2 ∧ 4 ≤ b then timeEnter s1 5 else s1

/-- R351: the servo on a valid TIME_SYNC whose offset is `off16` sixteenths of a nanosecond. -/
def servo (s : State) (off16 : Int) : State :=
  let s1 := fsetI s TIME.OFFSET.OFF (clampInt (-(2 ^ 31)) (2 ^ 31 - 1) (quotOpenI off16 5))
  let s2 := if fget s1 TIME.STAT.STATE = 3 then timeEnter s1 5 else s1
  if fget s2 TIME.STAT.STATE = 0 ∨ 1600 * atLeast1 (fget s2 TIME.CFG.STEP_THR) < off16.natAbs then servoStep s2 off16
  else servoCount (servoRate s2 off16) off16

/-- R350: is SYNC_SEQ `seq` newer than the last accepted one? -/
def syncNewer (s : State) (seq : Nat) : Bool :=
  let st := fget s TIME.STAT.STATE
  let d := (seq + 65536 - fget s TIME.STAT.SYNC_SEQ) % 65536
  st == 0 || st == 3 || decide (1 ≤ d ∧ d < 32768)

/-! ### The commands -/

/-- TIME_SYNC_SEND: CT_TX is put in when the frame leaves (R350). In Night none is sent (R353). -/
def execTimeSyncSend (s : State) : Host.Outcome State Fault Refusal :=
  .next (byEngine s 2 (if fget s TIME.STAT.STATE = 4 ∧ stage s ≠ 4 then
    let q := (s.time.syncSeq + 1) % 65536
    send { s with time := { s.time with syncSeq := q } } { typ := 0x20, bc := true, pay := [q, 0, 0, 0] } else s))

/-- TIME_SYNC_RX (R350, R351): `tRx` is the internal CT at its SOF. The head keeps its CT without correction. -/
def execTimeSyncRx (p : Fin 2) (seq : BitVec 16) (ctTx : BitVec 64) (corr : BitVec 32) (tRx : BitVec 64) (s : State) :
    Host.Outcome State Fault Refusal :=
  .next (byEngine s 2 (if fget s TIME.STAT.STATE = 4 ∨ corr.toNat = 0xFFFFFFFF ∨ !fon s (TIME.HOP.VALID p) ∨ !syncNewer s seq.toNat then s
    else
      let off16 : Int := 16 * ((tRx.toNat : Int) - (ctTx.toNat : Int)) - 5 * ((corr.toNat + fget s (TIME.HOP.D p) : Nat) : Int)
      servo (syncMeasure (fset s TIME.STAT.SYNC_SEQ seq.toNat) ctTx.toNat) off16))

/-- TIME_HOLDOVER_ENTRY (R348). -/
def execTimeHoldoverEntry (s : State) : Host.Outcome State Fault Refusal :=
  .next (if fget s TIME.STAT.STATE = 2 ∨ fget s TIME.STAT.STATE = 5 then timeEnter s 3 else s)

/-- DELAY_REQ_SEND (R349): T1 is put in when the frame leaves. -/
def execDelayReqSend (p : Fin 2) (s : State) : Host.Outcome State Fault Refusal :=
  .next (byEngine s 2 (if addressed s && fget s (LNK.PORT.STAT.STATE p) == 2 then
    let q := (s.time.dseq + 1) % 65536
    let t := { s.time with dseq := q }
    let r := some (q, stampNow s)
    send { s with time := if p = 0 then { t with reqUp := r } else { t with reqDn := r } }
      { typ := 0x21, hop := some p, pay := [q, 0, 0] } else s))

/-- DELAY_REQ_RX (R349): answered with T2, and T3 of the answer's SOF. -/
def execDelayReqRx (p : Fin 2) (dseq : BitVec 16) (_t1 t2 t3 : BitVec 64) (s : State) : Host.Outcome State Fault Refusal :=
  .next (byEngine s 2 (send s { typ := 0x22, hop := some p, pay := dseq.toNat :: ctWords t2.toNat ++ ctWords t3.toNat }))

/-- R349: the delay measurements of a port, newest first, in half units. -/
def hopMeas (s : State) (p : Nat) : List Int := if p = 0 then s.time.hopUp else s.time.hopDn

/-- R349: a measurement of `d2` half units on port `p`. -/
def hopMeasured (s : State) (p : Nat) (d2 : Int) : State :=
  if fon s (TIME.HOP.VALID p) ∧ 32 < (d2 - 2 * (fget s (TIME.HOP.D p) : Int)).natAbs then s
  else
    let l := (d2 :: hopMeas s p).take 8
    let s1 := { s with time := if p = 0 then { s.time with hopUp := l } else { s.time with hopDn := l } }
    if l.length = 8 then
      fset (fset s1 (TIME.HOP.VALID p) 1) (TIME.HOP.D p) (quotOpenI (l.foldl (fun a b => a + b) 0) 16).toNat
    else s1

/-- DELAY_RSP_RX (R349): d from T1 to T4, for the request outstanding. -/
def execDelayRspRx (p : Fin 2) (dseq : BitVec 16) (t2 t3 t4 : BitVec 64) (s : State) : Host.Outcome State Fault Refusal :=
  .next (byEngine s 2 (match (if p = 0 then s.time.reqUp else s.time.reqDn) with
    | some (q, t1) =>
      if q = dseq.toNat then
        let s1 := { s with time := if p = 0 then { s.time with reqUp := none } else { s.time with reqDn := none } }
        hopMeasured s1 p ((t4 - BitVec.ofNat 64 t1).toInt - (t3 - t2).toInt)
      else s
    | none => s))

end Sys2Proof.Machine
end

