-- ==== Sys2Proof/Machine/Link.lean ====
section
/-!
DEFINITION. Machine/Link.lean: the link layer of the chain: ports, routes, breaks, forwarding, enumeration and joining
(R307-R327).
-/
namespace Sys2Proof.Machine

/-! ### Routes -/

/-- R324, R319: the units the chain is known to have; before its first ENUM_DONE a unit knows of those up to itself
(assumption 53). -/
def chainLen (s : State) : Nat := max (fget s LNK.STAT.N) (myAddr s + 1)

/-- The units met on the way UP from unit `u` on a chain of `n`, over at most the given number of hops and no hop of `cut`. -/
def walkUp (ring : Bool) (cut : List Nat) (n : Nat) : Nat → Nat → List Nat
  | 0, _ => []
  | k + 1, u =>
    if u = 0 then (if ring && !cut.contains (n - 1) then (n - 1) :: walkUp ring cut n k (n - 1) else [])
    else if cut.contains (u - 1) then [] else (u - 1) :: walkUp ring cut n k (u - 1)

/-- The units met on the way DN from unit `u`. -/
def walkDn (ring : Bool) (cut : List Nat) (n : Nat) : Nat → Nat → List Nat
  | 0, _ => []
  | k + 1, u =>
    if cut.contains u then []
    else if n ≤ u + 1 then (if ring then 0 :: walkDn ring cut n k 0 else []) else (u + 1) :: walkDn ring cut n k (u + 1)

/-- R317, R337: REACH and ROUTE from the hops that are broken. -/
def routeShow (s : State) : State :=
  let a := myAddr s
  let n := chainLen s
  let up := if addressed s then walkUp (isRing s) s.lnk.broken n (n - 1) a else []
  let dn := if addressed s then walkDn (isRing s) s.lnk.broken n (n - 1) a else []
  (List.range 32).foldl (fun t u =>
    let viaUp := u != a && up.contains u && (decide (u < a) || !dn.contains u)
    fsetB (fsetB t (LNK.REACH u) (addressed s && (u == a || up.contains u || dn.contains u))) (LNK.ROUTE u) viaUp) s

/-- R325: what follows when the unit has become detached. -/
def linkDetach (s : State) : State :=
  raise (timeDetach (ledgDetach (cvyDetach (fset s LNK.EVT.DETACH 1)))) 0x267

/-- R317, R325, R326: routes, REACH, TOPO and ATTACHED recomputed, and what a change of them brings. -/
def linkRoutes (s : State) : State :=
  let s1 := routeShow s
  let s2 := if isRing s1 then fset s1 LNK.STAT.TOPO (if s1.lnk.broken = [] then 2 else 3) else s1
  let s3 := fsetB s2 LNK.STAT.ATTACHED (fon s2 (LNK.REACH 0))
  let entered := (List.range 32).filter fun u => fon s3 (LNK.REACH u) && !fon s (LNK.REACH u)
  let left := (List.range 32).foldl (fun m u => if fon s (LNK.REACH u) && !fon s3 (LNK.REACH u) then m + 2 ^ u else m) 0
  let s4 := if left = 0 then s3 else cvyLost s3 left true
  let s5 := ledgReach s4 entered
  if fon s LNK.STAT.ATTACHED && !fon s3 LNK.STAT.ATTACHED then linkDetach s5 else s5

/-- R325: hop `h` is broken. -/
def linkBreak (s : State) (h : Nat) : State :=
  let l := s.lnk
  let l1 := { l with old := l.old.filter (· != h), holding := l.holding.filter (· != h) }
  if l.broken.contains h then { s with lnk := l1 }
  else
    let s1 := { s with lnk := { l1 with broken := l1.broken ++ [h] } }
    if isRing s1 then raise (linkRoutes (fset s1 LNK.EVT.BREAK 1)) 0x266 else linkRoutes s1

/-- R326: a broken hop is reported trained again: its repair hold begins. -/
def linkMend (s : State) (h : Nat) : State :=
  if s.lnk.broken.contains h && !s.lnk.holding.contains h then
    { s with lnk := { s.lnk with holding := s.lnk.holding ++ [h] } } else s

/-- R315: the word of a LINK_STATE of port `p`. -/
def linkWord (s : State) (p ev : Nat) : Nat :=
  fget s LNK.STAT.CHAIN_GEN * 2 ^ 16 + b2n (addressed s) * 2 ^ 13 + myAddr s * 2 ^ 8 + p * 2 ^ 4 + ev

/-- Is port `p` trained at full rate? -/
def portUp (s : State) (p : Nat) : Bool := fget s (LNK.PORT.STAT.STATE p) == 2

/-- R326: UP is broadcast once the hop is trained again and its neighbour's address is known. -/
def tryUp (s : State) (p : Nat) : State :=
  if s.lnk.upWait.contains p && portUp s p && fon s (LNK.PORT.STAT.NB_VALID p) && addressed s then
    let s1 := send { s with lnk := { s.lnk with upWait := s.lnk.upWait.filter (· != p) } }
      { typ := 4, bc := true, pay := [linkWord s p 2] }
    match hopOf s1 (myAddr s1) p with
    | some h => linkMend s1 h
    | none => s1
  else s

/-! ### Ports -/

/-- R315: an ENUM out of port `p`. -/
def sendEnum (s : State) (p gen single next : Nat) : State :=
  send s { typ := 1, hop := some p, pay := [gen * 2 ^ 16 + single * 2 ^ 8 + next] }

/-- R319: the ENUM that waits for DN leaves once DN is trained. -/
def tryEnum (s : State) : State :=
  match s.lnk.enumHeld with
  | some (next, gen) =>
    if portUp s 1 then sendEnum { s with lnk := { s.lnk with enumHeld := none } } 1 gen 0 next else s
  | none => s

/-- R310, R339: port `p` is trained at full rate. -/
def portTrain (s : State) (p : Nat) : State :=
  let s1 := fset (fset (hopLost s p) (LNK.PORT.STAT.STATE p) 2) (LNK.PORT.STAT.SIG p) 1
  tryUp (if p = 1 then tryEnum s1 else s1) p

/-- Port `p` is down: its state, its neighbour and its hop delay (R339, R349). -/
def portDown (s : State) (p : Nat) : State :=
  let s1 := fset (fset (hopLost s p) (LNK.PORT.STAT.STATE p) 0) (LNK.PORT.STAT.SIG p) 0
  finc (fset (fset s1 (LNK.PORT.STAT.NB_VALID p) 0) (LNK.PORT.STAT.NB_ADDR p) 0) (LNK.PORT.CNT.DOWNS p)

/-- PORT_TRAINED (R310). In Night full-rate signalling on a port is wake cause 0x04 (R603); a port that still has WAKE
beacons to send is at Night rate and does not train yet (R604). -/
def execPortTrained (p : Fin 2) (s : State) : Host.Outcome State Fault Refusal :=
  .next (if portUp s p ∨ fget s LNK.STAT.RATE = 0 then s
    else if stage s = 4 ∧ s.pwr.waking = false then wakeCause s 4 (myAddr s)
    else if fget s (LNK.PORT.STAT.STATE p) = 3 then s
    else portTrain s p)

/-- PORT_LINK_LOSS (R325). -/
def execPortLinkLoss (p : Fin 2) (s : State) : Host.Outcome State Fault Refusal :=
  .next (if !portUp s p then s
    else
      let s1 := portDown s p
      let s2 := if addressed s1 then { s1 with lnk := { s1.lnk with upWait := s1.lnk.upWait.filter (· != p.val) ++ [p.val] } } else s1
      let s3 := send s2 { typ := 4, bc := true, pay := [linkWord s2 p 1] }
      let s4 := match (if addressed s3 then hopOf s3 (myAddr s3) p else none) with
        | some h => linkBreak s3 h
        | none => s3
      raise s4 0x265)

/-- NIGHT_LINK_LOSS (R311). -/
def execNightLinkLoss (p : Fin 2) (s : State) : Host.Outcome State Fault Refusal :=
  .next (if fget s (LNK.PORT.STAT.STATE p) = 3 then portDown s p else s)

/-! ### Frames -/

/-- R314, R315: the lengths and payload values that each type allows. COUNT and ADDR of a register request may be out
of range, and are answered (R328); so LEN has no COUNT to agree with then (assumption 54). -/
def frameValid (f : Frame) : Bool :=
  let n := f.pay.length
  let w := f.pay.getD 0 0
  let cnt := bitsOf w 20 16
  match f.typ with
  | 0x01 => n == 1 && decide (1 ≤ w % 64 ∧ w % 64 ≤ 32)
  | 0x02 => n == 1 && decide (1 ≤ w % 64 ∧ w % 64 ≤ 32)
  | 0x03 => n == 1 && decide (bitsOf w 9 8 = 1 ∨ bitsOf w 9 8 = 2)
  | 0x04 => n == 1 && decide (w % 16 < 4)
  | 0x05 => n == 3
  | 0x06 => n == 1
  | 0x10 => n == 2
  | 0x11 => decide (3 ≤ n ∧ n ≤ 16) && (decide (cnt = 0 ∨ 14 < cnt) || n == 2 + cnt)
  | 0x12 => n == 1 || (decide (n ≤ 16) && n == 1 + bitsOf w 28 24)
  | 0x20 => n == 4
  | 0x21 => n == 3
  | 0x22 => n == 5
  | 0x30 => n == 4
  | 0x31 => n == 2
  | 0x32 => n == 3
  | 0x33 => n == 1
  | 0x40 => n == 2
  | 0x41 => n == 2
  | 0x42 => n == 2
  | 0x43 => n == 3
  | 0x50 => n == 2
  | 0x58 => n == 3 && decide (bitsOf w 31 30 = 1 ∨ bitsOf w 31 30 = 2)
  | 0x60 => n == 16
  | _ => false

/-- R340: an error counted on port `p`: more than 64 within 10 ms raise LNK_ERR. -/
def countErr (s : State) (p : Nat) : State :=
  let l := (localNs s :: (portQ s p).errs).filter fun t => decide (localNs s < t + 10000000)
  if 64 < l.length then raise (setPortQ s p { portQ s p with errs := [] }) 0x268
  else setPortQ s p { portQ s p with errs := l }

/-- R317: the SEQ values accepted from unit `u`, newest first. -/
def seenOf (s : State) (u : Nat) : List Nat := tabGet (fun _ => []) s.lnk.seen u

/-- R317: SEQ `q` of unit `u` is accepted. -/
def seePut (s : State) (u q : Nat) : State :=
  if (seenOf s u).contains q then s
  else { s with lnk := { s.lnk with seen := tabPut (fun _ => []) s.lnk.seen u ((q :: seenOf s u).take 64) } }

/-- R350: CORR as a forwarder sends it on; the residence is the part's own (a free value). -/
def corrForward (s : State) (p : Nat) (f : Frame) : State × Frame :=
  if f.typ = 0x20 then
    let corr := f.pay.getD 3 0
    let r := drawNat s (2 ^ 32)
    let c := if corr = 0xFFFFFFFF ∨ !fon s (TIME.HOP.VALID p) then 0xFFFFFFFF
      else (corr + fget s (TIME.HOP.D p) + r.1) % 2 ^ 32
    (r.2, { f with pay := f.pay.take 3 ++ [c] })
  else (s, f)

/-- R316, R317: the port that a frame which arrived on port `p` leaves by. -/
def forwardPort (s : State) (p : Nat) (f : Frame) : Nat :=
  if f.bc || (f.path && frameDual f.typ) then 1 - p else routePort s f.dst

/-- R316, R313: the frame is forwarded, one place nearer to TTL 0. -/
def forwardFrame (s : State) (p : Nat) (f : Frame) : State :=
  if f.ttl ≤ 1 then finc s (LNK.PORT.CNT.TTL_DROP p)
  else
    let c := corrForward s p { f with ttl := f.ttl - 1 }
    let r := pushPort c.1 (forwardPort s p f) c.2
    if r.2 && decide (frameClass f.typ < 2) then raise r.1 0x261 else r.1

/-- The frame is delivered to this unit; what its service does with it is that service's own command. -/
def deliver (s : State) (f : Frame) : State := { s with lnk := { s.lnk with delivered := some f } }

/-- R316: a unit without an address delivers these types alone. -/
def frameEarly (t : Nat) : Bool := t == 1 || t == 3 || t == 4 || t == 6

/-- R317: a later copy of a broadcast or of a dual frame that this unit has accepted. -/
def frameCopy (s : State) (f : Frame) : Bool := (f.bc || frameDual f.typ) && !f.noaddr && (seenOf s f.src).contains f.seq

/-- R317: the frame's SEQ is accepted; a frame from a unit without an address has none of a source. -/
def frameSeen (s : State) (f : Frame) : State := if f.noaddr then s else seePut s f.src f.seq

/-- R316, R317: a frame that passed R313 at a unit with an address. -/
def frameRoute (s : State) (p : Nat) (f : Frame) : State :=
  if (!f.noaddr && f.src == myAddr s) || heldOff s p f || frameCopy s f then s
  else
    let s1 := frameSeen s f
    let mine := !f.bc && f.dst == myAddr s
    let s2 := if f.hop || f.bc || mine then deliver s1 f else s1
    if f.hop || mine then s2 else forwardFrame s2 p f

/-- FRAME_FORWARD: a frame arrives on port `p`; `bad` says that it ended in ABT, its CRC or its length was wrong or a
reserved header bit was 1 (R313). -/
def execFrameForward (p : Fin 2) (f : Frame) (bad : Bool) (s : State) : Host.Outcome State Fault Refusal :=
  .next (if !portUp s p then s
    else if bad || !frameValid f then countErr (finc s (LNK.PORT.ERR.CRC p)) p
    else if addressed s then frameRoute s p f
    else if frameEarly f.typ && (f.hop || f.bc) && !frameCopy s f then deliver (frameSeen s f) f
    else s)

/-- R349, R350: the time stamps put into a frame of this unit as its SOF leaves port `p`. -/
def stampFrame (s : State) (p : Nat) (f : Frame) : State × Frame :=
  if f.typ = 0x20 ∧ f.src = myAddr s ∧ isHead s then (s, { f with pay := f.pay.take 1 ++ ctWords s.time.ct ++ [0] })
  else if f.typ = 0x21 then
    let t := stampNow s
    let r := some (f.pay.getD 0 0, t)
    ({ s with time := if p = 0 then { s.time with reqUp := r } else { s.time with reqDn := r } },
      { f with pay := f.pay.take 1 ++ ctWords t })
  else (s, f)

/-- R318: the frame of class `c` at the front of port `p` leaves. -/
def sendFront (s : State) (p c : Nat) (f : Frame) (rest : List Frame) : State :=
  let r := stampFrame s p f
  setPortQ r.1 p { setClassQ (portQ r.1 p) c rest with last := some r.2 }

/-- FRAME_TRANSMIT (R318): class 0 before class 1 before class 2. At Night rate the oldest beacon leaves, and a unit that
wakes returns the port to training once no WAKE beacon is left (R331, R604). -/
def execFrameTransmit (p : Fin 2) (s : State) : Host.Outcome State Fault Refusal :=
  let q := portQ s p
  .next (if portUp s p then
      match q.q0, q.q1, q.q2 with
      | f :: l, _, _ => sendFront s p 0 f l
      | [], f :: l, _ => sendFront s p 1 f l
      | [], [], f :: l => sendFront s p 2 f l
      | [], [], [] => s
    else if fget s (LNK.PORT.STAT.STATE p) = 3 then
      let s1 := setPortQ s p { q with beacons := q.beacons.drop 1 }
      if s.pwr.waking || stage s != 4 then portWake s1 p else s1
    else s)

/-! ### Enumeration -/

/-- R330, R344: the access outstanding ends. -/
def raccEnd (s : State) (status done : Nat) (data : List Nat) : State :=
  let s1 := (data.take 15).zipIdx.foldl (fun t e => fset t (LNK.RACC_DATA.DATA e.2) e.1) s
  let s2 := fset (fset s1 LNK.RACC_STAT.STATUS status) LNK.RACC_STAT.DONE done
  fset (fset { s2 with lnk := { s2.lnk with racc := none } } LNK.RACC_STAT.BUSY 0) LNK.RACC_STAT.DONE_EVT 1

/-- R82: the address differs from the EXP_ADDR of the applied image. -/
def addrCheck (s : State) : State :=
  if s.start.applied && !fon s TOP.STATUS.CFG_DEFAULTS && s.img.expAddr != 0xFF && s.img.expAddr != myAddr s then
    raise (fset s CFG.STATUS.ADDR_MISMATCH 1) 0x258 else s

/-- R319: the unit takes address `a`. -/
def takeAddr (s : State) (a : Nat) : State :=
  let changed := addressed s && myAddr s != a
  let s1 := if changed then fset s LNK.EVT.ADDR_CHG 1 else s
  let s2 := if changed && s1.lnk.racc.isSome then raccEnd s1 stLost 0 [] else s1
  soloEnd (tryUp (tryUp (linkRoutes (fset (fset s2 LNK.STAT.ADDR a) LNK.STAT.ADDR_VALID 1)) 0) 1)

/-- R319: an enumeration reaches the unit: the breaks known so far are older than it. -/
def enumBegins (s : State) : State := { s with lnk := { s.lnk with old := s.lnk.broken } }

/-- R322: the head enumerates the whole chain. -/
def reenumerate (s : State) : State :=
  if isHead s && addressed s then
    let g := s.lnk.gen % 255 + 1
    let s1 := enumBegins s
    tryEnum { s1 with lnk := { s1.lnk with gen := g, enumRuns := true, enumHeld := some (1, g) } }
  else s

/-- R319 step 5, R324: N, TOPO and CHAIN_GEN of an ENUM_DONE. Marks older than the enumeration, and hops the chain does
not have, are dropped. -/
def setEnum (s : State) (n topo gen : Nat) : State :=
  let lim := if topo = 2 then n else n - 1
  let keep (h : Nat) : Bool := decide (h < lim) && !s.lnk.old.contains h
  let s1 := { s with lnk := { s.lnk with
    broken := s.lnk.broken.filter keep, holding := s.lnk.holding.filter keep, old := [] } }
  fset (linkRoutes (fset (fset (fset s1 LNK.STAT.N n) LNK.STAT.TOPO topo) LNK.STAT.CHAIN_GEN gen)) LNK.EVT.ENUM 1

/-- R319 step 5, R324: the head broadcasts ENUM_DONE and takes it itself. -/
def enumDone (s : State) (n topo : Nat) : State :=
  setEnum (send s { typ := 3, bc := true, pay := [s.lnk.gen * 2 ^ 16 + topo * 2 ^ 8 + n] }) n topo s.lnk.gen

/-- R324: the head judges a JOINED. -/
def judgeJoined (s : State) (a : Nat) : State :=
  if s.lnk.enumRuns then { s with lnk := { s.lnk with joined := s.lnk.joined ++ [a] } }
  else if fon s (LNK.REACH a) then reenumerate s
  else ledgJoined (enumDone s (max (fget s LNK.STAT.N) (a + 1)) (if isRing s then 2 else 1)) a

/-- R319 steps 4 and 5: the head's enumeration has found `n` units; JOINED reports held are then judged. -/
def enumFinish (s : State) (n topo : Nat) : State :=
  let held := s.lnk.joined
  let s1 := enumDone { s with lnk := { s.lnk with enumRuns := false, enumHeld := none, joined := [] } } n topo
  held.foldl judgeJoined s1

/-- R320: what was found against what was expected. -/
def topoDiffers (s : State) (n topo : Nat) : Bool :=
  let te := fget s LNK.CFG.TOPO_EXP
  let ne := if 32 < fget s LNK.CFG.N_EXP then 0 else fget s LNK.CFG.N_EXP
  (te != 0 && te != topo) || (ne != 0 && ne != n)

/-- R319 step 4, R320: the head concludes its enumeration from an ENUM or an ENUM_END. -/
def enumConclude (s : State) (n topo : Nat) : State :=
  if topoDiffers s n topo then raise (enumFinish (fset s LNK.EVT.TOPO 1) n topo) 0x263 else enumFinish s n topo

/-- R319, R321: an ENUM at the head. Its own is one of its present CHAIN_GEN while its enumeration runs (assumption 55). -/
def enumAtHead (s : State) (p gen : Nat) (single : Bool) (next : Nat) : State :=
  let own := !single && s.lnk.enumRuns && s.lnk.gen == gen && s.lnk.enumHeld.isNone
  if own && p == 0 then enumConclude s next 2
  else
    let s1 := if p = 1 ∧ !single then fset s LNK.EVT.TOPO 1 else s
    if own then s1 else raise (fset (fset s1 LNK.STAT.HEAD_CONFLICT 1) LNK.EVT.HEAD2 1) 0x264

/-- R323: an offer of an address. -/
def enumOffer (s : State) (p gen next : Nat) : State :=
  if addressed s then (if next = myAddr s then s else raise (fset s LNK.EVT.TOPO 1) 0x263)
  else if next = 32 then s
  else
    let s1 := takeAddr s next
    addrCheck (send s1 { typ := 4, dst := 0, pay := [gen * 2 ^ 16 + 2 ^ 13 + next * 2 ^ 8 + p * 2 ^ 4 + 3] })

/-- R319 step 2: there is no address for this unit. -/
def enumOver (s : State) (gen : Nat) : State :=
  let s1 := linkRoutes (fset (fset s LNK.STAT.ADDR 0) LNK.STAT.ADDR_VALID 0)
  let s2 := fset (fset s1 LNK.STAT.OVER 1) LNK.EVT.OVER 1
  raise (send s2 { typ := 2, dst := 0, noaddr := some 0, pay := [gen * 2 ^ 16 + 2 ^ 6 + 32] }) 0x262

/-- R319 steps 2 and 3: a unit takes address NEXT and passes the ENUM on. -/
def enumTake (s : State) (gen next : Nat) : State :=
  let fresh := !addressed s || myAddr s != next
  let s1 := takeAddr (enumBegins s) next
  let s2 := tryEnum { s1 with lnk := { s1.lnk with enumHeld := some (next + 1, gen) } }
  if fresh then addrCheck s2 else s2

/-- ENUM_RX (R319, R321, R323). -/
def execEnumRx (p : Fin 2) (gen : BitVec 8) (single : Bool) (next : Nat) (s : State) : Host.Outcome State Fault Refusal :=
  .next (byEngine s 2 (if next = 0 ∨ 32 < next ∨ fget s LNK.STAT.RATE ≠ 1 then s
    else if isHead s then enumAtHead s p gen.toNat single next
    else if single then enumOffer s p gen.toNat next
    else if p = 1 then fset s LNK.EVT.TOPO 1
    else if next = 32 then enumOver s gen.toNat
    else enumTake s gen.toNat next))

/-- ENUM_END_RX (R319 step 4). -/
def execEnumEndRx (gen : BitVec 8) (_over : Bool) (n : Nat) (s : State) : Host.Outcome State Fault Refusal :=
  .next (byEngine s 2 (if isHead s && s.lnk.enumRuns && s.lnk.gen == gen.toNat && decide (1 ≤ n ∧ n ≤ 32) then enumConclude s n 1 else s))

/-- ENUM_DONE_RX (R319 step 5). -/
def execEnumDoneRx (gen : BitVec 8) (ring : Bool) (n : Nat) (s : State) : Host.Outcome State Fault Refusal :=
  .next (byEngine s 2 (if isHead s then s else setEnum s n (if ring then 2 else 1) gen.toNat))

/-- ENUM_WAIT_EXPIRY (R319 steps 1 and 3). -/
def execEnumWaitExpiry (s : State) : Host.Outcome State Fault Refusal :=
  .next (byEngine s 2 (match s.lnk.enumHeld with
    | some (next, gen) =>
      let s1 := { s with lnk := { s.lnk with enumHeld := none } }
      if isHead s then enumFinish s1 1 1 else send s1 { typ := 2, dst := 0, pay := [gen * 2 ^ 16 + next] }
    | none => s))

/-- LNK_CMD_REENUMERATE (R322, R336). -/
def execLnkCmdReenumerate (rq : Fin 24) (s : State) : Host.Outcome State Fault Refusal :=
  .next (asCoach s rq 0x7F 0x7000C fun t => if isHead t then (reenumerate t, stOk, []) else (t, stIllegal, []))

/-! ### Neighbours and breaks -/

/-- HELLO_SEND (R323). -/
def execHelloSend (p : Fin 2) (s : State) : Host.Outcome State Fault Refusal :=
  .next (byEngine s 2 (if portUp s p then
    send s { typ := 4, hop := some p, noaddr := if addressed s then none else some p, pay := [linkWord s p 0] } else s))

/-- R323: an offer to an unaddressed neighbour; 0 and 32 are never offered. -/
def offerAddr (s : State) (p : Nat) : State :=
  let next := if p = 1 then myAddr s + 1 else myAddr s - 1
  if addressed s && decide (1 ≤ next ∧ next ≤ 31) then sendEnum s p (fget s LNK.STAT.CHAIN_GEN) 1 next else s

/-- LINK_STATE_HELLO_RX (R323, R326). -/
def execLinkStateHelloRx (p : Fin 2) (_gen : BitVec 8) (valid : Bool) (addr : Fin 32) (s : State) :
    Host.Outcome State Fault Refusal :=
  .next (byEngine s 2 (if portUp s p then
    let s1 := fset (fsetB s (LNK.PORT.STAT.NB_VALID p) valid) (LNK.PORT.STAT.NB_ADDR p) (if valid then addr else 0)
    if valid then tryUp s1 p else offerAddr s1 p
    else s))

/-- LINK_STATE_DOWN_RX (R325). -/
def execLinkStateDownRx (addr : Fin 32) (port : Fin 2) (s : State) : Host.Outcome State Fault Refusal :=
  .next (byEngine s 2 (match (if addressed s then hopOf s addr port else none) with
    | some h => linkBreak s h
    | none => s))

/-- LINK_STATE_UP_RX (R326). -/
def execLinkStateUpRx (addr : Fin 32) (port : Fin 2) (s : State) : Host.Outcome State Fault Refusal :=
  .next (byEngine s 2 (match (if addressed s then hopOf s addr port else none) with
    | some h => linkMend s h
    | none => s))

/-- LINK_STATE_JOINED_RX (R324, R372). -/
def execLinkStateJoinedRx (addr : Fin 32) (s : State) : Host.Outcome State Fault Refusal :=
  .next (byEngine s 2 (if isHead s then judgeJoined (cvyLost s (2 ^ addr.val) false) addr else s))

/-- REPAIR_HOLD_EXPIRY: hop `hop` has stayed trained for REPAIR_HOLD (R326). -/
def execRepairHoldExpiry (hop : Fin 32) (s : State) : Host.Outcome State Fault Refusal :=
  .next (byEngine s 2 (if s.lnk.holding.contains hop.val then
    let l := s.lnk
    let s1 := { s with lnk := { l with broken := l.broken.filter (· != hop.val), holding := l.holding.filter (· != hop.val) } }
    let s2 := if isRing s1 && s1.lnk.broken != [] then s1 else fset s1 LNK.EVT.REPAIR 1
    linkRoutes s2
    else s))

/-! ### Register access to other units -/

/-- R330, R342: a write of RACC_CTL with CMD read or write. -/
def raccCmd (s : State) (write : Bool) (count : Nat) : State × Nat :=
  let u := fget s LNK.RACC_ADDR.UNIT
  if s.lnk.racc.isSome || !addressed s || count == 0 || (write && decide (14 < count)) || u == myAddr s then (s, stIllegal)
  else
    let tag := s.lnk.tag
    let s1 := { s with lnk := { s.lnk with racc := some ⟨tag, write, count⟩, tag := (tag + 1) % 65536 } }
    let data := if write then (List.range count).map fun i => fget s (LNK.RACC_DATA.DATA i) else []
    (send (fset s1 LNK.RACC_STAT.BUSY 1)
      { typ := if write then 0x11 else 0x10, dst := u, pay := [count * 2 ^ 16 + tag, fget s LNK.RACC_ADDR.ADDR] ++ data }, stOk)

/-- RACC_READ (R330). -/
def execRaccRead (rq : Fin 24) (count : Fin 16) (s : State) : Host.Outcome State Fault Refusal :=
  .next (asCoach s rq 0x7F 0x70100 fun t => let r := raccCmd t false count; (r.1, r.2, []))

/-- RACC_WRITE (R330). -/
def execRaccWrite (rq : Fin 24) (count : Fin 16) (s : State) : Host.Outcome State Fault Refusal :=
  .next (asCoach s rq 0x7F 0x70100 fun t => let r := raccCmd t true count; (r.1, r.2, []))

/-- RACC_TIMEOUT (R330). -/
def execRaccTimeout (s : State) : Host.Outcome State Fault Refusal :=
  .next (byEngine s 2 (if s.lnk.racc.isSome then raccEnd s stChainTimeout 0 [] else s))

/-- REG_RSP_RX (R330). -/
def execRegRspRx (tag : BitVec 16) (status : BitVec 8) (done : Fin 16) (data : List Word) (s : State) :
    Host.Outcome State Fault Refusal :=
  .next (byEngine s 2 (match s.lnk.racc with
    | some r =>
      if r.tag = tag.toNat then
        raccEnd s status.toNat done (if r.write then [] else (data.take done).map BitVec.toNat)
      else fset s LNK.EVT.RSP_LATE 1
    | none => fset s LNK.EVT.RSP_LATE 1))

end Sys2Proof.Machine
end

