-- ==== Sys2Proof/Machine/Gauge.lean ====
section
/-!
DEFINITION. Machine/Gauge.lean: the pack gauge (R520-R537) and Storage (R506).

Figures of the frame are binary32 patterns; each operation is rounded as it is written here (R523; assumption 60).
-/
namespace Sys2Proof.Machine

/-- The pattern of a whole number. -/
def f32Nat (n : Nat) : Nat := f32OfRat (n : Int) 1

/-- A non-negative pattern times `k` as a whole number of at most `top`: the rounding is free (assumption 21). -/
def f32Show (b k top : Nat) : Nat := min top (quotOpen ((f32Order b).toNat * k) (2 ^ 149))

/-- a + f (b - a). -/
def f32Lerp (a b f : Nat) : Nat := f32Add a (f32Mul f (f32Sub b a))

/-- A pattern kept within two others. -/
def f32Clamp (lo hi x : Nat) : Nat := if f32Lt x lo then lo else if f32Lt hi x then hi else x

/-- R522: the counter is to run. -/
def gaugeCounts (s : State) : Bool := fon s GAUGE.CFG.EN && fget s CHG.PACK.CELLS != 0

/-- Is the gauge running? -/
def gaugeRuns (s : State) : Bool := fon s GAUGE.STAT.RUN

/-- Is it frozen (R535)? -/
def gaugeFrozen (s : State) : Bool := fon s GAUGE.STAT.FROZEN

/-- The gauge's own state replaced. -/
def setGau (s : State) (g : GaugeX) : State := { s with gau := g }

/-- A flag of GAUGE.EVT, and its journal record (R536, R642). -/
def gaugeFlag (s : State) (f : Fld) : State :=
  let s1 := fset s f 1
  journal s1 0x0D 0 f.lo 0 [regWord s1 0xE0028, regWord s1 0xE0030, regWord s1 0xE004C]

/-- R538: the shunt in micro-ohm. -/
def shuntOhm (s : State) : Nat := clampNat 100 5000 (fget s GAUGE.CFG.SHUNT_UOHM)

/-- GAUGE_ACC_UPDATE: the charge of one millisecond at a mean shunt voltage in nV (R520, R521). -/
def execGaugeAccUpdate (shuntNv : Int) (s : State) : Host.Outcome State Fault Refusal :=
  .next (if s.start.applied && gaugeCounts s && !s.pwr.storage then
    let v := s.gau.accRem + clampInt (-60000000) 60000000 shuntNv
    let q := v / (shuntOhm s : Int)
    let acc := toSigned 64 (ofSigned 64 (s.gau.acc + q))
    fset64 (setGau s { s.gau with acc := acc, accRem := v % (shuntOhm s : Int) }) GAUGE.ACC_LO.ACC GAUGE.ACC_HI.ACC (ofSigned 64 acc)
  else s)

/-! ### Start and records -/

/-- R532: PACKDESC of the present configuration. -/
def packDesc (s : State) : Nat := fget s CHG.PACK.CHEM * 64 + fget s CHG.PACK.CELLS

/-- The capacity section in use. -/
def gaugeTab (s : State) : GTab := s.gau.tab.getD ⟨1000, [], [], [], []⟩

/-- R532: a record of this pack. -/
def recValid (s : State) (r : GRec) : Bool :=
  r.id == fget s CHG.STAT.ID && r.desc == packDesc s && r.design == (gaugeTab s).design

/-- R532: the valid record with the higher SEQ, and its slot. -/
def recInUse (s : State) : Option (Nat × GRec) :=
  let a := if s.jrn.present then s.gau.slot0.filter (recValid s) else none
  let b := if s.jrn.present then s.gau.slot1.filter (recValid s) else none
  match a, b with
  | some x, some y => if x.seq < y.seq then some (1, y) else some (0, x)
  | some x, none => some (0, x)
  | none, some y => some (1, y)
  | none, none => none

/-- R534: SoC and UNC at gauge start. -/
def gaugeRestore (s : State) : State :=
  match s.gau.kept with
  | some (soc, unc, id, ma, t) =>
    if id = fget s CHG.STAT.ID then
      let rate := f32OfRat (fget s GAUGE.UNC_CFG.RATE) 1000
      let aged := f32Mul rate (f32OfRat ((rtcSeconds s - t : Nat) : Int) 3600)
      let last := f32Mul (f32Nat 100) (f32Div (f32OfRat (ma : Nat) 3600) s.gau.qmax)
      fset (setGau s { s.gau with soc := soc, unc := f32Add (f32Add unc aged) last }) GAUGE.STAT.RESTORED 1
    else setGau s { s.gau with soc := f32Nat 50, unc := f32Nat 50 }
  | none => setGau s { s.gau with soc := f32Nat 50, unc := f32Nat 50 }

/-- R522: step 3 of R50: the counter runs; no valid capacity section is a fault. -/
def gaugeTabCheck (s : State) : State :=
  if gaugeCounts s && s.gau.tab.isNone then raise (fset s GAUGE.STAT.NOTAB 1) 0x23A else s

/-- R528: is the charger in a state in which the pack can rest? -/
def chgIdle (s : State) : Bool :=
  let st := fget s CHG.STAT.STATE
  st == 0 || st == 3 || st == 8 || st == 9 || st == 0xA

/-- R532, R534: step 4 of R50: the gauge starts. -/
def gaugeStart (s : State) : State :=
  if gaugeCounts s && s.gau.tab.isSome then
    let g := { s.gau with accPrev := s.gau.acc, idle := if chgIdle s then some (localNs s) else none }
    let s1 := fset s GAUGE.STAT.RUN 1
    let s2 := match recInUse s with
      | some (k, r) =>
        fset (fset (fset (setGau s1 { g with qmax := f32Nat r.qmax }) GAUGE.CYC.CYCLES r.cycles) GAUGE.REC.SEQ r.seq) GAUGE.REC_STAT.SLOT k
      | none => fset (setGau s1 { g with qmax := f32Nat (gaugeTab s).design }) GAUGE.STAT.NOREC 1
    gaugeRestore s2
  else s

/-- R534: the retention record takes the present figures. -/
def gaugeKeep (s : State) : State :=
  let k := (s.gau.soc, s.gau.unc, fget s CHG.STAT.ID, (fgetI s GAUGE.CURR.I_MA).natAbs, rtcSeconds s)
  if gaugeRuns s then setGau s { s.gau with kept := some k } else s

/-- GAUGE_RETENTION_WRITE (R534). -/
def execGaugeRetentionWrite (s : State) : Host.Outcome State Fault Refusal := .next (byEngine s 3 (gaugeKeep s))

/-- R533: a record write becomes due. -/
def recDue (s : State) : State := fset (setGau s { s.gau with tries := 0 }) GAUGE.REC_STAT.PENDING 1

/-- R532: the record that a write begun now carries. -/
def recNow (s : State) : GRec :=
  let q := fget s GAUGE.REC.SEQ
  ⟨if q < 0xFFFFFFFE then q + 1 else 1, fget s CHG.STAT.ID, packDesc s, (gaugeTab s).design, fget s GAUGE.QMAX.QMAX_MAH,
    fget s GAUGE.CYC.CYCLES, served s⟩

/-- The record slot with this content. -/
def setSlot (s : State) (k : Nat) (r : Option GRec) : State :=
  setGau s (if k = 0 then { s.gau with slot0 := r } else { s.gau with slot1 := r })

/-- R533: a write that waits begins where the supply allows it; its slot is erased first. -/
def recStart (s : State) (supplyMv : Nat) : State :=
  if fon s GAUGE.REC_STAT.PENDING && s.gau.writing.isNone && s.jrn.present && !gaugeFrozen s &&
      decide (fget s GAUGE.LEARN.WR_FLOOR_MV ≤ supplyMv) && !fon s (FLT.RAW 0x253) then
    let k := if fget s GAUGE.REC.SEQ = 0 then 0 else 1 - fget s GAUGE.REC_STAT.SLOT
    let s1 := setSlot s k none
    fset (setGau s1 { s1.gau with writing := some (k, recNow s) }) GAUGE.REC_STAT.PENDING 0
  else s

/-- GAUGE_RECORD_WRITE_DONE: the read-back of a record write (R533, R536). The journal's EVENT for a good write is not
stated and is a free value (assumption 61). -/
def execGaugeRecordWriteDone (ok : Bool) (s : State) : Host.Outcome State Fault Refusal :=
  .next (byEngine s 3 (match s.gau.writing with
    | some (k, r) =>
      let s1 := setGau s { s.gau with writing := none }
      if ok then
        let s2 := setSlot (setGau s1 { s1.gau with tries := 0 }) k (some r)
        let s3 := fset (fset (fset s2 GAUGE.REC.SEQ r.seq) GAUGE.REC_STAT.SLOT k) GAUGE.STAT.NOREC 0
        let d := drawNat s3 32
        journal d.2 0x0D 0 (0xE0 + d.1) 0 [regWord s3 0xE0028, regWord s3 0xE0030, regWord s3 0xE004C]
      else
        let again := decide (s.gau.tries < 3)
        let s2 := setGau s1 { s1.gau with tries := if again then s.gau.tries + 1 else 0 }
        raise (gaugeFlag (if again then fset s2 GAUGE.REC_STAT.PENDING 1 else s2) GAUGE.EVT.REC_FAIL) 0x23D
    | none => s))

/-! ### The frame -/

/-- R524: the pack temperature of the frame, and whether it is a fallback. -/
def gaugeTemp (s : State) (ntcUv : Nat) : State :=
  let t := Config.thermistor ntcUv (fget s CHG.TEMP.BETA)
  if -640 ≤ t ∧ t ≤ 1600 then
    fsetI (fset (setGau s { s.gau with temp := t }) GAUGE.STAT.T_FB 0) GAUGE.TEMP.T t
  else
    let s1 := fsetI s GAUGE.TEMP.T s.gau.temp
    if fon s GAUGE.STAT.T_FB then s1 else raise (gaugeFlag (fset s1 GAUGE.STAT.T_FB 1) GAUGE.EVT.T_FB) 0x23B

/-- R523 step 2: the charge `dq` (in µA s) on SoC. -/
def gaugeCount (s : State) (dq : Int) : State :=
  let d := f32Mul (f32Nat 100) (f32Div (f32OfRat dq 3600000) s.gau.qmax)
  setGau s { s.gau with soc := f32Clamp (f32Nat 0) (f32Nat 100) (f32Add s.gau.soc d) }

/-- R529: UNC grows over `dt` ns and the charge `dq`. -/
def gaugeGrow (s : State) (dq : Int) (dt : Nat) : State :=
  let rate0 := f32OfRat (fget s GAUGE.UNC_CFG.RATE) 1000
  let rate := if fon s GAUGE.STAT.T_FB then f32Mul (f32Nat 2) rate0 else rate0
  let byTime := f32Mul rate (f32OfRat (dt : Nat) 3600000000000)
  let byCharge := f32Mul (f32OfRat (fget s GAUGE.UNC_CFG.GERR) 100) (f32Div (f32OfRat dq.natAbs 3600000) s.gau.qmax)
  let u := f32Add (f32Add s.gau.unc byTime) byCharge
  setGau s { s.gau with unc := if f32Lt (f32Nat 100) u then f32Nat 100 else u }

/-- R531: discharge towards CYCLES; each increment asks for a record write. -/
def gaugeCycles (s : State) (dq : Int) : State :=
  let one := (gaugeTab s).design * 3600000
  let d := s.gau.dis + (-dq).toNat
  let s1 := setGau s { s.gau with dis := d % one }
  if d < one then s1
  else recDue (fset s1 GAUGE.CYC.CYCLES (min 65535 (fget s1 GAUGE.CYC.CYCLES + d / one)))

/-- |a - b|. -/
def f32Dist (a b : Nat) : Nat := if f32Lt a b then f32Sub b a else f32Sub a b

/-- R531: the new reference point against point A: `some` new Q_max where the update is accepted. -/
def learnNew (s : State) (soc0 unc0 : Nat) (acc0 : Int) : Option Nat :=
  let g := s.gau
  let span := f32Dist g.soc soc0
  let qnew := f32Div (f32Mul (f32Nat 100) (f32OfRat ((g.acc - acc0).natAbs : Nat) 3600000)) span
  if fon s GAUGE.CFG.LEARN_EN && f32Le (f32Nat (fget s GAUGE.LEARN.DSOC)) span &&
      f32Le (f32Div (f32Add unc0 g.unc) span) (f32OfRat 5 100) &&
      f32Le (f32Dist qnew g.qmax) (f32Mul (f32OfRat (fget s GAUGE.LEARN.QSTEP) 100) g.qmax) then
    some (f32Div (f32Add (f32Mul (f32Nat 3) g.qmax) qnew) (f32Nat 4))
  else none

/-- R531: a reference point has been applied: it is learnt from, and becomes point A. -/
def gaugeLearn (s : State) : State :=
  let next (t : State) : State := setGau t { t.gau with point := some (t.gau.soc, t.gau.unc, t.gau.acc) }
  match s.gau.point with
  | none => next s
  | some (soc0, unc0, acc0) =>
    match learnNew s soc0 unc0 acc0 with
    | some q => next (recDue (gaugeFlag (finc (setGau s { s.gau with qmax := q }) GAUGE.CNT.LEARNS) GAUGE.EVT.LEARN))
    | none => next (gaugeFlag s GAUGE.EVT.LEARN_REJ)

/-- A reference point: SoC and UNC, counted and flagged. -/
def gaugeRef (s : State) (soc unc : Nat) (f : Fld) : State :=
  gaugeLearn (gaugeFlag (finc (setGau s { s.gau with soc := soc, unc := unc }) GAUGE.CNT.REFS) f)

/-- R528: has the pack been at rest for REST_S? -/
def gaugeRests (s : State) : Bool :=
  let long (t : Option Nat) : Bool := match t with
    | some a => decide (a + fget s GAUGE.REST.REST_S * 1000000000 ≤ localNs s)
    | none => false
  long s.gau.quiet && long s.gau.idle

/-- R528: the OCV segments that hold `v`, each with its index and its rise in mV over 5 %. -/
def ocvSegs (ocv : List Nat) (v : Nat) : List (Nat × Nat) :=
  ((List.range 20).filter fun k => f32Le (f32Nat (ocv.getD k 0)) v && f32Le v (f32Nat (ocv.getD (k + 1) 0))).map
    fun k => (k, ocv.getD (k + 1) 0 - ocv.getD k 0)

/-- The segment with the smallest rise; the lowest of equal ones. -/
def ocvLeast : List (Nat × Nat) → Option (Nat × Nat)
  | [] => none
  | e :: l => match ocvLeast l with
    | some x => if x.2 < e.2 then some x else some e
    | none => some e

/-- R528: SoC and UNC from the open-circuit voltage, where the curve is steep enough. -/
def ocvPoint (s : State) (vpackMv : Nat) : Option (Nat × Nat) :=
  let v := f32OfRat (vpackMv : Nat) (atLeast1 (fget s CHG.PACK.CELLS))
  match ocvLeast (ocvSegs (gaugeTab s).ocv v) with
  | some (k, rise) =>
    let slope := f32OfRat (rise : Nat) 5
    if f32Le (f32OfRat (atLeast1 (fget s GAUGE.UNC_CFG.SLOPE_MIN)) 100) slope then
      some (f32Add (f32Nat (5 * k)) (f32Div (f32Sub v (f32Nat ((gaugeTab s).ocv.getD k 0))) slope), f32Div (f32Nat 5) slope)
    else none
  | none => none

/-- R528: the rest as this frame finds it, over an interval that began at `since`. -/
def gaugeRestShow (s : State) (iMa : Int) (since : Nat) : State :=
  let q := if iMa.natAbs < fget s GAUGE.REST.REST_MA then some (s.gau.quiet.getD since) else none
  let s1 := setGau s { s.gau with quiet := q }
  let r := gaugeRests s1
  fsetB (setGau s1 { s1.gau with restUsed := s1.gau.restUsed && r }) GAUGE.STAT.REST r

/-- R528: is this the frame of a rest that may give an OCV reference? -/
def ocvFrame (s : State) : Bool :=
  (s.gau.restNow || fon s GAUGE.STAT.REST && !s.gau.restUsed) && !fon s GAUGE.STAT.T_FB &&
    decide (160 ≤ s.gau.temp ∧ s.gau.temp ≤ 640)

/-- R523 step 4, R527, R528, R536: the reference points of the frame. -/
def gaugeRefs (s : State) (vpackMv : Nat) : State :=
  let g := s.gau
  let ocv := ocvFrame s
  let s1 := setGau s { g with term := false, full := false, restNow := false, restUsed := g.restUsed || (ocv && fon s GAUGE.STAT.REST) }
  let term := f32OfRat (fget s GAUGE.UNC_LIM.UNC_TERM) 100
  if g.full || g.term then
    let u3 := f32Mul (f32Nat 3) term
    gaugeRef (fset s1 GAUGE.STAT.REF_REQ 0) (f32Nat 100) (if g.full then term else if f32Lt u3 g.unc then u3 else g.unc) GAUGE.EVT.REF_TERM
  else if ocv then
    match ocvPoint s1 vpackMv with
    | some (soc, unc) => if f32Lt unc g.unc then gaugeRef s1 soc unc GAUGE.EVT.REF_OCV else s1
    | none => s1
  else s1

/-- R525: the discharge of the frames of the last 10 s, as a rate in C. -/
def gaugeRate (s : State) : Nat :=
  let q := s.gau.hist.foldl (fun n e => n + e.2) 0
  match s.gau.hist.getLast? with
  | some (t, _) => if t < localNs s then f32OfRat ((q * 1000000 : Nat) : Int) ((localNs s - t) * (gaugeTab s).design) else 0
  | none => 0

/-- How many points of an axis, after the first, a value has reached, up to the last but one. -/
def axisIdx (n : Nat) (p : Nat → Bool) : Nat := ((List.range (n - 2)).filter fun k => p (k + 1)).length

/-- R525, R526: F(T, r), bilinear. -/
def gaugeF (s : State) : Nat :=
  let g := gaugeTab s
  let ta (k : Nat) : Int := 16 * g.tAxis.getD k 0
  let ra (k : Nat) : Nat := f32OfRat (g.rAxis.getD k 0 : Nat) 100
  let t := clampInt (ta 0) (ta 15) s.gau.temp
  let r := f32Clamp (ra 0) (ra 7) (gaugeRate s)
  let i := axisIdx 16 fun k => decide (ta k ≤ t)
  let j := axisIdx 8 fun k => f32Le (ra k) r
  let tf := f32OfRat (t - ta i) (ta (i + 1) - ta i).toNat
  let rf := f32Div (f32Sub r (ra j)) (f32Sub (ra (j + 1)) (ra j))
  let at_ (a b : Nat) : Nat := f32Nat (g.f.getD (8 * a + b) 0)
  f32Lerp (f32Lerp (at_ i j) (at_ i (j + 1)) rf) (f32Lerp (at_ (i + 1) j) (at_ (i + 1) (j + 1)) rf) tf

/-- The OCV in mV at SoC `x` % on segment `k`. -/
def ocvAt (ocv : List Nat) (k x : Nat) : Nat :=
  f32Lerp (f32Nat (ocv.getD k 0)) (f32Nat (ocv.getD (k + 1) 0)) (f32Div (f32Sub x (f32Nat (5 * k))) (f32Nat 5))

/-- R525: the integral of the OCV over a span of SoC, in mV %. -/
def ocvIntegral (ocv : List Nat) (lo hi : Nat) : Nat :=
  (List.range 20).foldl (fun sum k =>
    let a := f32Max lo (f32Nat (5 * k))
    let b := if f32Lt hi (f32Nat (5 * k + 5)) then hi else f32Nat (5 * k + 5)
    if f32Lt a b then
      f32Add sum (f32Mul (f32Sub b a) (f32Div (f32Add (ocvAt ocv k a) (ocvAt ocv k b)) (f32Nat 2)))
    else sum) 0

/-- R523 step 5, R525, R541: capacity, remaining charge and energy. -/
def gaugeShow (s : State) : State :=
  let g := s.gau
  let fcc := f32Div (f32Mul g.qmax (gaugeF s)) (f32Nat 1000)
  let have_ := f32Mul (f32Div g.soc (f32Nat 100)) g.qmax
  let rm := f32Max 0 (f32Sub have_ (f32Sub g.qmax fcc))
  let span := f32Mul (f32Nat 100) (f32Div rm g.qmax)
  let v := f32Div (ocvIntegral (gaugeTab s).ocv (f32Sub g.soc span) g.soc) span
  let mwh := if f32Le rm 0 then 0 else f32Div (f32Mul (f32Mul rm (f32Nat (fget s CHG.PACK.CELLS))) v) (f32Nat 1000)
  let s1 := fset (fset s GAUGE.SOC.SOC (f32Show g.soc 100 65535)) GAUGE.SOC.UNC (f32Show g.unc 100 65535)
  let s2 := fset (fset s1 GAUGE.RM.RM_MAH (f32Show rm 1 65535)) GAUGE.RM.FCC_MAH (f32Show fcc 1 65535)
  let s3 := fset s2 GAUGE.QMAX.QMAX_MAH (f32Show g.qmax 1 65535)
  let s4 := fset s3 GAUGE.QMAX.SOH (f32Show (f32Div g.qmax (f32Nat (gaugeTab s).design)) 10000 65535)
  fset s4 GAUGE.EREM.MWH (f32Show mwh 1 0xFFFFFFFF)

/-- R530: may a reference charge be requested? -/
def gaugeMayAsk (s : State) : Bool :=
  let st := fget s CHG.STAT.STATE
  f32Le (f32OfRat (fget s GAUGE.UNC_LIM.UNC_REQ) 100) s.gau.unc && fon s GAUGE.CFG.REQ_EN && fon s CHG.CFG.EN &&
    !fon s CHG.STAT.PACK_GONE && decide (st < 0xA) &&
    (match s.gau.reqAt with
      | some t => decide (t + atLeast1 (fget s GAUGE.REF.REQ_HOLD) * 3600000000000 ≤ localNs s)
      | none => true)

/-- R530: a request: the entry REFENT is enabled, where it is the one the rule names. -/
def gaugeAsk (s : State) : State :=
  let i := fget s GAUGE.REF.REFENT
  let s1 := setGau (finc (fset s GAUGE.STAT.REF_REQ 1) GAUGE.CNT.REQS) { s.gau with reqAt := some (localNs s) }
  let s2 := gaugeFlag s1 GAUGE.EVT.REQ
  let right := !fon s (ITIN.W3.EN i) && entAct s i == 0x20 && entTgt s i == 0x98 && entArg s i / 4096 == 4
  let r := if right then itinWriteW3 (setGau s2 { s2.gau with reqOut := true }) i (itinWord s i 3 + 2 ^ 31) else (s2, stIllegal)
  if r.2 = stOk then r.1 else raise (gaugeFlag (setGau r.1 { r.1.gau with reqOut := false }) GAUGE.EVT.REQ_FAIL) 0x23C

/-- R523: the frame's work on a gauge that is not frozen. -/
def gaugeWork (s : State) (dq iMa : Int) (dt vpackMv : Nat) : State :=
  let full := s.gau.full
  let s1 := gaugeCycles (gaugeGrow (gaugeCount s dq) dq dt) dq
  let s2 := gaugeShow (gaugeRefs (gaugeRestShow s1 iMa (localNs s - dt)) vpackMv)
  if gaugeMayAsk s2 && !full then gaugeAsk s2 else s2

/-- R523: one frame, `dt` ns after the one before. -/
def gaugeFrame (s : State) (dt ntcUv vpackMv supplyMv : Nat) : State :=
  let dq := s.gau.acc - s.gau.accPrev
  let iMa := if dt = 0 then 0 else quotOpenI (dq * 1000000) dt
  let keep := s.gau.hist.filter fun e => decide (localNs s < e.1 + 10000000000)
  let s1 := setGau s { s.gau with accPrev := s.gau.acc, hist := (localNs s - dt, (-dq).toNat) :: keep }
  let s2 := gaugeTemp (fsetI s1 GAUGE.CURR.I_MA iMa) ntcUv
  recStart (if gaugeFrozen s2 then setGau s2 { s2.gau with term := false, full := false } else gaugeWork s2 dq iMa dt vpackMv) supplyMv

/-- GAUGE_FRAME: frame 4 on E3 (R16, R523), with the mean thermistor voltage, the charger's monitor of the pack and the
highest start supply. -/
def execGaugeFrame (work ntcUv vpackMv supplyMv : Nat) (s : State) : Host.Outcome State Fault Refusal :=
  .next (if frameRuns s 4 then
    let b := frameBegin s 4 work
    if gaugeRuns b.1 then gaugeFrame b.1 b.2 ntcUv vpackMv supplyMv else b.1
  else s)

/-! ### Storage -/

/-- R165: is any channel's wire model running? -/
def wireRuns (s : State) : Bool := (List.range 64).any fun n => fon s (WIRE.STAT.RUN n)

/-- R506, R518: a STORE word with GO = 1: accepted only in Noon with CHG_IN, VIN48 and VIN12 absent. The retention
records are written (R165, R534), and PON_OUT is released (R613). -/
def storageCmd (s : State) (key : Nat) : State × Nat :=
  if key ≠ 0x5C3A then (s, stOk)
  else if stage s ≠ 2 ∨ fon s TOP.SUPPLY.CHG_IN ∨ fon s TOP.SUPPLY.VIN48 ∨ fon s TOP.SUPPLY.VIN12 then (s, stIllegal)
  else (fset (storageEnter (gaugeKeep (if wireRuns s then wireKeep s else s))) RTC.STAT.PON 0, stOk)

/-- STORAGE_ENTRY. -/
def execStorageEntry (rq : Fin 24) (key : BitVec 16) (s : State) : Host.Outcome State Fault Refusal :=
  .next (asCoach s rq 0x50 0xD004C fun t => let r := storageCmd t key.toNat; (r.1, r.2, []))

end Sys2Proof.Machine
end

