-- ==== Sys2Proof/Machine/Fault.lean ====
section
/-!
DEFINITION. Machine/Fault.lean: the commands of the fault collector, its checks on itself and test injection
(R12-R15, R569-R583).
-/
namespace Sys2Proof.Machine

/-- R570: source `i` reports over a pair; FLT_PAIR, FLT_REMOTE and FLT_SELF arise inside the collector and have none. -/
def hasPair (i : Nat) : Bool := decide (i < 0x27D)

/-- R570: what a broken pair of source `i` records, and its two raises; `inj` says that an injection has broken it. -/
def pairBroken (s : State) (i : Nat) (inj : Bool) : State :=
  let s1 := finc (fset (fset s (FLT.BRK i) 1) FLT.EVT.BROKEN 1) FLT.CNT.BRK
  raiseEvent (raiseWith s1 i inj true) 0x27D inj true

/-- R576: a collector self-fault: FLT_SELF, which is fatal whatever SEV holds. -/
def selfFault (s : State) (inj : Bool) : State := raiseEvent (fset s FLT.EVT.SELF 1) 0x27F inj false

/-- R14: engine `e` of E0-E3 halts until the next reset, with its target; the fault is raised. -/
def lockstepHalt (s : State) (e : Nat) (inj : Bool) : State :=
  if fget s (ENG.STAT.STATE e) = 1 then
    raiseEvent (targetReset (fset s (ENG.STAT.STATE e) 2) (0x55 + e)) (0x242 + e) inj false
  else s

/-- R12: does the detector of a clock watch it? A LINK or PD clock is watched by its enabled port. -/
def clockWatched (s : State) (d : ClockDomain) : Bool :=
  match d with
  | .sys => s.start.pll
  | .pwm => s.start.pll && (stage s != 4 || (List.range 64).any fun n => fget s (CHN.STAT.STATE n) == 6)
  | .adc c => adcIsReady s c || s.adc.cal.contains c.val
  | .nvm => s.start.nvm
  | .bkp => s.start.bkp
  | .port => fget s (LNK.PORT.STAT.STATE 0) != 0 || fget s (LNK.PORT.STAT.STATE 1) != 0 ||
      fon s (PD.CFG.EN 0) || fon s (PD.CFG.EN 1)

/-- R568: the source of a missing clock. -/
def clockSource (d : ClockDomain) : Nat :=
  match d with
  | .sys => 0x24B
  | .pwm => 0x24C
  | .adc _ => 0x24D
  | .nvm => 0x24E
  | .bkp => 0x24F
  | .port => 0x250

/-- R456, R609: what a lost clock does beside its fault. -/
def clockLost (s : State) (d : ClockDomain) : State :=
  match d with
  | .adc c => adcDown s c
  | .bkp => fset (fset (fset s RTC.STAT.OSC_FAIL 1) RTC.EVT.OSC_FAIL 1) RTC.STAT.SET 0
  | _ => s

/-- R583: may a word with this key inject or force? -/
def injAllowed (s : State) (key : Nat) : Bool := fon s FLT.CFG.INJ_EN && key == 0x3C96

/-- R583: what every injection and force records; `w` is the word written. -/
def injRecord (s : State) (tgt sel w : Nat) : State := journal (fset s FLT.EVT.INJ 1) 0x10 sel 0xE0 tgt [w]

/-- R592: the FLT.INJ word of a key, a checker and a selection. -/
def injWord (key tgt sel : Nat) : Nat := key * 2 ^ 16 + tgt * 2 ^ 13 + sel

/-- R583: a word of FLT.INJ for checker `tgt`, whose selections are those below `n`: with `f` it acts. -/
def injCore (s : State) (key tgt sel n : Nat) (f : State → State) : State × Nat :=
  if injAllowed s key && decide (sel < n) then (f (injRecord s tgt sel (injWord key tgt sel)), stOk) else (s, stIllegal)

/-- R583: that word written by port `rq`. -/
def injWrite (s : State) (rq key tgt sel n : Nat) (f : State → State) : State :=
  asCoach s rq 0x7F 0x120020 fun t => let r := injCore t key tgt sel n f; (r.1, r.2, [])

/-- R583: a word of FLT.FORCE: the report of source `sel` rises for one SYS cycle. -/
def forceCore (s : State) (key sel : Nat) : State × Nat :=
  if injAllowed s key && decide (sel < 0x280) then (raiseEvent (injRecord s 0 sel (injWord key 0 sel)) sel true false, stOk)
  else (s, stIllegal)

/-- R583: the next coach of requester port `p` is a check error. -/
def injFab (s : State) (p : Nat) : State :=
  { s with flt := { s.flt with fabInj := s.flt.fabInj.filter (· != p) ++ [p] } }

/-- R583: the pair of source `i` is broken for 1 µs, after which its report is what it was. -/
def injPair (s : State) (i : Nat) : State :=
  let s1 := pairBroken s i true
  if fon s (FLT.RAW i) then s1 else lower s1 i

/-- R583: the check bits of SEV word `w` are wrong until the next scrub. -/
def injSev (s : State) (w : Nat) : State :=
  { s with flt := { s.flt with sevInj := s.flt.sevInj.filter (· != w) ++ [w] } }

/-! ### The commands -/

/-- FAULT_RAISE (R571). -/
def execFaultRaise (src : Fin 640) (s : State) : Host.Outcome State Fault Refusal := .next (raiseLevel s src)

/-- FAULT_REPORT_FALL (R571): the report, over a pair that is whole, reads not raised. -/
def execFaultReportFall (src : Fin 640) (s : State) : Host.Outcome State Fault Refusal :=
  .next (lower { s with flt := { s.flt with pairs := s.flt.pairs.filter (· != src.val) } } src)

/-- BROKEN_PAIR (R570). -/
def execBrokenPair (src : Fin 640) (s : State) : Host.Outcome State Fault Refusal :=
  .next (if !hasPair src || s.flt.pairs.contains src.val then s
    else pairBroken { s with flt := { s.flt with pairs := s.flt.pairs ++ [src.val] } } src false)

/-- RSTS_CLEAR (R575). -/
def execRstsClear (s : State) : Host.Outcome State Fault Refusal :=
  .next (if stage s = 2 ∧ safe s = false then fset s FLT.STAT.RSTS 0 else s)

/-- COLLECTOR_SCRUB (R576): a check error that stands in a register is found and is a self-fault. -/
def execCollectorScrub (s : State) : Host.Outcome State Fault Refusal :=
  .next (if s.flt.sevInj = [] then s else selfFault { s with flt := { s.flt with sevInj := [] } } true)

/-- COLLECTOR_SELF_FAULT (R576). -/
def execCollectorSelfFault (s : State) : Host.Outcome State Fault Refusal := .next (selfFault s false)

/-- RC_OSCILLATOR_LOSS (R578): before PLL lock the part is held in Dawn. -/
def execRcOscillatorLoss (s : State) : Host.Outcome State Fault Refusal :=
  .next (if !s.start.rcRuns then s
    else
      let s1 := { s with start := { s.start with rcRuns := false, rcLost := !s.start.pll, pair := .fatal } }
      raiseLevel (fset s1 FLT.EVT.SELF 1) 0x27F)

/-- HEARTBEAT_LOSS (R580): the fatal pattern and the safe state; FIRST records FLT_SELF, which is not raised. -/
def execHeartbeatLoss (s : State) : Host.Outcome State Fault Refusal :=
  .next (let s1 := { s with flt := { s.flt with hbInj := false } }
    if safe s1 then s1 else summarise (enterSafe (recordFirst s1 0x27F)))

/-- ERROR_PAIR_TOGGLE (R579): the fatal pattern stays. -/
def execErrorPairToggle (s : State) : Host.Outcome State Fault Refusal :=
  .next { s with start := { s.start with pair := match s.start.pair with
    | .fatal => .fatal
    | .healthy h => .healthy (!h) } }

/-- FAULT_SUM_SEND (R581). -/
def execFaultSumSend (s : State) : Host.Outcome State Fault Refusal :=
  .next (send s { typ := 0x50, bc := true, pay := faultSumWords s })

/-- R582: the SAFE bit of unit `u`; a rise raises FLT_REMOTE. -/
def remoteSafe (s : State) (u : Nat) (b : Bool) : State :=
  let s1 := fsetB s (FLT.REMOTE u) b
  if b && !fon s (FLT.REMOTE u) then raise (fset s1 FLT.EVT.REMOTE 1) 0x27E else s1

/-- R598: the STAGE of unit `u`'s latest FAULT_SUM; a unit that has sent none reads as Noon. -/
def stageNoted (s : State) (u g : Nat) : State :=
  { s with pwr := { s.pwr with stages := tabPut (fun _ => 2) s.pwr.stages u g } }

/-- FAULT_SUM_RX (R582); the sender's STAGE is kept for R598. -/
def execFaultSumRx (src : Fin 32) (w0 _w1 : Word) (s : State) : Host.Outcome State Fault Refusal :=
  .next (remoteSafe (stageNoted s src (bitsOf w0.toNat 10 8)) src (bitOf w0.toNat 2))

/-- INJ_FABRIC (R583). -/
def execInjFabric (rq : Fin 24) (key : BitVec 16) (sel : Fin 1024) (s : State) : Host.Outcome State Fault Refusal :=
  .next (injWrite s rq key.toNat 1 sel 24 fun t => injFab t sel)

/-- INJ_PAIR (R583). -/
def execInjPair (rq : Fin 24) (key : BitVec 16) (sel : Fin 1024) (s : State) : Host.Outcome State Fault Refusal :=
  .next (injWrite s rq key.toNat 2 sel 0x27D fun t => injPair t sel)

/-- INJ_COLLECTOR_REG (R583). -/
def execInjCollectorReg (rq : Fin 24) (key : BitVec 16) (sel : Fin 1024) (s : State) : Host.Outcome State Fault Refusal :=
  .next (injWrite s rq key.toNat 3 sel 40 fun t => injSev t sel)

/-- INJ_LOCKSTEP (R583). -/
def execInjLockstep (rq : Fin 24) (key : BitVec 16) (sel : Fin 1024) (s : State) : Host.Outcome State Fault Refusal :=
  .next (injWrite s rq key.toNat 4 sel 4 fun t => lockstepHalt t sel true)

/-- INJ_HEARTBEAT (R583). -/
def execInjHeartbeat (rq : Fin 24) (key : BitVec 16) (sel : Fin 1024) (s : State) : Host.Outcome State Fault Refusal :=
  .next (injWrite s rq key.toNat 5 sel 1 fun t => { t with flt := { t.flt with hbInj := true } })

/-- FAULT_FORCE (R583): the report rises for one SYS cycle. -/
def execFaultForce (rq : Fin 24) (key : BitVec 16) (sel : Fin 1024) (s : State) : Host.Outcome State Fault Refusal :=
  .next (asCoach s rq 0x7F 0x120024 fun t => let r := forceCore t key.toNat sel; (r.1, r.2, []))

/-- LOCKSTEP_MISMATCH (R14). -/
def execLockstepMismatch (e : Fin 4) (s : State) : Host.Outcome State Fault Refusal := .next (lockstepHalt s e false)

/-- R12, R456: the report of a missing clock stands; that of a converter ends with the power-down it brings. -/
def clockMissing (s : State) (d : ClockDomain) : State :=
  match d with
  | .adc _ => raise (clockLost s d) (clockSource d)
  | _ => raiseLevel (clockLost s d) (clockSource d)

/-- MISSING_CLOCK (R12): a clock that is not watched raises nothing. -/
def execMissingClock (d : ClockDomain) (s : State) : Host.Outcome State Fault Refusal :=
  .next (if clockWatched s d then clockMissing s d else s)

/-- LOAD_WINDOW_END (R15): the percentage of each engine, and the highest of them. -/
def execLoadWindowEnd (loads : List Nat) (s : State) : Host.Outcome State Fault Refusal :=
  .next ((List.range 8).foldl (fun t e =>
    let v := min (loads.getD e 0) 100
    fmax (fset t (ENG.STAT.LOAD e) v) (ENG.PEAK.LOAD_PEAK e) v) s)

end Sys2Proof.Machine
end

