-- ==== Sys2Proof/Machine/Night.lean ====
section
/-!
DEFINITION. Machine/Night.lean: Evening, Night, beacons, waking, the real-time clock and PON_OUT (R597-R613).
-/
namespace Sys2Proof.Machine

/-! ### Requests for a stage -/

/-- R606: a wake or a Night entry is in progress. -/
def pwrBusy (s : State) : Bool := s.pwr.waking || s.pwr.rate.isSome

/-- R597: Noon to Evening. -/
def toEvening (s : State) : State :=
  let s1 := setStage { s with pwr := { s.pwr with eveLevel := shedLevel s } } 3
  seqTrigger (if fon s RTC.PWR_CFG.EVE_LEVEL then (setShedLevel s1 (fget s RTC.PWR_CFG.EVE_LEVEL)).1 else s1) 3

/-- R597: REQ = Evening. -/
def reqEvening (s : State) : State × Nat :=
  if stage s = 2 ∧ pwrBusy s = false then (toEvening s, stOk) else (s, stIllegal)

/-- R598: may the head take its chain to Night? -/
def chainMayNight (s : State) : Bool :=
  !(s.cvy.head.any fun x => cvyArmed s x) &&
    (List.range 32).all fun u => u == myAddr s || !fon s (LNK.REACH u) ||
      (let g := tabGet (fun _ => 2) s.pwr.stages u; g == 2 || g == 3)

/-- R598, R618: the lead of the switch CT in ns. -/
def nightLead (s : State) : Nat := max 10 (fget s RTC.PWR_CFG.NIGHT_LEAD) * 1000000

/-- R598: the switch to Night is awaited at `ct`. -/
def setRate (s : State) (ct : Nat) : State := { s with pwr := { s.pwr with rate := some ct } }

/-- R597, R598: REQ = Night. -/
def reqNight (s : State) : State × Nat :=
  if (stage s ≠ 2 ∧ stage s ≠ 3) ∨ pwrBusy s then (s, stIllegal)
  else if addressed s && fon s LNK.STAT.ATTACHED && !fon s TOP.STATUS.SOLO then
    if !isHead s || !chainMayNight s then (s, stIllegal)
    else
      let ct := served s + nightLead s
      (send (setRate s ct) { typ := 5, bc := true, pay := 1 :: ctWords ct }, stOk)
  else (setRate s (served s + 10000), stOk)

/-- R597: REQ = Noon. -/
def reqNoon (s : State) : State × Nat :=
  if pwrBusy s then (s, stIllegal)
  else if stage s = 3 then (eveningToNoon s, stOk)
  else if stage s = 4 then (wakeCause s 5 (myAddr s), stOk)
  else (s, stIllegal)

/-- A command by port `rq` on register `a`, of index 0x7F, that answers no data. -/
def byPort (s : State) (rq a : Nat) (f : State → State × Nat) : State :=
  asCoach s rq 0x7F a fun t => let r := f t; (r.1, r.2, [])

/-! ### Entering Night -/

/-- R596: E6 stops in Night; E4 and E5 stop there as the models of their half do. -/
def nightEngines (s : State) : State :=
  let stop (t : State) (e : Nat) : State := if halted t e then t else fset t (ENG.STAT.STATE e) 0
  let s1 := stop s 6
  let s2 := if (wireHalf false).any (wireDriven s1) then s1 else stop s1 4
  if (wireHalf true).any (wireDriven s2) then s2 else stop s2 5

/-- R599: a trained port goes to Night rate. -/
def portNight (s : State) (p : Nat) : State := if portUp s p then fset s (LNK.PORT.STAT.STATE p) 3 else s

/-- R599: a loop is turned off as EN ← 0 with OFF_MODE = 0. -/
def loopNight (s : State) (n : Nat) : State :=
  let st := loopState s n
  if st = 0 ∨ st = 7 ∨ st = 8 then s else loopOff (fset s (LOOP.CTL.EN n) 0) n

/-- R456: is converter `c` powered? -/
def adcPowered (s : State) (c : Nat) : Bool := adcIsReady s c || s.adc.cal.contains c

/-- R599: the actions of Night entry, in order. -/
def enterNight (s : State) : State :=
  let s0 := { s with pwr := { s.pwr with rate := none, nightLevel := shedLevel s } }
  let s1 := portNight (portNight (fset (setStage s0 4) LNK.STAT.RATE 2) 0) 1
  let s2 := if fon s RTC.PWR_CFG.NIGHT_LEVEL then (setShedLevel s1 (fget s RTC.PWR_CFG.NIGHT_LEVEL)).1 else s1
  let s3 := (List.range 4).foldl loopNight s2
  let s4 := (pdDisable (pdDisable s3 0).1 1).1
  let s5 := (List.range 4).foldl (fun t c => if adcPowered t c then adcDown t c else t) s4
  let s6 := seqTrigger s5 4
  nightEngines (wireNightStop s6)

/-- R606: a cause held since the receipt of RATE wakes at once. -/
def wakeHeld (s : State) : State :=
  match s.pwr.heldCause with
  | some (c, u) => wakeNight { s with pwr := { s.pwr with heldCause := none } } c u false
  | none => s

/-! ### The Night scan -/

/-- R600: the gain with which input `i` is converted: that of the lowest-numbered enabled sequence entry that converts
it, or G = 1. -/
def scanGain (s : State) (i : Nat) : Nat :=
  let l := (List.range 256).filter fun k =>
    fon s (ADC.SEQ.CFG.EN (k / 16)) && decide (k % 16 < fget s (ADC.SEQ.CFG.LEN (k / 16))) &&
      fget s (ADC.SEQ.ENT.INPUT (k / 16) (k % 16)) == i
  match l with
  | k :: _ => min 5 (fget s (ADC.SEQ.ENT.GAIN (k / 16) (k % 16)))
  | [] => 0

/-- R600: one channel of the scan: its current and its bank's voltage. -/
def scanChannel (s : State) (e : Fin 64 × Int × Int) : State :=
  let n := e.1.val
  if chDriven s n || chState s n == 9 then
    let s1 := adcForward s n e.2.1 0 (scanGain s n)
    adcForward s1 (0x80 + n / 8) e.2.2 0 (scanGain s1 (0x80 + n / 8))
  else s

/-- R600: is result `i` named by an ambient source of type 0b10 that a running wire model uses? -/
def scanNamed (s : State) (i : Nat) : Bool :=
  (List.range 16).any fun k => fget s (WIRE.AMB.CTL.SRC k) == 2 && fget s (WIRE.AMB.CTL.RIDX k) == i &&
    (List.range 64).any fun n => fon s (WIRE.STAT.RUN n) && fget s (WIRE.CFG.AMB n) == k

/-- R600, R448: one ambient result of the scan: a single conversion stands for each of the 2^AVG runs that the result's
scale counts (assumption 72). -/
def scanAmbient (s : State) (e : Fin 256 × Int) : State :=
  let i := e.1.val
  if scanNamed s i then
    let q := i / 16
    adcAmbients (adcPut s i (adcValue (e.2 * (2 ^ fget s (ADC.SEQ.CFG.AVG q) : Nat)) (fget s (ADC.SEQ.CFG.SHIFT q))) false) i
  else s

/-! ### Beacons -/

/-- R331: the beacons remembered per source are the last 64 (assumption 71). -/
def beaconNew (s : State) (src bseq : Nat) : Bool :=
  !(addressed s && src == myAddr s) && !(tabGet (fun _ => []) s.lnk.bseen src).contains bseq

/-- R331: a beacon of `src` has been accepted. -/
def beaconNote (s : State) (src bseq : Nat) : State :=
  let l := (bseq :: tabGet (fun _ => []) s.lnk.bseen src).take 64
  { s with lnk := { s.lnk with bseen := tabPut (fun _ => []) s.lnk.bseen src l } }

/-- R331: the first copy of a beacon leaves by the opposite port, and the unit acts on it. -/
def beaconRx (s : State) (p : Nat) (b : Beacon) (f : State → State) : State :=
  if fget s (LNK.PORT.STAT.STATE p) = 3 ∧ beaconNew s b.src b.bseq then
    let s1 := beaconNote s b.src b.bseq
    let o := 1 - p
    f (if fget s1 (LNK.PORT.STAT.STATE o) = 3 then setPortQ s1 o { portQ s1 o with beacons := (portQ s1 o).beacons ++ [b] } else s1)
  else s

/-- R353: the hop distance from unit 0 along the arrival port. -/
def beaconHops (s : State) (p : Nat) : Nat := if p = 0 then myAddr s else fget s LNK.STAT.N - myAddr s

/-- R353: a TIME beacon with CT `ct` at a unit in HOLDOVER: CT steps only when the drift it may have exceeds what the
beacon leaves open. -/
def beaconTime (s : State) (p ct : Nat) : State :=
  if stage s = 4 ∧ fget s TIME.STAT.STATE = 3 ∧ isHead s = false then
    let h := beaconHops s p
    let s1 := fset s TIME.STAT.BEACON 1
    if h * 15000 + 2000 < 50 * fget s TIME.HOLD_MS.MS then
      let v := (ct + h * 707000) % 2 ^ 64
      timeStep { s1 with time := { s1.time with ct := v, rem := 0 } } ((v : Int) - (s.time.ct : Int))
    else s1
  else s

/-! ### Waking -/

/-- R605: waking from Night to Noon. -/
def wakeUp (s : State) : State :=
  let s1 := portWake (portWake (fset { s with pwr := { s.pwr with waking := false } } LNK.STAT.RATE 1) 0) 1
  let s2 := (List.range 8).foldl (fun t e => if halted t e then t else fset t (ENG.STAT.STATE e) 1) s1
  let s3 := (List.range 4).foldl (fun t c => if bitOf (fget t ADC.CTL.EN) c then adcUp t c else t) s2
  let s4 := (List.range 2).foldl (fun t n => if fon t (PD.CFG.EN n) then (pdEnable t n false).1 else t) s3
  seqTrigger (setShedLevel (setStage s4 2) s.pwr.nightLevel).1 5

/-! ### The calendar -/

/-- R612, R616: does alarm `k` match the calendar at a number of seconds? Its masked fields are ignored. -/
def almMatch (s : State) (k secs : Nat) : Bool :=
  let m := fget s (RTC.ALM.MSK k)
  let c := rtcPut s secs
  (bitOf m 3 || fget s (RTC.ALM.DAY k) == fget c RTC.DATE.DAY) && (bitOf m 2 || fget s (RTC.ALM.HOUR k) == secs / 3600 % 24) &&
    (bitOf m 1 || fget s (RTC.ALM.MIN k) == secs / 60 % 60) && (bitOf m 0 || fget s (RTC.ALM.SEC k) == secs % 60)

/-- R612, R608: alarm `k` fires; in Storage it sets its flag only. -/
def almFire (s : State) (k : Nat) : State :=
  let s1 := fset s (if k = 0 then RTC.EVT.ALM0 else RTC.EVT.ALM1) 1
  if s.pwr.storage then s1
  else
    let s2 := if fon s1 (RTC.ALM.PON k) then ponAssert s1 else s1
    if fon s2 (RTC.ALM.WAKE k) then wakeCause s2 (1 + k) (myAddr s2) else s2

/-- R612: alarm `k` against the second just begun. -/
def almCheck (s : State) (k : Nat) : State := if fon s (RTC.ALM.EN k) && almMatch s k (rtcSeconds s) then almFire s k else s

/-- R609: a second boundary: the calendar advances, up to its last second. -/
def rtcTick (s : State) : State :=
  let s0 := fset { s with time := { s.time with bkp := 0 } } RTC.SUB.PRESC 0
  if rtcSeconds s < lastSecond then almCheck (almCheck (rtcPut s0 (rtcSeconds s + 1)) 0) 1 else s0

/-- R610: a TIME word sets the time and any staged date in one step. -/
def rtcTimeSet (s : State) (w : Nat) : State × Nat :=
  let y := match s.pwr.staged with
    | some d => bitsOf d 31 16
    | none => fget s RTC.DATE.YEAR
  let m := match s.pwr.staged with
    | some d => bitsOf d 11 8
    | none => fget s RTC.DATE.MONTH
  let d := match s.pwr.staged with
    | some d => bitsOf d 4 0
    | none => fget s RTC.DATE.DAY
  if dateExists y m d && decide (bitsOf w 20 16 < 24 ∧ bitsOf w 13 8 < 60 ∧ bitsOf w 5 0 < 60) then
    let secs := dayCount (y - 2000) m d * 86400 + bitsOf w 20 16 * 3600 + bitsOf w 13 8 * 60 + bitsOf w 5 0
    let s1 := { s with pwr := { s.pwr with staged := none }, time := { s.time with bkp := 0 } }
    (fset (fset (rtcPut s1 secs) RTC.SUB.PRESC 0) RTC.STAT.SET 1, stOk)
  else (s, stIllegal)

/-- R611: an alarm whose match time lies in the hour that add skips fires. -/
def almSkip (s : State) (old : Nat) (k : Nat) : State :=
  if fon s (RTC.ALM.EN k) && (List.range 3600).any (fun i => almMatch s k (old + 1 + i)) then almFire s k else s

/-- R611: CMD = add hour. -/
def rtcAddHour (s : State) : State × Nat :=
  let n := rtcSeconds s
  if fon s RTC.STAT.DST || decide (lastSecond < n + 3600) then (s, stIllegal)
  else (almSkip (almSkip (fset (rtcPut s (n + 3600)) RTC.STAT.DST 1) n 0) n 1, stOk)

/-- R611: CMD = subtract hour. -/
def rtcSubHour (s : State) : State × Nat :=
  let n := rtcSeconds s
  if !fon s RTC.STAT.DST || decide (n < 3600) then (s, stIllegal)
  else (fset (rtcPut s (n - 3600)) RTC.STAT.DST 0, stOk)

/-- R616: are the unmasked fields of an alarm word in range? -/
def almOk (w : Nat) : Bool :=
  (bitOf w 28 || decide (1 ≤ bitsOf w 24 20)) && (bitOf w 27 || decide (bitsOf w 19 15 < 24)) &&
    (bitOf w 26 || decide (bitsOf w 11 6 < 60)) && (bitOf w 25 || decide (bitsOf w 5 0 < 60))

/-- R616: alarm `k` is written. -/
def almWrite (s : State) (k w : Nat) : State × Nat :=
  if almOk w then
    let s1 := fset (fset (fset s (RTC.ALM.EN k) (bitsOf w 31 31)) (RTC.ALM.PON k) (bitsOf w 30 30)) (RTC.ALM.WAKE k) (bitsOf w 29 29)
    let s2 := fset (fset (fset s1 (RTC.ALM.MSK k) (bitsOf w 28 25)) (RTC.ALM.DAY k) (bitsOf w 24 20)) (RTC.ALM.HOUR k) (bitsOf w 19 15)
    (fset (fset s2 (RTC.ALM.MIN k) (bitsOf w 11 6)) (RTC.ALM.SEC k) (bitsOf w 5 0), stOk)
  else (s, stIllegal)

/-! ### The commands -/

/-- PWR_REQ_EVENING (R597). -/
def execPwrReqEvening (rq : Fin 24) (s : State) : Host.Outcome State Fault Refusal := .next (byPort s rq 0x130028 reqEvening)

/-- PWR_REQ_NIGHT (R598). -/
def execPwrReqNight (rq : Fin 24) (s : State) : Host.Outcome State Fault Refusal := .next (byPort s rq 0x130028 reqNight)

/-- PWR_REQ_NOON (R597, R603). -/
def execPwrReqNoon (rq : Fin 24) (s : State) : Host.Outcome State Fault Refusal := .next (byPort s rq 0x130028 reqNoon)

/-- RATE_RX (R598): every unit that receives it enters Night at the switch CT. The spec gives NIGHT = 0 no use: a port that
receives a full-rate frame is at full rate already. -/
def execRateRx (night : Bool) (ct : BitVec 64) (s : State) : Host.Outcome State Fault Refusal :=
  .next (byEngine s 2 (if night then setRate s ct.toNat else s))

/-- NIGHT_ENTRY (R599): at the switch CT. -/
def execNightEntry (s : State) : Host.Outcome State Fault Refusal :=
  .next (match s.pwr.rate with
    | some ct => if stage s = 2 ∨ stage s = 3 then wakeHeld (enterNight (passTo s ct)) else s
    | none => s)

/-- NIGHT_SCAN (R600): the codes converted, and the threshold read back. -/
def execNightScan (chans : List (Fin 64 × Int × Int)) (ambs : List (Fin 256 × Int)) (dac : Fin 176) (code expected : Nat)
    (s : State) : Host.Outcome State Fault Refusal :=
  .next (if stage s = 4 then dacReadback (ambs.foldl scanAmbient (chans.foldl scanChannel s)) dac code expected else s)

/-- ITIN_WAKE (R601): ITIN_WAKE before the preparation instant of the earliest enabled entry. -/
def execItinWake (s : State) : Host.Outcome State Fault Refusal :=
  .next (match (entTimed s).map fun i => (ent s i).placed with
    | [] => s
    | t :: l =>
      let s1 := passTo s (l.foldl min t - itinLead s - atLeast1 (fget s RTC.PWR_CFG.ITIN_WAKE) * 1000000)
      if stage s = 4 ∧ fon s RTC.WAKE.EN_ITIN then wakeCause s1 6 (myAddr s1) else s1)

/-- BEACON_HELLO_SEND (R602). -/
def execBeaconHelloSend (s : State) : Host.Outcome State Fault Refusal :=
  .next (byEngine s 2 (if stage s = 4 then sendBeacon s 0x83 [myAddr s, fget s LNK.STAT.CHAIN_GEN, 0, 0, 0, 0, 0, 0] else s))

/-- BEACON_TIME_SEND (R602). -/
def execBeaconTimeSend (s : State) : Host.Outcome State Fault Refusal :=
  .next (byEngine s 2 (if stage s = 4 ∧ isHead s then sendBeacon s 0x82 (leBytes 8 s.time.ct) else s))

/-- BEACON_FAULT_SEND (R602). -/
def execBeaconFaultSend (s : State) : Host.Outcome State Fault Refusal :=
  .next (if stage s = 4 then sendBeacon s 0x81 ((faultSumWords s).map (leBytes 4)).flatten else s)

/-- BEACON_RX_WAKE (R604). -/
def execBeaconRxWake (p : Fin 2) (src : Fin 32) (bseq : BitVec 8) (cause : BitVec 8) (s : State) :
    Host.Outcome State Fault Refusal :=
  .next (beaconRx s p ⟨0x80, src, bseq.toNat, [cause.toNat, 0, 0, 0, 0, 0, 0, 0]⟩ fun t =>
    if stage t = 4 then wakeNight t 4 src true else t)

/-- BEACON_RX_FAULT (R602). -/
def execBeaconRxFault (p : Fin 2) (src : Fin 32) (bseq : BitVec 8) (w0 w1 : Word) (s : State) :
    Host.Outcome State Fault Refusal :=
  .next (beaconRx s p ⟨0x81, src, bseq.toNat, leBytes 4 w0.toNat ++ leBytes 4 w1.toNat⟩ fun t =>
    remoteSafe t src (bitOf w0.toNat 2))

/-- BEACON_RX_TIME (R353). -/
def execBeaconRxTime (p : Fin 2) (src : Fin 32) (bseq : BitVec 8) (ct : BitVec 64) (s : State) :
    Host.Outcome State Fault Refusal :=
  .next (byEngine s 2 (beaconRx s p ⟨0x82, src, bseq.toNat, leBytes 8 ct.toNat⟩ fun t => beaconTime t p ct.toNat))

/-- BEACON_RX_HELLO (R331): the neighbour's address; never forwarded. -/
def execBeaconRxHello (p : Fin 2) (_src : Fin 32) (addr : Fin 32) (_gen : BitVec 8) (s : State) :
    Host.Outcome State Fault Refusal :=
  .next (byEngine s 2 (if fget s (LNK.PORT.STAT.STATE p) = 3 then
    fset (fset s (LNK.PORT.STAT.NB_VALID p) 1) (LNK.PORT.STAT.NB_ADDR p) addr else s))

/-- WAKE_TO_NOON (R605). -/
def execWakeToNoon (s : State) : Host.Outcome State Fault Refusal :=
  .next (if stage s = 4 ∧ s.pwr.waking then wakeUp s else s)

/-- RTC_SECOND (R609, R612): the 32.768 kHz clock of a domain that is fed. -/
def execRtcSecond (s : State) : Host.Outcome State Fault Refusal := .next (if s.start.bkp then rtcTick s else s)

/-- RTC_TIME_WRITE (R610). -/
def execRtcTimeWrite (rq : Fin 24) (w : Word) (s : State) : Host.Outcome State Fault Refusal :=
  .next (byPort s rq 0x130000 fun t => rtcTimeSet t w.toNat)

/-- RTC_DATE_WRITE (R610). -/
def execRtcDateWrite (rq : Fin 24) (w : Word) (s : State) : Host.Outcome State Fault Refusal :=
  .next (byPort s rq 0x130004 fun t => ({ t with pwr := { t.pwr with staged := some w.toNat } }, stOk))

/-- R610: DATE and SUB as they stand at a read of TIME. -/
def rtcSnap (s : State) (rq : Nat) : State := snapPut (snapPut s rq 0x130004 (regWord s 0x130004)) rq 0x130008 (regWord s 0x130008)

/-- RTC_TIME_READ (R610). -/
def execRtcTimeRead (rq : Fin 24) (s : State) : Host.Outcome State Fault Refusal :=
  .next (asCoach s rq 0x7F 0x130000 fun t => (rtcSnap t rq, stOk, [regWord t 0x130000]))

/-- RTC_ADD_HOUR (R611). -/
def execRtcAddHour (rq : Fin 24) (s : State) : Host.Outcome State Fault Refusal := .next (byPort s rq 0x13000C rtcAddHour)

/-- RTC_SUBTRACT_HOUR (R611). -/
def execRtcSubtractHour (rq : Fin 24) (s : State) : Host.Outcome State Fault Refusal := .next (byPort s rq 0x13000C rtcSubHour)

/-- RTC_ALM_WRITE (R616). -/
def execRtcAlmWrite (rq : Fin 24) (k : Fin 2) (w : Word) (s : State) : Host.Outcome State Fault Refusal :=
  .next (byPort s rq (0x130018 + 4 * k.val) fun t => almWrite t k w.toNat)

/-- PON_ASSERT (R613). -/
def execPonAssert (rq : Fin 24) (s : State) : Host.Outcome State Fault Refusal := .next (byPort s rq 0x130020 fun t => (ponAssert t, stOk))

/-- PON_RELEASE (R613). -/
def execPonRelease (rq : Fin 24) (s : State) : Host.Outcome State Fault Refusal :=
  .next (byPort s rq 0x130020 fun t => (fset t RTC.STAT.PON 0, stOk))

/-- PON_PULSE_EXPIRY (R613): a PULSE_MS of zero holds the output. -/
def execPonPulseExpiry (s : State) : Host.Outcome State Fault Refusal :=
  .next (if fon s RTC.PON.PULSE_MS then fset s RTC.STAT.PON 0 else s)

end Sys2Proof.Machine
end

