-- ==== Sys2Proof/Machine/JournalRing.lean ====
section
/-!
DEFINITION. Machine/JournalRing.lean: the journal's NAND ring: start, programming, wear levelling, read-out, forwarding
(R639-R649).
-/
namespace Sys2Proof.Machine

/-! ### Geometry -/

/-- R639: pages per block. -/
def jrnlPpb (s : State) : Nat := if fon s JRNL.GEOM.PPB128 then 128 else 64

/-- R652: device blocks. -/
def jrnlBlocks (s : State) : Nat := if fget s JRNL.GEOM.BLOCKS = 0 then 32768 else fget s JRNL.GEOM.BLOCKS

/-- R639: does the geometry lie within the bounds? -/
def geomOk (page4k ppb128 : Bool) (blocks : Nat) : Bool :=
  decide (1024 ≤ blocks ∧ blocks ≤ 32768) && decide (blocks * (if ppb128 then 128 else 64) * (if page4k then 4096 else 2048) ≤ 2 ^ 32)

/-- R640: is `b` a good block of the ring? -/
def ringGood (s : State) (b : Nat) : Bool := decide (8 ≤ b ∧ b < jrnlBlocks s) && !s.jrn.bad.contains b

/-- R640: the good blocks of the ring, counted. -/
def ringCount (s : State) : Nat := jrnlBlocks s - 8 - (s.jrn.bad.filter fun b => decide (8 ≤ b ∧ b < jrnlBlocks s)).length

/-- R645: the first good block at or after `b`, in ring order. -/
def ringFrom (s : State) : Nat → Nat → Nat
  | 0, b => b
  | n + 1, b =>
    let c := if jrnlBlocks s ≤ b ∨ b < 8 then 8 else b
    if s.jrn.bad.contains c then ringFrom s n (c + 1) else c

/-- R645: the next good block after `b`. -/
def ringNext (s : State) (b : Nat) : Nat := ringFrom s (s.jrn.bad.length + 1) (b + 1)

/-- The slots programmed in a page, by its number over the device. -/
def nandPage (s : State) (p : Nat) : List JSlot := tabGet (fun _ => []) s.jrn.nand p

/-- Is page `pg` of block `b` erased? -/
def pageErased (s : State) (b pg : Nat) : Bool := nandPage s (b * jrnlPpb s + pg) == []

/-- Is block `b` erased? -/
def blockErased (s : State) (b : Nat) : Bool := s.jrn.nand.all fun e => e.1 / jrnlPpb s != b

/-- The SEQ of a slot, 0 for a torn one. -/
def slotSeq : JSlot → Nat
  | .record q _ => q
  | .torn => 0

/-- The stored slots of the good ring blocks, oldest first: those from the write position on, then those before it. -/
def ringSlots (s : State) : List JSlot :=
  let good := s.jrn.nand.filter fun e => ringGood s (e.1 / jrnlPpb s)
  let here := s.jrn.blk * jrnlPpb s + s.jrn.pg
  (((good.filter fun e => decide (here ≤ e.1)) ++ good.filter fun e => decide (e.1 < here)).map fun e => e.2).flatten

/-- R653: HEAD, the next SEQ to assign. -/
def jrnlHead (s : State) : Nat := fget64 s JRNL.HEAD_LO.SEQ JRNL.HEAD_HI.SEQ

/-- R645: OLDEST is the lowest SEQ stored, 0 where there is none. -/
def jrnlOldest (s : State) : State :=
  let l := (ringSlots s).filterMap fun x => match x with
    | .record q _ => some q
    | .torn => none
  fset64 s JRNL.OLDEST_LO.SEQ JRNL.OLDEST_HI.SEQ (match l with
    | [] => 0
    | q :: r => r.foldl min q)

/-! ### Start -/

/-- R639: E7 starts the journal at step 4 of R50, where it is enabled. -/
def jrnlStart (s : State) : State :=
  if fon s JRNL.CFG.EN then fset { s with jrn := { s.jrn with op := .scan } } JRNL.STAT.STATE 2 else s

/-- R639: no usable device: the part keeps no journal. -/
def jrnlNoDev (s : State) : State :=
  fset { s with jrn := { s.jrn with queue := [], page := [], prog := [], flush := false, op := .idle, present := false } }
    JRNL.STAT.STATE 1

/-- R645: the first erased page from page `pg` of block `b` on, over the rest of that block. -/
def resumePage (s : State) (b : Nat) : Nat → Nat → Nat
  | 0, pg => pg
  | n + 1, pg => if pageErased s b pg then pg else resumePage s b n (pg + 1)

/-- R645: the block and page from which the part reads forward: the head record's, or those of the block whose first
record carries the highest SEQ. -/
def resumeFrom (s : State) : Nat × Nat :=
  match s.jrn.head with
  | some (b, pg, _) => (b, pg)
  | none =>
    let best := s.jrn.nand.foldl (fun (a : Nat × Nat) e =>
      if e.1 % jrnlPpb s = 0 ∧ ringGood s (e.1 / jrnlPpb s) ∧ a.1 < slotSeq (e.2.headD .torn) then
        (slotSeq (e.2.headD .torn), e.1 / jrnlPpb s) else a) (0, 0)
    (if best.1 = 0 then ringFrom s (s.jrn.bad.length + 1) 8 else best.2, 0)

/-- R649: the SEQ to go on from past slot `x`, where `m` is that before it; a torn slot takes one up. -/
def seqPast (m : Nat) : JSlot → Nat
  | .record q _ => max m (q + 1)
  | .torn => m + 1

/-- R645, R649: the next SEQ: above every record stored, and above what a head record and the pages read forward from it
account for, torn ones too. -/
def resumeSeq (s : State) : Nat :=
  let all := (ringSlots s).foldl seqPast 1
  match s.jrn.head with
  | some (b, pg, q) =>
    let l := (List.range (jrnlPpb s - pg)).flatMap fun i => nandPage s (b * jrnlPpb s + pg + i)
    max all (if ringGood s b then l.foldl seqPast q else q)
  | none => all

/-- R645: before the first page of a block is written, the block is erased. -/
def eraseAhead (s : State) : State :=
  if s.jrn.op = .idle ∧ s.jrn.pg = 0 ∧ blockErased s s.jrn.blk = false then
    { s with jrn := { s.jrn with op := .erase, erasing := s.jrn.blk } }
  else s

/-- The position moves to the next good block where its block is full or bad. -/
def ringAdvance (s : State) : State :=
  if s.jrn.pg < jrnlPpb s ∧ ringGood s s.jrn.blk then s
  else { s with jrn := { s.jrn with blk := ringNext s s.jrn.blk, pg := 0 } }

/-- R645: the journal is ready at the first erased page. -/
def jrnlReady (s : State) : State :=
  let f := resumeFrom s
  let pg := resumePage s f.1 (jrnlPpb s - f.2) f.2
  let s1 := ringAdvance { s with jrn := { s.jrn with blk := f.1, pg := pg, op := .idle, present := true } }
  let s2 := fset64 s1 JRNL.HEAD_LO.SEQ JRNL.HEAD_HI.SEQ (resumeSeq s1)
  jrnlFill (eraseAhead (jrnlOldest (fset s2 JRNL.STAT.STATE 3)))

/-- R639, R640, R645: the device has been examined: its geometry and the bad blocks it shows. -/
def jrnlScanned (s : State) (answers page4k ppb128 : Bool) (blocks : Nat) (bad : List Nat) : State :=
  let l := s.jrn.bad ++ (bad.filter fun b => decide (b < blocks) && !s.jrn.bad.contains b).eraseDups
  let s1 := { s with jrn := { s.jrn with bad := l } }
  if answers && geomOk page4k ppb128 blocks then
    let s2 := fset (fsetB (fsetB s1 JRNL.GEOM.PAGE4K page4k) JRNL.GEOM.PPB128 ppb128) JRNL.GEOM.BLOCKS (blocks % 32768)
    let s3 := fset s2 JRNL.BAD.COUNT l.length
    if ringCount s3 < 16 then jrnlNoDev s3 else jrnlReady s3
  else jrnlNoDev s1

/-! ### Writing -/

/-- What a program cut off leaves: torn slots (R644, R649). -/
def pageTear (s : State) : State :=
  if s.jrn.op = .program then
    { s with jrn := { s.jrn with
        nand := tabPut (fun _ => []) s.jrn.nand (s.jrn.blk * jrnlPpb s + s.jrn.pg) (s.jrn.prog.map fun _ => .torn) } }
  else s

/-- R648: a re-initialisation: a target reset of the journal; the queue and the records not yet stored are kept, and a read
in progress is lost (R649). -/
def jrnlReinit (s : State) : State :=
  let s1 := targetReset (pageTear s) 0x54
  let s2 := if s1.jrn.reading.isSome then fset (complete s1 stLost) JRNL.RD_STAT.BUSY 0 else s1
  fset { s2 with jrn := { s2.jrn with op := .reinit, reading := none, overrun := false, fails := 0 } } JRNL.STAT.STATE 4

/-- R640: block `b` is marked bad; with fewer than 16 good blocks there is no journal. -/
def markBad (s : State) (b : Nat) : State :=
  let s1 := { s with jrn := { s.jrn with bad := if s.jrn.bad.contains b then s.jrn.bad else s.jrn.bad ++ [b] } }
  let s2 := fset s1 JRNL.BAD.COUNT s1.jrn.bad.length
  if ringCount s2 < 16 then jrnlNoDev s2 else jrnlOldest (ringAdvance s2)

/-- R648: a status failure; the third in a row re-initialises the journal. -/
def jrnlFail (s : State) (b : Nat) : State :=
  let s1 := markBad { s with jrn := { s.jrn with op := .idle, fails := s.jrn.fails + 1 } } b
  if fget s1 JRNL.STAT.STATE = 1 then s1
  else if 3 ≤ s1.jrn.fails then jrnlReinit s1
  else eraseAhead s1

/-- R641: the SEQ after `q`. -/
def seqAfter (q : Nat) : Nat := if q < 0xFFFFFFFFFFFE then q + 1 else 1

/-- R641: records take their SEQs in order; the second result is the next SEQ. -/
def seqGive : Nat → List JRec → List JSlot × Nat
  | q, [] => ([], q)
  | q, r :: l =>
    let t := seqGive (seqAfter q) l
    (.record q (jrecImage q r) :: t.1, t.2)

/-- R645: the page has been programmed: its records are stored, the head record follows, and after the first page of a
block the next good block is erased. -/
def pageStored (s : State) : State :=
  let g := seqGive (jrnlHead s) s.jrn.prog
  let first := s.jrn.pg == 0
  let key := s.jrn.blk * jrnlPpb s + s.jrn.pg
  let s1 := { s with jrn := { s.jrn with
    nand := tabPut (fun _ => []) s.jrn.nand key g.1, prog := [], pg := s.jrn.pg + 1, op := .idle, fails := 0 } }
  let s2 := ringAdvance (fset64 s1 JRNL.HEAD_LO.SEQ JRNL.HEAD_HI.SEQ g.2)
  let s3 := jrnlOldest { s2 with jrn := { s2.jrn with head := some (s2.jrn.blk, s2.jrn.pg, g.2) } }
  let nb := ringNext s s.jrn.blk
  if first then { s3 with jrn := { s3.jrn with op := .erase, erasing := nb } } else eraseAhead s3

/-- R643: the page asked for: a full one, one whose flush is due, or one whose program has failed before. -/
def pageDue (s : State) : Bool :=
  s.jrn.prog != [] || (s.jrn.page != [] && (s.jrn.flush || decide (pageRecs s ≤ s.jrn.page.length)))

/-- R643: the program of the page due begins, and the next record begins on the next page. -/
def pageProgram (s : State) : State :=
  if s.jrn.prog = [] then
    jrnlFill { s with jrn := { s.jrn with prog := s.jrn.page, page := [], flush := false, op := .program } }
  else { s with jrn := { s.jrn with op := .program } }

/-! ### Read-out -/

/-- R646: the stored record with the lowest SEQ at or above `q`. -/
def ringLowest (q : Nat) : List JSlot → Option (Nat × List Nat)
  | [] => none
  | .torn :: l => ringLowest q l
  | .record k w :: l =>
    match ringLowest q l with
    | some x => if q ≤ k ∧ k ≤ x.1 then some (k, w) else some x
    | none => if q ≤ k then some (k, w) else none

/-- R646: the torn slots that the search from `q` passes over, in the order of the ring: those after the last record below
`q` and before the first at or above it. -/
def ringTorn (q : Nat) : Nat → List JSlot → Nat
  | n, [] => n
  | n, .torn :: l => ringTorn q (n + 1) l
  | n, .record k _ :: l => if q ≤ k then n else ringTorn q 0 l

/-- R655: RD_SEQ, of which bits 47:0 are significant. -/
def rdSeq (s : State) : Nat := fget s JRNL.RD_SEQ_LO.SEQ + 2 ^ 32 * (fget s JRNL.RD_SEQ_HI.SEQ % 2 ^ 16)

/-- R646: SKIPPED grows by `n` and saturates. -/
def skipAdd (s : State) (n : Nat) : State := fset s JRNL.RD_STAT.SKIPPED (min 0xFFFF (fget s JRNL.RD_STAT.SKIPPED + n))

/-- R646, R649: the read-out from SEQ `q` completes. -/
def ringRead (s : State) (q : Nat) : State :=
  let old := fget64 s JRNL.OLDEST_LO.SEQ JRNL.OLDEST_HI.SEQ
  let l := if fget s JRNL.STAT.STATE = 3 then ringSlots s else []
  let s1 := if q < old || s.jrn.overrun then fset s JRNL.RD_STAT.OVERRUN 1 else s
  let s2 := fset (skipAdd { s1 with jrn := { s1.jrn with reading := none, overrun := false } } (ringTorn (max q old) 0 l)) JRNL.RD_STAT.BUSY 0
  match ringLowest (max q old) l with
  | some (k, w) =>
    let s3 := w.zipIdx.foldl (fun t e => fset t (JRNL.RD_DATA.DATA e.2) e.1) s2
    fset64 (fset (fset s3 JRNL.RD_STAT.VALID 1) JRNL.RD_STAT.END 0) JRNL.RD_SEQ_LO.SEQ JRNL.RD_SEQ_HI.SEQ (k + 1)
  | none => fset (fset s2 JRNL.RD_STAT.VALID 0) JRNL.RD_STAT.END 1

/-- R645: block `erasing` has been erased; a read-out that had reached it goes on with the next surviving record (R649). -/
def blockDone (s : State) : State :=
  let p := jrnlPpb s
  let hit := match s.jrn.reading with
    | some q => s.jrn.nand.any fun e => e.1 / p == s.jrn.erasing && e.2.any fun x => decide (q ≤ slotSeq x)
    | none => false
  jrnlOldest { s with jrn := { s.jrn with
    nand := s.jrn.nand.filter fun e => e.1 / p != s.jrn.erasing, op := .idle, fails := 0, overrun := s.jrn.overrun || hit } }

/-! ### Commands to the journal -/

/-- R651: a CTL write by port `rq` with its key. -/
def jrnlCtl (s : State) (rq key : Nat) (f : State → State × Nat) : State :=
  asCoach s rq 0x54 0x150004 fun t => if key = 0x4A1E then (let r := f t; (r.1, r.2, [])) else (t, stIllegal, [])

/-- R643: CMD = flush. -/
def jrnlFlush (s : State) : State × Nat :=
  (if s.jrn.page = [] then s else { s with jrn := { s.jrn with flush := true } }, stOk)

/-- R648: CMD = reinitialise; a journal that has not started has nothing to re-initialise. -/
def jrnlReinitCmd (s : State) : State × Nat := if fget s JRNL.STAT.STATE = 0 then (s, stIllegal) else (jrnlReinit s, stOk)

/-- R655: RD_CTL.CMD = read. -/
def jrnlReadCmd (s : State) : State × Nat :=
  if fon s JRNL.RD_STAT.BUSY then (s, stIllegal)
  else (fset { s with jrn := { s.jrn with reading := some (rdSeq s) } } JRNL.RD_STAT.BUSY 1, stOk)

/-- R647: the record that a JRNL_FWD frame's sixteen words spell, marked FWD. -/
def fwdRecord (s : State) (w : List Nat) : JRec :=
  let g (i : Nat) : Nat := w.getD i 0
  { typ := bitsOf (g 1) 23 16, flags := bitsOf (g 1) 31 24 ||| 2 ||| b2n s.jrn.loss, ct := g 2 + 2 ^ 32 * g 3,
    unit := bitsOf (g 4) 7 0, rep := bitsOf (g 4) 15 8, sub := bitsOf (g 4) 31 16, event := bitsOf (g 5) 7 0,
    code := bitsOf (g 5) 15 8, vals := [g 6, g 7, g 8, g 9], held := false }

/-! ### The commands -/

/-- JOURNAL_SCAN_DONE (R639, R645, R648): what the device answers, its geometry and the blocks it shows bad. -/
def execJournalScanDone (answers page4k ppb128 : Bool) (blocks : Nat) (bad : List Nat) (s : State) :
    Host.Outcome State Fault Refusal :=
  .next (if fget s JRNL.STAT.STATE = 2 then jrnlScanned s answers page4k ppb128 blocks bad
    else if fget s JRNL.STAT.STATE = 4 then targetBack (jrnlScanned s answers page4k ppb128 blocks bad) 0x54
    else s)

/-- The first held record's window has closed. -/
def closeFirst : List JRec → List JRec
  | [] => []
  | r :: l => if r.held then { r with held := false } :: l else r :: closeFirst l

/-- JOURNAL_REPEAT_WINDOW_CLOSE (R641): the oldest window closes. -/
def execJournalRepeatWindowClose (s : State) : Host.Outcome State Fault Refusal :=
  .next (jrnlFill { s with jrn := { s.jrn with queue := closeFirst s.jrn.queue } })

/-- JOURNAL_FLUSH_TIMER (R643). -/
def execJournalFlushTimer (s : State) : Host.Outcome State Fault Refusal := .next (jrnlFlush s).1

/-- JOURNAL_PAGE_PROGRAM (R643, R644): with the device ready and no operation in progress. -/
def execJournalPageProgram (s : State) : Host.Outcome State Fault Refusal :=
  .next (if fget s JRNL.STAT.STATE = 3 ∧ s.jrn.op = .idle ∧ pageDue s then pageProgram s else s)

/-- JOURNAL_PROGRAM_DONE (R640, R645, R648): a program that fails leaves its records to be programmed elsewhere. -/
def execJournalProgramDone (ok : Bool) (s : State) : Host.Outcome State Fault Refusal :=
  .next (if s.jrn.op = .program then (if ok then pageStored s else jrnlFail (pageTear s) s.jrn.blk) else s)

/-- R640, R645: the erase has failed: its block is bad, and the next good block is erased in its place. -/
def eraseFailed (s : State) : State :=
  let s1 := jrnlFail s s.jrn.erasing
  if fget s1 JRNL.STAT.STATE = 3 ∧ s1.jrn.op = .idle ∧ s1.jrn.pg ≠ 0 then
    { s1 with jrn := { s1.jrn with op := .erase, erasing := ringNext s1 s1.jrn.blk } }
  else s1

/-- JOURNAL_ERASE_DONE (R640, R645). -/
def execJournalEraseDone (ok : Bool) (s : State) : Host.Outcome State Fault Refusal :=
  .next (if s.jrn.op = .erase then (if ok then blockDone s else eraseFailed s) else s)

/-- JOURNAL_OP_TIMEOUT (R648). -/
def execJournalOpTimeout (s : State) : Host.Outcome State Fault Refusal :=
  .next (if 2 ≤ fget s JRNL.STAT.STATE ∧ (s.jrn.op ≠ .idle ∨ s.jrn.reading.isSome) then jrnlReinit s else s)

/-- JRNL_CMD_FLUSH (R651). -/
def execJrnlCmdFlush (rq : Fin 24) (key : BitVec 16) (s : State) : Host.Outcome State Fault Refusal :=
  .next (jrnlCtl s rq key.toNat jrnlFlush)

/-- JRNL_CMD_REINIT (R648, R651). -/
def execJrnlCmdReinit (rq : Fin 24) (key : BitVec 16) (s : State) : Host.Outcome State Fault Refusal :=
  .next (jrnlCtl s rq key.toNat jrnlReinitCmd)

/-- JRNL_READ (R646, R655). -/
def execJrnlRead (rq : Fin 24) (s : State) : Host.Outcome State Fault Refusal :=
  .next (asCoach s rq 0x54 0x150038 fun t => let r := jrnlReadCmd t; (r.1, r.2, []))

/-- JRNL_READ_DONE (R646). -/
def execJrnlReadDone (s : State) : Host.Outcome State Fault Refusal :=
  .next (match s.jrn.reading with
    | some q => ringRead s q
    | none => s)

/-- JRNL_FWD_RX (R647). A unit that keeps no journal stores none (R649). -/
def execJrnlFwdRx (words : List Word) (s : State) : Host.Outcome State Fault Refusal :=
  .next (if !fon s JRNL.CFG.ACCEPT then finc s JRNL.CNT.FWD_DROP
    else if fget s JRNL.STAT.STATE = 1 ∨ fget s JRNL.CFG.EN = 0 then s
    else jrnlQueue s (fwdRecord s (words.map BitVec.toNat)))

end Sys2Proof.Machine
end

