-- ==== Sys2Proof/Machine/Regs.lean ====
section
/-!
DEFINITION. Machine/Regs.lean: reads and writes of registers: access codes, reserved encodings, sealing, and the effect
that each block gives a write of its registers (R3-R7, R660).
-/
namespace Sys2Proof.Machine

/-! ### Fields -/

/-- R5: is the value a reserved encoding of the field? -/
def fieldRsv (f : FieldSpec) (v : Nat) : Bool := f.rsv.any fun r => decide (r.1 ≤ v ∧ v ≤ r.2)

/-- The field of a row in the register at address `a`. -/
def specFld (a : Nat) (f : FieldSpec) : Fld := ⟨a, f.hi, f.lo⟩

/-- R3, R5, R6: what a write of word `w` does to one field of the register at `a`. -/
def storeField (a w : Nat) (s : State) (f : FieldSpec) : State :=
  let v := bitsOf w f.hi f.lo
  match f.acc with
  | .rw => if fieldRsv f v then s else fset s (specFld a f) v
  | .sealed => if sealedNow s || fieldRsv f v then s else fset s (specFld a f) v
  | .w1c => fset s (specFld a f) (clearBits (fget s (specFld a f)) v)
  | _ => s

/-- The fields of the register at an address. -/
def fieldsAt (a : Nat) : List FieldSpec :=
  match specAt a with
  | some r => r.flds
  | none => []

/-- R4: the word with its reserved bits zero. -/
def wordBits (a w : Nat) : Nat := (fieldsAt a).foldl (fun v f => v + bitsOf w f.hi f.lo * 2 ^ f.lo) 0

/-- R3: a write of word `w` to the fields of the register at `a`. -/
def storeWord (s : State) (a w : Nat) : State := (fieldsAt a).foldl (storeField a w) s

/-- R6: after Noon, does the word carry another value for some SEAL field of the register? -/
def sealBroken (s : State) (a w : Nat) : Bool :=
  sealedNow s && (fieldsAt a).any fun f => f.acc == .sealed && bitsOf w f.hi f.lo != fget s (specFld a f)

/-- R6: the status of a write that no other rule gives a status. -/
def sealStatus (s : State) (a w : Nat) : Nat := if sealBroken s a w then stIllegal else stOk

/-- A write that only stores. -/
def plainWrite (s : State) (a w : Nat) : State × Nat := (storeWord s a w, sealStatus s a w)

/-- R6: the status of a write whose other fields have answered `st`. -/
def withSeal (s : State) (a w st : Nat) : Nat := if st = stOk then sealStatus s a w else st

/-- The word with the bits hi:lo of another. -/
def mixBits (w v hi lo : Nat) : Nat := w - bitsOf w hi lo * 2 ^ lo + bitsOf v hi lo * 2 ^ lo

/-! ### Blocks -/

/-- R125: CHN[n].CTL. -/
def chnCtlWrite (s : State) (n w : Nat) : State × Nat :=
  let r := chCtl s n (bitsOf w 2 0) (bitOf w 8)
  (wireNightStop r.1, r.2)

/-- R204: LOOP[n].CTL. A CSEL that names no set is a reserved encoding (R190). -/
def loopCtlWrite (s : State) (n w : Nat) : State × Nat :=
  let s1 := fset (fsetIf s (LOOP.CTL.CSEL n) (bitsOf w 13 8) (cselOk s (bitsOf w 13 8))) (LOOP.CTL.OFF_MODE n) (bitsOf w 1 1)
  let s2 := if bitOf w 4 then loopClrLatch s1 n else s1
  if bitOf w 0 then loopEnable s2 n else (loopDisable s2 n, stOk)

/-- R244: LOOP[n].ANN_CTL. -/
def annCtlWrite (s : State) (n w : Nat) : State × Nat :=
  if bitsOf w 31 30 = 1 then
    annJudge s n (bitsOf w 23 16) (toSigned 12 (bitsOf w 11 0)) (fget64 s (LOOP.ANN_CT_LO.CT n) (LOOP.ANN_CT_HI.CT n)) false
  else if bitsOf w 31 30 = 2 then (annCancel s n (bitsOf w 23 16) false, stOk)
  else (s, stOk)

/-- The registers of loop `n`, at offset `o`. -/
def loopWrite (s : State) (n o a w : Nat) : State × Nat :=
  if o = 0 then loopCtlWrite s n w
  else if o = 0xC then (loopVset s n (bitsOf w 12 0), stOk)
  else if o = 0x34 then (let t := storeWord s a w; if bitOf w 31 then t else balClear t n, stOk)
  else if o = 0x10C then annCtlWrite s n w
  else plainWrite s a w

/-- The registers of regulator `r`, at offset `o`. -/
def regulWrite (s : State) (r o a w : Nat) : State × Nat :=
  if o = 0 then
    let s1 := if bitOf w 8 then regClrLatch s r else s
    if bitOf w 0 then regEnable s1 r else (regDisable s1 r, stOk)
  else if o = 0xC then (regVset s r (bitsOf w 10 0), stOk)
  else plainWrite s a w

/-- R295: SEQ.CMD. -/
def seqCmdWrite (s : State) (w : Nat) : State × Nat :=
  let q := bitsOf w 3 0
  if bitsOf w 5 4 = 1 then seqHostStart s q else if bitsOf w 5 4 = 2 then (seqAbort s q, stOk) else (s, stOk)

/-- R287, R303: MON[m].CFG. A write of ARM = 1 in discharge mode has no effect. -/
def monCfgWrite (s : State) (m a w : Nat) : State × Nat :=
  let r := monArm s m (bitOf w 31)
  if r.2 = stOk then
    let t := storeWord s a (mixBits w (regWord s a) 31 31)
    ((monArm t m (bitOf w 31)).1, sealStatus s a w)
  else (s, r.2)

/-- The sequencer's and the monitors' registers; their flags and settings bear on SEQ_FLT (R291). -/
def seqBlockWrite (s : State) (a w : Nat) : State × Nat :=
  if a = 0x60000 then seqCmdWrite s w
  else
    let r := if 0x60400 ≤ a ∧ a % 16 = 0 then monCfgWrite s ((a - 0x60400) / 16) a w else plainWrite s a w
    (fltUpdate r.1, r.2)

/-- R342, R345: RACC_CTL, and RACC_DATA, which ignores writes while an access is outstanding. -/
def lnkWrite (s : State) (a w : Nat) : State × Nat :=
  if a = 0x70100 then
    if bitsOf w 31 30 = 1 then raccCmd s false (bitsOf w 19 16)
    else if bitsOf w 31 30 = 2 then raccCmd s true (bitsOf w 19 16)
    else (s, stOk)
  else if 0x70140 ≤ a ∧ fon s LNK.RACC_STAT.BUSY then (s, stOk)
  else plainWrite s a w

/-- R385: CVY_CMD. -/
def timeWrite (s : State) (a w : Nat) : State × Nat :=
  if a = 0x80054 then cvyCmd s (bitsOf w 31 30) (bitsOf w 7 0) (bitOf w 29) (bitOf w 28) else plainWrite s a w

/-- R357-R361: the words of an itinerary entry. W0-W2 of an enabled entry are not written. -/
def itinWrite (s : State) (a w : Nat) : State × Nat :=
  let i := (a - 0x100000) / 16
  if a % 16 = 12 then itinWriteW3 s i w else if fon s (ITIN.W3.EN i) then (s, stIllegal) else plainWrite s a w

/-- The converters' registers (R470-R475). -/
def adcWrite (s : State) (a w : Nat) : State × Nat :=
  if a = 0xB0000 then (adcEnable s (bitsOf w 3 0), stOk)
  else if a = 0xB0008 then (let r := adcCommon s (adcMask (bitsOf w 15 0)); (r.1, if r.2 then stOk else stIllegal))
  else if 0xB0100 ≤ a ∧ a < 0xB0900 then
    let q := (a - 0xB0100) / 0x80
    let o := (a - 0xB0100) % 0x80
    if o = 0 then adcCfgWrite s q w
    else if 0x40 ≤ o ∧ fon s (ADC.SEQ.CFG.EN q) then (s, stIllegal)
    else plainWrite s a w
  else plainWrite s a w

/-- R482: GEN[k].CFG. -/
def cmpWrite (s : State) (a w : Nat) : State × Nat :=
  let r := plainWrite s a w
  (if 0xC0100 ≤ a ∧ a % 0x20 = 0 then cmpCfgWritten r.1 ((a - 0xC0100) / 0x20) else r.1, r.2)

/-- R487: is the word's CHEM and CELLS pair in the table, or CELLS 0? -/
def packOk (w : Nat) : Bool :=
  let chem := bitsOf w 31 30
  let cells := bitsOf w 26 24
  chem ≤ 1 && (cells == 0 || (3 ≤ cells && (cells ≤ 4 || cells == 5 && chem == 0)))

/-- The charger's registers. A reserved CHEM and CELLS pair leaves both (R487). -/
def chgWrite (s : State) (a w : Nat) : State × Nat :=
  if a = 0xD0000 then chgCommand s (bitsOf w 31 28) (bitsOf w 11 0) false
  else if a = 0xD004C then (if bitOf w 0 then storageCmd s (bitsOf w 31 16) else (s, stOk))
  else if a = 0xD0010 ∧ !packOk w then
    (storeWord s a (mixBits (mixBits w (regWord s a) 31 30) (regWord s a) 26 24), sealStatus s a w)
  else plainWrite s a w

/-- The cabin ports' registers. -/
def pdWrite (s : State) (a w : Nat) : State × Nat :=
  let n := a / 0x100 % 0x100
  let o := a % 0x100
  if o = 0 then pdCommand s n (bitsOf w 31 28) false
  else if o = 0x10 then (pdCapWrite (storeWord s a w) n (bitsOf w 7 0), sealStatus s a w)
  else plainWrite s a w

/-- R583, R592: a word of FLT.INJ, by its checker; checkers 6 and 7 are reserved. -/
def injSelect (s : State) (w : Nat) : State × Nat :=
  let key := bitsOf w 31 16
  let sel := bitsOf w 9 0
  let k := bitsOf w 15 13
  if k = 1 then injCore s key 1 sel 24 fun t => injFab t sel
  else if k = 2 then injCore s key 2 sel 0x27D fun t => injPair t sel
  else if k = 3 then injCore s key 3 sel 40 fun t => injSev t sel
  else if k = 4 then injCore s key 4 sel 4 fun t => lockstepHalt t sel true
  else if k = 5 then injCore s key 5 sel 1 fun t => { t with flt := { t.flt with hbInj := true } }
  else (s, stOk)

/-- R571: a LAT bit is cleared only while its RAW bit is 0. -/
def latClear (s : State) (base w : Nat) : State :=
  (List.range 32).foldl (fun t i => if bitOf w i && !fon t (FLT.RAW (base + i)) then fset t (FLT.LAT (base + i)) 0 else t) s

/-- The collector's registers. The severity of FLT_SELF ignores writes (R569). -/
def fltWrite (s : State) (a w : Nat) : State × Nat :=
  if a = 0x120020 then injSelect s w
  else if a = 0x120024 then forceCore s (bitsOf w 31 16) (bitsOf w 9 0)
  else if 0x120280 ≤ a ∧ a < 0x1202D0 then (latClear s ((a - 0x120280) / 4 * 32) w, stOk)
  else if a = 0x12019C then plainWrite s a (mixBits w (regWord s a) 31 30)
  else plainWrite s a w

/-- R617: RTC.PON: of ASSERT and RELEASE in one word, release prevails. -/
def ponWrite (s : State) (a w : Nat) : State × Nat :=
  let s1 := storeWord s a w
  (if bitOf w 30 then fset s1 RTC.STAT.PON 0 else if bitOf w 31 then ponAssert s1 else s1, stOk)

/-- The calendar's and the power control's registers. -/
def rtcWrite (s : State) (a w : Nat) : State × Nat :=
  if a = 0x130000 then rtcTimeSet s w
  else if a = 0x130004 then ({ s with pwr := { s.pwr with staged := some (wordBits a w) } }, stOk)
  else if a = 0x13000C then (if bitsOf w 1 0 = 1 then rtcAddHour s else if bitsOf w 1 0 = 2 then rtcSubHour s else (s, stOk))
  else if a = 0x130018 ∨ a = 0x13001C then almWrite s ((a - 0x130018) / 4) w
  else if a = 0x130020 then ponWrite s a w
  else if a = 0x130028 then
    if bitsOf w 1 0 = 1 then reqEvening s else if bitsOf w 1 0 = 2 then reqNight s else if bitsOf w 1 0 = 3 then reqNoon s else (s, stOk)
  else plainWrite s a w

/-- R637: BUS.ATTN_SET. -/
def busWrite (s : State) (a w : Nat) : State × Nat :=
  if a = 0x14001C then (if bitOf w 0 then fset s BUS.ATTN.SOFT 1 else s, stOk) else plainWrite s a w

/-- The journal's registers. -/
def jrnlWrite (s : State) (a w : Nat) : State × Nat :=
  if a = 0x150004 then
    if bitsOf w 31 16 ≠ 0x4A1E then (s, stIllegal)
    else if bitsOf w 1 0 = 1 then jrnlFlush s
    else if bitsOf w 1 0 = 2 then jrnlReinitCmd s
    else (s, stOk)
  else if a = 0x150038 then (if bitOf w 0 then jrnlReadCmd s else (s, stOk))
  else plainWrite s a w

/-- R3-R6: a write of word `w` to the register at `a`, but for the command registers of TOP, CFG, LNK.CMD and BUS.OTP_CTL. -/
def blockWrite (s : State) (a w : Nat) : State × Nat :=
  let b := a / 65536
  if b = 2 then
    let n := (a - 0x20000) / 0x100
    if a < 0x24000 ∧ a % 0x100 = 0 then chnCtlWrite s n w
    else if a < 0x24000 ∧ a % 0x100 = 0xC then (chUnused (storeWord s a w) n, sealStatus s a w)
    else plainWrite s a w
  else if b = 4 then (if a < 0x41000 then loopWrite s ((a - 0x40000) / 0x400) (a % 0x400) a w else plainWrite s a w)
  else if b = 5 then regulWrite s ((a - 0x50000) / 0x40) (a % 0x40) a w
  else if b = 6 then seqBlockWrite s a w
  else if b = 7 then lnkWrite s a w
  else if b = 8 then timeWrite s a w
  else if b = 9 then (if a = 0x90010 then setShedLevel s (bitsOf w 3 0) else plainWrite s a w)
  else if b = 0xB then adcWrite s a w
  else if b = 0xC then cmpWrite s a w
  else if b = 0xD then chgWrite s a w
  else if b = 0xF then pdWrite s a w
  else if b = 0x10 ∨ b = 0x11 then itinWrite s a w
  else if b = 0x12 then fltWrite s a w
  else if b = 0x13 then rtcWrite s a w
  else if b = 0x14 then busWrite s a w
  else if b = 0x15 then jrnlWrite s a w
  else plainWrite s a w

/-! ### Reads -/

/-- A word whose bit `i` is the value of `f` there. -/
def mapWord (f : Nat → Bool) : Nat := (List.range 32).foldl (fun v i => v + b2n (f i) * 2 ^ i) 0

/-- R388: the convoy that CVY_SEL selects. -/
def cvySelected (s : State) : Option Cvy :=
  cvyFind (if fon s TIME.CVY_SEL.LOCAL then s.cvy.loc else if isHead s then s.cvy.head else s.cvy.member) (fget s TIME.CVY_SEL.CONVOY)

/-- R388: CVY_STAT. -/
def cvyStatWord (s : State) : Nat :=
  match cvySelected s with
  | some x => cvySt s x % 16 * 2 ^ 28 + x.reason % 256 * 2 ^ 20 + (if fon s TIME.CVY_SEL.LOCAL then 0 else x.armId % 2 ^ 16)
  | none => 0

/-- R388: CVY_ACKS, on the head only. -/
def cvyAcksWord (s : State) : Nat :=
  match cvySelected s with
  | some x => if isHead s && !fon s TIME.CVY_SEL.LOCAL then x.acks else 0
  | none => 0

/-- R628: does an attention request stand? -/
def attnStands (s : State) : Bool :=
  let m := fget s BUS.CFG.ATTN_MSK
  fon s BUS.CFG.ATTN_EN &&
    (fon s BUS.ATTN.CMP && !bitOf m 0 || fon s BUS.ATTN.FAULT && !bitOf m 1 || fon s BUS.ATTN.SOFT && !bitOf m 2)

/-- R413: requests before E0, and those of them that wait for the head. -/
def ledgCounts (s : State) : Nat :=
  min 255 (s.ldg.reqs.filter fun r => !r.wait).length * 256 + min 255 (s.ldg.reqs.filter fun r => r.wait).length

/-- R660: the registers that are the LO half of a pair which a read snapshots. -/
def snapLo (a : Nat) : Bool :=
  a == 0x8000C || (0x20000 ≤ a && a < 0x24000 && a % 0x100 == 0x64) ||
    (0x40000 ≤ a && a < 0x41000 && (a % 0x400 == 0x4C || a % 0x400 == 0x120)) ||
    (0xB0100 ≤ a && a < 0xB0900 && a % 0x80 == 0xC) || (0xC0100 ≤ a && a < 0xC0300 && a % 0x20 == 8) ||
    a == 0x120010 || a == 0xE003C || a == 0x150014 || a == 0x15001C

/-- R437, R442, R633: the reading coach holds a tag itself while it is carried out. -/
def ownTag (s : State) (rq a : Nat) : Nat :=
  if a = 0xA0004 ∨ a = 0xA0104 + 8 * rq ∨ (a = 0x140004 ∧ rq = 9 ∧ tagsHeld s 9 < 4) then 1 else 0

/-- The word of the register at `a`, with the fields that follow other state. A HI register of R660 shows here what a
read of its LO register snapshots. -/
def readWord (s : State) (rq a : Nat) : Nat :=
  if a = 0x24020 ∨ a = 0x24024 then mapWord fun i => chDriven s (32 * ((a - 0x24020) / 4) + i)
  else if a = 0x24028 ∨ a = 0x2402C then mapWord fun i => fon s (CHN.STAT.LATCHED (32 * ((a - 0x24028) / 4) + i))
  else if 0x50000 ≤ a ∧ a < 0x50200 ∧ a % 0x40 = 4 then
    regStatWord s ((a - 0x50000) / 0x40)
  else if 0x60100 ≤ a ∧ a < 0x60200 ∧ a % 16 = 8 then seqElapsed s ((a - 0x60100) / 16)
  else if a = 0x8000C then served s % 2 ^ 32
  else if a = 0x80010 then served s / 2 ^ 32
  else if a = 0x80034 then (itinEnabled s).length % 2 ^ 16 * 2 ^ 16 + s.slots.length % 2 ^ 10
  else if a = 0x80068 then cvyStatWord s
  else if a = 0x8006C then cvyAcksWord s
  else if a = 0x90008 then putBits (regWord s a) (ledgCounts s) 15 0
  else if a = 0xA0004 then putBits (regWord s a) (tagsUsed s + ownTag s rq a) 10 0
  else if 0xA0100 ≤ a ∧ a < 0xA01C0 ∧ a % 8 = 4 then putBits (regWord s a) (tagsHeld s ((a - 0xA0100) / 8) + ownTag s rq a) 10 0
  else if a = 0x120004 then fltStatWord s
  else if a = 0x140004 then putBits (putBits (regWord s a) (b2n (attnStands s)) 3 3) (min 4 (tagsHeld s 9) + ownTag s rq a) 2 0
  else if a = 0x150008 then putBits (regWord s a) s.jrn.queue.length 8 0
  else regWord s a

/-- R3: the value an RC field returns to: zero, or what its description names (R173, R220). -/
def rcValue (s : State) (a : Nat) (f : FieldSpec) : Nat :=
  if 0x30000 ≤ a ∧ a < 0x30800 then 0x8000
  else if 0x40000 ≤ a ∧ a < 0x41000 ∧ a % 0x400 = 0x40 then ofSigned 16 (loopX s ((a - 0x40000) / 0x400)).ePrev
  else (fun _ => 0) f

/-- R3: the RC fields of the register at `a` after a read. -/
def readClears (s : State) (a : Nat) : State :=
  (fieldsAt a).foldl (fun t f => if f.acc = .rc then fset t (specFld a f) (rcValue s a f) else t) s

/-- R660, R462, R610: the snapshots that a read of the register at `a` by port `rq` takes. -/
def readSnaps (s : State) (rq a : Nat) : State :=
  let s1 := if snapLo a then snapPut s rq (a + 4) (readWord s rq (a + 4)) else s
  if 0xC0100 ≤ a ∧ a < 0xC0300 ∧ a % 0x20 = 8 then fset s1 (CMP.GEN.STAT.CAPV ((a - 0xC0100) / 0x20)) 0
  else if a = 0x130000 then rtcSnap s1 rq
  else if 0x50000 ≤ a ∧ a < 0x50200 ∧ a % 0x40 = 4 then regStatDrawn s1 ((a - 0x50000) / 0x40)
  else s1

/-- R610, R660: does a read of the register return a snapshot? -/
def isSnap (a : Nat) : Bool := 4 ≤ a && snapLo (a - 4) || a == 0x130004 || a == 0x130008

/-- R3, R425, R660: a read of address `a` by requester port `rq`: the state, the status and the word. -/
def regRead (s : State) (rq a : Nat) : State × Nat × List Nat :=
  match specAt a with
  | none => (s, stNoReg, [0])
  | some _ =>
    let v := if isSnap a then tabGet (fun _ => 0) s.snap (2 ^ 24 * rq + a) else readWord s rq a
    (readClears (readSnaps s rq a) a, stOk, [wordBits a v])

end Sys2Proof.Machine
end

