-- ==== Sys2Proof/Machine/Image.lean ====
section
/-!
DEFINITION. Machine/Image.lean: the KLR image in the CS0 flash: its checks, and step 3 of R50 (R69-R84).
-/
namespace Sys2Proof.Machine

/-! ### The flash and the fuses -/

/-- `n` bytes of a sorted list of cells from address `a` on; unlisted bytes are erased, 0xFF. -/
def flashFrom (m : List Host.Cell) (a : Nat) : Nat → List Nat
  | 0 => []
  | n + 1 => match m with
    | [] => 0xFF :: flashFrom [] (a + 1) n
    | c :: r => if c.1 = a then c.2.toNat :: flashFrom r (a + 1) n else 0xFF :: flashFrom m (a + 1) n

/-- `n` bytes of the CS0 flash from address `a` on. -/
def flashRead (s : State) (a n : Nat) : List Nat := flashFrom (s.flash.dropWhile fun c => decide (c.1 < a)) a n

/-- R72: the size of a slot: half of 4, 8 or 16 MiB. -/
def slotSize (s : State) : Nat := 2 ^ (20 + fget s CFG.STATUS.DENSITY)

/-- R72: the base of slot A (`false`) or B. -/
def slotBase (s : State) (b : Bool) : Nat := if b then slotSize s else 0

/-- R45: word `i` of the Dawn fuses as they were read. -/
def fuseWord (s : State) (i : Nat) : Nat := tabGet (fun _ => 0) s.otp.used i

/-- R45: `n` bits of the Dawn fuses in use from bit `lo` of byte `o`, within one word. -/
def fuseBits (s : State) (o lo n : Nat) : Nat := fuseWord s (o / 4) / 2 ^ (o % 4 * 8 + lo) % 2 ^ n

/-- R45, R78: the public-key hash, in digest byte order. -/
def keyHash (s : State) : Nat := beNat ((List.range 8).flatMap fun i => leBytes 4 (fuseWord s (32 + i)))

/-- R45, R48: the option SIG_REQ; 1 where the fuse CRC failed. -/
def sigReq (s : State) : Bool := fon s TOP.STATUS.OTP_BAD || fuseBits s 0xA0 0 1 == 1

/-- The little-endian number of `n` bytes at offset `o`. -/
def leAt (b : List Nat) (o n : Nat) : Nat := leNat ((b.drop o).take n)

/-- All bytes from offset `o`, `n` of them, are zero. -/
def zeroAt (b : List Nat) (o n : Nat) : Bool := ((b.drop o).take n).all (· == 0)

/-- The list cut into pieces of `k` elements. -/
def chunks (k : Nat) : Nat → List Nat → List (List Nat)
  | 0, _ => []
  | n + 1, b => if b.isEmpty then [] else b.take k :: chunks k n (b.drop k)

/-- Pieces of `k` bytes. -/
def pieces (k : Nat) (b : List Nat) : List (List Nat) := chunks k (b.length / k + 1) b

/-- Every element is less than the next. -/
def rising : List Int → Bool
  | a :: b :: r => decide (a < b) && rising (b :: r)
  | _ => true

/-- No element is greater than the next. -/
def notFalling : List Nat → Bool
  | a :: b :: r => decide (a ≤ b) && notFalling (b :: r)
  | _ => true

/-! ### Section contents -/

/-- The word has no bit outside the fields of the register at `a`, and no reserved encoding. -/
def wordClean (a w : Nat) : Bool :=
  w == wordBits a w && (fieldsAt a).all fun f => !fieldRsv f (bitsOf w f.hi f.lo)

/-- R77: one entry of a register-write section. -/
def regEntOk (e : List Nat) : Bool :=
  let a := leAt e 0 4
  let m := leAt e 4 4
  let fs := fieldsAt a
  let named := wordBits a m
  decide (a < 2 ^ 24) && (specAt a).isSome && decide (a / 65536 ≠ 1) &&
    fs.all (fun f => f.acc == .rw || f.acc == .sealed || bitsOf m f.hi f.lo == 0) &&
    ((m - named) &&& leAt e 8 4) == 0

/-- R156: an entry with VALID = 1. The two time constants are computed in binary32. -/
def wireEntOk (e : List Nat) : Bool :=
  let f := fun i => leAt e (4 + 4 * i) 4
  let t := toSigned 16 (leAt e 0x1C 2)
  let least := 0x3BA3D70A
  (List.range 6).all (fun i => f32Finite (f i)) && [0, 2, 3, 4, 5].all (fun i => f32Lt 0 (f i)) &&
    f32Le 0 (f 1) && f32Le (f 1) 0x3C23D70A && decide (640 ≤ t ∧ t ≤ 4000) && f32Le least (f32Mul (f 4) (f 2)) &&
    f32Le least (f32Div (f 5) (f32Add (f32Div 0x3F800000 (f 2)) (f32Div 0x3F800000 (f 3)))) &&
    decide (e.getD 2 0 < 2) && zeroAt e 3 1 && zeroAt e 0x1E 2

/-- R155, R156: the valid entries of the wire-type table by index, if the section passes. -/
def wireTable (p : List Nat) : Option (List (Nat × WType)) :=
  let es := pieces 32 p
  if p.length % 32 = 0 ∧ 1 ≤ es.length ∧ es.length ≤ 256 then
    let vs := es.zipIdx.filter fun x => bitOf (x.1.getD 2 0) 0
    if vs.all fun x => wireEntOk x.1 then
      some (vs.map fun x =>
        let f := fun i => leAt x.1 (4 + 4 * i) 4
        (x.2, ⟨f 0, f 1, f 2, f 3, f 4, f 5, toSigned 16 (leAt x.1 0x1C 2)⟩))
    else none
  else none

/-- R191: the coefficient sets, if the section passes. -/
def coefTable (p : List Nat) : Option (List Coef) :=
  let es := pieces 16 p
  let k := fun (e : List Nat) (i : Nat) => toSigned 20 (leAt e (4 * i) 4)
  let ok := fun (e : List Nat) =>
    (List.range 3).all (fun i => ofSigned 32 (k e i) == leAt e (4 * i) 4) && decide (0 ≤ k e 0 ∧ 0 ≤ k e 1) &&
      decide (leAt e 12 2 ≠ 0 ∧ leAt e 14 2 ≠ 0)
  if p.length % 16 = 0 ∧ 1 ≤ es.length ∧ es.length ≤ 32 ∧ es.all ok = true then
    some (es.map fun e => ⟨k e 0, k e 1, k e 2, leAt e 12 2, leAt e 14 2⟩)
  else none

/-- R355: the four words of each itinerary entry, if the section passes. -/
def itinTable (p : List Nat) : Option (List (List Nat)) :=
  let es := (pieces 16 p).map leWords
  let ok := fun (w : List Nat) => !bitOf (w.getD 3 0) 31 || entValid (w.getD 1 0) (w.getD 2 0) (w.getD 3 0)
  if p.length % 16 = 0 ∧ 1 ≤ es.length ∧ es.length ≤ 8192 ∧ es.all ok = true then some es else none

/-- A ledger section as checked (R398): KEEP_MW by class, sources, consumers, feeds. -/
structure LedgSect where
  keep : List Nat
  srcs : List SrcE
  cons : List ConsE
  feeds : List FeedE
deriving DecidableEq, Repr

/-- R398: a source entry. -/
def srcEntry (e : List Nat) : SrcE := ⟨e.getD 0 0, bitOf (e.getD 1 0) 0, bitOf (e.getD 1 0) 1, e.getD 2 0, leAt e 4 4, leAt e 8 4⟩

/-- R398: the checks of a source entry. -/
def srcOk (e : List Nat) : Bool :=
  let x := srcEntry e
  decide (e.getD 1 0 < 4) && zeroAt e 3 1 && zeroAt e 12 4 &&
    (!x.valid || decide (1 ≤ x.kind ∧ x.kind ≤ 7 ∧ x.feed ≤ 15 ∧ 1 ≤ x.limit ∧ x.limit < 2 ^ 31 ∧ x.solo ≤ x.limit))

/-- R398: a consumer entry. -/
def consEntry (e : List Nat) : ConsE :=
  ⟨e.getD 0 0, e.getD 1 0, e.getD 2 0, e.getD 3 0, leAt e 4 4, leAt e 8 2, e.getD 10 0, e.getD 11 0, leAt e 12 2⟩

/-- R398: the checks of a consumer entry by itself and against the sources. -/
def consOk (srcs : List SrcE) (e : List Nat) : Bool :=
  let x := consEntry e
  let vmax := if x.typ = 2 then 0x1FFF else if x.typ = 3 ∧ x.inst < 4 then 0x7FF else 0
  decide (1 ≤ x.typ ∧ x.typ ≤ 5 ∧ x.inst < [64, 4, 8, 1, 2].getD (x.typ - 1) 0) &&
    (match srcs[x.src]? with | some y => y.valid | none => false) && decide (x.cls < 16) && zeroAt e 14 2 &&
    decide (1 ≤ x.resv ∧ x.resv < 2 ^ 24 ∧ x.vnom ≤ vmax ∧ x.keep ≤ 100) &&
    (if x.typ = 2 ∨ x.typ = 3 then decide (100 ≤ x.eff ∧ x.eff ≤ 1000) else x.eff == 0)

/-- R398: no two consumers name one target, and the rules of PARENT. -/
def consLinked (cs : List ConsE) : Bool :=
  let tgt := fun (c : ConsE) => 256 * c.typ + c.inst
  cs.zipIdx.all fun x =>
    (cs.filter fun y => tgt y == tgt x.1).length == 1 &&
      (x.1.parent == 0xFF || x.1.parent != x.2 && match cs[x.1.parent]? with
        | some q => q.parent == 0xFF && q.typ == 3
        | none => false)

/-- R398: a feed entry. -/
def feedEnt (e : List Nat) : FeedE := ⟨e.getD 0 0, leAt e 4 4, leWords (e.drop 8)⟩

/-- R398: the checks of a feed entry; amounts are signed (R391). -/
def feedOk (e : List Nat) : Bool :=
  let x := feedEnt e
  decide (x.feed ≤ 15) && zeroAt e 1 3 &&
    decide ((x.base.map (toSigned 32)).foldl (· + ·) 0 ≤ toSigned 32 x.total)

/-- R398: the ledger section, if it passes. -/
def ledgTable (p : List Nat) : Option LedgSect :=
  let ns := p.getD 0 0
  let nc := p.getD 1 0
  let nf := p.getD 2 0
  let keep := leWords ((p.drop 4).take 64)
  let ss := pieces 16 ((p.drop 0x44).take (16 * ns))
  let cs := pieces 16 ((p.drop (0x44 + 16 * ns)).take (16 * nc))
  let fs := pieces 136 ((p.drop (0x44 + 16 * ns + 16 * nc)).take (136 * nf))
  let feeds := fs.map feedEnt
  if 0x44 ≤ p.length ∧ 1 ≤ ns ∧ ns ≤ 16 ∧ nc ≤ 128 ∧ nf ≤ 16 ∧ zeroAt p 3 1 = true ∧ p.length = 0x44 + 16 * ns + 16 * nc + 136 * nf ∧
      keep.all (fun k => decide (k < 2 ^ 24)) = true ∧ ss.all srcOk = true ∧ cs.all (consOk (ss.map srcEntry)) = true ∧
      consLinked (cs.map consEntry) = true ∧ fs.all feedOk = true ∧
      feeds.all (fun f => (feeds.filter fun g => g.feed == f.feed).length == 1) = true then
    some ⟨keep, ss.map srcEntry, cs.map consEntry, feeds⟩
  else none

/-- R282: a header. -/
def seqHeader (e : List Nat) : SeqH := ⟨leAt e 0 2, e.getD 2 0, e.getD 3 0, e.getD 4 0, e.getD 5 0⟩

/-- R282: a step. -/
def seqStepE (e : List Nat) : Step := ⟨e.getD 0 0, e.getD 1 0, leAt e 2 2, leAt e 4 2, e.getD 6 0, e.getD 7 0⟩

/-- R277, R278: does the operation allow the target? -/
def stepTgt (op t : Nat) : Bool :=
  let rail := decide (t < 0x4C)
  let mon := decide (0x50 ≤ t ∧ t < 0x80)
  match op with
  | 1 | 2 | 6 => rail
  | 3 => rail || mon
  | 4 | 5 | 9 => t == 0
  | 7 => mon
  | 8 => decide (0x40 ≤ t) && rail
  | _ => false

/-- R282: the checks of a step. -/
def stepOk (x : Step) : Bool :=
  stepTgt x.op x.tgt && (x.tmo != 0 || !(x.op == 1 || x.op == 3 || x.op == 6 || x.op == 8)) &&
    (if x.op = 6 then decide (x.mon < 48) else x.mon == 0xFF) && decide (x.sflags < 4)

/-- R282: the sequences, if the section passes. -/
def seqTable (p : List Nat) : Option (List SeqH × List Step) :=
  let hs := pieces 8 (p.take 128)
  let ss := (pieces 8 (p.drop 128)).map seqStepE
  let hOk := fun (e : List Nat) =>
    let h := seqHeader e
    decide (h.first + h.count ≤ ss.length ∧ h.count ≤ 64 ∧ h.trig < 64 ∧ h.flags < 4) &&
      (decide (h.failSeq < 16) || h.failSeq == 0xFF) && zeroAt e 6 2
  if 128 ≤ p.length ∧ p.length % 8 = 0 ∧ ss.length ≤ 512 ∧ hs.all hOk = true ∧ ss.all stepOk = true then
    some (hs.map seqHeader, ss)
  else none

/-- R477: the registers that the words of a converter-sequence section go to, in order. -/
def adcAddrs : List Nat :=
  ((List.range 16).flatMap fun b => (0xB0100 + 0x80 * b) :: (List.range 16).map fun e => 0xB0140 + 0x80 * b + 4 * e) ++
    (List.range 8).map fun t => 0xB0010 + 4 * t

/-- R508: the registers of a charger section. -/
def chgAddrs : List Nat := (List.range 12).map fun i => 0xD000C + 4 * i

/-- R560: the registers of a port policy section, with none for the words that must be zero. -/
def pdAddrs : List (Option Nat) :=
  (List.range 24).map fun i => if i % 12 = 4 then none else some (0xF000C + 0x100 * (i / 12) + 4 * (i % 12))

/-- R585: the registers of a fault section. -/
def fltAddrs : List Nat := ((List.range 40).map fun i => 0x120100 + 4 * i) ++ [0x120000, 0x120030, 0x120034]

/-- R678: the registers of a chain parameters section. -/
def lnkAddrs : List Nat := [0x70000, 0x80000]

/-- Words for registers, if their number is right and each is clean. -/
def wordsOk (as : List Nat) (p : List Nat) : Bool :=
  p.length == 4 * as.length && (as.zip (leWords p)).all fun x => wordClean x.1 x.2

/-- R477: the converter-sequence section passes. GAIN 0b100 and 0b101 need SMP of at least 0b010. -/
def adcOk (p : List Nat) : Bool :=
  wordsOk adcAddrs p && (adcAddrs.zip (leWords p)).all fun x =>
    decide (x.1 < 0xB0100 ∨ x.1 % 0x80 < 0x40) || decide (bitsOf x.2 10 8 < 4 ∨ 2 ≤ bitsOf x.2 13 11)

/-- R487, R508: the charger section passes. -/
def chgOk (p : List Nat) : Bool := wordsOk chgAddrs p && packOk (leAt p 4 4)

/-- R543, USB PD 3.1 (assumption 30): a PDO is a Fixed supply of 5 V to 20 V or an SPR PPS APDO within 3.3 V to 21 V, with no
more than 5 A, its reserved bits zero; only the first carries the flags of bits 29:24. -/
def pdoOk (k w : Nat) : Bool :=
  if pdoFixed w then
    bitsOf w 23 22 == 0 && (k == 0 || bitsOf w 29 24 == 0) && decide (5000 ≤ pdoMv w ∧ pdoMv w ≤ 20000 ∧ pdoMa w ≤ 5000)
  else
    bitsOf w 31 28 == 0xC && bitsOf w 26 25 == 0 && !bitOf w 16 && !bitOf w 7 &&
      decide (33 ≤ bitsOf w 15 8 ∧ bitsOf w 15 8 ≤ bitsOf w 24 17 ∧ bitsOf w 24 17 ≤ 210 ∧ pdoMa w ≤ 5000)

/-- R543, USB PD 3.1 (assumption 30): Fixed PDOs come first, by rising voltage, and then the APDOs, by their greatest voltage. -/
def pdoOrder : List Nat → Bool
  | a :: b :: r =>
    (if pdoFixed a then !pdoFixed b || decide (pdoMv a < pdoMv b) else !pdoFixed b && decide (pdoMv a ≤ pdoMv b)) && pdoOrder (b :: r)
  | _ => true

/-- R560: the PDOs of one port pass under its PORT_W. -/
def pdosOk (ws : List Nat) (portW : Nat) : Bool :=
  let l := ws.takeWhile (· != 0)
  l.zipIdx.all (fun x => pdoOk x.2 x.1 && decide (pdoMv x.1 * pdoMa x.1 ≤ min 100 portW * 1000000)) && pdoOrder l &&
    (match l with | a :: _ => pdoFixed a && pdoMv a == 5000 | [] => false) &&
    decide ((l.filter pdoFixed).length ≤ 5 ∧ (l.filter fun w => !pdoFixed w).length ≤ 2)

/-- R560: the port policy section passes. -/
def pdPolicyOk (p : List Nat) : Bool :=
  let ws := leWords p
  p.length == 96 && (pdAddrs.zip ws).all (fun x => match x.1 with | some a => wordClean a x.2 | none => x.2 == 0) &&
    [0, 12].all fun o => pdosOk ((ws.drop (o + 5)).take 7) (bitsOf (ws.getD (o + 1) 0) 15 8)

/-- R585: the fault section passes; the severity of FLT_SELF is fatal. -/
def fltOk (p : List Nat) : Bool := wordsOk fltAddrs p && bitsOf (leAt p 156 4) 31 30 == 3

/-- R526: the capacity section, if it passes. -/
def gaugeTable (p : List Nat) : Option GTab :=
  let t := ((p.drop 4).take 16).map (toSigned 8)
  let h := fun (o n : Nat) => (pieces 2 ((p.drop o).take (2 * n))).map leNat
  let d := leAt p 0 2
  if p.length = 0x150 ∧ 1000 ≤ d ∧ d ≤ 65000 ∧ zeroAt p 2 2 = true ∧ zeroAt p 0x14E 2 = true ∧ rising t = true ∧
      rising ((h 0x14 8).map Int.ofNat) = true ∧ (h 0x24 128).all (fun x => decide (1 ≤ x ∧ x ≤ 1000)) = true ∧
      notFalling (h 0x124 21) = true then
    some ⟨d, t, h 0x14 8, h 0x24 128, h 0x124 21⟩
  else none

/-- R76, R79 step 6: the content of a section of type `t` is valid. -/
def contentOk (t : Nat) (p : List Nat) : Bool :=
  match t with
  | 0x1 => p.length % 12 == 0 && (pieces 12 p).all regEntOk
  | 0x2 => (wireTable p).isSome
  | 0x3 => (coefTable p).isSome
  | 0x4 => (itinTable p).isSome
  | 0x5 => (ledgTable p).isSome
  | 0x6 => (seqTable p).isSome
  | 0x7 => adcOk p
  | 0x8 => chgOk p
  | 0x9 => (gaugeTable p).isSome
  | 0xA => pdPolicyOk p
  | 0xB => fltOk p
  | 0xC => wordsOk lnkAddrs p
  | _ => false

/-! ### The checks of a slot -/

/-- R75: a section of the image: its TYPE, SFLAGS, payload and whether its SCRC is correct. -/
structure Sect where
  typ : Nat
  sflags : Nat
  payload : List Nat
  good : Bool
deriving DecidableEq, Repr

/-- R79 step 5: at most `n` sections of the bytes before the check word, the TYPE of the first that does not fit, and what
is left. A LEN that is no multiple of 4 does not fit either. -/
def sections : Nat → List Nat → List Sect × Option Nat × List Nat
  | 0, b => ([], none, b)
  | n + 1, b =>
    let t := leAt b 0 2
    let len := leAt b 4 4
    if b.isEmpty then ([], some 0, b)
    else if b.length < 12 + len ∨ len % 4 ≠ 0 then ([], some t, b)
    else
      let r := sections n (b.drop (12 + len))
      (⟨t, leAt b 2 2, (b.drop 8).take len, crc32c (b.take (8 + len)) == leAt b (8 + len) 4⟩ :: r.1, r.2.1, r.2.2)

/-- R76: does the section pass step 6, where the types `seen` stand before it? -/
def sectOk (seen : List Nat) (x : Sect) : Bool :=
  if x.typ = 1 then contentOk 1 x.payload
  else if 2 ≤ x.typ ∧ x.typ ≤ 0xC then !seen.contains x.typ && contentOk x.typ x.payload
  else !bitOf x.sflags 0

/-- R79 step 6: the index and TYPE of the first section that fails. -/
def sectFail : Nat → List Nat → List Sect → Option (Nat × Nat)
  | _, _, [] => none
  | i, seen, x :: r => if sectOk seen x then sectFail (i + 1) (x.typ :: seen) r else some (i, x.typ)

/-- The index and TYPE of the first section that meets `f`. -/
def sectFind (f : Sect → Bool) (xs : List Sect) : Option (Nat × Nat) :=
  (xs.zipIdx.find? fun x => f x.1).map fun x => (x.2, x.1.typ)

/-- What the checks of a slot find: the result of R79 or 0x1, the failing section's index and TYPE, the sections. -/
structure Verdict where
  result : Nat
  index : Nat := 0x7FF
  typ : Nat := 0
  sects : List Sect := []
  signed : Bool := false
  gen : Nat := 0
  expAddr : Nat := 0xFF
deriving DecidableEq, Repr

/-- R74, R79 steps 1 to 3: the header check: 0x3, 0x4 or 0x5, or 0x2 where it passes. -/
def headerCheck (rev : Nat) (h : List Nat) : Nat :=
  let exp := leAt h 0x17 1
  let gen := leAt h 8 4
  if leAt h 0 4 ≠ 0x31524C4B then 3
  else if crc32c (h.take 0x3C) ≠ leAt h 0x3C 4 then 4
  else if leAt h 4 2 ≠ 1 ∨ leAt h 6 2 ≠ 0x40 ∨ leAt h 0x14 2 ≠ 0x6480 ∨ zeroAt h 0x2C 16 = false ∨ rev < leAt h 0x16 1 ∨
      (0x20 ≤ exp ∧ exp ≠ 0xFF) ∨ gen = 0 ∨ gen = 0xFFFFFFFF then 5
  else 2

/-- R78, R79 steps 8 to 11: the check word, the key and the signature of the image in `b`, LENGTH bytes and, when signed, 128. -/
def imageSeal (s : State) (b : List Nat) (len : Nat) (signed : Bool) : Nat :=
  if crc32c (b.take (len - 4)) ≠ leAt b (len - 4) 4 then 9
  else if !signed then (if sigReq s then 0xA else 1)
  else
    let g := b.drop len
    let be := fun (o : Nat) => beNat ((g.drop o).take 32)
    if keyHash s = 0 ∨ sha256 (g.take 64) ≠ keyHash s then 0xB
    else if ecdsaOk (be 0) (be 0x20) (be 0x40) (be 0x60) (sha256 (b.take len)) then 1 else 0xC

/-- R79 steps 5 to 11 on an image whose header stands. -/
def bodyCheck (s : State) (b : List Nat) (len nsec : Nat) (signed : Bool) : Verdict :=
  let r := sections nsec ((b.take (len - 4)).drop 0x40)
  match sectFind (fun x => decide (1 < x.sflags)) r.1, sectFind (fun x => !x.good) r.1, r.2.1, sectFail 0 [] r.1 with
  | some (i, t), _, _, _ => ⟨6, i, t, [], false, 0, 0xFF⟩
  | none, some (i, t), _, _ => ⟨7, i, t, [], false, 0, 0xFF⟩
  | none, none, some t, _ => ⟨6, r.1.length, t, [], false, 0, 0xFF⟩
  | none, none, none, some (i, t) => ⟨8, i, t, [], false, 0, 0xFF⟩
  | none, none, none, none =>
    if r.2.2 ≠ [] then ⟨6, 0x7FF, 0, [], false, 0, 0xFF⟩
    else ⟨imageSeal s b len signed, 0x7FF, 0, r.1, signed, leAt b 8 4, leAt b 0x17 1⟩

/-- R79: all checks of slot A (`false`) or B. -/
def slotCheck (s : State) (slot : Bool) : Verdict :=
  let h := flashRead s (slotBase s slot) 0x40
  let c := headerCheck Config.siliconRev.toNat h
  let len := leAt h 0xC 4
  let flags := leAt h 0x12 2
  let nsec := leAt h 0x10 2
  let sig := if bitOf flags 0 then 128 else 0
  if c ≠ 2 then ⟨c, 0x7FF, 0, [], false, 0, 0xFF⟩
  else if len % 4 ≠ 0 ∨ len < 0x50 ∨ slotSize s < len + sig ∨ nsec = 0 ∨ 1024 < nsec ∨ 1 < flags then ⟨6, 0x7FF, 0, [], false, 0, 0xFF⟩
  else bodyCheck s (flashRead s (slotBase s slot) (len + sig)) len nsec (bitOf flags 0)

/-! ### Applying the image -/

/-- R77: what a register takes from an entry: its RW and SEAL fields at (old AND NOT MASK) OR (VALUE AND MASK). -/
def maskedWord (s : State) (a m v : Nat) : Nat :=
  let old := regWord s a
  let new := (old &&& (m ^^^ 0xFFFFFFFF)) ||| (v &&& m)
  (fieldsAt a).foldl (fun w f => if f.acc == .rw || f.acc == .sealed then w + bitsOf new f.hi f.lo * 2 ^ f.lo else w) 0

/-- R77: the image sets a register. LOOP.CTL takes only a CSEL that names a set (R190); registers whose write is more than
its stored value keep that meaning, and nothing runs yet on which a command could act. -/
def imgSet (s : State) (a w : Nat) : State :=
  let b := a / 65536
  if b = 4 ∧ a < 0x41000 ∧ a % 0x400 = 0 then
    let n := (a - 0x40000) / 0x400
    let c := bitsOf w 13 8
    let t := storeWord s a w
    if cselOk s c then t else fset t (LOOP.CTL.CSEL n) (fget s (LOOP.CTL.CSEL n))
  else if a = 0xB0000 ∨ b = 9 ∨ b = 0xC ∨ b = 0xD ∨ b = 0xF ∨ b = 0x12 ∨ b = 0x13 then (blockWrite s a w).1
  else storeWord s a w

/-- R77: one entry of a register-write section, applied. -/
def regEntApply (s : State) (e : List Nat) : State :=
  let a := leAt e 0 4
  let m := leAt e 4 4
  if m = 0 then s else imgSet s a (maskedWord s a m (leAt e 8 4))

/-- Words stored to registers in order. -/
def wordsApply (s : State) (as : List Nat) (p : List Nat) : State := (as.zip (leWords p)).foldl (fun t x => imgSet t x.1 x.2) s

/-- R355: the itinerary is replaced as a whole. -/
def itinApply (s : State) (es : List (List Nat)) : State :=
  let s1 := { s with regs := s.regs.filter fun c => decide (c.1 < 0x100000 * 32 ∨ 0x120000 * 32 ≤ c.1) }
  es.zipIdx.foldl (fun t x => (List.range 4).foldl (fun u j => storeWord u (0x100000 + 16 * x.2 + 4 * j) (x.1.getD j 0)) t) s1

/-- R398: the consumer index, RESV_MW and VNOM go to the target's LEDG registers, and the entry to LEDG.CONS. -/
def consApply (s : State) (x : ConsE × Nat) : State :=
  let c := x.1
  let a := [0x20050 + 0x100 * c.inst, 0x40044 + 0x400 * c.inst, 0x5001C + 0x40 * c.inst, 0xD0050, 0xF0050 + 0x100 * c.inst].getD (c.typ - 1) 0
  let s1 := fset (fset (fset s ⟨a, 31, 31⟩ 1) ⟨a, 30, 24⟩ x.2) ⟨a, 23, 0⟩ c.resv
  let s2 := if c.typ = 2 then fset s1 (LOOP.LEDG_V.VNOM c.inst) c.vnom else if c.typ = 3 then fset s1 (REG.LEDG_V.VNOM c.inst) c.vnom else s1
  fset (fset (fset s2 (LEDG.CONS.CFG.TYPE x.2) c.typ) (LEDG.CONS.CFG.INST x.2) c.inst) (LEDG.CONS.CFG.PARENT x.2) c.parent

/-- R417: LEDG.SRC of a valid source. -/
def srcApply (s : State) (x : SrcE × Nat) : State :=
  if x.1.valid then
    let s1 := fset (fset s (LEDG.SRC.CFG.KIND x.2) x.1.kind) (LEDG.SRC.CFG.VALID x.2) 1
    fset (fsetB s1 (LEDG.SRC.CFG.CHAIN x.2) x.1.chain) (LEDG.SRC.CFG.FEED x.2) x.1.feed
  else s

/-- R398: the ledger section is applied. -/
def ledgApply (s : State) (l : LedgSect) : State :=
  let s1 := { s with ldg := { s.ldg with srcs := l.srcs, cons := l.cons, feedsE := l.feeds } }
  let s2 := l.keep.zipIdx.foldl (fun t x => fset t (LEDG.CLASS.KEEP_MW x.2) x.1) s1
  l.cons.zipIdx.foldl consApply (l.srcs.zipIdx.foldl srcApply s2)

/-- R560: the port policy is applied; word 4 of each group goes nowhere. -/
def pdApply (s : State) (p : List Nat) : State :=
  (pdAddrs.zip (leWords p)).foldl (fun t x => match x.1 with | some a => imgSet t a x.2 | none => t) s

/-- R83: one section is applied; a typed table replaces the ROM default table as a whole. -/
def sectApply (s : State) (x : Sect) : State :=
  let p := x.payload
  match x.typ with
  | 0x1 => (pieces 12 p).foldl regEntApply s
  | 0x2 => { s with wire := { s.wire with types := (wireTable p).getD [] } }
  | 0x4 => itinApply s ((itinTable p).getD [])
  | 0x5 => match ledgTable p with
    | some l => ledgApply s l
    | none => s
  | 0x6 => match seqTable p with
    | some t => { s with sqs := { s.sqs with heads := t.1, steps := t.2 } }
    | none => s
  | 0x7 => wordsApply s adcAddrs p
  | 0x8 => wordsApply s chgAddrs p
  | 0x9 => { s with gau := { s.gau with tab := gaugeTable p } }
  | 0xA => pdApply s p
  | 0xB => wordsApply s fltAddrs p
  | 0xC => wordsApply s lnkAddrs p
  | _ => s

/-- R191: the coefficient sets of the image, which CSEL values name whatever the order of its sections. -/
def coefsApply (s : State) (xs : List Sect) : State :=
  match xs.find? fun x => x.typ == 3 with
  | some x => { s with lps := { s.lps with coefs := (coefTable x.payload).getD [] } }
  | none => s

/-! ### Step 3 of R50 -/

/-- R123: privilege goes to the eight lowest-numbered channels that ask for it in a PACK bank. -/
def grantPriv (s : State) : State :=
  let want := (List.range 64).filter fun n => fon s (CHN.CFG.PRIV n)
  let win := (want.filter fun n => fon s (CHN.BANK.PACK (n / 8))).take 8
  let s1 := win.foldl (fun t n => fset t (CHN.CFG.PRIV_ACT n) 1) s
  if win.length < want.length then raise s1 0x259 else s1

/-- R157: models that are enabled with no valid type. -/
def wireTypesCheck (s : State) : State :=
  let bad := (List.range 64).filter fun n =>
    fon s (WIRE.CFG.EN n) && (wireType s n).isNone
  let s1 := bad.foldl (fun t n => fset t (WIRE.STAT.NOTYPE n) 1) s
  if bad = [] then s1 else raise s1 0x25B

/-- R441: MIN values that sum to more than the tags of the part leave every MIN and MAX at its reset value. -/
def fabMinCheck (s : State) : State :=
  if ((List.range 24).map fun k => fget s (FAB.REQ.CFG.MIN k)).foldl (· + ·) 0 ≤ 1024 then s
  else
    let one := fun (t : State) (k : Nat) =>
      fset (fset t (FAB.REQ.CFG.MIN k) (fieldReset (fkey (FAB.REQ.CFG.MIN k)))) (FAB.REQ.CFG.MAX k) (fieldReset (fkey (FAB.REQ.CFG.MAX k)))
    raise (fset ((List.range 24).foldl one s) FAB.EVT.CFG 1) 0x276

/-- R50, R47: a Dawn short-circuit latch is released and the retry policy of cause SC applies, its wait counted from here
(assumption 80). -/
def dawnRelease (s : State) (n : Nat) : State :=
  if (chan s n).dawnLatch then
    let s1 := fset (setChan s n { chan s n with dawnLatch := false }) (CHN.STAT.LATCHED n) 0
    if chExhausted s1 n 0 then chLatch s1 n
    else
      let x := chan s1 n
      let s2 := setChan s1 n { x with rSc := x.rSc + 1, pSc := true, ready := localNs s + chWait s1 n 0 * 1000000, retry := false }
      fset (fset s2 (CHN.STAT.RTRY n) (min 15 (x.rSc + 1))) (CHN.STAT.STATE n) 0xA
  else s

/-- R47, R111, R116: protection that starts at step 3 starts from zero. -/
def protectStart (s : State) (n : Nat) : State :=
  fset (fset (setChan s n { chan s n with i2t := 0, lastRes := none, soa := 0 }) (CHN.I2T_ACC.ACC n) 0) (CHN.SOA_P.ACC_MJ n) 0

/-- R287: monitors follow CFG.ARM. -/
def monSettle (s : State) (m : Nat) : State := fsetB s (MON.STAT.MODE m) (fon s (MON.CFG.ARM m))

/-- Step 3 of R50: what the part does once the image or the factory defaults stand in its registers. -/
def settle (s : State) : State :=
  let s0 := { s with start := { s.start with applied := true } }
  let s1 := (List.range 64).foldl dawnRelease ((List.range 64).foldl protectStart s0)
  let s2 := (List.range 48).foldl monSettle ((List.range 64).foldl chUnused s1)
  let s3 := chgSetIt s2 (iccMa s2)
  fltUpdate (gaugeTabCheck (fabMinCheck (wireTypesCheck (grantPriv s3))))

/-- R83, R80: step 3 of R50 with the image of slot A (`false`) or B. -/
def imageApply (s : State) (slot : Bool) (v : Verdict) : State :=
  let s1 := v.sects.foldl sectApply (coefsApply { s with img := { s.img with expAddr := v.expAddr } } v.sects)
  let s2 := fset (fsetB (fsetB s1 TOP.STATUS.SLOT slot) TOP.STATUS.SIG_CHECKED v.signed) CFG.APPLIED.GEN v.gen
  settle (fset s2 (if slot then CFG.STATUS.B_RES else CFG.STATUS.A_RES) 1)

end Sys2Proof.Machine
end

