-- ==== Sys2Proof/Machine/Reset.lean ====
section
/-!
DEFINITION. Machine/Reset.lean: what each reset preserves (R60, R61, R608) and the commands that reset the part.
-/
namespace Sys2Proof.Machine

/-! ### What stays -/

/-- R299: is the field at this key of the register table marked "Retained"? -/
def keyRetained (key : Nat) : Bool :=
  match specAt (key / 32) with
  | some r => r.flds.any fun f => f.lo == key % 32 && f.retained
  | none => false

/-- R65, R126: presence follows the pins and not the resets. -/
def keySupply (key : Nat) : Bool :=
  key / 32 == 0xC || decide (0x20000 ≤ key / 32 ∧ key / 32 < 0x24000 ∧ key / 32 % 0x100 = 4 ∧ key % 32 = 16)

/-- R608: a backup domain that is lost: its fields at their reset values and every record in it invalid. -/
def bkpLost (s : State) : State :=
  { s with
    regs := s.regs.filter fun c => !keyRetained c.1
    start := { s.start with bkp := false }
    wire := { s.wire with record := none }
    gau := { s.gau with kept := none }
    jrn := { s.jrn with head := none }
    pwr := { s.pwr with staged := none }
    time := { s.time with bkp := 0 } }

/-- R45: the Dawn state code of channel `n`. -/
def dawnCode (s : State) (n : Nat) : Nat := fuseWord s (4 + n / 16) / 2 ^ (2 * (n % 16)) % 4

/-- R60: does channel `n` stay on through a reset other than power-on: Dawn state On and the gate fully enhanced? -/
def chanKept (s : State) (n : Nat) : Bool :=
  dawnCode s n == 2 &&
    (chState s n == 5 || chState s n == 0xD && (chan s n).kept)

/-- Bytes whose value the spec leaves open: `n` of them from address `a`, drawn one by one. -/
def openBytes (s : State) (a n : Nat) : List Host.Cell :=
  ((List.range n).map fun i => (a + i, BitVec.ofNat 8 (Config.freeNat (s.free + i) % 256))).filter fun c => c.2 != 0xFF#8

/-- The flash with the bytes from `a`, `n` of them, replaced by the cells given. -/
def flashPut (m : List Host.Cell) (a n : Nat) (cs : List Host.Cell) : List Host.Cell :=
  m.filter (fun c => decide (c.1 < a)) ++ cs ++ m.filter (fun c => decide (a + n ≤ c.1))

/-- R72: the base of the target slot of an update session. -/
def updBase (s : State) : Nat := slotBase s (fon s CFG.UPD_STAT.TARGET)

/-- A reset breaks off an erase or a program of the flash: the bytes it works on are open (assumption 83). -/
def flashTear (s : State) : State :=
  match s.img.upd with
  | some u =>
    let n := if u.cmd = 3 then 65536 else if u.cmd = 4 then 256 else 0
    let a := updBase s + u.offset
    { s with flash := flashPut s.flash a n (openBytes s a n), free := s.free + n }
  | none => s

/-- R630: a reset breaks off the programming of a fuse word: each bit asked for may have been programmed (assumption 83). -/
def otpTear (s : State) : State :=
  match s.otp.busy with
  | some b =>
    let old := tabGet (fun _ => 0) s.otp.fuses b.1
    let v := old ||| (b.2 &&& Config.freeNat s.free)
    { s with otp := { s.otp with fuses := tabPut (fun _ => 0) s.otp.fuses b.1 v }, free := s.free + 1 }
  | none => s

/-- R424: the targets that have an index. -/
def targets : List Nat := List.range 0x5D ++ [0x7F]

/-- R60: a channel that stays on enters Dawn in state ON with MODE on; STATE and MODE show it from the reset on. -/
def keepChan (s : State) (n : Nat) : State := fset (fset s (CHN.STAT.STATE n) 5) (CHN.CTL.MODE n) 1

/-- R61: the fields of TOP.RST_CAUSE, by the sources' bit numbers. -/
def causeBit (c : Nat) : Fld := ⟨0x10, c, c⟩

/-- The state that a reset leaves, but for the causes, the epochs and the channels kept on: what R61 and R608 preserve. -/
def bareReset (s : State) : State :=
  let fed := s.start.t0
  { pending := s.pending
    regs := s.regs.filter fun c => keyRetained c.1 || keySupply c.1
    free := s.free
    start := { t0 := fed, bkp := s.start.bkp || fed, rcRuns := fed }
    time := { bkp := s.time.bkp }
    jrn := { nand := s.jrn.nand, bad := s.jrn.bad, head := s.jrn.head }
    pwr := { staged := s.pwr.staged }
    wire := { record := s.wire.record }
    gau := { slot0 := s.gau.slot0, slot1 := s.gau.slot1, kept := s.gau.kept }
    otp := { fuses := s.otp.fuses }
    flash := s.flash }

/-- R39: a start supply is present. -/
def startFed (s : State) : Bool := fon s TOP.SUPPLY.VIN48 || fon s TOP.SUPPLY.VIN12 || fon s TOP.SUPPLY.VPACK

/-- R61: a reset by source `c`: 0 power-on or brown-out, 1 RST_N, 2 software, 3 chain, 4 fault collector, 5 Storage exit.
Power-on and Storage exit keep no bit of RST_CAUSE and no channel; of the others each adds its own bit. -/
def partReset (s : State) (c : Nat) : State :=
  let hard := c == 0 || c == 5
  let s1 := otpTear (flashTear (pageTear s))
  let s2 := if hard && !fon s TOP.SUPPLY.VBKP then bkpLost s1 else s1
  let s3 := bareReset { s2 with start := { s2.start with t0 := if c = 0 then startFed s else s.start.t0 } }
  let s4 := if hard then s3 else (List.range 6).foldl (fun t i => fset t (causeBit i) (fget s (causeBit i))) s3
  let s5 := fset (if c = 5 then fset s4 (causeBit 0) 0 else s4) (causeBit c) 1
  let s6 := if c = 0 then s5
    else targets.foldl (fun t k => fset t (FAB.TGT.EPOCH k) (fget s (FAB.TGT.EPOCH k) + 1)) s5
  if hard then s6 else ((List.range 64).filter (chanKept s)).foldl keepChan s6

/-! ### The commands -/

/-- BROWN_OUT: the HK output falls below 4.2 V (R59, R61). -/
def execBrownOut (s : State) : Host.Outcome State Fault Refusal := .next (partReset s 0)

/-- RST_N_RESET: RST_N was low for `lowNs`. It is read only while VDDIO is present (R43). Pulses under 200 ns are ignored
and those of 1 µs act; between the two the spec leaves open whether the part resets (R61). -/
def execRstNReset (lowNs : Nat) (s : State) : Host.Outcome State Fault Refusal :=
  .next (if !s.start.t0 || !fon s TOP.SUPPLY.VDDIO || decide (lowNs < 200) then s
    else if 1000 ≤ lowNs then partReset s 1
    else
      let r := drawBool s
      if r.1 then partReset r.2 1 else r.2)

/-- R67: a write of TOP.CTL; in Dawn the bus refuses it (R44). -/
def topCtl (s : State) (rq key : Nat) (swrst : Bool) : State × Nat :=
  if rq = 9 ∧ stage s = 0 then (s, stIllegal)
  else if swrst && key == 0xA5C3 then (partReset s 2, stOk)
  else (s, stOk)

/-- SOFTWARE_RESET (R67). -/
def execSoftwareReset (rq : Fin 24) (key : BitVec 16) (swrst : Bool) (s : State) : Host.Outcome State Fault Refusal :=
  .next (asCoach s rq 0x7F 0x14 fun t => let r := topCtl t rq key.toNat swrst; (r.1, r.2, []))

/-- FAULT_COLLECTOR_RESET: RST_DLY has passed since the safe state was entered (R575). -/
def execFaultCollectorReset (s : State) : Host.Outcome State Fault Refusal :=
  .next (if safe s && s.flt.rstArmed && !s.start.rcLost && decide (fget s FLT.STAT.RSTS < fget s FLT.CFG.RST_MAX) then
    finc (partReset s 4) FLT.STAT.RSTS
    else s)

/-- STORAGE_EXIT_RESET: CHG_IN has been above its level for 10 ms in Storage (R506). -/
def execStorageExitReset (s : State) : Host.Outcome State Fault Refusal :=
  .next (if s.pwr.storage && fon s TOP.SUPPLY.CHG_IN then partReset s 5 else s)

/-- R336: a write of LNK.CMD with CMD reset: `unit` is none for a broadcast. -/
def sendReset (s : State) (key : Nat) (unit : Option Nat) : State × Nat :=
  if key = 0xA5C3 then
    (send s { typ := 6, bc := unit.isNone, dst := unit.getD 0, pay := [key * 2 ^ 16] }, stOk)
  else (s, stIllegal)

/-- LNK_CMD_RESET_UNIT (R336). -/
def execLnkCmdResetUnit (rq : Fin 24) (key : BitVec 16) (unit : Fin 32) (s : State) : Host.Outcome State Fault Refusal :=
  .next (asCoach s rq 0x7F 0x7000C fun t => let r := sendReset t key.toNat (some unit.val); (r.1, r.2, []))

/-- LNK_CMD_BROADCAST_RESET (R336). -/
def execLnkCmdBroadcastReset (rq : Fin 24) (key : BitVec 16) (s : State) : Host.Outcome State Fault Refusal :=
  .next (asCoach s rq 0x7F 0x7000C fun t => let r := sendReset t key.toNat none; (r.1, r.2, []))

/-- RESET_RX: a RESET reaches this unit (R329). -/
def execResetRx (p : Fin 2) (key : BitVec 16) (_bc : Bool) (s : State) : Host.Outcome State Fault Refusal :=
  .next (if key.toNat = 0xA5C3 ∧ fon s LNK.CFG.RST_EN then partReset s 3
    else countErr (finc s (LNK.PORT.ERR.CODE p)) p)

end Sys2Proof.Machine
end

