-- ==== Sys2Proof/Machine/Start.lean ====
section
/-!
DEFINITION. Machine/Start.lean: the supplies and the staged start: Dawn, Morning and Noon (R38-R59).
-/
namespace Sys2Proof.Machine

/-! ### Supplies -/

/-- R38: the rising and falling thresholds of a pin, in millivolt. -/
def supplyMv : SupplyPin → Nat × Nat
  | .vin48 => (8500, 7800)
  | .vin12 => (5600, 5000)
  | .vpack => (7500, 7000)
  | .vsol => (3000, 2700)
  | .chgIn => (8500, 7800)
  | .vbkp => (2400, 2200)
  | .vddio => (1500, 1400)
  | .vbank _ => (5500, 5000)

/-- R65: the presence bit of a pin. -/
def supplyBit : SupplyPin → Fld
  | .vin48 => TOP.SUPPLY.VIN48
  | .vin12 => TOP.SUPPLY.VIN12
  | .vpack => TOP.SUPPLY.VPACK
  | .vsol => TOP.SUPPLY.VSOL
  | .chgIn => TOP.SUPPLY.CHG_IN
  | .vbkp => TOP.SUPPLY.VBKP
  | .vddio => TOP.SUPPLY.VDDIO
  | .vbank b => ⟨0xC, 16 + b, 16 + b⟩

/-- A presence bit among the eight of TOP.SUPPLY.VBANK. -/
def bankBit (s : State) (b : Nat) : Bool := bitOf (fget s TOP.SUPPLY.VBANK) b

/-- Is the pin present? -/
def supplyOn (s : State) (p : SupplyPin) : Bool :=
  match p with
  | .vbank b => bankBit s b
  | _ => fon s (supplyBit p)

/-- R65, R126: presence of VBANKb, shown for the bank and for each of its channels. -/
def setBank (s : State) (b : Nat) (on : Bool) : State :=
  let v := fget s TOP.SUPPLY.VBANK
  let w := if on then v ||| 2 ^ b else v - b2n (bitOf v b) * 2 ^ b
  (List.range 8).foldl (fun t i => fsetB t (CHN.STAT.BANK (8 * b + i)) on) (fset s TOP.SUPPLY.VBANK w)

/-- The presence of a pin set. -/
def setSupply (s : State) (p : SupplyPin) (on : Bool) : State :=
  match p with
  | .vbank b => setBank s b on
  | _ => fsetB s (supplyBit p) on

/-- R39: OR_SEL names the highest start supply: the one that is present, or, of several whose levels the crossings do not
tell, any of them (assumption 81). With none it keeps its value. -/
def orSelect (s : State) : State :=
  let on := (if fon s TOP.SUPPLY.VIN48 then [0] else []) ++ (if fon s TOP.SUPPLY.VIN12 then [1] else []) ++
    (if fon s TOP.SUPPLY.VPACK then [2] else [])
  match on with
  | [] => s
  | [k] => fset s TOP.SUPPLY.OR_SEL k
  | l =>
    let r := drawNat s l.length
    fset r.2 TOP.SUPPLY.OR_SEL (l.getD r.1 0)

/-- R38, R40, R608: the first start supply: t0. The internal feed of the backup domain appears with it. -/
def startRise (s : State) : State :=
  if s.start.t0 then orSelect s
  else orSelect { s with start := { s.start with t0 := true, rcRuns := true, bkp := true } }

/-- R603: cause 0x08. -/
def supplyWake (s : State) : State := if fon s RTC.WAKE.EN_SUPPLY then wakeCause s 8 (myAddr s) else s

/-- R262: bucks follow VIN12. -/
def buckInputs (s : State) (on : Bool) : State :=
  (List.range 4).foldl (fun t r => if on then regInputReturn t r else regInputLoss t r) s

/-- R40, R608: VBKP feeds the backup domain, which powers up afresh where the internal feed is absent; without either feed
it is lost. -/
def bkpFeed (s : State) (on : Bool) : State :=
  if on then
    let s1 := if s.start.t0 && !s.pwr.storage then s else bkpLost s
    fset { s1 with start := { s1.start with bkp := true } } RTC.STAT.FEED 1
  else if s.start.t0 && !s.pwr.storage then fset s RTC.STAT.FEED 0
  else bkpLost s

/-- What follows when a pin becomes present. -/
def supplyRose (s : State) : SupplyPin → State
  | .vin48 => supplyWake (startRise s)
  | .vin12 => supplyWake (buckInputs (startRise s) true)
  | .vpack => startRise s
  | .vsol => chgSupply s
  | .chgIn => supplyWake (chgSupply s)
  | .vbkp => bkpFeed s true
  | .vddio => s
  | .vbank _ => s

/-- What follows when the presence of a pin is lost. VDDIO lost in a transaction ends it (R629). -/
def supplyFell (s : State) : SupplyPin → State
  | .vin48 => orSelect s
  | .vin12 => buckInputs (orSelect s) false
  | .vpack => orSelect s
  | .vsol => chgSupply s
  | .chgIn => chgSupply s
  | .vbkp => bkpFeed s false
  | .vddio => { s with bus := { s.bus with reply := [] } }
  | .vbank _ => s

/-- SUPPLY_RISE (R38). A level below the rising threshold crosses nothing. -/
def execSupplyRise (pin : SupplyPin) (mv : Nat) (s : State) : Host.Outcome State Fault Refusal :=
  .next (if supplyOn s pin || decide (mv < (supplyMv pin).1) then s else supplyRose (setSupply s pin true) pin)

/-- SUPPLY_FALL (R38). -/
def execSupplyFall (pin : SupplyPin) (mv : Nat) (s : State) : Host.Outcome State Fault Refusal :=
  .next (if !supplyOn s pin || decide ((supplyMv pin).2 ≤ mv) then s else supplyFell (setSupply s pin false) pin)

/-- SUPPLY_LOW: the HK output falls below 4.6 V (R59, R644, R280). -/
def execSupplyLow (hkMv : Nat) (s : State) : Host.Outcome State Fault Refusal :=
  .next (if s.start.dawn && decide (hkMv < 4600) then
    raise (seqTrigger (journal s 0x01 0 0xE0 0 [regWord s 0xC, hkMv]) 2) 0x253
    else s)

/-! ### Dawn -/

/-- R45: the CRC-32C of the Dawn fuses as programmed is correct. -/
def otpGood (s : State) : Bool :=
  let w := (List.range 128).map fun i => tabGet (fun _ => 0) s.otp.fuses i
  crc32c ((w.take 127).flatMap (leBytes 4)) == w.getD 127 0

/-- R45, R48: the fuses as they are used from here on; with a wrong CRC every user field is zero. -/
def dawnFuses (s : State) : State :=
  let ok := otpGood s
  fsetB { s with otp := { s.otp with used := if ok then s.otp.fuses else [] } } TOP.STATUS.OTP_BAD (!ok)

/-- R43, R44, R620: the straps and the I/O level. Without VDDIO the straps read 0. -/
def dawnStraps (s : State) (head : Bool) (twa vddioMv : Nat) : State :=
  let io := fon s TOP.SUPPLY.VDDIO
  let h := head && io
  let s1 := fsetB (fsetB (fsetB s TOP.STATUS.HEAD h) LNK.STAT.HEAD h) TOP.STATUS.IO_1V8 (vddioMv < 2400)
  fsetB (fset s1 BUS.STAT.ADDR (0x58 + if io then twa else 0)) RTC.STAT.FEED (fon s TOP.SUPPLY.VBKP)

/-- R46, R60, R125, R126, R136: channel `n` at Dawn entry. One kept on stays on unless it has tripped meanwhile. -/
def dawnChan (s : State) (n : Nat) : State :=
  let s1 := fset s (CHN.SC.THR n) (fuseBits s (0x20 + n / 8) 0 8)
  if (chan s n).dawnLatch || chState s n == 5 then s1
  else
    let c := dawnCode s n
    fset (fsetB s1 (CHN.CTL.MODE n) (c == 2)) (CHN.STAT.STATE n) (if c = 2 then 4 else if c = 1 then 1 else 2)

/-- R45, R190: loop `n` takes its enable, voltage and preset. -/
def dawnLoop (s : State) (n : Nat) : State :=
  let p := fuseBits s (0x34 + 8 * n) 0 2 * 4 + fuseBits s (0x30 + 8 * n) 30 2
  let s1 := fset (fset s (LOOP.CTL.EN n) (fuseBits s (0x30 + 8 * n) 0 1)) (LOOP.VSET.VSET n) (fuseBits s (0x30 + 8 * n) 1 13)
  fset s1 (LOOP.CTL.CSEL n) (0x20 + if p < 8 then p else 0)

/-- R45: the loops whose fuse mask names phase `k`. -/
def dawnOwners (s : State) (k : Nat) : List Nat := (List.range 4).filter fun n => fuseBits s (0x30 + 8 * n) (14 + k) 1 == 1

/-- R182: phase `k` belongs to the lowest-numbered loop whose mask names it. -/
def dawnPhase (s : State) (k : Nat) : State := fset s (LOOP.PHS.CFG.LOOP k) ((dawnOwners s k).headD 7)

/-- R45: regulator `r` takes its enable and code. -/
def dawnReg (s : State) (r : Nat) : State :=
  fset (fset s (REG.CTL.EN r) (fuseBits s (0x50 + 2 * r) 0 1)) (REG.VSET.VSET r) (fuseBits s (0x50 + 2 * r) 1 11)

/-- R289: monitor `m` takes UV, OV, FILT and ARM. -/
def dawnMon (s : State) (m : Nat) : State :=
  let f := fun (lo n : Nat) => fuseBits s (0x60 + 4 * m) lo n
  let s1 := fset (fset (fset s (MON.THR.UV m) (f 0 10)) (MON.THR.OV m) (f 10 10)) (MON.CFG.FILT m) (f 20 8)
  fset (fset s1 (MON.CFG.ARM m) (f 28 1)) (MON.STAT.MODE m) (f 28 1)

/-- R44: everything Dawn entry does but its raises. Dawn entry is a change of stage and is journalled as one. -/
def dawnEnter (s : State) (head : Bool) (twa vddioMv : Nat) : State :=
  let s1 := dawnStraps (dawnFuses s) head twa vddioMv
  let s2 := (List.range 4).foldl dawnLoop ((List.range 64).foldl dawnChan s1)
  let s3 := (List.range 8).foldl dawnReg ((List.range 16).foldl dawnPhase s2)
  let s4 := fset ((List.range 8).foldl dawnMon s3) TOP.NOON.SOLO_EN (fuseBits s3 0xA0 1 1)
  let p := if s4.start.rcLost || safe s4 then s4.start.pair else .healthy false
  setStage (fltUpdate { s4 with start := { s4.start with dawn := true, locking := true, pair := p } }) 0

/-- DAWN_ENTRY (R44). -/
def execDawnEntry (head : Bool) (twa : Fin 8) (vddioMv : Nat) (s : State) : Host.Outcome State Fault Refusal :=
  .next (if !s.start.t0 || s.start.dawn then s
    else
      let s1 := dawnEnter s head twa vddioMv
      let s2 := if (List.range 16).any fun k => decide (1 < (dawnOwners s1 k).length) then raise s1 0x25D else s1
      if otpGood s then s2 else raise s2 0x251)

/-- DAWN_SC_TRIP (R47): off and latched until the image is applied (assumption 80). -/
def execDawnScTrip (ch : Fin 64) (s : State) : Host.Outcome State Fault Refusal :=
  .next (if s.start.applied || !(chState s ch == 4 || chState s ch == 5) then s
    else
      let s1 := setChan (edgeCt s ch) ch { chan s ch with dawnLatch := true }
      let s2 := fset (fset (fset s1 (CHN.STAT.STATE ch) 0) (CHN.STAT.LATCHED ch) 1) (CHN.STAT.CAUSE ch) 5
      chJournal (raise (finc (fset s2 (CHN.EVT.SC ch) 1) (CHN.CNT.SC ch)) ch) ch 0 5)

/-- PLL_LOCK_TIMEOUT (R49): once for each failed attempt. -/
def execPllLockTimeout (s : State) : Host.Outcome State Fault Refusal :=
  .next (if s.start.dawn && !s.start.pll && s.start.locking then
    raise { s with start := { s.start with locking := false } } 0x252 else s)

/-- PLL_LOCK_RETRY (R49). -/
def execPllLockRetry (s : State) : Host.Outcome State Fault Refusal :=
  .next (if s.start.dawn && !s.start.pll then { s with start := { s.start with locking := true } } else s)

/-! ### Morning -/

/-- R79: the result of a slot. -/
def slotResult (s : State) (slot : Bool) (v : Nat) : State := fset s (if slot then CFG.STATUS.B_RES else CFG.STATUS.A_RES) v

/-- R80, R92: a slot has failed with `v`: its result, and CFG.FAIL. -/
def slotFails (s : State) (slot : Bool) (v index typ : Nat) : State :=
  fset (fset (fsetB (slotResult s slot v) CFG.FAIL.SLOT slot) CFG.FAIL.SEC_INDEX index) CFG.FAIL.SEC_TYPE typ

/-- R80: CFG_SLOT, once per Morning. -/
def slotRaise (s : State) : State :=
  if s.start.slotFail then s else raise { s with start := { s.start with slotFail := true } } 0x255

/-- R55, R81: the factory defaults are applied, as no slot passes. -/
def applyDefaults (s : State) : State :=
  let s1 := fset (fset (fset s TOP.STATUS.CFG_DEFAULTS 1) TOP.STATUS.SLOT 0) CFG.APPLIED.GEN 0
  let s2 := fset (fset s1 TOP.NOON.SOLO_EN (fuseBits s 0xA0 1 1)) TOP.NOON.TIMEOUT (fieldReset (fkey TOP.NOON.TIMEOUT))
  raise (settle s2) 0x256

/-- R79, R80, R90: the header check of one slot; a slot that passes is a candidate. -/
def headerRead (s : State) (slot : Bool) : State :=
  let h := flashRead s (slotBase s slot) 0x40
  let c := headerCheck Config.siliconRev.toNat h
  if c = 2 then fset (slotResult s slot 2) (if slot then CFG.GEN_B.GEN else CFG.GEN_A.GEN) (leAt h 8 4)
  else slotFails s slot c 0x7FF 0

/-- R80: the candidates in the order in which they are checked. -/
def slotOrder (s : State) : List Bool :=
  let a := fget s CFG.STATUS.A_RES == 2
  let b := fget s CFG.STATUS.B_RES == 2
  if a && b then (if fget s CFG.GEN_A.GEN < fget s CFG.GEN_B.GEN then [true, false] else [false, true])
  else if a then [false] else if b then [true] else []

/-- R80: step 1 of R50 with a usable device: both headers. -/
def headersRead (s : State) : State :=
  let s1 := headerRead (headerRead s false) true
  let l := slotOrder s1
  let s2 := { s1 with start := { s1.start with cands := l } }
  let bad := fun (f : Fld) => decide (fget s2 f ≠ 2 ∧ fget s2 f ≠ 3)
  let s3 := if bad CFG.STATUS.A_RES || bad CFG.STATUS.B_RES then slotRaise s2 else s2
  if l = [] then applyDefaults s3 else s3

/-- R70: the CS0 device is unusable: both slots fail with 0xD. -/
def flashMissing (s : State) : State :=
  let s1 := slotFails (slotFails (fset s CFG.STATUS.FLASH_BAD 1) false 0xD 0x7FF 0) true 0xD 0x7FF 0
  applyDefaults (slotRaise (raise s1 0x257))

/-- MORNING_ENTRY: the PLLs lock (R49); the density of the CS0 device, none where it cannot be used (R70), and the slot
headers (R50 step 1). With the RC oscillator lost the part stays in Dawn (R578). -/
def execMorningEntry (density : Option (Fin 3)) (s : State) : Host.Outcome State Fault Refusal :=
  .next (if !s.start.dawn || s.start.pll || s.start.rcLost || stage s != 0 then s
    else
      let s1 := { s with start := { s.start with pll := true, locking := false, nvm := true }, time := { s.time with loc := 0 } }
      let s2 := setStage s1 1
      match density with
      | some d => headersRead (fset s2 CFG.STATUS.DENSITY (d.val + 1))
      | none => flashMissing s2)

/-- R79, R80: the candidate `slot` has been read and checked. -/
def slotChecked (s : State) (slot readErr : Bool) : State :=
  let v := if readErr then { slotCheck s slot with result := 0xD, index := 0x7FF, typ := 0 } else slotCheck s slot
  if v.result = 1 then imageApply { s with start := { s.start with cands := [] } } slot v
  else
    let rest := s.start.cands.drop 1
    let s1 := slotRaise (slotFails { s with start := { s.start with cands := rest } } slot v.result v.index v.typ)
    if rest = [] then applyDefaults s1 else s1

/-- SLOT_CHECK_DONE (R79). -/
def execSlotCheckDone (slot readErr : Bool) (s : State) : Host.Outcome State Fault Refusal :=
  .next (if stage s == 1 && !s.start.applied && s.start.cands.head? == some slot then slotChecked s slot readErr else s)

/-! ### Steps 4 to 6 of R50 -/

/-- R50 step 4: E0-E7 start and the periodic frames are anchored on the local timebase; the wire models (R164), the gauge
(R534) and the journal (R639) start. -/
def enginesStart (s : State) : State :=
  let s1 := anchorAll ((List.range 8).foldl (fun t e => fset t (ENG.STAT.STATE e) 1) s) 0
  let s2 := { s1 with start := { s1.start with running := true, pwmHiZ := safe s1 } }
  jrnlStart (gaugeStart (wireStart s2 (List.range 64)))

/-- A loop or regulator whose EN is 1 requests admission as a turn-on (R200, R263). -/
def railsStart (s : State) : State :=
  let s1 := (List.range 4).foldl (fun t n => if fon t (LOOP.CTL.EN n) then (loopEnable t n).1 else t) s
  (List.range 8).foldl (fun t r => if fon t (REG.CTL.EN r) then (regEnable t r).1 else t) s1

/-- R50 step 5, with what other chapters start there: the AUTO sequences (R280), the stored MODE of each channel (R679), the
charger (R491), the ports (R543), the itinerary (R360) and the AUTO converter sequences (R449). -/
def admissionStart (s : State) : State :=
  let s1 := (List.range 64).foldl chStored (seqTrigger (ledgStart s) 0)
  let s2 := if fon s CHG.CFG.AUTO then (chgStart (railsStart s1)).1 else railsStart s1
  let s3 := (List.range 2).foldl (fun t n => if fon t (PD.CFG.EN n) && pdState t n == 0 then pdUnattached t n else t) s2
  (List.range 4).foldl (fun t c => if adcIsReady t c then adcAuto t c else t) (itinStart s3)

/-- R346, R348: the head becomes MASTER with CT from the real-time clock, or 0 where that is not set. -/
def headTime (s : State) : State :=
  let ct := if fon s RTC.STAT.SET then rtcSeconds s * 1000000000 else 0
  timeEnter { s with time := { s.time with ct := ct, rem := 0 } } 4

/-- R50 step 6: the ports train; the head enumerates, seeds CT and starts its pool. -/
def chainStart (s : State) : State :=
  let s1 := fset (fset (fset s LNK.STAT.RATE 1) (LNK.PORT.STAT.STATE 0) 1) (LNK.PORT.STAT.STATE 1) 1
  if isHead s1 then addrCheck (headTime (ledgHeadStart (reenumerate (takeAddr s1 0)))) else s1

/-- ENGINES_START: steps 4, 5 and 6 of R50, in this order. -/
def execEnginesStart (s : State) : Host.Outcome State Fault Refusal :=
  .next (if stage s == 1 && s.start.applied && !s.start.running then chainStart (admissionStart (enginesStart s)) else s)

/-! ### Noon -/

/-- R56, R84: Noon is entered, in any variant: the SEAL fields are sealed. -/
def noonEnter (s : State) : State := ledgShow (setStage (fset s CFG.STATUS.SEALED 1) 2)

/-- R53, R57: E0-E7 run, the unit has an address, its CT is locked, and E0 admits against chain-wide shares, of which a unit
without a chain source needs none, or in the defaults form. -/
def noonReady (s : State) : Bool :=
  let m := ledgMode s
  s.start.running && addressed s && (fget s TIME.STAT.STATE == 2 || fget s TIME.STAT.STATE == 4) &&
    (m == 2 || m == 5 || m == 1 && (chainFeeds s).isEmpty)

/-- NOON_ENTRY (R53). -/
def execNoonEntry (s : State) : Host.Outcome State Fault Refusal :=
  .next (if stage s == 1 && noonReady s then noonEnter s else s)

/-- NOON_TIMEOUT (R54): TOP.NOON.TIMEOUT has passed since step 3; 0 means no timeout (R68). -/
def execNoonTimeout (s : State) : Host.Outcome State Fault Refusal :=
  .next (if stage s != 1 || !s.start.running || fget s TOP.NOON.TIMEOUT == 0 then s
    else if fon s TOP.NOON.SOLO_EN then noonEnter (fset s TOP.STATUS.SOLO 1)
    else raise (fset s TOP.STATUS.NOON_LATE 1) 0x254)

end Sys2Proof.Machine
end

