-- ==== Sys2Proof/Machine/Update.lean ====
section
/-!
DEFINITION. Machine/Update.lean: writing a new image (R85-R96) and programming the Dawn fuses (R630).
-/
namespace Sys2Proof.Machine

/-! ### The update session -/

/-- R86: the port `rq` holds the update session. -/
def updHolds (s : State) (rq : Nat) : Bool := fon s CFG.UPD_STAT.OPEN && fget s CFG.UPD_STAT.OWNER == rq

/-- The byte offset of UPD_ADDR in the target slot (R94). -/
def updOffset (s : State) : Nat := fget s CFG.UPD_ADDR.OFFSET * 256

/-- R86: OPEN. The target is the slot not in use; with CFG_DEFAULTS, the one that the write names. -/
def updOpen (s : State) (rq : Nat) (slot : Bool) : State × Nat :=
  if fon s CFG.UPD_STAT.OPEN && !updHolds s rq then (s, stIllegal)
  else
    let t := if fon s TOP.STATUS.CFG_DEFAULTS then slot else !fon s TOP.STATUS.SLOT
    (fsetB (fset (fset s CFG.UPD_STAT.OPEN 1) CFG.UPD_STAT.OWNER rq) CFG.UPD_STAT.TARGET t, stOk)

/-- R95: a command that fails at once. -/
def updError (s : State) (e : Nat) : State × Nat := (fset s CFG.UPD_STAT.ERR e, stOk)

/-- R87: a command of the holder begins, unless its key, its alignment or its place is wrong. -/
def updBegin (s : State) (cmd key : Nat) : State × Nat :=
  let o := updOffset s
  if (cmd = 3 ∨ cmd = 4) ∧ key ≠ 0x6B1D then updError s 4
  else if cmd = 3 ∧ o % 65536 ≠ 0 then updError s 1
  else if cmd ≠ 6 ∧ slotSize s ≤ o then updError s 2
  else
    let d := if cmd = 4 then (List.range 64).flatMap fun i => leBytes 4 (fget s (CFG.UPD_BUF.DATA i)) else []
    (fset { s with img := { s.img with upd := some ⟨cmd, o, d⟩ } } CFG.UPD_STAT.BUSY 1, stOk)

/-- R85-R87: a write of UPD_CTL: its CMD, SLOT and KEY. -/
def updCommand (s : State) (rq cmd : Nat) (slot : Bool) (key : Nat) : State × Nat :=
  if cmd = 0 ∨ 7 ≤ cmd then (s, stOk)
  else if stage s ≠ 2 ∨ fon s CFG.UPD_STAT.BUSY = true then (s, stIllegal)
  else if cmd = 1 then updOpen s rq slot
  else if !updHolds s rq then (s, stIllegal)
  else if cmd = 2 then (updClose s, stOk)
  else updBegin s cmd key

/-- R85, R86, R96: a write of UPD_BUF: in Noon, by the holder. -/
def updBufWrite (s : State) (rq a w : Nat) : State × Nat :=
  if stage s = 2 ∧ updHolds s rq = true then plainWrite s a w else (s, stIllegal)

/-- An update command as a coach of port `rq`. -/
def updCoach (s : State) (rq cmd : Nat) (slot : Bool) (key : Nat) : State :=
  asCoach s rq 0x7F 0x10020 fun t => let r := updCommand t rq cmd slot key; (r.1, r.2, [])

/-! ### Completion -/

/-- The flash with the bytes from `a` replaced by `b`; an erased byte is not listed. -/
def flashStore (s : State) (a : Nat) (b : List Nat) : State :=
  let cs := (b.zipIdx.map fun x => (a + x.2, BitVec.ofNat 8 x.1)).filter fun c => c.2 != 0xFF#8
  { s with flash := flashPut s.flash a b.length cs }

/-- R87: what a command that succeeds does: an erase sets bytes to 0xFF, a program clears bits. -/
def updEffect (s : State) (u : Upd) : State :=
  let a := updBase s + u.offset
  if u.cmd = 3 then { s with flash := flashPut s.flash a 65536 [] }
  else if u.cmd = 4 then flashStore s a (((flashRead s a 256).zip u.data).map fun x => x.1 &&& x.2)
  else if u.cmd = 5 then
    (leWords (flashRead s a 256)).zipIdx.foldl (fun t x => fset t (CFG.UPD_BUF.DATA x.2) x.1) s
  else fset s CFG.UPD_STAT.VRES (slotCheck s (fon s CFG.UPD_STAT.TARGET)).result

/-- R79, R87: a command that the flash fails. -/
def updFails (s : State) (u : Upd) : State :=
  fset (if u.cmd = 6 then fset s CFG.UPD_STAT.VRES 0xD else s) CFG.UPD_STAT.ERR 3

/-- R88: the command in progress completes. -/
def updDone (s : State) (u : Upd) (devErr : Bool) : State :=
  let s1 := fset { s with img := { s.img with upd := none } } CFG.UPD_STAT.BUSY 0
  if devErr || fon s CFG.STATUS.FLASH_BAD then updFails s1 u else updEffect s1 u

/-! ### The commands -/

/-- UPD_OPEN (R86). -/
def execUpdOpen (rq : Fin 24) (slot : Bool) (s : State) : Host.Outcome State Fault Refusal := .next (updCoach s rq 1 slot 0)

/-- UPD_CLOSE (R87). -/
def execUpdClose (rq : Fin 24) (s : State) : Host.Outcome State Fault Refusal := .next (updCoach s rq 2 false 0)

/-- UPD_ERASE (R87, R94). -/
def execUpdErase (rq : Fin 24) (key : BitVec 16) (s : State) : Host.Outcome State Fault Refusal :=
  .next (updCoach s rq 3 false key.toNat)

/-- UPD_PROGRAM (R87). -/
def execUpdProgram (rq : Fin 24) (key : BitVec 16) (s : State) : Host.Outcome State Fault Refusal :=
  .next (updCoach s rq 4 false key.toNat)

/-- UPD_READ (R87). -/
def execUpdRead (rq : Fin 24) (s : State) : Host.Outcome State Fault Refusal := .next (updCoach s rq 5 false 0)

/-- UPD_VERIFY (R87). -/
def execUpdVerify (rq : Fin 24) (s : State) : Host.Outcome State Fault Refusal := .next (updCoach s rq 6 false 0)

/-- UPD_COMMAND_DONE (R88). -/
def execUpdCommandDone (devErr : Bool) (s : State) : Host.Outcome State Fault Refusal :=
  .next (match s.img.upd with
    | some u => updDone s u devErr
    | none => s)

/-- UPD_SESSION_TIMEOUT: 5 s after the holder's last command (R86). -/
def execUpdSessionTimeout (s : State) : Host.Outcome State Fault Refusal :=
  .next (if fon s CFG.UPD_STAT.OPEN then updClose s else s)

/-! ### Dawn fuses -/

/-- R630: a GO write of OTP_CTL. -/
def otpGo (s : State) (rq key offset : Nat) : State × Nat :=
  let fed := fon s TOP.SUPPLY.VIN48 || fon s TOP.SUPPLY.VIN12
  if rq = 9 ∧ stage s = 2 ∧ fed = true ∧ 4 ≤ offset ∧ key = 0x0F7A ∧ fon s BUS.OTP_CTL.BUSY = false then
    let s1 := fset (fset s BUS.OTP_CTL.OFFSET offset) BUS.OTP_CTL.BUSY 1
    ({ s1 with otp := { s1.otp with busy := some (offset, fget s BUS.OTP_DATA.DATA) } }, stOk)
  else (s, stIllegal)

/-- R638: a write of OTP_CTL. One that GO makes ILLEGAL_STATE has no effect. -/
def otpCtlWrite (s : State) (rq w : Nat) : State × Nat :=
  if bitOf w 0 then
    let r := otpGo s rq (bitsOf w 31 16) (bitsOf w 15 9)
    if r.2 = stOk then (storeWord r.1 0x140020 w, stOk) else r
  else (storeWord s 0x140020 w, stOk)

/-- OTP_PROGRAM (R630). -/
def execOtpProgram (rq : Fin 24) (key : BitVec 16) (offset : Fin 128) (s : State) : Host.Outcome State Fault Refusal :=
  .next (asCoach s rq 0x7F 0x140020 fun t => let r := otpGo t rq key.toNat offset; (r.1, r.2, []))

/-- R630: the programming of a fuse word ends: `bits` are the bits that the device can now hold at 1. -/
def otpDone (s : State) (b : Nat × Nat) (bits : Nat) : State :=
  let old := tabGet (fun _ => 0) s.otp.fuses b.1
  let new := old ||| (bits &&& b.2)
  let s1 := { s with otp := { s.otp with fuses := tabPut (fun _ => 0) s.otp.fuses b.1 new, busy := none } }
  let s2 := fset s1 BUS.OTP_CTL.BUSY 0
  if new = (old ||| b.2) then s2 else fset s2 BUS.OTP_CTL.ERR 1

/-- OTP_PROGRAM_DONE (R630). -/
def execOtpProgramDone (bits : Word) (s : State) : Host.Outcome State Fault Refusal :=
  .next (match s.otp.busy with
    | some b => otpDone s b bits.toNat
    | none => s)

end Sys2Proof.Machine
end

