-- ==== Sys2Proof/Machine/Access.lean ====
section
/-!
DEFINITION. Machine/Access.lean: register accesses by any requester, and coaches in the request fabric (R3-R6, R328,
R425-R434).
-/
namespace Sys2Proof.Machine

/-! ### Accesses -/

/-- R336: a write of LNK.CMD. -/
def lnkCmdWrite (s : State) (w : Nat) : State × Nat :=
  match bitsOf w 1 0 with
  | 0 => (s, stOk)
  | 1 => if isHead s then (reenumerate s, stOk) else (s, stIllegal)
  | 2 => sendReset s (bitsOf w 31 16) (some (bitsOf w 12 8))
  | _ => sendReset s (bitsOf w 31 16) none

/-- R3-R6, R425: a write of word `w` to address `a` by requester port `rq`: the state and the status. -/
def regWrite (s : State) (rq a w : Nat) : State × Nat :=
  match specAt a with
  | none => (s, stNoReg)
  | some _ =>
    if a = 0x14 then topCtl s rq (bitsOf w 31 16) (bitOf w 0)
    else if a = 0x10020 then updCommand s rq (bitsOf w 3 0) (bitOf w 4) (bitsOf w 31 16)
    else if 0x10100 ≤ a ∧ a < 0x10200 then updBufWrite s rq a w
    else if a = 0x7000C then lnkCmdWrite s w
    else if a = 0x140020 then otpCtlWrite s rq w
    else blockWrite s a w

/-- A register write as a coach of port `rq`. -/
def coachWrite (s : State) (rq a w : Nat) : State :=
  asCoach s rq (addrTarget a) a fun t => let r := regWrite t rq a w; (r.1, r.2, [])

/-- A register read as a coach of port `rq`. -/
def coachRead (s : State) (rq a : Nat) : State := asCoach s rq (addrTarget a) a fun t => regRead t rq a

/-- R67: the write has reset the part, and its requester hears nothing of it (R434). -/
def wordResets (s : State) (a w : Nat) : Bool :=
  a == 0x14 && bitOf w 0 && bitsOf w 31 16 == 0xA5C3 && s.comp.status == stOk

/-- REGISTER_WRITE (R3-R7). -/
def execRegisterWrite (rq : Fin 24) (addr : Nat) (data : Word) (s : State) : Host.Outcome State Fault Refusal :=
  .next (coachWrite s rq addr data.toNat)

/-- READ_CLEAR (R3). -/
def execReadClear (rq : Fin 24) (addr : Nat) (s : State) : Host.Outcome State Fault Refusal := .next (coachRead s rq addr)

/-- SNAPSHOT_READ (R660). -/
def execSnapshotRead (rq : Fin 24) (addr : Nat) (s : State) : Host.Outcome State Fault Refusal := .next (coachRead s rq addr)

/-! ### Register access from the chain -/

/-- R328: the reads of a REG_RD, up to the first that is not OK: the state, the status and the data. -/
def chainReads : Nat → Nat → State → State × Nat × List Nat
  | 0, _, s => (s, stOk, [])
  | n + 1, a, s =>
    let s1 := coachRead s 10 a
    if s1.comp.status = stOk then
      let r := chainReads n (a + 4) s1
      (r.1, r.2.1, s1.comp.data.headD 0 :: r.2.2)
    else (s1, s1.comp.status, [])

/-- R328: the writes of a REG_WR: the state, the status, the number completed, and whether one of them reset the part. -/
def chainWrites : Nat → List Nat → State → State × Nat × Nat × Bool
  | _, [], s => (s, stOk, 0, false)
  | a, w :: ws, s =>
    let s1 := coachWrite s 10 a w
    if wordResets s1 a w then (s1, stOk, 1, true)
    else if s1.comp.status = stOk then
      let r := chainWrites (a + 4) ws s1
      (r.1, r.2.1, r.2.2.1 + 1, r.2.2.2)
    else (s1, s1.comp.status, 0, false)

/-- R328: the REG_RSP. -/
def chainAnswer (s : State) (src tag status done : Nat) (data : List Nat) : State :=
  send s { typ := 0x12, dst := src, pay := (done * 2 ^ 24 + status * 2 ^ 16 + tag) :: data }

/-- R328: COUNT within `top`, and bits 1:0 of ADDR zero. -/
def chainOk (count top addr : Nat) : Bool := decide (1 ≤ count ∧ count ≤ top ∧ addr % 4 = 0)

/-- REG_RD_RX (R328). -/
def execRegRdRx (src : Fin 32) (tag : BitVec 16) (count : Fin 32) (addr : Nat) (s : State) : Host.Outcome State Fault Refusal :=
  .next (byEngine s 2 (if chainOk count 15 addr then
      let r := chainReads count addr s
      chainAnswer r.1 src tag.toNat r.2.1 r.2.2.length r.2.2
    else chainAnswer s src tag.toNat stIllegal 0 []))

/-- REG_WR_RX (R328). -/
def execRegWrRx (src : Fin 32) (tag : BitVec 16) (count : Fin 32) (addr : Nat) (data : List Word) (s : State) :
    Host.Outcome State Fault Refusal :=
  .next (byEngine s 2 (if chainOk count 14 addr then
      let r := chainWrites addr ((data.take count).map BitVec.toNat) s
      if r.2.2.2 then r.1 else chainAnswer r.1 src tag.toNat r.2.1 r.2.2.1 []
    else chainAnswer s src tag.toNat stIllegal 0 []))

/-! ### Coaches one by one -/

/-- COACH_ISSUE (R428, R429): a tag is taken, or the request stalls until one is free. -/
def execCoachIssue (rq : Fin 24) (kind : CoachKind) (addr : Nat) (data : Word) (s : State) : Host.Outcome State Fault Refusal :=
  .next (if mayTake s rq then coachGo s rq kind addr data.toNat
    else fset { s with fab := { s.fab with stalled := s.fab.stalled ++ [(rq.val, kind, addr, data.toNat)] } } (FAB.REQ.STAT.STALL rq) 1)

/-- R425: what a target does with a coach: the state, the status and the data. What an engine answers to a service request
of its own accord the spec leaves to the engine. -/
def coachEffect (s : State) (c : Coach) : State × Nat × List Nat :=
  match c.kind with
  | .read => regRead s c.rq c.addr
  | .write =>
    let r := regWrite s c.rq c.addr c.data
    (r.1, r.2, [])
  | .service =>
    let r := drawNat s (2 ^ 32)
    (r.2, stOk, [r.1])

/-- R430, R434: a coach is carried out; the completion of a halted engine's coach is discarded. -/
def coachRun (s : State) (c : Coach) : State :=
  let r := coachEffect { s with fab := { s.fab with coaches := s.fab.coaches.erase c } } c
  fabFreed (if requesterGone r.1 c.rq then r.1 else fabComplete r.1 c.rq c.tgt c.addr r.2.1 r.2.2)

/-- COACH_EXECUTE (R430, R431): the oldest coach at target port `t`. -/
def execCoachExecute (t : Fin 32) (s : State) : Host.Outcome State Fault Refusal :=
  .next (match s.fab.coaches.find? fun c => c.port == t.val with
    | some c => coachRun s c
    | none => s)

/-- R433: a hung target. For index 0x7F only the coach itself is lost. -/
def coachHung (s : State) (c : Coach) : State :=
  let s1 := fset s FAB.EVT.TMO 1
  let s2 := if c.tgt = 0x7F then fabLose s1 fun x => x == c else seqTargetLost (targetReset s1 c.tgt) c.tgt
  raise s2 0x277

/-- COACH_TIMEOUT (R433). Service requests are not timed. -/
def execCoachTimeout (tag : Fin 1024) (s : State) : Host.Outcome State Fault Refusal :=
  .next (match s.fab.coaches.find? fun c => c.tag == tag.val with
    | some c => if c.kind = .service then s else coachHung s c
    | none => s)

/-- TARGET_RETURN (R432). -/
def execTargetReturn (k : Fin 128) (s : State) : Host.Outcome State Fault Refusal := .next (targetBack s k)

end Sys2Proof.Machine
end

