-- ==== Sys2Proof/Machine/Bus.lean ====
section
/-!
DEFINITION. Machine/Bus.lean: the two-wire management bus (R619-R637).
-/
namespace Sys2Proof.Machine

/-- R43, R619: the bus pins work: from Dawn entry on, with VDDIO present and not in Storage (R596). -/
def busLive (s : State) : Bool := s.start.dawn && fon s TOP.SUPPLY.VDDIO && !s.pwr.storage

/-- R624: port 9 holds four tags or waits for one. -/
def busBusy (s : State) : Bool := decide (4 ≤ tagsHeld s 9) || s.fab.stalled.any fun e => e.1 == 9

/-- R624, R633, R636: a transaction addressed to the part, with command code `code`. -/
def busBegin (s : State) (code : Nat) (f : State → State) : State :=
  if !busLive s then s
  else
    let s1 := finc { s with bus := { s.bus with reply := [] } } BUS.CNT.XFER
    if busBusy s then finc (fset s1 BUS.EVT.NACK_BUSY 1) BUS.CNT.NACK
    else f (fset s1 BUS.STAT.LAST_CMD code)

/-- The address byte of a write. -/
def busAddr (s : State) : Nat := 2 * fget s BUS.STAT.ADDR

/-- R621, R625: the bytes of a read phase, and its PEC where the host asks for one. `pre` is what the host sent after the
address. -/
def busReply (s : State) (pre data : List Nat) (pec : Bool) : State :=
  let p := if pec then [crc8 (busAddr s :: pre ++ (busAddr s + 1) :: data)] else []
  { s with bus := { s.bus with reply := data ++ p } }

/-- R627: ILLEGAL_STATE of a command refused in Dawn. -/
def busIllegal (s : State) : State := busRecord s 9 (fget s BUS.PTR.PTR) stIllegal

/-- R622: the pointer after `n` registers. -/
def busAdvance (s : State) (n : Nat) (inc : Bool) : State :=
  if inc then fset s BUS.PTR.PTR ((fget s BUS.PTR.PTR + 4 * n) % 2 ^ 24) else s

/-- R623: the reads of `n` registers from `a` on: the state and the data, zero where a completion is not OK. -/
def busReads : Nat → Nat → State → State × List Nat
  | 0, _, s => (s, [])
  | n + 1, a, s =>
    let s1 := coachRead s 9 a
    let v := if s1.comp.status = stOk then s1.comp.data.headD 0 else 0
    let r := busReads n ((a + 4) % 2 ^ 24) s1
    (r.1, v :: r.2)

/-- R623: the writes of a transaction, and whether one of them reset the part. -/
def busWrites : Nat → List Nat → State → State × Bool
  | _, [], s => (s, false)
  | a, w :: ws, s =>
    let s1 := coachWrite s 9 a w
    if wordResets s1 a w then (s1, true) else busWrites ((a + 4) % 2 ^ 24) ws s1

/-- R623, R626: a read of `n` registers; `pre` is the command code and any count byte, `head` the count byte returned. In
Dawn it reads zeros and has no effect. -/
def busRead (s : State) (n : Nat) (pre head : List Nat) (pec : Bool) : State :=
  let a := fget s BUS.PTR.PTR
  if stage s = 0 then busReply (busIllegal s) pre (List.replicate (head.length + 4 * n) 0) pec
  else
    let r := busReads n a s
    busReply (busAdvance r.1 n (fon s BUS.CFG.AINC)) pre (head ++ r.2.flatMap (leBytes 4)) pec

/-- R625, R626: a write whose bytes after the address are `sent`: its PEC first, then its stage, then its effect. -/
def busWritten (s : State) (sent : List Nat) (pec : Option Byte) (f : State → State) : State :=
  let go := fun (_ : Unit) => if stage s = 0 then busIllegal s else f s
  match pec with
  | some p => if p.toNat = crc8 (busAddr s :: sent) then go () else finc (fset s BUS.EVT.PEC_ERR 1) BUS.CNT.PEC
  | none => if fon s BUS.CFG.PEC_REQ then fset s BUS.EVT.PEC_MISS 1 else go ()

/-- R623: the registers from the pointer on are written. -/
def busStore (ws : List Nat) (s : State) : State :=
  let r := busWrites (fget s BUS.PTR.PTR) ws s
  if r.2 then r.1 else busAdvance r.1 ws.length (fon s BUS.CFG.AINC)

/-! ### The commands -/

/-- R621: the bytes of IDENT. -/
def identBytes (s : State) : List Nat :=
  leBytes 4 (regWord s 0) ++
    [myAddr s + b2n (addressed s) * 128, fget s BUS.STAT.ADDR % 8 + b2n (isHead s) * 8] ++ leBytes 2 (fget s ENG.ID.ROM_VER)

/-- R621: the bytes of STAGE. -/
def stageBytes (s : State) : List Nat := [stage s, regWord s 8 % 256] ++ leBytes 2 (regWord s 0x10)

/-- R621: the bytes of FAULT. -/
def faultBytes (s : State) : List Nat := leBytes 4 (fltStatWord s) ++ leBytes 4 (fltGroups s)

/-- BUS_IDENT (R621). -/
def execBusIdent (pec : Bool) (s : State) : Host.Outcome State Fault Refusal :=
  .next (busBegin s 0 fun t => busReply t [0] (identBytes t) pec)

/-- BUS_STAGE (R621). -/
def execBusStage (pec : Bool) (s : State) : Host.Outcome State Fault Refusal :=
  .next (busBegin s 1 fun t => busReply t [1] (stageBytes t) pec)

/-- BUS_FAULT (R621). -/
def execBusFault (pec : Bool) (s : State) : Host.Outcome State Fault Refusal :=
  .next (busBegin s 2 fun t => busReply t [2] (faultBytes t) pec)

/-- BUS_WINDOW (R621): bits 1:0 of the pointer must be zero; else its first byte is not acknowledged. -/
def execBusWindow (ptr : BitVec 24) (pec : Option Byte) (s : State) : Host.Outcome State Fault Refusal :=
  .next (busBegin s 8 fun t =>
    if ptr.toNat % 4 ≠ 0 then t
    else busWritten t (8 :: leBytes 3 ptr.toNat) pec fun u => fset u BUS.PTR.PTR ptr.toNat)

/-- BUS_RD_WORD (R623). -/
def execBusRdWord (pec : Bool) (s : State) : Host.Outcome State Fault Refusal :=
  .next (busBegin s 9 fun t => busRead t 1 [9] [] pec)

/-- BUS_WR_WORD (R623). -/
def execBusWrWord (data : Word) (pec : Option Byte) (s : State) : Host.Outcome State Fault Refusal :=
  .next (busBegin s 0xA fun t => busWritten t (0xA :: leBytes 4 data.toNat) pec (busStore [data.toNat]))

/-- BUS_RD_BLOCK (R621, R623): a count byte out of range is not acknowledged. -/
def execBusRdBlock (n : Nat) (pec : Bool) (s : State) : Host.Outcome State Fault Refusal :=
  .next (busBegin s 0xB fun t => if 1 ≤ n ∧ n ≤ 4 then busRead t n [0xB, n] [n] pec else t)

/-- BUS_WR_BLOCK (R621, R623): a count byte out of range is not acknowledged. -/
def execBusWrBlock (n : Nat) (data : List Word) (pec : Option Byte) (s : State) : Host.Outcome State Fault Refusal :=
  .next (busBegin s 0xC fun t =>
    if 1 ≤ n ∧ n ≤ 4 then
      let ws := data.map BitVec.toNat
      busWritten t (0xC :: 4 * n :: ws.flatMap (leBytes 4)) pec (busStore ws)
    else t)

/-- BUS_READ_ABANDON (R624): the data of the read phase is discarded. -/
def execBusReadAbandon (s : State) : Host.Outcome State Fault Refusal := .next { s with bus := { s.bus with reply := [] } }

/-- BUS_ATTENTION_PULSE (R628): the pulse goes out while a request stands, from Morning entry on. Once over it leaves
nothing behind, unless SCL went low during it. -/
def execBusAttentionPulse (collided : Bool) (s : State) : Host.Outcome State Fault Refusal :=
  .next (if busLive s && decide (1 ≤ stage s) && attnStands s && collided then fset s BUS.EVT.ATTN_COLL 1 else s)

/-- BUS_ATTN_SET (R637). -/
def execBusAttnSet (rq : Fin 24) (soft : Bool) (s : State) : Host.Outcome State Fault Refusal :=
  .next (asCoach s rq 0x7F 0x14001C fun t => (if soft then fset t BUS.ATTN.SOFT 1 else t, stOk, []))

/-- BUS_SCL_TIMEOUT (R629): the transaction in progress is abandoned. -/
def execBusSclTimeout (s : State) : Host.Outcome State Fault Refusal :=
  .next (if busLive s && fon s BUS.CFG.TMO_EN then fset { s with bus := { s.bus with reply := [] } } BUS.EVT.TIMEOUT 1 else s)

end Sys2Proof.Machine
end

