-- ==== Sys2Proof/Machine/Dispatch.lean ====
section
/-!
DEFINITION. Machine/Dispatch.lean: each command of the table to its meaning.
-/
namespace Sys2Proof.Machine

/-- The effect of a command on everything but the queue: one arm per row of the table. -/
def exec (i : Instr) (s : State) : Host.Outcome State Fault Refusal :=
  match i with
  | .registerWrite rq addr data => Sys2Proof.Machine.execRegisterWrite rq addr data s
  | .readClear rq addr => Sys2Proof.Machine.execReadClear rq addr s
  | .snapshotRead rq addr => Sys2Proof.Machine.execSnapshotRead rq addr s
  | .supplyRise pin mv => Sys2Proof.Machine.execSupplyRise pin mv s
  | .supplyFall pin mv => Sys2Proof.Machine.execSupplyFall pin mv s
  | .dawnEntry head twa vddioMv => Sys2Proof.Machine.execDawnEntry head twa vddioMv s
  | .dawnScTrip ch => Sys2Proof.Machine.execDawnScTrip ch s
  | .morningEntry density => Sys2Proof.Machine.execMorningEntry density s
  | .pllLockTimeout => Sys2Proof.Machine.execPllLockTimeout s
  | .pllLockRetry => Sys2Proof.Machine.execPllLockRetry s
  | .slotCheckDone slot readErr => Sys2Proof.Machine.execSlotCheckDone slot readErr s
  | .enginesStart => Sys2Proof.Machine.execEnginesStart s
  | .noonEntry => Sys2Proof.Machine.execNoonEntry s
  | .noonTimeout => Sys2Proof.Machine.execNoonTimeout s
  | .supplyLow hkMv => Sys2Proof.Machine.execSupplyLow hkMv s
  | .brownOut => Sys2Proof.Machine.execBrownOut s
  | .rstNReset lowNs => Sys2Proof.Machine.execRstNReset lowNs s
  | .softwareReset rq key swrst => Sys2Proof.Machine.execSoftwareReset rq key swrst s
  | .loadWindowEnd loads => Sys2Proof.Machine.execLoadWindowEnd loads s
  | .lockstepMismatch e => Sys2Proof.Machine.execLockstepMismatch e s
  | .missingClock d => Sys2Proof.Machine.execMissingClock d s
  | .updOpen rq slot => Sys2Proof.Machine.execUpdOpen rq slot s
  | .updClose rq => Sys2Proof.Machine.execUpdClose rq s
  | .updErase rq key => Sys2Proof.Machine.execUpdErase rq key s
  | .updProgram rq key => Sys2Proof.Machine.execUpdProgram rq key s
  | .updRead rq => Sys2Proof.Machine.execUpdRead rq s
  | .updVerify rq => Sys2Proof.Machine.execUpdVerify rq s
  | .updCommandDone devErr => Sys2Proof.Machine.execUpdCommandDone devErr s
  | .updSessionTimeout => Sys2Proof.Machine.execUpdSessionTimeout s
  | .chnModeOff ch => Sys2Proof.Machine.execChnModeOff ch s
  | .chnModeOn ch => Sys2Proof.Machine.execChnModeOn ch s
  | .chnModePwm ch => Sys2Proof.Machine.execChnModePwm ch s
  | .chnModeCreg ch => Sys2Proof.Machine.execChnModeCreg ch s
  | .chnModePrecharge ch => Sys2Proof.Machine.execChnModePrecharge ch s
  | .chnClrLatch ch => Sys2Proof.Machine.execChnClrLatch ch s
  | .rampComplete ch => Sys2Proof.Machine.execRampComplete ch s
  | .rampTimeLimit ch => Sys2Proof.Machine.execRampTimeLimit ch s
  | .soaSample ch vdsMv iMa vbankMv => Sys2Proof.Machine.execSoaSample ch vdsMv iMa vbankMv s
  | .scTrip ch => Sys2Proof.Machine.execScTrip ch s
  | .openLoad ch => Sys2Proof.Machine.execOpenLoad ch s
  | .preLimit ch => Sys2Proof.Machine.execPreLimit ch s
  | .rampDownComplete ch => Sys2Proof.Machine.execRampDownComplete ch s
  | .pwmPeriodStart ch => Sys2Proof.Machine.execPwmPeriodStart ch s
  | .retryReady ch => Sys2Proof.Machine.execRetryReady ch s
  | .retryRerequest ch => Sys2Proof.Machine.execRetryRerequest ch s
  | .retryCountReset ch cause => Sys2Proof.Machine.execRetryCountReset ch cause s
  | .wireModelFrame half work => Sys2Proof.Machine.execWireModelFrame half work s
  | .wireStale ch => Sys2Proof.Machine.execWireStale ch s
  | .ambientFault k => Sys2Proof.Machine.execAmbientFault k s
  | .wireRetentionWrite => Sys2Proof.Machine.execWireRetentionWrite s
  | .loopEnable l => Sys2Proof.Machine.execLoopEnable l s
  | .loopDisable l => Sys2Proof.Machine.execLoopDisable l s
  | .loopClrLatch l => Sys2Proof.Machine.execLoopClrLatch l s
  | .loopCselChange l sel => Sys2Proof.Machine.execLoopCselChange l sel s
  | .loopVsetWrite l code => Sys2Proof.Machine.execLoopVsetWrite l code s
  | .senseCheckDone l openLine senseUv => Sys2Proof.Machine.execSenseCheckDone l openLine senseUv s
  | .loopSample l voutUv => Sys2Proof.Machine.execLoopSample l voutUv s
  | .loopPeriodStart l => Sys2Proof.Machine.execLoopPeriodStart l s
  | .imonSample k code onTime => Sys2Proof.Machine.execImonSample k code onTime s
  | .balanceUpdate l => Sys2Proof.Machine.execBalanceUpdate l s
  | .balanceLimitTimeout k => Sys2Proof.Machine.execBalanceLimitTimeout k s
  | .phaseShedWindow l iMa => Sys2Proof.Machine.execPhaseShedWindow l iMa s
  | .vinFallback l => Sys2Proof.Machine.execVinFallback l s
  | .stepPinActive l => Sys2Proof.Machine.execStepPinActive l s
  | .stepPinInactive l => Sys2Proof.Machine.execStepPinInactive l s
  | .annCtlAnnounce l id di => Sys2Proof.Machine.execAnnCtlAnnounce l id di s
  | .annCtlCancel l id => Sys2Proof.Machine.execAnnCtlCancel l id s
  | .stepAnnAnnounce l id di ct => Sys2Proof.Machine.execStepAnnAnnounce l id di ct s
  | .stepAnnCancel l id => Sys2Proof.Machine.execStepAnnCancel l id s
  | .annApply l id => Sys2Proof.Machine.execAnnApply l id s
  | .brakeTimeout l => Sys2Proof.Machine.execBrakeTimeout l s
  | .hiccupEntry l => Sys2Proof.Machine.execHiccupEntry l s
  | .hiccupOffExpiry l senseUv => Sys2Proof.Machine.execHiccupOffExpiry l senseUv s
  | .loopHiccupCountReset l => Sys2Proof.Machine.execLoopHiccupCountReset l s
  | .regEnable r => Sys2Proof.Machine.execRegEnable r s
  | .regDisable r => Sys2Proof.Machine.execRegDisable r s
  | .regClrLatch r => Sys2Proof.Machine.execRegClrLatch r s
  | .regVsetWrite r code => Sys2Proof.Machine.execRegVsetWrite r code s
  | .regSsComplete r => Sys2Proof.Machine.execRegSsComplete r s
  | .regLimitCondition r => Sys2Proof.Machine.execRegLimitCondition r s
  | .regHiccupRestart r => Sys2Proof.Machine.execRegHiccupRestart r s
  | .regOvertemp r => Sys2Proof.Machine.execRegOvertemp r s
  | .regTempRecover r => Sys2Proof.Machine.execRegTempRecover r s
  | .regInputLoss r => Sys2Proof.Machine.execRegInputLoss r s
  | .regInputReturn r => Sys2Proof.Machine.execRegInputReturn r s
  | .regOvervoltage r => Sys2Proof.Machine.execRegOvervoltage r s
  | .regOvRecover r => Sys2Proof.Machine.execRegOvRecover r s
  | .regPgSet r => Sys2Proof.Machine.execRegPgSet r s
  | .regPgLost r => Sys2Proof.Machine.execRegPgLost r s
  | .regHiccupCountReset r => Sys2Proof.Machine.execRegHiccupCountReset r s
  | .seqCmdStart q => Sys2Proof.Machine.execSeqCmdStart q s
  | .seqCmdAbort q => Sys2Proof.Machine.execSeqCmdAbort q s
  | .seqOpOn q => Sys2Proof.Machine.execSeqOpOn q s
  | .seqOpOff q => Sys2Proof.Machine.execSeqOpOff q s
  | .seqOpWaitPg q => Sys2Proof.Machine.execSeqOpWaitPg q s
  | .seqOpWaitTime q => Sys2Proof.Machine.execSeqOpWaitTime q s
  | .seqOpWaitCt q => Sys2Proof.Machine.execSeqOpWaitCt q s
  | .seqOpOffWait q => Sys2Proof.Machine.execSeqOpOffWait q s
  | .seqOpArm q => Sys2Proof.Machine.execSeqOpArm q s
  | .seqOpSetV q => Sys2Proof.Machine.execSeqOpSetV q s
  | .seqOpFlt q => Sys2Proof.Machine.execSeqOpFlt q s
  | .seqStepComplete q => Sys2Proof.Machine.execSeqStepComplete q s
  | .seqStepTimeout q => Sys2Proof.Machine.execSeqStepTimeout q s
  | .seqWaitExpiry q => Sys2Proof.Machine.execSeqWaitExpiry q s
  | .monArmWrite m arm => Sys2Proof.Machine.execMonArmWrite m arm s
  | .monCondition m isOver => Sys2Proof.Machine.execMonCondition m isOver s
  | .monConditionClear m => Sys2Proof.Machine.execMonConditionClear m s
  | .seqFltExternal => Sys2Proof.Machine.execSeqFltExternal s
  | .seqFltMinExpiry => Sys2Proof.Machine.execSeqFltMinExpiry s
  | .portTrained p => Sys2Proof.Machine.execPortTrained p s
  | .portLinkLoss p => Sys2Proof.Machine.execPortLinkLoss p s
  | .nightLinkLoss p => Sys2Proof.Machine.execNightLinkLoss p s
  | .frameForward p f bad => Sys2Proof.Machine.execFrameForward p f bad s
  | .frameTransmit p => Sys2Proof.Machine.execFrameTransmit p s
  | .enumRx p gen single next => Sys2Proof.Machine.execEnumRx p gen single next s
  | .enumEndRx gen isOver n => Sys2Proof.Machine.execEnumEndRx gen isOver n s
  | .enumDoneRx gen ring n => Sys2Proof.Machine.execEnumDoneRx gen ring n s
  | .enumWaitExpiry => Sys2Proof.Machine.execEnumWaitExpiry s
  | .lnkCmdReenumerate rq => Sys2Proof.Machine.execLnkCmdReenumerate rq s
  | .lnkCmdResetUnit rq key unit => Sys2Proof.Machine.execLnkCmdResetUnit rq key unit s
  | .lnkCmdBroadcastReset rq key => Sys2Proof.Machine.execLnkCmdBroadcastReset rq key s
  | .helloSend p => Sys2Proof.Machine.execHelloSend p s
  | .linkStateHelloRx p gen valid addr => Sys2Proof.Machine.execLinkStateHelloRx p gen valid addr s
  | .linkStateDownRx addr port => Sys2Proof.Machine.execLinkStateDownRx addr port s
  | .linkStateUpRx addr port => Sys2Proof.Machine.execLinkStateUpRx addr port s
  | .linkStateJoinedRx addr => Sys2Proof.Machine.execLinkStateJoinedRx addr s
  | .repairHoldExpiry hop => Sys2Proof.Machine.execRepairHoldExpiry hop s
  | .resetRx p key bc => Sys2Proof.Machine.execResetRx p key bc s
  | .regRdRx src tag count addr => Sys2Proof.Machine.execRegRdRx src tag count addr s
  | .regWrRx src tag count addr data => Sys2Proof.Machine.execRegWrRx src tag count addr data s
  | .regRspRx tag status done data => Sys2Proof.Machine.execRegRspRx tag status done data s
  | .raccRead rq count => Sys2Proof.Machine.execRaccRead rq count s
  | .raccWrite rq count => Sys2Proof.Machine.execRaccWrite rq count s
  | .raccTimeout => Sys2Proof.Machine.execRaccTimeout s
  | .beaconRxWake p src bseq cause => Sys2Proof.Machine.execBeaconRxWake p src bseq cause s
  | .beaconRxFault p src bseq w0 w1 => Sys2Proof.Machine.execBeaconRxFault p src bseq w0 w1 s
  | .beaconRxTime p src bseq ct => Sys2Proof.Machine.execBeaconRxTime p src bseq ct s
  | .beaconRxHello p src addr gen => Sys2Proof.Machine.execBeaconRxHello p src addr gen s
  | .timeSyncSend => Sys2Proof.Machine.execTimeSyncSend s
  | .timeSyncRx p seq ctTx corr tRx => Sys2Proof.Machine.execTimeSyncRx p seq ctTx corr tRx s
  | .timeHoldoverEntry => Sys2Proof.Machine.execTimeHoldoverEntry s
  | .delayReqSend p => Sys2Proof.Machine.execDelayReqSend p s
  | .delayReqRx p dseq t1 t2 t3 => Sys2Proof.Machine.execDelayReqRx p dseq t1 t2 t3 s
  | .delayRspRx p dseq t2 t3 t4 => Sys2Proof.Machine.execDelayRspRx p dseq t2 t3 t4 s
  | .itinActivate n w3 => Sys2Proof.Machine.execItinActivate n w3 s
  | .itinWithdraw n => Sys2Proof.Machine.execItinWithdraw n s
  | .itinPrepare n => Sys2Proof.Machine.execItinPrepare n s
  | .itinSlotLoad n => Sys2Proof.Machine.execItinSlotLoad n s
  | .itinLaunchMissed n => Sys2Proof.Machine.execItinLaunchMissed n s
  | .localConvoyNoCommit c => Sys2Proof.Machine.execLocalConvoyNoCommit c s
  | .itinActMode n => Sys2Proof.Machine.execItinActMode n s
  | .itinActDuty n => Sys2Proof.Machine.execItinActDuty n s
  | .itinActCreg n => Sys2Proof.Machine.execItinActCreg n s
  | .itinActEnable n => Sys2Proof.Machine.execItinActEnable n s
  | .itinActVset n => Sys2Proof.Machine.execItinActVset n s
  | .itinActSeq n => Sys2Proof.Machine.execItinActSeq n s
  | .itinActAdcTrig n => Sys2Proof.Machine.execItinActAdcTrig n s
  | .itinActChg n => Sys2Proof.Machine.execItinActChg n s
  | .itinActPort n => Sys2Proof.Machine.execItinActPort n s
  | .itinActShed n => Sys2Proof.Machine.execItinActShed n s
  | .itinActMark n => Sys2Proof.Machine.execItinActMark n s
  | .itinActArm n => Sys2Proof.Machine.execItinActArm n s
  | .itinActCommit n => Sys2Proof.Machine.execItinActCommit n s
  | .itinActCancel n => Sys2Proof.Machine.execItinActCancel n s
  | .cvyCmdArm rq c tent loc => Sys2Proof.Machine.execCvyCmdArm rq c tent loc s
  | .cvyCmdCommit rq c loc => Sys2Proof.Machine.execCvyCmdCommit rq c loc s
  | .cvyCmdCancel rq c loc => Sys2Proof.Machine.execCvyCmdCancel rq c loc s
  | .convoyArmRx c tent armId launch members => Sys2Proof.Machine.execConvoyArmRx c tent armId launch members s
  | .convoyAckRx src c result armId resv => Sys2Proof.Machine.execConvoyAckRx src c result armId resv s
  | .convoyAckDeadline c => Sys2Proof.Machine.execConvoyAckDeadline c s
  | .convoyHeldExpiry c => Sys2Proof.Machine.execConvoyHeldExpiry c s
  | .convoyCommitRx c armId launch => Sys2Proof.Machine.execConvoyCommitRx c armId launch s
  | .convoyCancelRx c reason armId => Sys2Proof.Machine.execConvoyCancelRx c reason armId s
  | .ledgerFrame work regMeas portMeas => Sys2Proof.Machine.execLedgerFrame work regMeas portMeas s
  | .ledgShedLevelWrite rq lvl => Sys2Proof.Machine.execLedgShedLevelWrite rq lvl s
  | .ledgResvTimeout f => Sys2Proof.Machine.execLedgResvTimeout f s
  | .ledgResvRspRx reqId result mw => Sys2Proof.Machine.execLedgResvRspRx reqId result mw s
  | .ledgResvRx src release f reqId mw => Sys2Proof.Machine.execLedgResvRx src release f reqId mw s
  | .ledgShareRx gen f mw => Sys2Proof.Machine.execLedgShareRx gen f mw s
  | .ledgShareSend => Sys2Proof.Machine.execLedgShareSend s
  | .ledgReportSend => Sys2Proof.Machine.execLedgReportSend s
  | .ledgReportRx src seq f draw resv => Sys2Proof.Machine.execLedgReportRx src seq f draw resv s
  | .ledgResyncTimeout f u => Sys2Proof.Machine.execLedgResyncTimeout f u s
  | .coachIssue rq kind addr data => Sys2Proof.Machine.execCoachIssue rq kind addr data s
  | .coachExecute t => Sys2Proof.Machine.execCoachExecute t s
  | .coachTimeout tag => Sys2Proof.Machine.execCoachTimeout tag s
  | .targetReturn k => Sys2Proof.Machine.execTargetReturn k s
  | .adcPowerUp c => Sys2Proof.Machine.execAdcPowerUp c s
  | .adcPowerDown c => Sys2Proof.Machine.execAdcPowerDown c s
  | .adcReady c => Sys2Proof.Machine.execAdcReady c s
  | .adcSwtrig mask => Sys2Proof.Machine.execAdcSwtrig mask s
  | .adcTriggerFire t => Sys2Proof.Machine.execAdcTriggerFire t s
  | .adcConversionEnd c sample => Sys2Proof.Machine.execAdcConversionEnd c sample s
  | .adcResultPublish c q => Sys2Proof.Machine.execAdcResultPublish c q s
  | .adcSeqCfgWrite c q w => Sys2Proof.Machine.execAdcSeqCfgWrite c q w s
  | .cmpOutputEdge k level => Sys2Proof.Machine.execCmpOutputEdge k level s
  | .cmpTick work levels => Sys2Proof.Machine.execCmpTick work levels s
  | .cmpCapRead rq k => Sys2Proof.Machine.execCmpCapRead rq k s
  | .cmpSwapCheck cmp differs => Sys2Proof.Machine.execCmpSwapCheck cmp differs s
  | .cmpTieCheck cmp wrong => Sys2Proof.Machine.execCmpTieCheck cmp wrong s
  | .cmpReadback dac code expected => Sys2Proof.Machine.execCmpReadback dac code expected s
  | .cmpRbStall => Sys2Proof.Machine.execCmpRbStall s
  | .chgStart => Sys2Proof.Machine.execChgStart s
  | .chgStop => Sys2Proof.Machine.execChgStop s
  | .chgSetCurrent iset => Sys2Proof.Machine.execChgSetCurrent iset s
  | .chgRefCharge => Sys2Proof.Machine.execChgRefCharge s
  | .chgArmSupport => Sys2Proof.Machine.execChgArmSupport s
  | .chgDisarmSupport => Sys2Proof.Machine.execChgDisarmSupport s
  | .chgStartSupport => Sys2Proof.Machine.execChgStartSupport s
  | .chgEndSupport => Sys2Proof.Machine.execChgEndSupport s
  | .chgClearFault => Sys2Proof.Machine.execChgClearFault s
  | .chgPhaseChange ev => Sys2Proof.Machine.execChgPhaseChange ev s
  | .chgPauseRetry => Sys2Proof.Machine.execChgPauseRetry s
  | .chgSafetyTimerTick vpackMv vinMv pinDw iTen => Sys2Proof.Machine.execChgSafetyTimerTick vpackMv vinMv pinDw iTen s
  | .chgSafetyTimerExpiry => Sys2Proof.Machine.execChgSafetyTimerExpiry s
  | .chgOvpTrip vpackMv => Sys2Proof.Machine.execChgOvpTrip vpackMv s
  | .chgOvpResolve stillHigh => Sys2Proof.Machine.execChgOvpResolve stillHigh s
  | .packAbsence => Sys2Proof.Machine.execPackAbsence s
  | .packAccept id vpackMv => Sys2Proof.Machine.execPackAccept id vpackMv s
  | .chgHoldInputLoss => Sys2Proof.Machine.execChgHoldInputLoss s
  | .supportTrigger => Sys2Proof.Machine.execSupportTrigger s
  | .supportTimeout => Sys2Proof.Machine.execSupportTimeout s
  | .supportCutoff => Sys2Proof.Machine.execSupportCutoff s
  | .supportRecovered => Sys2Proof.Machine.execSupportRecovered s
  | .mpptTrack pDw => Sys2Proof.Machine.execMpptTrack pDw s
  | .mpptSweep => Sys2Proof.Machine.execMpptSweep s
  | .mpptSweepDone vocMv pDw => Sys2Proof.Machine.execMpptSweepDone vocMv pDw s
  | .idealDiodeConduct => Sys2Proof.Machine.execIdealDiodeConduct s
  | .idealDiodeBlock => Sys2Proof.Machine.execIdealDiodeBlock s
  | .storageEntry rq key => Sys2Proof.Machine.execStorageEntry rq key s
  | .storageExitReset => Sys2Proof.Machine.execStorageExitReset s
  | .gaugeAccUpdate shuntNv => Sys2Proof.Machine.execGaugeAccUpdate shuntNv s
  | .gaugeFrame work ntcUv vpackMv supplyMv => Sys2Proof.Machine.execGaugeFrame work ntcUv vpackMv supplyMv s
  | .gaugeRecordWriteDone ok => Sys2Proof.Machine.execGaugeRecordWriteDone ok s
  | .gaugeRetentionWrite => Sys2Proof.Machine.execGaugeRetentionWrite s
  | .pdEnable n => Sys2Proof.Machine.execPdEnable n s
  | .pdDisable n => Sys2Proof.Machine.execPdDisable n s
  | .pdHardResetCmd n => Sys2Proof.Machine.execPdHardResetCmd n s
  | .pdPrSwapCmd n => Sys2Proof.Machine.execPdPrSwapCmd n s
  | .pdResendCaps n => Sys2Proof.Machine.execPdResendCaps n s
  | .pdExitAltMode n => Sys2Proof.Machine.execPdExitAltMode n s
  | .pdClearLatch n => Sys2Proof.Machine.execPdClearLatch n s
  | .pdCapWWrite n capW => Sys2Proof.Machine.execPdCapWWrite n capW s
  | .pdSinkAttach n flip ra => Sys2Proof.Machine.execPdSinkAttach n flip ra s
  | .pdDetach n => Sys2Proof.Machine.execPdDetach n s
  | .pdNopowerRetry n => Sys2Proof.Machine.execPdNopowerRetry n s
  | .pdRequestRx n rdo => Sys2Proof.Machine.execPdRequestRx n rdo s
  | .pdReoffer n => Sys2Proof.Machine.execPdReoffer n s
  | .pdSourceCapsRx n pdos => Sys2Proof.Machine.execPdSourceCapsRx n pdos s
  | .pdPsRdyRx n => Sys2Proof.Machine.execPdPsRdyRx n s
  | .pdPrSwapRx n toSource => Sys2Proof.Machine.execPdPrSwapRx n toSource s
  | .pdPrSwapDone n => Sys2Proof.Machine.execPdPrSwapDone n s
  | .pdHardResetRx n => Sys2Proof.Machine.execPdHardResetRx n s
  | .pdUnsupportedMessage n pd2 => Sys2Proof.Machine.execPdUnsupportedMessage n pd2 s
  | .pdCableIdentity n vdo => Sys2Proof.Machine.execPdCableIdentity n vdo s
  | .pdDiscoverRetry n => Sys2Proof.Machine.execPdDiscoverRetry n s
  | .pdDpConfigureAck n => Sys2Proof.Machine.execPdDpConfigureAck n s
  | .pdAttentionRx n hpd => Sys2Proof.Machine.execPdAttentionRx n hpd s
  | .pdOvpTrip n => Sys2Proof.Machine.execPdOvpTrip n s
  | .pdOcpFastTrip n => Sys2Proof.Machine.execPdOcpFastTrip n s
  | .pdOcpSlowTrip n => Sys2Proof.Machine.execPdOcpSlowTrip n s
  | .pdRcpTrip n => Sys2Proof.Machine.execPdRcpTrip n s
  | .pdRecoveryEnd n => Sys2Proof.Machine.execPdRecoveryEnd n s
  | .faultRaise src => Sys2Proof.Machine.execFaultRaise src s
  | .brokenPair src => Sys2Proof.Machine.execBrokenPair src s
  | .faultCollectorReset => Sys2Proof.Machine.execFaultCollectorReset s
  | .rstsClear => Sys2Proof.Machine.execRstsClear s
  | .collectorScrub => Sys2Proof.Machine.execCollectorScrub s
  | .collectorSelfFault => Sys2Proof.Machine.execCollectorSelfFault s
  | .rcOscillatorLoss => Sys2Proof.Machine.execRcOscillatorLoss s
  | .heartbeatLoss => Sys2Proof.Machine.execHeartbeatLoss s
  | .errorPairToggle => Sys2Proof.Machine.execErrorPairToggle s
  | .faultSumSend => Sys2Proof.Machine.execFaultSumSend s
  | .faultSumRx src w0 w1 => Sys2Proof.Machine.execFaultSumRx src w0 w1 s
  | .injFabric rq key sel => Sys2Proof.Machine.execInjFabric rq key sel s
  | .injPair rq key sel => Sys2Proof.Machine.execInjPair rq key sel s
  | .injCollectorReg rq key sel => Sys2Proof.Machine.execInjCollectorReg rq key sel s
  | .injLockstep rq key sel => Sys2Proof.Machine.execInjLockstep rq key sel s
  | .injHeartbeat rq key sel => Sys2Proof.Machine.execInjHeartbeat rq key sel s
  | .faultForce rq key sel => Sys2Proof.Machine.execFaultForce rq key sel s
  | .pwrReqEvening rq => Sys2Proof.Machine.execPwrReqEvening rq s
  | .pwrReqNight rq => Sys2Proof.Machine.execPwrReqNight rq s
  | .pwrReqNoon rq => Sys2Proof.Machine.execPwrReqNoon rq s
  | .rateRx night ct => Sys2Proof.Machine.execRateRx night ct s
  | .nightEntry => Sys2Proof.Machine.execNightEntry s
  | .nightScan chans ambs dac code expected => Sys2Proof.Machine.execNightScan chans ambs dac code expected s
  | .itinWake => Sys2Proof.Machine.execItinWake s
  | .beaconHelloSend => Sys2Proof.Machine.execBeaconHelloSend s
  | .beaconTimeSend => Sys2Proof.Machine.execBeaconTimeSend s
  | .beaconFaultSend => Sys2Proof.Machine.execBeaconFaultSend s
  | .wakeToNoon => Sys2Proof.Machine.execWakeToNoon s
  | .rtcSecond => Sys2Proof.Machine.execRtcSecond s
  | .rtcTimeWrite rq w => Sys2Proof.Machine.execRtcTimeWrite rq w s
  | .rtcDateWrite rq w => Sys2Proof.Machine.execRtcDateWrite rq w s
  | .rtcTimeRead rq => Sys2Proof.Machine.execRtcTimeRead rq s
  | .rtcAddHour rq => Sys2Proof.Machine.execRtcAddHour rq s
  | .rtcSubtractHour rq => Sys2Proof.Machine.execRtcSubtractHour rq s
  | .rtcAlmWrite rq k w => Sys2Proof.Machine.execRtcAlmWrite rq k w s
  | .ponAssert rq => Sys2Proof.Machine.execPonAssert rq s
  | .ponRelease rq => Sys2Proof.Machine.execPonRelease rq s
  | .ponPulseExpiry => Sys2Proof.Machine.execPonPulseExpiry s
  | .busIdent pec => Sys2Proof.Machine.execBusIdent pec s
  | .busStage pec => Sys2Proof.Machine.execBusStage pec s
  | .busFault pec => Sys2Proof.Machine.execBusFault pec s
  | .busWindow ptr pec => Sys2Proof.Machine.execBusWindow ptr pec s
  | .busRdWord pec => Sys2Proof.Machine.execBusRdWord pec s
  | .busWrWord data pec => Sys2Proof.Machine.execBusWrWord data pec s
  | .busRdBlock n pec => Sys2Proof.Machine.execBusRdBlock n pec s
  | .busWrBlock n data pec => Sys2Proof.Machine.execBusWrBlock n data pec s
  | .busReadAbandon => Sys2Proof.Machine.execBusReadAbandon s
  | .busAttentionPulse collided => Sys2Proof.Machine.execBusAttentionPulse collided s
  | .busAttnSet rq soft => Sys2Proof.Machine.execBusAttnSet rq soft s
  | .busSclTimeout => Sys2Proof.Machine.execBusSclTimeout s
  | .otpProgram rq key offset => Sys2Proof.Machine.execOtpProgram rq key offset s
  | .otpProgramDone bits => Sys2Proof.Machine.execOtpProgramDone bits s
  | .journalScanDone answers page4k ppb128 blocks bad => Sys2Proof.Machine.execJournalScanDone answers page4k ppb128 blocks bad s
  | .journalRepeatWindowClose => Sys2Proof.Machine.execJournalRepeatWindowClose s
  | .journalFlushTimer => Sys2Proof.Machine.execJournalFlushTimer s
  | .journalPageProgram => Sys2Proof.Machine.execJournalPageProgram s
  | .journalProgramDone ok => Sys2Proof.Machine.execJournalProgramDone ok s
  | .journalEraseDone ok => Sys2Proof.Machine.execJournalEraseDone ok s
  | .journalOpTimeout => Sys2Proof.Machine.execJournalOpTimeout s
  | .jrnlCmdFlush rq key => Sys2Proof.Machine.execJrnlCmdFlush rq key s
  | .jrnlCmdReinit rq key => Sys2Proof.Machine.execJrnlCmdReinit rq key s
  | .jrnlRead rq => Sys2Proof.Machine.execJrnlRead rq s
  | .jrnlReadDone => Sys2Proof.Machine.execJrnlReadDone s
  | .jrnlFwdRx words => Sys2Proof.Machine.execJrnlFwdRx words s
  | .pd1SourceAttach rp => Sys2Proof.Machine.execPd1SourceAttach rp s
  | .seqFltExternalRelease => Sys2Proof.Machine.execSeqFltExternalRelease s
  | .dieTempConversion t16 => Sys2Proof.Machine.execDieTempConversion t16 s
  | .faultReportFall src => Sys2Proof.Machine.execFaultReportFall src s

end Sys2Proof.Machine
end

