-- ==== Sys2Proof/Safety.lean ====
section
/-!
DEFINITION. Safety.lean: what must hold of every state the part can be in, and the terms in which statements speak.
-/
namespace Sys2Proof.Machine

/-- The register table is in its canonical form: rising keys, no entry at its reset value. -/
def State.regsWf (s : State) : Bool := tabWf fieldReset s.regs

/-- The CS0 flash is in its canonical form: rising addresses, and no byte listed that reads as erased, 0xFF. -/
def Memory.wf (m : List Host.Cell) : Bool := tabWf (fun _ => 0xFF#8) m

/-- The byte of the CS0 flash at address `a`. -/
def flashByte (s : State) (a : Nat) : Nat := (tabGet (fun _ => 0xFF#8) s.flash a).toNat

/-- The bits of fuse word `i` as programmed. -/
def fuse (s : State) (i : Nat) : Nat := tabGet (fun _ => 0) s.otp.fuses i

/-- The block of 64 KiB of the register map in which a field stands. -/
def fblk (f : Fld) : Nat := fkey f / 2 ^ 21

/-- The keys that reporting may write: the chain (7), the collector (0x12) but for its severities, the backup domain (0x13),
the bus (0x14), the journal (0x15), and the shed level. -/
def repKey (k : Nat) : Bool :=
  decide (((k / 2 ^ 21 = 7 ∨ k / 2 ^ 21 = 0x12 ∨ k / 2 ^ 21 = 0x13 ∨ k / 2 ^ 21 = 0x14 ∨ k / 2 ^ 21 = 0x15) ∧
    ¬(0x120100 * 32 ≤ k ∧ k < 0x1201A0 * 32)) ∨ k = 0x90010 * 32)

/-- The hypotheses under which a raise of source `i` only reports: neither it nor LNK_DROP, which its summary may raise, is
fatal, and the unit is not in Evening, from which a raise may wake. -/
abbrev Calm (s : State) (i : Nat) : Prop :=
  i < 640 ∧ severity s i ≠ 3 ∧ severity s 0x261 ≠ 3 ∧ stage s ≠ 3

/-- The command completes: it answers a next state, of which `P` holds. -/
def Completes (c : Instr) (s : State) (P : State → Prop) : Prop := ∃ t, exec c s = .next t ∧ P t

/-- Every register field whose key is outside `p` reads in `t` as in `s`. -/
def SameBut (p : Nat → Bool) (s t : State) : Prop := ∀ f : Fld, p (fkey f) = false → fget t f = fget s f

/-- The field stands in one of the blocks given. -/
def inBlocks (l : List Nat) (k : Nat) : Bool := l.contains (k / 2 ^ 21)

/-- The last request before E0. -/
def lastReq (s : State) : Option Req := s.ldg.reqs.getLast?

end Sys2Proof.Machine
end

