-- ==== Sys2Proof/WellFormed.lean ====
section
/-!
DEFINITION. WellFormed.lean: what the operands of a command must satisfy for the command to be one the part can meet.
-/
namespace Sys2Proof

/-- R312: every header field of a frame lies within its bits and the payload is at most 16 words of 32 bits. -/
def Frame.wellFormed (f : Frame) : Bool :=
  decide (f.typ < 256) && decide (f.dst < 32) && decide (f.src < 32) && decide (f.ttl < 256) &&
    decide (f.seq < 65536) && decide (f.pay.length ≤ 16) && f.pay.all fun w => decide (w < 2 ^ 32)

/-- R657: the register address space has 24 bits. -/
def addrWellFormed (a : Nat) : Bool := decide (a < 2 ^ 24)

/-- The operands of a command lie within the fields that carry them. -/
def Instr.wellFormed : Instr → Bool
  | .registerWrite _ a _ | .readClear _ a | .snapshotRead _ a | .coachIssue _ _ a _ => addrWellFormed a
  | .regRdRx _ _ _ a => addrWellFormed a
  | .regWrRx _ _ c a d => addrWellFormed a && decide (d.length ≤ 14) && decide (c.val = d.length ∨ 14 < c.val ∨ c.val = 0)
  | .regRspRx _ _ _ d => decide (d.length ≤ 15)
  | .frameForward _ f _ => f.wellFormed
  | .enumRx _ _ _ n => decide (1 ≤ n ∧ n ≤ 32)
  | .enumEndRx _ _ n => decide (1 ≤ n ∧ n ≤ 32)
  | .enumDoneRx _ _ n => decide (n < 64)
  | .jrnlFwdRx w => decide (w.length = 16)
  | .pdSourceCapsRx _ p => decide (1 ≤ p.length ∧ p.length ≤ 7)
  | .busRdBlock n _ => decide (n < 256)
  | .busWrBlock n d _ => decide (n < 64 ∧ d.length = n)
  | .ledgerFrame _ r p => decide (r.length ≤ 8 ∧ p.length ≤ 2)
  | .loadWindowEnd l => decide (l.length ≤ 8)
  | _ => true

end Sys2Proof
end

