-- ==== Sys2Proof/Certificates/Slice0/Obligations.lean ====
section
/-!
DEFINITION. Certificates/Slice0/Obligations.lean: the statements about the part, each from the numbered rules of the spec
that its docstring names.
-/
namespace Sys2Proof.Machine

/-- The registers that a write only stores to and whose reads show what they store: all of TOP but CTL, CFG but the update
registers, the pages of the channels but CTL, CFG and EDGE_CT, the wire models, the regulators but CTL, STAT and VSET, the
gauge's counters and ENG. -/
def storesOnly (a : Nat) : Bool :=
  (specAt a).isSome && (decide (a < 0x10000 ∧ a ≠ 0x14) || decide (0x10000 ≤ a ∧ a < 0x10100 ∧ a ≠ 0x10020) ||
    decide (0x20000 ≤ a ∧ a < 0x24000 ∧ a % 0x100 ≠ 0 ∧ a % 0x100 ≠ 0xC ∧ a % 0x100 ≠ 0x64 ∧ a % 0x100 ≠ 0x68) ||
    decide (0x30000 ≤ a ∧ a < 0x40000) || decide (0x50000 ≤ a ∧ a < 0x50200 ∧ a % 0x40 ≠ 0 ∧ a % 0x40 ≠ 4 ∧ a % 0x40 ≠ 0xC) ||
    decide (0xE0000 ≤ a ∧ a < 0xE003C) || decide (0x160000 ≤ a ∧ a < 0x170000))

/-- R3, R5, R6: what the field `f` of the register at `a` holds after a write of `w`. -/
def fieldAfter (s : State) (a w : Nat) (f : FieldSpec) : Nat :=
  let old := fget s (specFld a f)
  let v := bitsOf w f.hi f.lo
  match f.acc with
  | .rw => if fieldRsv f v then old else v
  | .sealed => if sealedNow s || fieldRsv f v then old else v
  | .w1c => clearBits old v % 2 ^ (f.hi + 1 - f.lo)
  | .ro => old
  | .rc => old
  | .wo => old

/-- R3: the value to which a read returns a field. -/
def fieldAfterRead (s : State) (a : Nat) (f : FieldSpec) : Nat :=
  if f.acc = .rc then (if 0x30000 ≤ a ∧ a < 0x30800 then 0x8000 else 0) else fget s (specFld a f)

/-- The bit stands in a field of the register at `a`. -/
def bitKept (a b : Nat) : Bool := (fieldsAt a).any fun f => decide (f.lo ≤ b ∧ b ≤ f.hi)

/-- The fields in which an access of port `rq` is recorded: the fabric's and, of port 9, the bus's (R627). -/
def recKeys (rq k : Nat) : Bool :=
  inBlocks [0xA] k || rq == 9 && [BUS.LAST.STATUS, BUS.LAST.ADDR, BUS.EVT.ILLEGAL_STATE, BUS.EVT.TGT_ERR, BUS.CNT.ILLEGAL].any
    fun f => fkey f == k

/-- No error is injected on the port's next access and the target of the address is up. -/
abbrev reachable (s : State) (rq a : Nat) : Prop := fabInjected s rq = false ∧ targetDown s (addrTarget a) = false

/-- A raise of source `i` sets its LAT bit: it is not ignored and its report does not stand already. -/
abbrev Reports (s : State) (i : Nat) : Prop := i < 640 ∧ severity s i ≠ 0 ∧ fon s (FLT.RAW i) = false

/-- R61, R60, R424: what a reset that adds bit `b` to RST_CAUSE leaves: the causes held before, each target epoch one
higher, the stage Dawn and no address, the channels of R60 in ON and all others off. -/
abbrev resetLeaves (b : Nat) (s t : State) : Prop :=
  (∀ i < 6, fget t ⟨0x10, i, i⟩ = if i = b then 1 else fget s ⟨0x10, i, i⟩ % 2) ∧
  (∀ k < 0x5D, fget t (FAB.TGT.EPOCH k) = (fget s (FAB.TGT.EPOCH k) + 1) % 2 ^ fwidth (FAB.TGT.EPOCH k)) ∧
  stage t = 0 ∧ t.start.dawn = false ∧ addressed t = false ∧ t.pending = s.pending ∧
  (∀ n < 64, chState t n =
    if dawnCode s n = 2 ∧ (chState s n = 5 ∨ (chState s n = 0xD ∧ (chan s n).kept = true)) then 5 else 0)

/-- R61: what every reset preserves where no flash, fuse or journal program is in progress. -/
abbrev storesKept (s t : State) : Prop :=
  s.img.upd = none → s.otp.busy = none → s.jrn.op ≠ .program → t.flash = s.flash ∧ t.otp.fuses = s.otp.fuses ∧ t.jrn.nand = s.jrn.nand

/-- R38: the supply pins with their rising and falling thresholds in millivolt. -/
def pins : List (SupplyPin × Nat × Nat) :=
  [(.vin48, 8500, 7800), (.vin12, 5600, 5000), (.vpack, 7500, 7000), (.vsol, 3000, 2700), (.chgIn, 8500, 7800),
   (.vbkp, 2400, 2200), (.vddio, 1500, 1400)] ++ (List.range 8).map fun b => (.vbank (Fin.ofNat 8 b), 5500, 5000)

/-- R85, R86: an update command of port `rq` is accepted: in Noon, with none in progress, on an access that gets through. -/
abbrev updReady (s : State) (rq : Nat) : Prop :=
  stage s = 2 ∧ fon s CFG.UPD_STAT.BUSY = false ∧ reachable s rq 0x10020

/-- R86: port `rq` holds the session. -/
abbrev updHolder (s : State) (rq : Nat) : Prop := fon s CFG.UPD_STAT.OPEN = true ∧ fget s CFG.UPD_STAT.OWNER = rq

/-- R94, R72: the byte offset of UPD_ADDR, which lies in the target slot. -/
abbrev updInside (s : State) : Prop := 256 * fget s CFG.UPD_ADDR.OFFSET < 2 ^ (20 + fget s CFG.STATUS.DENSITY)

/-- R72: the flash address of the target slot of the session. -/
def slotAt (s : State) : Nat := if fon s CFG.UPD_STAT.TARGET then 2 ^ (20 + fget s CFG.STATUS.DENSITY) else 0

/-- No raise that channel `n` makes enters the safe state or wakes. -/
abbrev CalmChan (s : State) (n : Nat) : Prop :=
  Calm s n ∧ Calm s (0x40 + n) ∧ Calm s (0x80 + n) ∧ Calm s (0xC0 + n) ∧ Calm s (0x100 + n) ∧ Calm s (0x140 + n)

/-- The keys that an event of channel `n` may write: its own page, the request fabric (0xA) and reporting. -/
def chanKeys (n k : Nat) : Bool :=
  decide (0x20000 + 0x100 * n ≤ k / 32 ∧ k / 32 < 0x20000 + 0x100 * n + 0x100) || inBlocks [0xA] k || repKey k

/-- The part beside the registers that no event of channel `n` touches: all other channels and the blocks named. -/
abbrev chanRest (n : Nat) (s t : State) : Prop :=
  t.chx.filter (fun e => e.1 != n) = s.chx.filter (fun e => e.1 != n) ∧ t.flash = s.flash ∧ t.otp = s.otp ∧ t.lps = s.lps ∧
    t.rgs = s.rgs ∧ t.itx = s.itx ∧ t.cvy = s.cvy ∧ t.chg = s.chg ∧ t.gau = s.gau ∧ t.pds = s.pds ∧ t.adc = s.adc ∧
    t.time = s.time ∧ t.wire = s.wire

/-- None of the `n` sources from `a` on is fatal. -/
abbrev CalmIn (s : State) (a n : Nat) : Prop := ∀ i < n, severity s (a + i) ≠ 3

/-- No source that the wire models and their frames may raise is fatal: CHnn_WIRE, the frame lags, 0x259 to 0x261. -/
abbrev WireCalm (s : State) : Prop := CalmIn s 0xC0 64 ∧ CalmIn s 0x246 5 ∧ CalmIn s 0x259 9

/-- No source that the loops may raise is fatal: 0x1F0 to 0x20B and LNK_DROP. -/
abbrev LoopCalm (s : State) : Prop := CalmIn s 0x1F0 28 ∧ severity s 0x261 ≠ 3

/-- R152: the interval dt of the next wire-model frame `f` in nanoseconds, 1 ms for the first. -/
def wireDt (s : State) (f : Nat) : Nat :=
  if (frame s f).ran ∧ (frameStart s f).2 ≠ (frame s f).start then (frameStart s f).2 - (frame s f).start else 1000000

/-- R154, R158: Ta of the frame for channel `n`, judged at the frame's start. -/
def wireTa (s : State) (f n : Nat) : Nat :=
  let k := fget s (WIRE.CFG.AMB n)
  ambient (ambJudge (passTo s (frameStart s f).2) k) k

/-- R154: Tc and Ti of channel `n` after the next frame `f`. -/
def wireAfter (s : State) (f n : Nat) (w : WType) : Nat × Nat :=
  wireIntegrate w (wireRia s n w) (wireTa s f n) (wireI2 s n) (f32OfRat (wireDt s f) 1000000000) (wireX s n).tc (wireX s n).ti

/-- R161: the limit is reached. -/
def wireHot (w : WType) (r : Nat × Nat) : Bool := f32Le (f32Of16 w.tLim) (f32Max r.1 r.2)

/-- R200: the reservation of loop `l` for target code `c`. -/
def loopResv (s : State) (l c : Nat) : Nat :=
  fget s (LOOP.LEDG.RESV_MW l) * (c + 200) / (fget s (LOOP.LEDG_V.VNOM l) + 200)

/-- The loop's target is not down. -/
abbrev loopUp (s : State) (l : Nat) : Prop := targetDown s (0x48 + l) = false

/-- The loop switches: START, REG or STOP. -/
abbrev switching (s : State) (l : Nat) : Prop := 3 ≤ loopState s l ∧ loopState s l ≤ 5

/-- The keys that a loop's own events may write beside reporting and time: the block of the loops. -/
def loopKeys (k : Nat) : Bool := inBlocks [0x4, 0x8, 0x13, 0xA] k || repKey k

/-- R228: the code with which an announcement of `id` for apply instant `a` meets loop `l`, 0 where it is accepted: the
rows of the table in their order; `pin` says that it came from STEPn. -/
def r228 (s : State) (l : Nat) (pin : Bool) (id a : Nat) : Nat :=
  let anns := (loopX s l).anns
  let hold := atLeast1 (fget s (LOOP.FF_SHAPE.HOLD l)) + fget s (LOOP.FF_SHAPE.DECAY l)
  if fget s (LOOP.STEP_CFG.EN l) = 0 then 8
  else if loopState s l ≠ 4 then 3
  else if pin = false ∧ fget s TIME.STAT.STATE < 2 then 5
  else if pin = false ∧ id = 0 then 9
  else if (anns.map (·.id)).contains id then 6
  else if 4 ≤ anns.length then 4
  else if 50000 < (a : Int) - served s then 1
  else if (a : Int) - served s < -((min 100 (fget s (LOOP.STEP_CFG.LATE_MAX l)) * 100 : Nat) : Int) ∨
      (a < served s ∧ hold ≤ ((served s + 39) / 40 * 40 - a) / 40) then 2
  else 0

/-- R226, R228, R232: what an accepted announcement leaves. -/
abbrev accepted (s t : State) (l id : Nat) (di : Int) (a : Nat) : Prop :=
  (loopX t l).anns = (loopX s l).anns ++ [{ id := id, di := di, arrival := served s, apply := a }] ∧
  fget t (LOOP.ANN_STAT.NPEND l) = (loopX s l).anns.length + 1 ∧
  (a < served s → fget t (LOOP.ANN_EVT.LATE l) = 1) ∧
  (served s ≤ a ∧ a < served s + 500 → fget t (LOOP.ANN_EVT.SHORT l) = 1) ∧
  (fon s (LOOP.SHED.EN l) = true ∧ 0 < di → loopActive t l = loopPhases s l)

/-- R228: what a rejected announcement leaves. -/
abbrev rejected (s t : State) (l id code : Nat) : Prop :=
  t.lps = s.lps ∧ fget t (LOOP.ANN_STAT.REJ_CODE l) = code ∧ fget t (LOOP.ANN_STAT.REJ_ID l) = id ∧
  fget t (LOOP.ANN_EVT.REJECTED l) = 1

/-- R258: an output code taken as the greatest one of its regulator where it lies above: 880 for a buck (0 to 3), 540 for an LDO. -/
def codeOf (r c : Nat) : Nat := if r < 4 then min c 880 else min c 540

/-- R263: the reservation of regulator `r` at code `c`. -/
def regResv (s : State) (r c : Nat) : Nat :=
  if r < 4 then fget s (REG.LEDG.RESV_MW r) * (c + 120) / (fget s (REG.LEDG_V.VNOM r) + 120) else fget s (REG.LEDG.RESV_MW r)

/-- The regulator's target is not down. -/
abbrev regUp (s : State) (r : Nat) : Prop := targetDown s (0x40 + r) = false

/-- No request of regulator `r` is outstanding before E0. -/
abbrev regAsksNothing (s : State) (r : Nat) : Prop := ∀ q ∈ s.ldg.reqs, isRegReq r q.kind = false

/-- The keys that a regulator's own commands and events may write: its block, the fabric, time and reporting. -/
def regKeys (k : Nat) : Bool := inBlocks [0x5, 0x8, 0x13, 0xA] k || repKey k

/-- R276, R278: the present step of a running sequence is over: the next step begins, or the sequence enters DONE. A sequence
that SUPPLY_LOW started has the step's index in SEQ.PF_LAST (R285). -/
abbrev stepOver (s t : State) (q : Nat) : Prop :=
  (if fget s (SEQ.STAT.STEP q) + 1 < (seqHead s q).count then
    fget t (SEQ.STAT.STATE q) = 1 ∧ fget t (SEQ.STAT.STEP q) = fget s (SEQ.STAT.STEP q) + 1 ∧
      (seqX t q).issued = false ∧ (seqX t q).stepAt = localNs t
  else fget t (SEQ.STAT.STATE q) = 2 ∧ fget t (SEQ.EVT.DONE q) = 1 ∧ fget t (SEQ.STAT.STEP q) = fget s (SEQ.STAT.STEP q)) ∧
  ((seqX s q).powerFail = true → fget t SEQ.PF_LAST.VALID = 1 ∧ fget t SEQ.PF_LAST.SEQ = q ∧
    fget t SEQ.PF_LAST.STEP = fget s (SEQ.STAT.STEP q))

/-- The present step waits for its completion. -/
abbrev stepWaits (s t : State) (q : Nat) : Prop :=
  fget t (SEQ.STAT.STATE q) = 1 ∧ fget t (SEQ.STAT.STEP q) = fget s (SEQ.STAT.STEP q) ∧ (seqX t q).issued = true

/-- The step of sequence `q` that is to begin has operation `op`; R282 lets a sequence have at most 64 steps. -/
abbrev stepReady (s : State) (q op : Nat) : Prop :=
  fget s (SEQ.STAT.STATE q) = 1 ∧ (seqStep s q).op = op ∧ (seqX s q).issued = false ∧ (seqHead s q).count ≤ 64

/-- The step of sequence `q` with operation `op` has begun and waits. -/
abbrev stepBegun (s : State) (q op : Nat) : Prop :=
  fget s (SEQ.STAT.STATE q) = 1 ∧ (seqStep s q).op = op ∧ (seqX s q).issued = true ∧ (seqHead s q).count ≤ 64

/-- R277: a rail that is off and may be turned on: a used channel without wire hold, a regulator, a loop with phases. -/
abbrev railOff (s : State) (tgt : Nat) : Prop :=
  targetDown s tgt = false ∧ s.start.running = true ∧
    if tgt < 0x40 then chState s tgt = 0 ∧ fon s (CHN.CFG.EN tgt) = true ∧ fon s (WIRE.STAT.HOLD tgt) = false
    else if tgt < 0x48 then regState s (tgt - 0x40) = 0
    else tgt < 0x4C ∧ loopState s (tgt - 0x48) = 0 ∧ loopPhases s (tgt - 0x48) ≠ []

/-- The rail awaits admission. -/
abbrev railAsks (t : State) (tgt : Nat) : Prop :=
  if tgt < 0x40 then chState t tgt = 3 ∧ fget t (CHN.STAT.PENDING tgt) = 1
  else if tgt < 0x48 then regState t (tgt - 0x40) = 1 ∧ fget t (REG.STAT.PENDING (tgt - 0x40)) = 1
  else loopState t (tgt - 0x48) = 1 ∧ fget t (LOOP.STAT.PENDING (tgt - 0x48)) = 1

/-- A running rail that an off command may turn off. -/
abbrev railUp (s : State) (tgt : Nat) : Prop :=
  targetDown s tgt = false ∧ s.start.running = true ∧
    if tgt < 0x40 then fon s (CHN.CFG.EN tgt) = true ∧ 4 ≤ chState s tgt ∧ chState s tgt ≤ 7
    else if tgt < 0x48 then 2 ≤ regState s (tgt - 0x40) ∧ regState s (tgt - 0x40) ≤ 5
    else tgt < 0x4C ∧ (loopState s (tgt - 0x48) = 3 ∨ loopState s (tgt - 0x48) = 4 ∨ loopState s (tgt - 0x48) = 6)

/-- The rail has been commanded off and no longer runs but for its slow turn-off. -/
abbrev railDown (t : State) (tgt : Nat) : Prop :=
  if tgt < 0x40 then fget t (CHN.CTL.MODE tgt) = 0 ∧ (chState t tgt = 0 ∨ chState t tgt = 9)
  else if tgt < 0x48 then fget t (REG.CTL.EN (tgt - 0x40)) = 0 ∧ regState t (tgt - 0x40) = 0
  else fget t (LOOP.CTL.EN (tgt - 0x48)) = 0 ∧ (loopState t (tgt - 0x48) = 0 ∨ loopState t (tgt - 0x48) = 5)

/-- The frames that `t` has queued on port `p` in class `c` behind those of `s`. -/
def newOut (s t : State) (p c : Nat) : List Frame := (classQ (portQ t p) c).drop (classQ (portQ s p) c).length

/-- Both queues of class 0 have room for the few frames that one command sends. -/
abbrev roomy (s : State) : Prop := (portQ s 0).q0.length ≤ 2 ∧ (portQ s 1).q0.length ≤ 2

/-- None of the sources that chain traffic may raise (0x258 to 0x274) is fatal. -/
abbrev ChainCalm (s : State) : Prop := CalmIn s 0x258 29

/-- The chain service runs: engine E2 is not halted, the ports are at full rate, no source from 0x258 to 0x274 is fatal, the unit
is not in Evening, and the class 0 queues have room. -/
abbrev chainRuns (s : State) : Prop :=
  halted s 2 = false ∧ fget s LNK.STAT.RATE = 1 ∧ ChainCalm s ∧ stage s ≠ 3 ∧ roomy s ∧ s.lnk.upWait = []

/-- No hop is known broken or held off. -/
abbrev chainWhole (s : State) : Prop := s.lnk.broken = [] ∧ s.lnk.holding = [] ∧ s.lnk.joined = []

/-- A frame of type `ty` with payload `pay` has been queued on port `p`. -/
abbrev sentOn (s t : State) (p ty : Nat) (pay : List Nat) : Prop :=
  ∃ f ∈ newOut s t p (frameClass ty), f.typ = ty ∧ f.pay = pay ∧ f.ttl = 32

/-- R319: the enumeration has ended with `n` units and the topology, and ENUM_DONE goes out by every port at full rate. -/
abbrev enumerated (s t : State) (n topo gen : Nat) : Prop :=
  fget t LNK.STAT.N = n ∧ fget t LNK.STAT.TOPO = topo ∧ fget t LNK.STAT.CHAIN_GEN = gen ∧ fget t LNK.EVT.ENUM = 1 ∧
    t.lnk.enumRuns = false ∧ ∀ p < 2, portUp s p = true → sentOn s t p 3 [gen * 2 ^ 16 + topo * 2 ^ 8 + n]

/-- R350, R351: sixteen times off in nanoseconds: t_rx less CT_TX and the path delay of CORR and D of the port. -/
def syncOff (s : State) (p ctTx corr tRx : Nat) : Int :=
  16 * ((tRx : Int) - (ctTx : Int)) - 5 * ((corr + fget s (TIME.HOP.D p) : Nat) : Int)

/-- R350: the TIME_SYNC is valid at a unit whose chain service runs. -/
abbrev syncValid (s : State) (p seq corr : Nat) : Prop :=
  halted s 2 = false ∧ stage s ≠ 3 ∧ ChainCalm s ∧ fget s TIME.STAT.STATE ≠ 4 ∧ fget s TIME.STAT.STATE ≤ 5 ∧ corr ≠ 0xFFFFFFFF ∧ fon s (TIME.HOP.VALID p) = true ∧
    (fget s TIME.STAT.STATE = 0 ∨ fget s TIME.STAT.STATE = 3 ∨
      1 ≤ (seq + 65536 - fget s TIME.STAT.SYNC_SEQ) % 65536 ∧ (seq + 65536 - fget s TIME.STAT.SYNC_SEQ) % 65536 < 32768)

/-- R373: a threshold field of value 0 is taken as 1. -/
def thr (v : Nat) : Nat := if v = 0 then 1 else v

/-- `q` is the quotient rounded to one of the two whole numbers around it; the spec states no rounding. -/
abbrev isQuot (q num : Int) (den : Nat) : Prop := q = num / den ∨ (q = num / den + 1 ∧ num % den ≠ 0)

/-- The keys that belong to itinerary entry `i`: its word W3 and its ITIN_ST. -/
def itinKeys (i k : Nat) : Bool := decide (k / 32 = 0x10000C + 16 * i) || decide (k / 32 = (TIME.ITIN_ST.STATE i).addr)

/-- R360: the launch CT of entry `i`, activated at the time served: after it by LAUNCH with REL = 1, else the unique CT in
(now - W, now - W + 2^48] whose low 48 bits are LAUNCH. -/
abbrev activatedAt (s : State) (i x : Nat) : Prop :=
  if fon s (ITIN.W1.REL i) then x = served s + entLaunch s i
  else x % 2 ^ 48 = entLaunch s i % 2 ^ 48 ∧ served s < x + entWin s i ∧ x + entWin s i ≤ served s + 2 ^ 48

/-- The gauge waits for no launch of its own. -/
abbrev noReference (s : State) : Prop := s.gau.reqOut = false

/-- The request asks for entry `i`. -/
def namesEntry (i : Nat) : ReqKind → Bool
  | .entries l => l.contains i
  | _ => false

/-- Entry `i` no longer holds a slot, and no request before E0 names it. -/
abbrev entClear (t : State) (i : Nat) : Prop :=
  (∀ x ∈ t.slots, x.entry ≠ i) ∧ ∀ r ∈ t.ldg.reqs, namesEntry i r.kind = false

/-- R359, R390: the launch of entry `i` has ended with `result` and lag 0; the entry ends after its last launch and goes
on to WAIT for its next one, a period after the one that ended, in all other cases. -/
abbrev entNext (s t : State) (i result : Nat) : Prop :=
  fget t (TIME.ITIN_ST.RESULT i) = result ∧ fget t (TIME.ITIN_ST.REASON i) = 0 ∧ (∀ x ∈ t.slots, x.entry ≠ i) ∧
  if entPer s i = 0 ∨ (fget s (ITIN.W3.REPEAT i) ≠ 0x7FF ∧ fget s (ITIN.W3.REPEAT i) ≤ (ent s i).k) then
    entState t i = 5 ∧ fget t (ITIN.W3.EN i) = 0
  else entState t i = 1 ∧ fon t (ITIN.W3.EN i) = true ∧ (ent t i).k = (ent s i).k + 1 ∧
    (ent t i).nominal = (ent s i).nominal + entPer s i

/-- Entry `i`, of CHAIN = 0, is loaded with action `act` for the instant at which it is placed, which is to come. -/
abbrev entDue (s : State) (i act : Nat) : Prop :=
  entState s i = 4 ∧ entAct s i = act ∧ fon s (ITIN.W3.EN i) = true ∧ entChain s i = false ∧ (ent s i).gone = false ∧
  safe s = false ∧ stage s ≠ 4 ∧ noReference s ∧ (ent s i).placed = (ent s i).nominal ∧ served s ≤ (ent s i).placed

/-- Entry `i` waits in the itinerary for a launch that is to come, alone and not tentative, on a running part. -/
abbrev entWaits (s : State) (i : Nat) : Prop :=
  halted s 1 = false ∧ s.start.running = true ∧ fon s (ITIN.W3.EN i) = true ∧ entChain s i = false ∧ entConv s i = 0 ∧
  fon s (ITIN.W3.TENT i) = false ∧ entState s i = 1 ∧ (ent s i).placed = (ent s i).nominal ∧ served s ≤ (ent s i).nominal

/-- R368: the head may arm convoy `c` at the instant `at_` for the launch CT: Noon in full form, `c` not armed, fewer than 16
convoys armed, and MIN_LEAD still to go. -/
abbrev armable (s : State) (c launch at_ : Nat) : Prop :=
  isHead s = true ∧ fullNoon s = true ∧ (∀ x ∈ s.cvy.head, cvyArmed s x = true → x.conv ≠ c) ∧
  (s.cvy.head.filter (cvyArmed s)).length < 16 ∧ at_ + cvyLead s ≤ launch

/-- R368: the head has armed convoy `c`: its record is ARMING under the next ARM_ID, and CONVOY_ARM goes out by every port
that is up. -/
abbrev armedAs (s t : State) (c : Nat) (tent : Bool) (launch members : Nat) : Prop :=
  (cvyFind t.cvy.head c).map (fun x => (x.armId, x.tent, x.launch, x.members, x.st)) = some (s.cvy.nextArm, tent, launch, members, 1) ∧
  t.cvy.nextArm = s.cvy.nextArm % 0xFFFF + 1 ∧
  ∀ p < 2, portUp s p = true → sentOn s t p 0x30 ([s.cvy.nextArm * 2 ^ 16 + b2n tent * 2 ^ 8 + c] ++ ctWords launch ++ [members])

/-- R368: the head's record `x` is COMMITTED for the launch CT, and CONVOY_COMMIT goes out. -/
abbrev committedAs (s t : State) (x : Cvy) (launch : Nat) : Prop :=
  (cvyFind t.cvy.head x.conv).map (fun y => (y.armId, y.st, y.launch)) = some (x.armId, 3, launch) ∧
  ∀ p < 2, portUp s p = true → sentOn s t p 0x32 ((x.armId * 2 ^ 16 + x.conv) :: ctWords launch)

/-- R371: the head's record `x` is CANCELLED with the reason, recorded, raised and sent to the members. -/
abbrev cancelledAs (s t : State) (x : Cvy) (reason : Nat) : Prop :=
  (cvyFind t.cvy.head x.conv).map (fun y => (y.armId, y.st, y.reason)) = some (x.armId, 5, reason) ∧
  fget t TIME.CVY_EVT.CANCEL = 1 ∧ fget t (FLT.LAT 0x26E) = 1 ∧
  ∀ p < 2, portUp s p = true → sentOn s t p 0x33 [x.armId * 2 ^ 16 + reason * 2 ^ 8 + x.conv]

/-- Both queues of class 1 have room for the few frames that one command sends. -/
abbrev roomyOne (s : State) : Prop := (portQ s 0).q1.length ≤ 12 ∧ (portQ s 1).q1.length ≤ 12

/-- The convoy service runs at this unit: E1 is not halted, chain traffic is calm, and the gauge waits for no launch. -/
abbrev convoyRuns (s : State) : Prop :=
  halted s 1 = false ∧ ChainCalm s ∧ stage s ≠ 3 ∧ roomyOne s ∧ s.lnk.broken = [] ∧ addressed s = true ∧ noReference s

/-- `x` is the head's record of convoy `c`. -/
abbrev headHas (s : State) (c : Nat) (x : Cvy) : Prop := isHead s = true ∧ cvyFind s.cvy.head c = some x ∧ x.conv = c

/-- The port requester `rq` reaches the configuration target unhindered. -/
abbrev restUp (s : State) (rq : Nat) : Prop := fabInjected s rq = false ∧ targetDown s 0x7F = false

/-- R362, R371: entry `i` of a local or chain-wide convoy has ended with a result and reason. -/
abbrev entOver (t : State) (i result reason : Nat) : Prop :=
  fget t (TIME.ITIN_ST.RESULT i) = result ∧ fget t (TIME.ITIN_ST.REASON i) = reason ∧ (entState t i = 1 ∨ entState t i = 5) ∧
  ∀ x ∈ t.slots, x.entry ≠ i

/-- The figures of the ledger frame as its decisions find them: the frame has begun, AVAIL, DRAW and the states of the
consumers are up to date (R399). -/
def frameFigures (s : State) (work : Nat) (rm : List (Nat × Nat)) (pm : List (Nat × Nat × Nat)) : State :=
  let b := (frameBegin s 0 work).1
  updateClaims (updateAvail { b with ldg := { b.ldg with frame := b.ldg.frame + 1 } }) rm pm

/-- No source has more claimed than is available. -/
abbrev coveredAll (u : State) : Prop := ∀ i < u.ldg.srcs.length, srcClaim u i ≤ avail u i

/-- No feed has borrowed power to give back, and the head has no request to decide. -/
abbrev feedsQuiet (u : State) : Prop := (∀ f < 16, fgetI u (LEDG.FEED.BORROW.MW f) ≤ 0) ∧ u.ldg.resvIn = []

/-- In the figures `u` of a frame the one request before E0 is `r`, of PENDING channel `n`, due in this frame; no shed level
is to be applied, no source is overdrawn and no feed has anything to do. -/
abbrev oneDue (u : State) (n : Nat) (r : Req) : Prop :=
  u.ldg.reqs = [r] ∧ r = { kind := .chan n false, mw := r.mw, arrival := r.arrival } ∧ r.arrival < localNs u ∧ u.ldg.lvl = false ∧
  coveredAll u ∧ feedsQuiet u ∧ n < 64 ∧ chState u n = 3 ∧ (chan u n).retry = false

/-- R396: what the children of consumer `p` hold. -/
def childHold (u : State) (p : Nat) : Int :=
  ((consAll u).filter fun c => consParent u c == some p && decide (3 ≤ consSt u c)).foldl (fun n c => n + consRsv u c) 0

/-- R399: the source on which the request of channel `n` draws, and by how much its room falls short of `mw`. -/
abbrev shortBy (u : State) (n mw i : Nat) : Prop := consSrc u (consOf u n) = some i ∧ roomOf u (consCls u (consOf u n)) i < mw

/-- R395, R396, R399: the code with which the request of channel `n` for `mw` is decided at once, 0 to admit it; none where
the head has to be asked. -/
def verdict (u : State) (n mw : Nat) : Option Nat :=
  let c := consOf u n
  let i := (consSrc u c).getD 16
  if ledgMode u = 5 then some 0
  else if 128 ≤ c ∧ fget u LEDG.CFG.UNLISTED = 0 then some 3
  else if fget u LEDG.SHED.LEVEL ≠ 0 ∧ fget u LEDG.SHED.LEVEL ≤ consCls u c then some 4
  else if 128 ≤ c then some 0
  else match consParent u c with
    | some p => if childHold u p + mw ≤ consRsv u p then some 0 else some 2
    | none =>
      if (mw : Int) ≤ roomOf u (consCls u c) i then some 0
      else if (srcE u i).chain then
        if ledgMode u = 2 then (if fon u (LEDG.FEED.STAT.SYNC (srcE u i).feed) then some 8 else none)
        else if ledgMode u = 3 then some 7 else some 1
      else some 1

/-- What feed commands leave alone: every register but those of the ledger, the chain and reporting, and all other parts of
the machine that hold power. -/
abbrev feedRest (s t : State) : Prop :=
  SameBut (fun k => inBlocks [7, 9] k || repKey k) s t ∧ t.chx = s.chx ∧ t.rgs = s.rgs ∧ t.lps = s.lps ∧ t.chg = s.chg ∧
    t.pds = s.pds ∧ t.itx = s.itx ∧ t.slots = s.slots

/-- A SHARE_GEN newer than the one held, modulo 2^16. -/
abbrev newerGen (g old : Nat) : Prop := 1 ≤ (g + 65536 - old) % 65536 ∧ (g + 65536 - old) % 65536 < 32768

/-- Class 1 frames of this unit reach its ports: it has an address, both ports are up, no hop is broken, and the queues
have room. -/
abbrev sendsOne (s : State) : Prop :=
  addressed s = true ∧ portUp s 0 = true ∧ portUp s 1 = true ∧ s.lnk.broken = [] ∧ roomyOne s

/-- R428: a tag that no coach outstanding in `s` holds. -/
abbrev tagFree (s : State) (tag : Nat) : Prop := tag < 1024 ∧ ∀ x ∈ s.fab.coaches, x.tag ≠ tag

/-- The oldest coach at target port `p` is `c`, of an engine or block that still takes its completion, and no request waits
for a tag. -/
abbrev oldestAt (s : State) (p : Nat) (c : Coach) : Prop :=
  (s.fab.coaches.find? fun x => x.port == p) = some c ∧ requesterGone s c.rq = false ∧ s.fab.stalled = []

/-- The keys of the fabric's block and of reporting. -/
def fabKeys (k : Nat) : Bool := inBlocks [0xA] k || repKey k

/-- R451, R454: sequence `q` starts if it is triggered: enabled, idle, its converter READY. -/
abbrev adcCan (s : State) (q : Nat) : Prop := fon s (ADC.SEQ.CFG.EN q) = true ∧ adcIsReady s (q / 4) = true ∧ adcSt s q = 0

/-- R454: a triggered start of sequence `q` is lost. -/
abbrev adcLoses (s : State) (q : Nat) : Prop :=
  fon s (ADC.SEQ.CFG.EN q) = true ∧ (adcIsReady s (q / 4) = false ∨ adcSt s q ≠ 0)

/-- R451, R453, R454: the sequences of `l` have been triggered together. -/
abbrev adcTriggers (s t : State) (l : List Nat) : Prop :=
  ∀ q ∈ l, (adcCan s q → adcSt t q ≠ 0 ∧
      (adcRunning s (q / 4) = none → (∀ p < q, 4 * (q / 4) ≤ p → adcSt s p ≠ 3 ∧ adcSt s p ≠ 1 ∧ (p ∈ l → ¬ adcCan s p)) →
        adcSt t q = 2 ∧ (fget s (ADC.SEQ.STAT.ENTRY q) = 0 → fget t (ADC.SEQ.START_CT_LO.CT q) = served t % 2 ^ 32))) ∧
    (adcLoses s q → fget t (ADC.SEQ.EVT.OVR q) = 1 ∧ fget t (ADC.SEQ.CNT.OVR q) = min 65535 (fget s (ADC.SEQ.CNT.OVR q) + 1) ∧
      (Reports s (0x23E + q / 4) → fget t (FLT.LAT (0x23E + q / 4)) = 1))

/-- The keys of the converters, and of reporting. -/
def adcKeys (k : Nat) : Bool := inBlocks [0xB] k || repKey k

/-- R460: an event of general comparator `k` at `ct`. -/
abbrev cmpEvented (s t : State) (k ct : Nat) : Prop :=
  fget t (CMP.GEN.STAT.LATCH k) = 1 ∧ fget t (CMP.GEN.CNT.EVENTS k) = min 65535 (fget s (CMP.GEN.CNT.EVENTS k) + 1) ∧
  (fon s (CMP.GEN.CFG.CAPEN k) = true → fget t (CMP.GEN.STAT.CAPV k) = 1 ∧ fget t (CMP.GEN.CAP_LO.CT k) = ct % 2 ^ 32 ∧
    fget t (CMP.GEN.CAP_HI.CT k) = ct / 2 ^ 32 % 2 ^ 32 ∧ (fon s (CMP.GEN.STAT.CAPV k) = true → fget t (CMP.GEN.STAT.CAP_OVR k) = 1)) ∧
  (fon s (CMP.GEN.CFG.ATTN k) = true → fget t BUS.ATTN.CMP = 1) ∧ (Reports s (0x1E0 + k) → fget t (FLT.LAT (0x1E0 + k)) = 1)

/-- R467: comparator `c` has failed a check. -/
abbrev cmpFailed (s t : State) (c : Nat) : Prop :=
  fget t (CMP.FAILMAP c) = 1 ∧ fget t CMP.CHK_STAT.CMP_IDX = c ∧
  (if c < 64 then fget t CMP.CHK_STAT.SC = 1 else if c < 112 then fget t CMP.CHK_STAT.MON = 1 else fget t CMP.CHK_STAT.GEN = 1) ∧
  (Reports s (cmpClass c).2 → fget t (FLT.LAT (cmpClass c).2) = 1)

/-- Charger commands are carried out: its target is not down, CFG.EN is 1 and step 5 of R50 has been reached. -/
abbrev chgUp (s : State) : Prop := targetDown s 0x50 = false ∧ fon s CHG.CFG.EN = true ∧ s.start.running = true

/-- A request to charge, or to charge more. -/
def isCharge (k : ReqKind) : Bool := isChgReq k && k != .support

/-- The keys of the charger, of the fabric and of reporting. -/
def chgKeys (k : Nat) : Bool := inBlocks [0xA, 0xD] k || repKey k

/-- R491, R502: the command with number `cmd` is not allowed in the present state of the charger. -/
def chgBars (s : State) (cmd : Nat) : Bool :=
  let st := chgState s
  let none := fget s CHG.PACK.CELLS == 0
  !fon s CHG.CFG.EN || !s.start.running ||
    match cmd with
    | 1 => st != 0 || none && !fon s CHG.CFG.HOLD_EN
    | 2 => st == 0 || st == 0xD
    | 3 => none || st == 0xD
    | 4 => none || [0xA, 0xB, 0xC, 0xD].contains st
    | 5 => none || st == 0xD
    | 6 => st == 0xD
    | 7 => !fon s CHG.STAT.SUP_ARMED || [0xA, 0xB, 0xC, 0xD].contains st
    | 8 => st != 0xC
    | _ => st != 0xA

/-- R491: the charger that was not allowed to do as commanded: ILLEGAL_STATE and no effect. -/
abbrev chgBarred (s t : State) : Prop :=
  t.comp = ⟨stIllegal, []⟩ ∧ t.chg = s.chg ∧ t.ldg = s.ldg ∧ SameBut (inBlocks [0xA]) s t

/-- R491: the charger stands in PENDING with its request for R(I_T) the last before E0, and no other to charge. -/
abbrev chgAsks (s t : State) : Prop :=
  chgState t = 2 ∧ lastReq t = some { kind := .charge s.chg.it true, mw := fget s CHG.LEDG.RESV_MW * s.chg.it / min 12000 (fget s CHG.ICHG.ICC_MA), arrival := localNs s } ∧
  (t.ldg.reqs.filter fun r => isCharge r.kind).length = 1

/-- No request to charge is outstanding before E0. -/
abbrev chgAsksNothing (t : State) : Prop := ∀ r ∈ t.ldg.reqs, isCharge r.kind = false

/-- R500: support has ended in state `st`; `armed` says whether it stays armed. -/
abbrev supEndsIn (s t : State) (st : Nat) (armed : Bool) : Prop :=
  chgState t = st ∧ fget t CHG.EVT.SUP_END = 1 ∧ supBarred t = true ∧ chgAsksNothing t ∧
  if armed then fget t CHG.STAT.SUP_ARMED = fget s CHG.STAT.SUP_ARMED ∧ t.ldg.sup = s.ldg.sup
  else fget t CHG.STAT.SUP_ARMED = 0 ∧ t.ldg.sup = 0 ∧ ∀ r ∈ t.ldg.reqs, isChgReq r.kind = false

/-- R499: support has started. -/
abbrev supStarted (s t : State) : Prop :=
  chgState t = 0xC ∧ fget t CHG.EVT.SUP_START = 1 ∧ fget t CHG.CNT.SUP = min 255 (fget s CHG.CNT.SUP + 1) ∧
  t.chg.supAt = localNs s ∧ chgAsksNothing t ∧ fget t CHG.STAT.REF = 0

/-- R491: the state that the charge cycle reaches at event `e`, of those that ask for nothing. -/
def phaseTo (s : State) (e : ChgEvent) : Nat :=
  let st := chgState s
  let top := if fon s CHG.STAT.REF then max (min 120 (fget s CHG.TERM.TOPOFF_MIN)) (fget s GAUGE.REF.TOPOFF_REF) else min 120 (fget s CHG.TERM.TOPOFF_MIN)
  match e with
  | .preReached => if st = 4 then 5 else st
  | .cvReached => if st = 5 then 6 else st
  | .terminated => if st = 6 then (if top = 0 then 8 else 7) else st
  | .topoffDone => if st = 7 then 8 else st
  | .tempOut => if 2 ≤ st ∧ st ≤ 7 then 9 else st
  | .inputLost => if chgPick s = 0 ∧ 2 ≤ st ∧ st ≤ 7 then 9 else st
  | _ => st

/-- R491: event `e` takes the charger to PENDING. -/
abbrev phaseAsks (s : State) (e : ChgEvent) : Prop :=
  (e = .recharge ∧ chgState s = 8) ∨ (e = .tempBack ∧ chgState s = 9 ∧ chgPick s ≠ 0) ∨
  (e = .inputBack ∧ chgState s = 9 ∧ s.chg.tempOut = false ∧ chgPick s ≠ 0)

/-- R497: the identity that a pack must show matches `id`. -/
abbrev idFits (s : State) (id : Nat) : Prop :=
  if fget s CHG.PACK.ID_EXP = 0xF then s.chg.learned = none ∨ s.chg.learned = some id else fget s CHG.PACK.ID_EXP = id

/-- R523, R152: the time that the gauge frame about to run takes in. -/
abbrev gaugeDt (s : State) : Nat := if (frame s 4).ran then (frameStart s 4).2 - (frame s 4).start else 0

/-- The gauge frame runs, and nothing that it may raise is fatal. -/
abbrev gaugeTurn (s : State) : Prop :=
  frameRuns s 4 = true ∧ fon s GAUGE.STAT.RUN = true ∧ CalmIn s 0x246 5 ∧ CalmIn s 0x23A 4 ∧ severity s 0x261 ≠ 3 ∧ stage s ≠ 3

/-- R523 step 2: SoC once the charge since the last frame has been counted, kept within 0 to 100. -/
def gaugeSoc (s : State) : Nat :=
  let x := f32Add s.gau.soc (f32Mul (f32OfRat 100 1) (f32Div (f32OfRat (s.gau.acc - s.gau.accPrev) 3600000) s.gau.qmax))
  if f32Lt x (f32OfRat 0 1) then f32OfRat 0 1 else if f32Lt (f32OfRat 100 1) x then f32OfRat 100 1 else x

/-- R529: UNC after a frame of `dt` ns; R524: the fallback `fb` doubles the first term. -/
def gaugeUnc (s : State) (dt : Nat) (fb : Bool) : Nat :=
  let rate := f32OfRat (fget s GAUGE.UNC_CFG.RATE) 1000
  let byTime := f32Mul (if fb then f32Mul (f32OfRat 2 1) rate else rate) (f32OfRat (dt : Nat) (3600 * 10 ^ 9))
  let byCharge := f32Mul (f32OfRat (fget s GAUGE.UNC_CFG.GERR) 100) (f32Div (f32OfRat ((s.gau.acc - s.gau.accPrev).natAbs : Nat) 3600000) s.gau.qmax)
  let x := f32Add (f32Add s.gau.unc byTime) byCharge
  if f32Lt (f32OfRat 100 1) x then f32OfRat 100 1 else x

/-- The register shows `k` times the binary32 number `b`, rounded to one of the two whole numbers around it. -/
abbrev shows (v b k : Nat) : Prop :=
  v = min 65535 ((f32Order b).toNat * k / 2 ^ 149) ∨ v = min 65535 ((f32Order b).toNat * k / 2 ^ 149 + 1)

/-- No reference point arises in the frame: no termination, and no rest. -/
abbrev noPoint (s : State) : Prop := s.gau.term = false ∧ s.gau.full = false ∧ s.gau.restNow = false ∧ s.gau.idle = none

/-- R524: the thermistor voltage gives a temperature in range. -/
abbrev warmEnough (s : State) (uv : Nat) : Prop := -640 ≤ Config.thermistor uv (fget s CHG.TEMP.BETA) ∧ Config.thermistor uv (fget s CHG.TEMP.BETA) ≤ 1600

/-- R530: a request is due at the uncertainty `unc` and the local time `now`. -/
abbrev refDue (s : State) (unc now : Nat) : Prop :=
  f32Le (f32OfRat (fget s GAUGE.UNC_LIM.UNC_REQ) 100) unc = true ∧ fon s GAUGE.CFG.REQ_EN = true ∧ fon s CHG.CFG.EN = true ∧
  fon s CHG.STAT.PACK_GONE = false ∧ chgState s < 0xA ∧
  (∀ x ∈ s.gau.reqAt, x + max 1 (fget s GAUGE.REF.REQ_HOLD) * 3600 * 10 ^ 9 ≤ now)

/-- R530: the entry named for requests is as the rule wants it, and can be activated. -/
abbrev refEntry (s : State) : Prop :=
  let i := fget s GAUGE.REF.REFENT
  fon s (ITIN.W3.EN i) = false ∧ fget s (ITIN.W2.ACT i) = 0x20 ∧ fget s (ITIN.W2.TGT i) = 0x98 ∧ fget s (ITIN.W2.ARG i) / 4096 = 4 ∧
  entValid (itinWord s i 1) (itinWord s i 2) (itinWord s i 3 + 2 ^ 31) = true

/-- R533: a record write may begin at the supply voltage `mv`. -/
abbrev recMay (s : State) (mv : Nat) : Prop :=
  s.gau.writing = none ∧ s.jrn.present = true ∧ fget s GAUGE.LEARN.WR_FLOOR_MV ≤ mv ∧ fon s (FLT.RAW 0x253) = false

/-- The keys of the gauge, its frame, time and reporting. -/
def gaugeKeys (k : Nat) : Bool := inBlocks [0x8, 0xE, 0x16] k || repKey k

/-- Port commands are carried out: the port's target is not down and step 5 of R50 has been reached. -/
abbrev pdUp (s : State) (n : Nat) : Prop := targetDown s (0x52 + n) = false ∧ s.start.running = true

/-- R546: the Type-C level of an Rp code, ceil(5,000 mV x I / EFF). -/
def rpLevel (s : State) (n rp : Nat) : Nat :=
  let e := min 1000 (max 500 (fget s (PD.CFG.EFF n)))
  (5000 * (if rp = 3 then 3000 else if rp = 2 then 1500 else 900) + e - 1) / e

/-- No request of port `n` is outstanding before E0. -/
abbrev pdAsksNothing (t : State) (n : Nat) : Prop := ∀ r ∈ t.ldg.reqs, isPortReq n r.kind = false

/-- Port `n` has asked E0 for `mw` for the purpose `ask`, and for nothing else. -/
abbrev pdAsks (s t : State) (n ask mw : Nat) : Prop :=
  lastReq t = some { kind := .port n ask, mw := mw, arrival := localNs s } ∧ (t.ldg.reqs.filter fun r => isPortReq n r.kind).length = 1

/-- R545: port `n` stands in a state `st` in which VBUS is off, with all that ends there. -/
abbrev pdOff (t : State) (n st : Nat) : Prop :=
  pdState t n = st ∧ (pdX t n).resv = 0 ∧ (pdX t n).sinkMw = 0 ∧ (pdX t n).sinkOn = false ∧ pdAsksNothing t n ∧
  ∀ f ∈ [PD.STAT.CONTRACT n, PD.STAT.PPS n, PD.STAT.VCONN n, PD.STAT.MUX n, PD.STAT.HPD n, PD.STAT.CABLE_5A n, PD.CONTR.V n, PD.CONTR.I n, PD.CABLE.VDO n], fget t f = 0

/-- The message that port `n` has sent last. -/
abbrev pdSent (t : State) (n : Nat) (m : PdMsg) : Prop := (pdX t n).sent = some m

/-- The keys of the ports, of the fabric and of reporting. -/
def pdKeys (k : Nat) : Bool := inBlocks [0xA, 0xF] k || repKey k

/-- A port command that is not allowed: ILLEGAL_STATE and no effect. -/
abbrev pdBarred (s t : State) : Prop := t.comp = ⟨stIllegal, []⟩ ∧ t.pds = s.pds ∧ t.ldg = s.ldg ∧ SameBut (inBlocks [0xA]) s t

/-- R424: the epoch of port `n`'s target has moved and the target is down. -/
abbrev pdEpoch (s t : State) (n : Nat) : Prop :=
  targetDown t (0x52 + n) = true ∧ fget t (FAB.TGT.EPOCH (0x52 + n)) = (fget s (FAB.TGT.EPOCH (0x52 + n)) + 1) % 16

/-- R555: what a Hard Reset ends on port `n`. -/
abbrev pdReset (s t : State) (n : Nat) : Prop :=
  pdEpoch s t n ∧ fget t (PD.STAT.CONTRACT n) = 0 ∧ fget t (PD.STAT.MUX n) = 0 ∧
  fget t (PD.CNT.HRST n) = min 255 (fget s (PD.CNT.HRST n) + 1) ∧ (pdX t n).sinkMw = 0

/-- R558: what stands of port `n` after a Hard Reset in SWAP. -/
abbrev pdUnswapped (s t : State) (n : Nat) : Prop :=
  fget t (PD.EVT.SWAP_ABORT n) = 1 ∧
  if (pdX s n).partner = some false then pdState t n = 3 ∧ pdAsks s t n 1 (rpLevel s n (fget s (PD.CFG.RP_DEF n)))
  else pdState t n = 5 ∧ (pdX t n).resv = 0 ∧ pdAsksNothing t n

/-- R548, R549: Source_Capabilities has gone out with the PDOs up to the first zero word, within the cap, the rating, the
cable and, where reduced, the reservation. -/
abbrev pdCapsSent (t : State) (n : Nat) : Prop :=
  ∃ l ∈ [pdOffer t n], pdSent t n (.sourceCaps l) ∧ l.length = (((List.range 7).map fun k => fget t (PD.PDO.PDO n k)).takeWhile (· != 0)).length ∧
    ∀ o ∈ l, pdoMv o * pdoMa o ≤ min (fget t (PD.CAP.CAP_W n)) (min 100 (fget t (PD.CAP.PORT_W n))) * 1000000 ∧
      pdoMa o ≤ (if fon t (PD.STAT.CABLE_5A n) then 5000 else 3000) ∧
      ((pdX t n).reduced = true → pdoMv o * pdoMa o ≤ (pdX t n).resv * pdEff t n)

/-- R553: a trip of port `n`: RECOVERY, or LATCHED where it is one too many within 10 s. -/
abbrev pdTripped (s t : State) (n : Nat) (f : Fld) (src : Nat) : Prop :=
  let k := ((pdX s n).trips.filter fun x => decide (localNs s ≤ x + 10000000000)).length + 1
  fget t f = 1 ∧ fget t (PD.CNT.TRIPS n) = min 255 (fget s (PD.CNT.TRIPS n) + 1) ∧ (Reports s (0x22C + 4 * n + src) → fget t (FLT.LAT (0x22C + 4 * n + src)) = 1) ∧
  if fget s (PD.PROT.LATCH_N n) ≠ 0 ∧ fget s (PD.PROT.LATCH_N n) ≤ k then
    pdOff t n 9 ∧ fget t (PD.EVT.LATCH n) = 1 ∧ (Reports s (0x22C + 4 * n + 3) → fget t (FLT.LAT (0x22C + 4 * n + 3)) = 1)
  else pdOff t n 7

/-- R552: a Fixed PDO that PD1 as sink may ask for. -/
abbrev pdSuits (s : State) (w : Nat) : Prop :=
  pdoFixed w = true ∧ fget s (PD.SNK.VMIN 1) * 100 ≤ pdoMv w ∧ pdoMv w ≤ fget s (PD.SNK.VMAX 1) * 100

/-- R574: the whole content of the safe state, entered from `s`. -/
abbrev inSafe (s t : State) : Prop :=
  safe t = true ∧ t.start.pair = .fatal ∧ t.start.pwmHiZ = true ∧ t.slots = [] ∧ stage t = stage s ∧
  (∀ n < 64, chState t n = 0xD ∧ (chan t n).kept = (fon s (FLT.SAFE_KEEP n) && fon s (CHN.CFG.PRIV_ACT n) && chDriven s n)) ∧
  (∀ l < 4, loopState t l = 8) ∧ (∀ r < 8, regState t r = 7) ∧ chgState t = 0xD ∧ fget t CHG.STAT.SUP_ARMED = 0 ∧ t.ldg.sup = 0 ∧
  (∀ n < 2, pdState t n = 0xA ∧ fget t (PD.STAT.CONTRACT n) = 0 ∧ fget t (PD.STAT.MUX n) = 0 ∧ (pdX t n).sinkMw = 0 ∧ (pdX t n).sinkOn = false) ∧
  (∀ q < 16, fget t (SEQ.STAT.STATE q) ≠ 1) ∧ t.flt.rstArmed = fon s FLT.CFG.FATAL_ACT

/-- R573: FIRST holds source `i` at the time served, unless it was valid before. -/
abbrev firstIs (s t : State) (i : Nat) : Prop :=
  if fon s FLT.FIRST.VALID then fget t FLT.FIRST.INDEX = fget s FLT.FIRST.INDEX ∧ fget t FLT.FIRST_CT_LO.CT = fget s FLT.FIRST_CT_LO.CT
  else fget t FLT.FIRST.VALID = 1 ∧ fget t FLT.FIRST.INDEX = i ∧ fget t FLT.FIRST_CT_LO.CT = served s % 2 ^ 32 ∧ fget t FLT.FIRST_CT_HI.CT = served s / 2 ^ 32 % 2 ^ 32

/-- R569: what LAST records of a raise. -/
abbrev lastIs (t : State) (i sev : Nat) (inj brk : Bool) : Prop :=
  fget t FLT.LAST.INDEX = i ∧ fget t FLT.LAST.SEV = sev ∧ fget t FLT.LAST.INJ = b2n inj ∧ fget t FLT.LAST.BRK = b2n brk

/-- R572: the contained reactions that registers show. -/
abbrev reacted (s t : State) : Prop :=
  (fon s FLT.CFG.CONT_ATTN = true → fget t BUS.ATTN.FAULT = 1) ∧
  (let c := fget s FLT.CFG.CONT_SHED
   fget t LEDG.SHED.LEVEL = if c = 0 ∨ (1 ≤ shedLevel s ∧ shedLevel s ≤ c) ∨ fget s LEDG.STAT.MODE = 5 then shedLevel s else c)

/-- R576: a collector self-fault outside the safe state. -/
abbrev selfFaulted (s t : State) (inj : Bool) : Prop :=
  inSafe s t ∧ fget t FLT.EVT.SELF = 1 ∧ fget t FLT.EVT.FATAL = 1 ∧ fget t (FLT.LAT 0x27F) = 1 ∧ firstIs s t 0x27F ∧
  (severity s 0x261 = 0 → lastIs t 0x27F 3 inj false)

/-- R583: an injection or force has been recorded and nothing else has stopped it. -/
abbrev injected (t : State) : Prop := t.comp = ⟨stOk, []⟩ ∧ fget t FLT.EVT.INJ = 1

/-- R583: the word names KEY and INJ_EN is 1. -/
abbrev injMay (s : State) (rq : Nat) (key : BitVec 16) : Prop := restUp s rq ∧ fon s FLT.CFG.INJ_EN = true ∧ key.toNat = 0x3C96

/-- R583: a word of INJ or FORCE that has been turned away. -/
abbrev injBarred (rq : Nat) (s t : State) : Prop := t.comp = ⟨stIllegal, []⟩ ∧ t.flt = s.flt ∧ SameBut (recKeys rq) s t

/-- A raise may send a summary and drop it, and nothing fatal comes of that; the unit is not in Evening. -/
abbrev quietSum (s : State) : Prop := severity s 0x261 ≠ 3 ∧ stage s ≠ 3

/-- R581: the two words of the fault summary. -/
def sumWords (t : State) : List Nat :=
  [fltActive t * 2 ^ 16 + stage t * 2 ^ 8 + b2n (safe t) * 4 + fltWorst t, fltGroups t]

/-- R606: neither a wake nor a Night entry is in progress. -/
abbrev stageFree (s : State) : Prop := s.pwr.waking = false ∧ s.pwr.rate = none

/-- R280: the sequences that trigger bit `b` names have started, where sequences may start at all. -/
abbrev triggered (s t : State) (b : Nat) : Prop :=
  s.start.running = true ∧ safe s = false →
    ∀ q < 16, (seqHead s q).trig.testBit b = true → (seqHead s q).count ≠ 0 → fget s (SEQ.STAT.STATE q) ≠ 1 → fget t (SEQ.EVT.STARTED q) = 1

/-- R403, R395: the shed level has been written to `c`, except in Defaults mode. -/
abbrev levelled (s t : State) (c : Nat) : Prop := fget s LEDG.STAT.MODE ≠ 5 → shedLevel t = c

/-- R604: the unit wakes with the cause of the unit. -/
abbrev wakes (s t : State) (cause unit : Nat) : Prop :=
  t.pwr.waking = true ∧ fget t RTC.WAKE.CAUSE = cause ∧ fget t RTC.WAKE.UNIT = unit ∧ fget t RTC.EVT.WAKE = 1 ∧ stage t = 4 ∧
  (fon s RTC.PON.WAKE = true ∧ s.pwr.storage = false → fget t RTC.STAT.PON = 1)

/-- R331: the beacon of a type with `data` leaves every port at Night rate. -/
abbrev beaconed (s t : State) (ty : Nat) (data : List Nat) : Prop :=
  t.lnk.bseq = (s.lnk.bseq + 1) % 256 ∧ ∀ p < 2, fget s (LNK.PORT.STAT.STATE p) = 3 →
    (portQ t p).beacons = (portQ s p).beacons ++ [⟨ty, myAddr s, s.lnk.bseq, data⟩] ∧ fget t (LNK.PORT.STAT.STATE p) = 3

/-- R331: the first copy of a beacon, at a port at Night rate. -/
abbrev beaconFirst (s : State) (p : Nat) (src bseq : Nat) : Prop :=
  fget s (LNK.PORT.STAT.STATE p) = 3 ∧ (addressed s = true → src ≠ myAddr s) ∧ bseq ∉ tabGet (fun _ => []) s.lnk.bseen src

/-- R331: a beacon `b` has gone on by the opposite port. -/
abbrev forwarded (s t : State) (p : Nat) (b : Beacon) : Prop :=
  fget s (LNK.PORT.STAT.STATE (1 - p)) = 3 → b ∈ (portQ t (1 - p)).beacons ∧ fget t (LNK.PORT.STAT.STATE (1 - p)) = 3

/-- R609: the calendar shows an existing instant, WDAY included. -/
abbrev calOk (s : State) : Prop :=
  dateExists (fget s RTC.DATE.YEAR) (fget s RTC.DATE.MONTH) (fget s RTC.DATE.DAY) = true ∧
  fget s RTC.TIME.HOUR < 24 ∧ fget s RTC.TIME.MIN < 60 ∧ fget s RTC.TIME.SEC < 60

/-- R609: the calendar stands at `n` seconds of the count that begins with Saturday 2000-01-01 00:00:00. -/
abbrev calAt (t : State) (n : Nat) : Prop := calOk t ∧ rtcSeconds t = n ∧ fget t RTC.DATE.WDAY = (n / 86400 + 5) % 7

/-- R612: alarm `k` of `s` is enabled and matches the calendar that `t` shows. -/
abbrev almDue (s t : State) (k : Nat) : Prop :=
  let m := fget s (RTC.ALM.MSK k)
  fon s (RTC.ALM.EN k) = true ∧ (m.testBit 3 = true ∨ fget s (RTC.ALM.DAY k) = fget t RTC.DATE.DAY) ∧ (m.testBit 2 = true ∨ fget s (RTC.ALM.HOUR k) = fget t RTC.TIME.HOUR) ∧
  (m.testBit 1 = true ∨ fget s (RTC.ALM.MIN k) = fget t RTC.TIME.MIN) ∧ (m.testBit 0 = true ∨ fget s (RTC.ALM.SEC k) = fget t RTC.TIME.SEC)

/-- R612: what a firing of alarm `k` shows. -/
abbrev almFired (s t : State) (k : Nat) : Prop :=
  fget t (if k = 0 then RTC.EVT.ALM0 else RTC.EVT.ALM1) = 1 ∧ (fon s (RTC.ALM.PON k) = true ∧ s.pwr.storage = false → fget t RTC.STAT.PON = 1) ∧
  (fon s (RTC.ALM.WAKE k) = true ∧ s.pwr.storage = false ∧ stage s = 4 → t.pwr.waking = true) ∧
  (fon s (RTC.ALM.WAKE k) = true ∧ s.pwr.storage = false ∧ stage s = 3 ∧ s.pwr.rate = none → stage t = 2)

/-- A command turned away: ILLEGAL_STATE and no effect. -/
abbrev turnedAway (rq : Nat) (s t : State) : Prop := t.comp = ⟨stIllegal, []⟩ ∧ t.pwr = s.pwr ∧ t.lnk = s.lnk ∧ t.time = s.time ∧ SameBut (recKeys rq) s t

/-- R605: a cause other than that of a received beacon sends WAKE with it. -/
abbrev wakesAll (s t : State) (cause : Nat) : Prop := wakes s t cause (myAddr s) ∧ beaconed s t 0x80 [cause, 0, 0, 0, 0, 0, 0, 0]

/-- R619, R624: the bus answers: from Dawn entry on, with VDDIO and outside Storage. -/
abbrev busUp (s : State) : Prop := s.start.dawn = true ∧ fon s TOP.SUPPLY.VDDIO = true ∧ s.pwr.storage = false

/-- R624: port 9 holds four tags or is stalled for one. -/
abbrev portFull (s : State) : Prop := 4 ≤ (s.fab.coaches.filter fun c => c.rq == 9).length ∨ ∃ e ∈ s.fab.stalled, e.1 = 9

/-- The bus takes a command. -/
abbrev busFree (s : State) : Prop := busUp s ∧ ¬ portFull s

/-- R633, R636: a transaction with this code has been addressed to the part. -/
abbrev busHeard (s t : State) (code : Nat) : Prop :=
  fget t BUS.CNT.XFER = min 65535 (fget s BUS.CNT.XFER + 1) ∧ fget t BUS.STAT.LAST_CMD = code

/-- The places of the records of a transaction, and those fields of the bus that `l` lists. -/
def busPuts (l : List Fld) (k : Nat) : Bool := ([BUS.CNT.XFER, BUS.STAT.LAST_CMD] ++ l).any fun f => fkey f == k

/-- R625: the packet error code of the bytes `sent` after the address of a write. -/
abbrev pecOf (s : State) (sent : List Nat) : BitVec 8 := BitVec.ofNat 8 (crc8 (2 * fget s BUS.STAT.ADDR :: sent))

/-- R625: a write without PEC where none is asked for, or with the right one. -/
abbrev pecPasses (s : State) (sent : List Nat) (p : Option (BitVec 8)) : Prop :=
  p = some (pecOf s sent) ∨ p = none ∧ fon s BUS.CFG.PEC_REQ = false

/-- R621, R625: the bytes of a read phase: the data and, where asked for, the PEC of all bytes of the transaction. -/
abbrev busBytes (s t : State) (pre data : List Nat) (pec : Bool) : Prop :=
  t.bus.reply.take data.length = data ∧ t.bus.reply.drop data.length =
    if pec then [crc8 (2 * fget s BUS.STAT.ADDR :: pre ++ (2 * fget s BUS.STAT.ADDR + 1) :: data)] else []

/-- R622: the pointer after `n` registers. -/
abbrev ptrPast (s t : State) (n : Nat) : Prop :=
  fget t BUS.PTR.PTR = if fon s BUS.CFG.AINC then (fget s BUS.PTR.PTR + 4 * n) % 2 ^ 24 else fget s BUS.PTR.PTR

/-- The address of register `i` from the pointer on. -/
abbrev ptrAt (s : State) (i : Nat) : Nat := (fget s BUS.PTR.PTR + 4 * i) % 2 ^ 24

/-- R627: refused as not allowed in the present stage. -/
abbrev busRefused (s t : State) : Prop :=
  fget t BUS.EVT.ILLEGAL_STATE = 1 ∧ fget t BUS.CNT.ILLEGAL = min 15 (fget s BUS.CNT.ILLEGAL + 1) ∧ fget t BUS.LAST.STATUS = 1 ∧
  SameBut (busPuts [BUS.EVT.ILLEGAL_STATE, BUS.CNT.ILLEGAL, BUS.LAST.STATUS, BUS.LAST.ADDR]) s t

/-- R627: the record of a completion that is not OK. -/
abbrev busRecorded (s t : State) (a st : Nat) : Prop := fget t BUS.LAST.STATUS = st ∧ fget t BUS.LAST.ADDR = a ∧
  if st = 1 then fget t BUS.EVT.ILLEGAL_STATE = 1 ∧ fget t BUS.CNT.ILLEGAL = min 15 (fget s BUS.CNT.ILLEGAL + 1) else fget t BUS.EVT.TGT_ERR = 1

/-- No error is injected on port 9's next access, the pointer's register and the `n - 1` after it stand on targets that are
up, and are registers that only store (and whose reads clear nothing where `rd`). -/
abbrev ptrPlain (s : State) (n : Nat) (rd : Bool) : Prop := fabInjected s 9 = false ∧
  ∀ i < n, storesOnly (ptrAt s i) = true ∧ targetDown s (addrTarget (ptrAt s i)) = false ∧
    (rd = true → (fieldsAt (ptrAt s i)).all (fun f => f.acc != .rc) = true)

/-- R628: an attention request stands. -/
abbrev asksAttention (s : State) : Prop := fon s BUS.CFG.ATTN_EN = true ∧
  ((fon s BUS.ATTN.CMP = true ∧ (fget s BUS.CFG.ATTN_MSK).testBit 0 = false) ∨
    (fon s BUS.ATTN.FAULT = true ∧ (fget s BUS.CFG.ATTN_MSK).testBit 1 = false) ∨
    (fon s BUS.ATTN.SOFT = true ∧ (fget s BUS.CFG.ATTN_MSK).testBit 2 = false))

/-- R639, R640: the pages per block, the blocks and the good ring blocks of a device. -/
abbrev devPpb (p128 : Bool) : Nat := if p128 then 128 else 64
abbrev ringBlock (blocks : Nat) (bad : List Nat) (b : Nat) : Prop := 8 ≤ b ∧ b < blocks ∧ b ∉ bad

/-- R639: the device is one that the part uses. -/
abbrev devFits (a p4k p128 : Bool) (blocks : Nat) : Prop :=
  a = true ∧ 1024 ≤ blocks ∧ blocks ≤ 32768 ∧ blocks * devPpb p128 * (if p4k then 4096 else 2048) ≤ 2 ^ 32

/-- R641: the sixteen words of the record with this SEQ, little-endian, the CRC-32C over the fifteen before it last. -/
abbrev recordWords (q : Nat) (r : JRec) (w : List Nat) : Prop :=
  w.length = 16 ∧ w.getD 0 0 = q % 2 ^ 32 ∧ w.getD 1 0 = q / 2 ^ 32 % 2 ^ 16 + r.typ % 256 * 2 ^ 16 + r.flags % 256 * 2 ^ 24 ∧
  w.getD 2 0 + 2 ^ 32 * w.getD 3 0 = r.ct % 2 ^ 64 ∧ w.getD 4 0 = r.unit % 256 + r.rep % 256 * 2 ^ 8 + r.sub % 65536 * 2 ^ 16 ∧
  w.getD 5 0 = r.event % 256 + r.code % 256 * 2 ^ 8 ∧ (∀ i < 4, w.getD (6 + i) 0 = r.vals.getD i 0 % 2 ^ 32) ∧
  (∀ i < 5, w.getD (10 + i) 0 = 0) ∧ w.getD 15 0 = crc32c ((w.take 15).flatMap (leBytes 4))

/-- The slot holds the record with this SEQ. -/
def slotIs (q : Nat) (r : JRec) : JSlot → Bool
  | .record k w => k == q && decide (recordWords q r w)
  | .torn => false

/-- The SEQ of a stored record, with its words. -/
def slotRec : JSlot → Option (Nat × List Nat)
  | .record k w => some (k, w)
  | .torn => none

/-- R646: the record with the lowest SEQ at or above `q` among `l`. -/
abbrev lowestFrom (q : Nat) (l : List JSlot) (x : Nat × List Nat) : Prop :=
  some x ∈ l.map slotRec ∧ q ≤ x.1 ∧ ∀ y ∈ l.filterMap slotRec, q ≤ y.1 → x.1 ≤ y.1

abbrev jState (s : State) : Nat := fget s JRNL.STAT.STATE
abbrev jHead (s : State) : Nat := fget64 s JRNL.HEAD_LO.SEQ JRNL.HEAD_HI.SEQ
abbrev jOldest (s : State) : Nat := fget64 s JRNL.OLDEST_LO.SEQ JRNL.OLDEST_HI.SEQ

/-- R653: OLDEST is the lowest SEQ stored in good ring blocks, 0 where there is none. -/
abbrev oldestIs (t : State) : Prop :=
  let l := (t.jrn.nand.filter fun e => decide (ringBlock (jrnlBlocks t) t.jrn.bad (e.1 / jrnlPpb t))).flatMap fun e => e.2.filterMap slotRec
  if l = [] then jOldest t = 0 else (∀ x ∈ l, x.1 < 2 ^ 48) → (∃ x ∈ l, x.1 = jOldest t) ∧ ∀ x ∈ l, jOldest t ≤ x.1

/-- R648, R424, R432: a re-initialisation has begun; the queue and the records not yet stored are kept. -/
abbrev reinitialised (s t : State) : Prop :=
  jState t = 4 ∧ targetDown t 0x54 = true ∧ fget t (FAB.TGT.EPOCH 0x54) = (fget s (FAB.TGT.EPOCH 0x54) + 1) % 16 ∧
  t.jrn.op = .reinit ∧ t.jrn.queue = s.jrn.queue ∧ t.jrn.page = s.jrn.page ∧ t.jrn.prog = s.jrn.prog ∧ t.jrn.bad = s.jrn.bad ∧
  t.jrn.reading = none ∧ (s.jrn.reading.isSome = true → fget t JRNL.RD_STAT.BUSY = 0)

/-- A port's access to the journal gets through. -/
abbrev jrnlUp (s : State) (rq : Nat) : Prop := fabInjected s rq = false ∧ targetDown s 0x54 = false

/-- No coach to the journal is outstanding, and none waits. -/
abbrev jrnlAlone (s : State) : Prop := s.fab.stalled = [] ∧ ∀ x ∈ s.fab.coaches, x.tgt ≠ 0x54

/-- R640, R645: is `n` the next good block of the ring after `b`? -/
def nextGood (s : State) (b n : Nat) : Bool := decide (ringBlock (jrnlBlocks s) s.jrn.bad n) &&
  if b < n then (List.range n).all fun k => decide (k ≤ b ∨ k < 8 ∨ k ∈ s.jrn.bad)
  else decide (n ≤ b) && (List.range (jrnlBlocks s)).all fun k => decide (k < 8 ∨ k ∈ s.jrn.bad ∨ (n ≤ k ∧ k ≤ b))

end Sys2Proof.Machine

open Sys2Proof Sys2Proof.Machine

/-- A step takes the command at the front of the queue and runs it on the state with the queue's rest (R4, ISA_SPEC: opcode table). -/
def Obligations.StepRunsFrontCommand : Prop :=
  ∀ (c : Instr) (rest : List Instr) (s : State), s.pending = c :: rest → step s = exec c { s with pending := rest }

/-- On an empty queue a step is one SYS cycle: the local timebase advances by 4 ns from Morning entry on (model's choice, assumption 2) (R10, R346, assumption 2 (DESIGN CHOICE)). -/
def Obligations.EmptyQueueLetsTimePass : Prop :=
  ∀ s : State, s.pending = [] → ∃ t, step s = .next t ∧ t.pending = [] ∧
    (stage s ≠ 0 → s.pwr.storage = false → t.time.loc = s.time.loc + 4) ∧
    SameBut (inBlocks [0x8, 0x13]) s t

/-- No command touches the queue of waiting commands (R4, R422, assumption 2 (DESIGN CHOICE)). -/
def Obligations.CommandsLeaveTheQueue : Prop :=
  ∀ (c : Instr) (s t : State), exec c s = .next t → t.pending = s.pending

/-- Every step keeps the register table and the flash in canonical form (R2, R8, R72, R87, R658). -/
def Obligations.RegisterTableAndFlashStayCanonical : Prop :=
  (∀ s t : State, s.regsWf = true → step s = .next t → t.regsWf = true) ∧
  ∀ s t : State, Memory.wf s.flash = true → step s = .next t → Memory.wf t.flash = true

/-- The state after power-on has canonical register table and flash, an empty queue and no supply (R2, R8, R38). -/
def Obligations.ResetMeetsTheInvariants : Prop :=
  State.reset.regsWf = true ∧ State.reset.pending = [] ∧ State.reset.start.t0 = false ∧ stage State.reset = 0 ∧
    safe State.reset = false ∧ Memory.wf State.reset.flash = true ∧ ∀ i, fuse State.reset i = 0

/-- A Dawn fuse bit once programmed stays 1 through every step (R630, R45). -/
def Obligations.ProgrammedFuseBitsStay : Prop :=
  ∀ (i b : Nat) (s t : State), (fuse s i).testBit b = true → step s = .next t → (fuse t i).testBit b = true

/-- A write gives each field what its access code says, leaves reserved encodings and sealed fields, and changes nothing else (R3, R4, R5, R6, R426). -/
def Obligations.WriteActsByAccessCode : Prop :=
  (∀ (rq : Fin 24) (a : Nat) (w : Word) (s : State),
      storesOnly a = true ∧ reachable s rq a →
      Completes (.registerWrite rq a w) s fun t =>
        (∀ f ∈ fieldsAt a, fget t (specFld a f) = fieldAfter s a w.toNat f) ∧
        SameBut (fun k => k / 32 == a || recKeys rq k) s t ∧
        t.comp = ⟨if sealedNow s && (fieldsAt a).any (fun f => f.acc == .sealed && bitsOf w.toNat f.hi f.lo != fget s (specFld a f))
          then stIllegal else stOk, []⟩)

/-- A read returns the fields of the register, with reserved bits zero, and clears its RC fields only (R3, R4, R173, R426). -/
def Obligations.ReadReturnsFieldsAndClearsRC : Prop :=
  (∀ (rq : Fin 24) (a : Nat) (s : State),
      storesOnly a = true ∧ reachable s rq a →
      Completes (.readClear rq a) s fun t => t.comp.status = stOk ∧ t.comp.data.length = 1 ∧
        (∀ f ∈ fieldsAt a, fget t (specFld a f) = fieldAfterRead s a f ∧
          bitsOf (t.comp.data.headD 0) f.hi f.lo = fget s (specFld a f) % 2 ^ (f.hi + 1 - f.lo)) ∧
        SameBut (fun k => k / 32 == a || inBlocks [0xA] k) s t) ∧
  (∀ (rq : Fin 24) (a b : Nat) (s : State),
      (specAt a).isSome = true ∧ reachable s rq a ∧ bitKept a b = false →
      Completes (.readClear rq a) s fun t => t.comp.status = stOk ∧ t.comp.data.length = 1 ∧
        (t.comp.data.headD 0).testBit b = false)

/-- Reserved fields read as zero, and the part ignores any value written to a reserved field (R4). -/
def Obligations.ReservedBitsOfAWriteAreIgnored : Prop :=
  (∀ (rq : Fin 24) (a b : Nat) (s : State),
      (specAt a).isSome = true ∧ reachable s rq a ∧ bitKept a b = false →
      Completes (.readClear rq a) s fun t => t.comp.status = stOk ∧ (t.comp.data.headD 0).testBit b = false) ∧
  (∀ (rq : Fin 24) (a : Nat) (w v : Word) (s : State),
      (∀ b < 32, bitKept a b = true → w.toNat.testBit b = v.toNat.testBit b) →
      exec (.registerWrite rq a w) s = exec (.registerWrite rq a v) s)

/-- From Noon on, no register write and no read changes a SEAL field (R3, R6, R84). -/
def Obligations.SealedFieldsKeepTheirValue : Prop :=
  (∀ (rq : Fin 24) (a : Nat) (w : Word) (s : State),
      (specAt a).isSome = true ∧ a ≠ 0x14 ∧ a ≠ 0x7000C ∧ a ≠ 0x120020 ∧ a ≠ 0x120024 ∧ sealedNow s = true →
      Completes (.registerWrite rq a w) s (fun t => sealedNow t = true ∧
          ∀ f ∈ fieldsAt a, f.acc = .sealed → fget t (specFld a f) = fget s (specFld a f)) ∧
        Completes (.readClear rq a) s (fun t => sealedNow t = true ∧
          ∀ f ∈ fieldsAt a, f.acc = .sealed → fget t (specFld a f) = fget s (specFld a f)))

/-- A read of a LO register takes a snapshot of HI for its requester port, and the HI read returns that snapshot (R660, R10). -/
def Obligations.SnapshotOfA64BitPair : Prop :=
  (∀ (rq : Fin 24) (a : Nat) (s : State),
      snapLo a = true ∧ (specAt a).isSome = true ∧ reachable s rq a →
      Completes (.snapshotRead rq a) s fun t => t.comp.status = stOk ∧ t.comp.data.length = 1 ∧
        tabGet (fun _ => 0) t.snap (2 ^ 24 * rq + (a + 4)) =
          (if a = 0x8000C then served s / 2 ^ 32 else tabGet fieldReset s.regs ((a + 4) * 32) % 2 ^ 32)) ∧
  (∀ (rq : Fin 24) (a : Nat) (s : State),
      4 ≤ a ∧ snapLo (a - 4) = true ∧ (specAt a).isSome = true ∧ reachable s rq a ∧
      tabGet (fun _ => 0) s.snap (2 ^ 24 * rq + a) < 2 ^ 32 →
      Completes (.snapshotRead rq a) s fun t => t.comp = ⟨stOk, [tabGet (fun _ => 0) s.snap (2 ^ 24 * rq + a)]⟩)

/-- A supply is present from its rising threshold on and until it falls below its falling threshold (R38, R39, R65, R126). -/
def Obligations.SupplyThresholds : Prop :=
  (∀ (x : SupplyPin × Nat × Nat) (mv : Nat) (s : State),
      x ∈ pins ∧ supplyOn s x.1 = false ∧ x.2.1 ≤ mv →
      Completes (.supplyRise x.1 mv) s fun t => supplyOn t x.1 = true ∧
        (x.1 = .vin48 ∨ x.1 = .vin12 ∨ x.1 = .vpack → t.start.t0 = true)) ∧
  (∀ (x : SupplyPin × Nat × Nat) (mv : Nat) (s : State),
      x ∈ pins ∧ supplyOn s x.1 = true ∧ mv < x.2.2 →
      Completes (.supplyFall x.1 mv) s fun t => supplyOn t x.1 = false) ∧
  (∀ (x : SupplyPin × Nat × Nat) (mv : Nat) (s : State),
      x ∈ pins ∧ x.2.2 ≤ mv ∧ mv < x.2.1 →
      exec (.supplyRise x.1 mv) s = .next s ∧ exec (.supplyFall x.1 mv) s = .next s)

/-- Dawn entry takes straps and fuses and puts channels in their Dawn states; PLL lock leads to Morning (R43, R44, R45, R46, R47, R48, R49, R60, R70). -/
def Obligations.DawnAndPllLock : Prop :=
  (∀ (h : Bool) (w : Fin 8) (mv : Nat) (s : State),
      s.start.t0 = true ∧ s.start.dawn = false ∧ Calm s 0x25D ∧ Calm s 0x251 ∧
      s.start.rcLost = false ∧ safe s = false →
      Completes (.dawnEntry h w mv) s fun t => stage t = 0 ∧ t.start.dawn = true ∧ t.start.locking = true ∧
        t.start.pair = .healthy false ∧ isHead t = (h && fon s TOP.SUPPLY.VDDIO) ∧
        fget t BUS.STAT.ADDR = 0x58 + (if fon s TOP.SUPPLY.VDDIO then w.val else 0) ∧
        fget t TOP.STATUS.IO_1V8 = (if mv < 2400 then 1 else 0) ∧ fget t TOP.STATUS.OTP_BAD = (if otpGood s then 0 else 1) ∧
        t.otp.used = (if otpGood s then s.otp.fuses else []) ∧
        ∀ n < 64, (chan s n).dawnLatch = false → chState s n ≠ 5 →
          chState t n = (if dawnCode t n = 2 then 4 else if dawnCode t n = 1 then 1 else 2) ∧
          fget t (CHN.CTL.MODE n) = (if dawnCode t n = 2 then 1 else 0)) ∧
  (∀ (ch : Fin 64) (s : State),
      Calm s ch ∧ s.start.applied = false ∧ (chState s ch = 4 ∨ chState s ch = 5) →
      Completes (.dawnScTrip ch) s fun t => chState t ch = 0 ∧ (chan t ch).dawnLatch = true ∧
        fget t (CHN.STAT.LATCHED ch) = 1 ∧ fget t (CHN.STAT.CAUSE ch) = 5 ∧ fget t (CHN.EVT.SC ch) = 1) ∧
  (∀ (s : State),
      s.start.dawn = true ∧ s.start.pll = false ∧ s.start.locking = true ∧ Reports s 0x252 →
      Completes .pllLockTimeout s fun t => t.start.locking = false ∧ fget t (FLT.LAT 0x252) = 1) ∧
  (∀ (s : State),
      s.start.dawn = true ∧ s.start.pll = false →
      Completes .pllLockRetry s fun t => t = { s with start := { s.start with locking := true } }) ∧
  (∀ (d : Option (Fin 3)) (s : State),
      s.start.dawn = true ∧ s.start.pll = false ∧ s.start.rcLost = false ∧ stage s = 0 →
      Completes (.morningEntry d) s fun t => stage t = 1 ∧ t.start.pll = true ∧ t.time.loc = 0 ∧
        match d with
        | some v => fget t CFG.STATUS.DENSITY = v.val + 1
        | none => fget t CFG.STATUS.FLASH_BAD = 1 ∧ fget t CFG.STATUS.A_RES = 0xD ∧ fget t CFG.STATUS.B_RES = 0xD ∧
            fget t TOP.STATUS.CFG_DEFAULTS = 1)

/-- A slot's result decides what is applied; the engines start; Noon is entered, or its timeout acts (R50, R53, R54, R55, R64, R79, R80, R84, R91). -/
def Obligations.SlotsEnginesAndNoon : Prop :=
  (∀ (b : Bool) (s : State),
      stage s = 1 ∧ s.start.applied = false ∧ s.start.cands.head? = some b ∧ (slotCheck s b).result = 1 →
      Completes (.slotCheckDone b false) s fun t => t.start.applied = true ∧
        fget t (if b then CFG.STATUS.B_RES else CFG.STATUS.A_RES) = 1 ∧ fget t TOP.STATUS.SLOT = (if b then 1 else 0) ∧
        fget t CFG.APPLIED.GEN = (slotCheck s b).gen % 2 ^ 32) ∧
  (∀ (b : Bool) (s : State),
      stage s = 1 ∧ s.start.applied = false ∧ s.start.cands.head? = some b →
      Completes (.slotCheckDone b true) s fun t =>
        fget t (if b then CFG.STATUS.B_RES else CFG.STATUS.A_RES) = 0xD ∧ fget t CFG.FAIL.SLOT = (if b then 1 else 0) ∧
        fget t CFG.FAIL.SEC_INDEX = 0x7FF ∧ t.start.cands = s.start.cands.drop 1 ∧
        (s.start.cands.drop 1 = [] → t.start.applied = true ∧ fget t TOP.STATUS.CFG_DEFAULTS = 1)) ∧
  (∀ (s : State),
      stage s = 1 ∧ s.start.applied = true ∧ s.start.running = false →
      Completes .enginesStart s fun t => t.start.running = true ∧ (∀ e < 8, fget t (ENG.STAT.STATE e) = 1) ∧
        (∀ p < 2, fget t (LNK.PORT.STAT.STATE p) = 1) ∧ (isHead s = true → addressed t = true ∧ myAddr t = 0)) ∧
  (∀ (s : State),
      stage s = 1 ∧ s.start.running = true ∧ addressed s = true ∧ (fget s TIME.STAT.STATE = 2 ∨ fget s TIME.STAT.STATE = 4) ∧
      ledgMode s = 2 →
      Completes .noonEntry s fun t => stage t = 2 ∧ sealedNow t = true) ∧
  (∀ (s : State),
      stage s = 1 ∧ s.start.running = true ∧ fget s TOP.NOON.TIMEOUT ≠ 0 ∧ fon s TOP.NOON.SOLO_EN = true →
      Completes .noonTimeout s fun t => stage t = 2 ∧ sealedNow t = true ∧ fget t TOP.STATUS.SOLO = 1) ∧
  (∀ (s : State),
      stage s = 1 ∧ s.start.running = true ∧ fget s TOP.NOON.TIMEOUT ≠ 0 ∧ fon s TOP.NOON.SOLO_EN = false ∧ Reports s 0x254 →
      Completes .noonTimeout s fun t => stage t = 1 ∧ fget t TOP.STATUS.NOON_LATE = 1 ∧ fget t (FLT.LAT 0x254) = 1)

/-- Each reset enters Dawn anew, records its source and preserves what R61 and R60 name (R43, R60, R61, R66, R67, R329, R424, R506, R575). -/
def Obligations.ResetsPreserveAndRecord : Prop :=
  (∀ (s : State),
      Completes .brownOut s fun t => (∀ i < 6, fget t ⟨0x10, i, i⟩ = if i = 0 then 1 else 0) ∧
        (∀ k < 0x5D, fget t (FAB.TGT.EPOCH k) = 0) ∧ stage t = 0 ∧ t.start.dawn = false ∧ (∀ n < 64, chState t n = 0) ∧ storesKept s t) ∧
  (∀ (ns : Nat) (s : State),
      s.start.t0 = true ∧ fon s TOP.SUPPLY.VDDIO = true ∧ 1000 ≤ ns →
      Completes (.rstNReset ns) s fun t => resetLeaves 1 s t ∧ storesKept s t) ∧
  (∀ (ns : Nat) (s : State),
      ns < 200 →
      exec (.rstNReset ns) s = .next s) ∧
  (∀ (rq : Fin 24) (s : State),
      reachable s rq 0x14 ∧ (rq.val ≠ 9 ∨ stage s ≠ 0) →
      Completes (.softwareReset rq 0xA5C3 true) s fun t => resetLeaves 2 s t ∧ storesKept s t) ∧
  (∀ (rq : Fin 24) (k : BitVec 16) (s : State),
      reachable s rq 0x14 ∧ (rq.val ≠ 9 ∨ stage s ≠ 0) ∧ k ≠ 0xA5C3 →
      Completes (.softwareReset rq k true) s fun t => t.comp = ⟨stOk, []⟩ ∧ t.start = s.start ∧
        SameBut (inBlocks [0xA]) s t) ∧
  (∀ (p : Fin 2) (bc : Bool) (s : State),
      fon s LNK.CFG.RST_EN = true →
      Completes (.resetRx p 0xA5C3 bc) s fun t => resetLeaves 3 s t ∧ storesKept s t) ∧
  (∀ (s : State),
      safe s = true ∧ s.flt.rstArmed = true ∧ s.start.rcLost = false ∧ fget s FLT.STAT.RSTS < fget s FLT.CFG.RST_MAX →
      Completes .faultCollectorReset s fun t => resetLeaves 4 s t ∧ storesKept s t ∧
        fget t FLT.STAT.RSTS = 1 + (if keyRetained (fkey FLT.STAT.RSTS) then fget s FLT.STAT.RSTS else 0)) ∧
  (∀ (s : State),
      s.pwr.storage = true ∧ fon s TOP.SUPPLY.CHG_IN = true →
      Completes .storageExitReset s fun t => (∀ i < 6, fget t ⟨0x10, i, i⟩ = if i = 5 then 1 else 0) ∧
        stage t = 0 ∧ t.pwr.storage = false ∧ (∀ n < 64, chState t n = 0) ∧ storesKept s t)

/-- Lockstep mismatch, missing clock and low supply raise their sources; a load window updates LOAD and PEAK (R12, R14, R15, R28, R59, R424, R434). -/
def Obligations.EnginesClocksAndSupplyFaults : Prop :=
  (∀ (e : Fin 4) (s : State),
      fget s (ENG.STAT.STATE e) = 1 ∧ Reports s (0x242 + e) →
      Completes (.lockstepMismatch e) s fun t => fget t (ENG.STAT.STATE e) = 2 ∧ targetDown t (0x55 + e) = true ∧
        fget t (FLT.LAT (0x242 + e)) = 1) ∧
  (∀ (d : ClockDomain) (s : State),
      clockWatched s d = true ∧ Reports s (clockSource d) →
      Completes (.missingClock d) s fun t => fget t (FLT.LAT (clockSource d)) = 1) ∧
  (∀ (d : ClockDomain) (s : State),
      clockWatched s d = false →
      exec (.missingClock d) s = .next s) ∧
  (∀ (mv : Nat) (s : State),
      s.start.dawn = true ∧ mv < 4600 ∧ Reports s 0x253 →
      Completes (.supplyLow mv) s fun t => fget t (FLT.LAT 0x253) = 1 ∧ ∀ x ∈ pins, supplyOn t x.1 = supplyOn s x.1) ∧
  (∀ (l : List Nat) (s : State),
      Completes (.loadWindowEnd l) s fun t => (∀ e < 8, fget t (ENG.STAT.LOAD e) = min (l.getD e 0) 100 ∧
          fget t (ENG.PEAK.LOAD_PEAK e) = max (fget s (ENG.PEAK.LOAD_PEAK e)) (min (l.getD e 0) 100)) ∧
        SameBut (fun k => decide (0x160100 ≤ k / 32 ∧ k / 32 < 0x160300)) s t ∧ t = { s with regs := t.regs })

/-- In Noon OPEN claims the update session, its holder's commands begin with BUSY set, and CLOSE or the timeout end it (R85, R86, R87, R94, R95). -/
def Obligations.UpdateSessionAndCommands : Prop :=
  (∀ (rq : Fin 24) (b : Bool) (s : State),
      updReady s rq ∧ (fon s CFG.UPD_STAT.OPEN = false ∨ fget s CFG.UPD_STAT.OWNER = rq) →
      Completes (.updOpen rq b) s fun t => t.comp = ⟨stOk, []⟩ ∧ fget t CFG.UPD_STAT.OPEN = 1 ∧
        fget t CFG.UPD_STAT.OWNER = rq ∧ t.flash = s.flash ∧
        fon t CFG.UPD_STAT.TARGET = (if fon s TOP.STATUS.CFG_DEFAULTS then b else !fon s TOP.STATUS.SLOT)) ∧
  (∀ (rq : Fin 24) (s : State),
      updReady s rq ∧ updHolder s rq →
      Completes (.updClose rq) s fun t => t.comp = ⟨stOk, []⟩ ∧ fget t CFG.UPD_STAT.OPEN = 0 ∧
        fget t CFG.UPD_STAT.OWNER = 0xFF) ∧
  (∀ (rq : Fin 24) (s : State),
      updReady s rq ∧ updHolder s rq ∧ updInside s ∧
      fget s CFG.UPD_ADDR.OFFSET % 256 = 0 →
      Completes (.updErase rq 0x6B1D) s fun t => t.comp = ⟨stOk, []⟩ ∧ fget t CFG.UPD_STAT.BUSY = 1 ∧
        t.img.upd = some ⟨3, 256 * fget s CFG.UPD_ADDR.OFFSET, []⟩ ∧ t.flash = s.flash) ∧
  (∀ (rq : Fin 24) (s : State),
      updReady s rq ∧ updHolder s rq ∧ updInside s →
      Completes (.updProgram rq 0x6B1D) s fun t => t.comp = ⟨stOk, []⟩ ∧ fget t CFG.UPD_STAT.BUSY = 1 ∧
        t.img.upd = some ⟨4, 256 * fget s CFG.UPD_ADDR.OFFSET, (List.range 64).flatMap fun i => leBytes 4 (fget s (CFG.UPD_BUF.DATA i))⟩ ∧ t.flash = s.flash) ∧
  (∀ (rq : Fin 24) (s : State),
      updReady s rq ∧ updHolder s rq ∧ updInside s →
      Completes (.updRead rq) s fun t => t.comp = ⟨stOk, []⟩ ∧ fget t CFG.UPD_STAT.BUSY = 1 ∧
        t.img.upd = some ⟨5, 256 * fget s CFG.UPD_ADDR.OFFSET, []⟩ ∧ t.flash = s.flash) ∧
  (∀ (rq : Fin 24) (s : State),
      updReady s rq ∧ updHolder s rq →
      Completes (.updVerify rq) s fun t => t.comp = ⟨stOk, []⟩ ∧ fget t CFG.UPD_STAT.BUSY = 1 ∧
        t.img.upd = some ⟨6, 256 * fget s CFG.UPD_ADDR.OFFSET, []⟩ ∧ t.flash = s.flash) ∧
  (∀ (rq : Fin 24) (k : BitVec 16) (s : State),
      updReady s rq ∧ updHolder s rq ∧ k ≠ 0x6B1D →
      Completes (.updErase rq k) s (fun t => fget t CFG.UPD_STAT.ERR = 4 ∧ t.img = s.img ∧ t.flash = s.flash) ∧
        Completes (.updProgram rq k) s (fun t => fget t CFG.UPD_STAT.ERR = 4 ∧ t.img = s.img ∧ t.flash = s.flash)) ∧
  (∀ (rq : Fin 24) (b : Bool) (k : BitVec 16) (c : Instr) (s : State),
      stage s ≠ 2 ∧ reachable s rq 0x10020 ∧
      (c = .updOpen rq b ∨ c = .updClose rq ∨ c = .updErase rq k ∨ c = .updProgram rq k ∨ c = .updRead rq ∨ c = .updVerify rq) →
      Completes c s fun t => t.comp = ⟨stIllegal, []⟩ ∧ t.img = s.img ∧ t.flash = s.flash ∧ SameBut (recKeys rq) s t) ∧
  (∀ (s : State),
      fon s CFG.UPD_STAT.OPEN = true →
      Completes .updSessionTimeout s fun t => fget t CFG.UPD_STAT.OPEN = 0 ∧ fget t CFG.UPD_STAT.OWNER = 0xFF ∧ t.flash = s.flash)

/-- A finished erase, program, read or verify changes exactly the bytes, the buffer or VRES that its row of R87 names (R79, R87, R88, R96). -/
def Obligations.UpdateCommandsTakeEffect : Prop :=
  (∀ (a o : Nat) (d : List Nat) (s : State),
      Memory.wf s.flash = true ∧ fon s CFG.STATUS.FLASH_BAD = false ∧ s.img.upd = some ⟨3, o, d⟩ →
      Completes (.updCommandDone false) s fun t => fget t CFG.UPD_STAT.BUSY = 0 ∧ flashByte t a =
          if slotAt s + o ≤ a ∧ a < slotAt s + o + 65536 then 0xFF else flashByte s a) ∧
  (∀ (a o : Nat) (d : List Nat) (s : State),
      Memory.wf s.flash = true ∧ fon s CFG.STATUS.FLASH_BAD = false ∧ s.img.upd = some ⟨4, o, d⟩ ∧ d.length = 256 →
      Completes (.updCommandDone false) s fun t => fget t CFG.UPD_STAT.BUSY = 0 ∧ flashByte t a =
          if slotAt s + o ≤ a ∧ a < slotAt s + o + 256 then flashByte s a &&& d.getD (a - (slotAt s + o)) 0 % 256 else flashByte s a) ∧
  (∀ (a o : Nat) (d : List Nat) (s : State),
      Memory.wf s.flash = true ∧ fon s CFG.STATUS.FLASH_BAD = false ∧ s.img.upd = some ⟨5, o, d⟩ ∧ a < 64 →
      Completes (.updCommandDone false) s fun t => fget t CFG.UPD_STAT.BUSY = 0 ∧ fget t (CFG.UPD_BUF.DATA a) =
          leNat ((List.range 4).map fun j => flashByte s (slotAt s + o + 4 * a + j)) ∧ t.flash = s.flash) ∧
  (∀ (o : Nat) (d : List Nat) (s : State),
      Memory.wf s.flash = true ∧ fon s CFG.STATUS.FLASH_BAD = false ∧ s.img.upd = some ⟨6, o, d⟩ →
      Completes (.updCommandDone false) s fun t => fget t CFG.UPD_STAT.BUSY = 0 ∧ fget t CFG.UPD_STAT.VRES = (slotCheck s (fon s CFG.UPD_STAT.TARGET)).result % 16 ∧ t.flash = s.flash ∧
        fget t CFG.STATUS.A_RES = fget s CFG.STATUS.A_RES ∧ fget t CFG.STATUS.B_RES = fget s CFG.STATUS.B_RES ∧
        fget t CFG.APPLIED.GEN = fget s CFG.APPLIED.GEN) ∧
  (∀ (u : Upd) (s : State),
      s.img.upd = some u →
      Completes (.updCommandDone true) s fun t => fget t CFG.UPD_STAT.BUSY = 0 ∧ fget t CFG.UPD_STAT.ERR = 3 ∧ t.flash = s.flash)

/-- A GO through port 9 in Noon with VIN48 or VIN12 programs the ones of OTP_DATA; any other GO is ILLEGAL_STATE (R630, R638). -/
def Obligations.DawnFusesAreProgrammed : Prop :=
  (∀ (o : Fin 128) (s : State),
      stage s = 2 ∧ (fon s TOP.SUPPLY.VIN48 = true ∨ fon s TOP.SUPPLY.VIN12 = true) ∧ 4 ≤ o.val ∧
      fon s BUS.OTP_CTL.BUSY = false ∧ reachable s 9 0x140020 →
      Completes (.otpProgram 9 0x0F7A o) s fun t => t.comp = ⟨stOk, []⟩ ∧ fget t BUS.OTP_CTL.BUSY = 1 ∧
        t.otp.busy = some (o.val, fget s BUS.OTP_DATA.DATA) ∧ t.otp.fuses = s.otp.fuses) ∧
  (∀ (rq : Fin 24) (k : BitVec 16) (o : Fin 128) (s : State),
      reachable s rq 0x140020 ∧
      (rq.val ≠ 9 ∨ k ≠ 0x0F7A ∨ stage s ≠ 2 ∨ o.val < 4 ∨ fon s BUS.OTP_CTL.BUSY = true ∨
        (fon s TOP.SUPPLY.VIN48 = false ∧ fon s TOP.SUPPLY.VIN12 = false)) →
      Completes (.otpProgram rq k o) s fun t => t.comp = ⟨stIllegal, []⟩ ∧ t.otp = s.otp ∧
        SameBut (recKeys rq) s t) ∧
  (∀ (o d i : Nat) (b : Word) (s : State),
      s.otp.busy = some (o, d) →
      Completes (.otpProgramDone b) s fun t => fget t BUS.OTP_CTL.BUSY = 0 ∧ t.otp.busy = none ∧
        fuse t i = (if i = o then fuse s o ||| (b.toNat &&& d) else fuse s i) ∧
        ((fuse s o ||| (b.toNat &&& d)) ≠ (fuse s o ||| d) → fget t BUS.OTP_CTL.ERR = 1))

/-- A turn-on mode command to a channel with its gate off enters PENDING and asks the ledger for its reservation (R103, R104, R399, R426, R679). -/
def Obligations.ChannelTurnOnAsksForAdmission : Prop :=
  (∀ (ch : Fin 64) (s : State),
      fon s (FAB.TGT.DOWN ch) = false ∧ fon s (CHN.CFG.EN ch) = true ∧ s.start.running = true ∧ fon s (WIRE.STAT.HOLD ch) = false ∧
      (chState s ch = 0 ∨ chState s ch = 1 ∨ chState s ch = 2 ∨ chState s ch = 0xC) →
      Completes (.chnModeOn ch) s fun t => chState t ch = 3 ∧ fget t (CHN.STAT.PENDING ch) = 1 ∧
        fget t (CHN.CTL.MODE ch) = 1 ∧ t.comp = ⟨stOk, []⟩ ∧
        lastReq t = some { kind := .chan ch false, mw := fget s (CHN.LEDG.RESV_MW ch), arrival := localNs s }) ∧
  (∀ (ch : Fin 64) (s : State),
      fon s (FAB.TGT.DOWN ch) = false ∧ fon s (CHN.CFG.EN ch) = true ∧ s.start.running = true ∧ fon s (WIRE.STAT.HOLD ch) = false ∧
      (chState s ch = 0 ∨ chState s ch = 1 ∨ chState s ch = 2 ∨ chState s ch = 0xC) →
      Completes (.chnModePwm ch) s fun t => chState t ch = 3 ∧ fget t (CHN.STAT.PENDING ch) = 1 ∧
        fget t (CHN.CTL.MODE ch) = 2 ∧ t.comp = ⟨stOk, []⟩ ∧
        lastReq t = some { kind := .chan ch false, mw := fget s (CHN.LEDG.RESV_MW ch), arrival := localNs s }) ∧
  (∀ (ch : Fin 64) (s : State),
      fon s (FAB.TGT.DOWN ch) = false ∧ fon s (CHN.CFG.EN ch) = true ∧ s.start.running = true ∧ fon s (WIRE.STAT.HOLD ch) = false ∧
      (chState s ch = 0 ∨ chState s ch = 1 ∨ chState s ch = 2 ∨ chState s ch = 0xC) →
      Completes (.chnModeCreg ch) s fun t => chState t ch = 3 ∧ fget t (CHN.STAT.PENDING ch) = 1 ∧
        fget t (CHN.CTL.MODE ch) = 3 ∧ t.comp = ⟨stOk, []⟩ ∧
        lastReq t = some { kind := .chan ch false, mw := fget s (CHN.LEDG.RESV_MW ch), arrival := localNs s }) ∧
  (∀ (ch : Fin 64) (s : State),
      fon s (FAB.TGT.DOWN ch) = false ∧ fon s (CHN.CFG.EN ch) = true ∧ s.start.running = true ∧ fon s (WIRE.STAT.HOLD ch) = false ∧
      (chState s ch = 0 ∨ chState s ch = 1 ∨ chState s ch = 2 ∨ chState s ch = 0xC) →
      Completes (.chnModePrecharge ch) s fun t => chState t ch = 3 ∧ fget t (CHN.STAT.PENDING ch) = 1 ∧
        fget t (CHN.CTL.MODE ch) = 4 ∧ t.comp = ⟨stOk, []⟩ ∧
        lastReq t = some { kind := .chan ch false, mw := fget s (CHN.LEDG.RESV_MW ch), arrival := localNs s })

/-- Mode off turns a driven channel off at the edge it records; CLR_LATCH ends a latch; a slow turn-off ends in OFF (R103, R113, R125, R426, R679). -/
def Obligations.ChannelTurnOffAndLatchRelease : Prop :=
  (∀ (ch : Fin 64) (s : State),
      fon s (FAB.TGT.DOWN ch) = false ∧ fon s (CHN.CFG.EN ch) = true ∧ s.start.running = true ∧ 4 ≤ chState s ch ∧ chState s ch ≤ 7 →
      Completes (.chnModeOff ch) s fun t => fget t (CHN.CTL.MODE ch) = 0 ∧
        chState t ch = (if fon s (CHN.CFG.OFF_SLOW ch) then 9 else 0) ∧ fget t (CHN.EDGE_CT_LO.CT ch) = served s % 2 ^ 32 ∧ fget t (CHN.EDGE_CT_HI.CT ch) = served s / 2 ^ 32 % 2 ^ 32 ∧
        t.comp = ⟨stOk, []⟩) ∧
  (∀ (ch : Fin 64) (s : State),
      fon s (FAB.TGT.DOWN ch) = false ∧ fon s (CHN.CFG.EN ch) = true ∧ s.start.running = true ∧ chState s ch = 3 →
      Completes (.chnModeOff ch) s fun t => fget t (CHN.CTL.MODE ch) = 0 ∧ chState t ch = 0 ∧
        fget t (CHN.STAT.PENDING ch) = 0 ∧ (∀ r ∈ t.ldg.reqs, isChanReq ch r.kind = false) ∧ t.comp = ⟨stOk, []⟩) ∧
  (∀ (ch : Fin 64) (s : State),
      fon s (FAB.TGT.DOWN ch) = false ∧ s.start.running = true ∧ chState s ch = 0xB →
      Completes (.chnClrLatch ch) s fun t => chState t ch = 0 ∧ fget t (CHN.STAT.LATCHED ch) = 0 ∧
        t.comp = ⟨stOk, []⟩) ∧
  (∀ (ch : Fin 64) (s : State),
      chState s ch = 9 →
      Completes (.rampDownComplete ch) s fun t => chState t ch = 0)

/-- A ramp ends in ON, a PWM period takes the new duty, a ready retry asks again, a quiet second clears a retry count (R103, R108, R114, R120, R121). -/
def Obligations.ChannelRampPwmAndRetryProgress : Prop :=
  (∀ (ch : Fin 64) (s : State),
      chState s ch = 4 →
      Completes (.rampComplete ch) s fun t => chState t ch = 5 ∧ fget t (CHN.EDGE_CT_LO.CT ch) = served s % 2 ^ 32 ∧ fget t (CHN.EDGE_CT_HI.CT ch) = served s / 2 ^ 32 % 2 ^ 32) ∧
  (∀ (ch : Fin 64) (s : State),
      chState s ch = 6 →
      Completes (.pwmPeriodStart ch) s fun t =>
        (chan t ch).per = clampNat 4000 2000000 (fget s (CHN.PWM_PER.PERIOD ch)) ∧
        (chan t ch).duty = fget s (CHN.PWM_DUTY.DUTY ch) ∧
        chState t ch = (if (chan s ch).toOn && fget s (CHN.PWM_DUTY.DUTY ch) != 0 then 5 else 6)) ∧
  (∀ (ch : Fin 64) (s : State),
      s.start.running = true ∧ chState s ch = 0xA ∧ fon s (WIRE.STAT.HOLD ch) = false ∧
      ((chan s ch).pSoa = true → (chan s ch).soa = 0) ∧
      (chan s ch).retry = false ∧ (chan s ch).ready ≤ s.time.loc →
      Completes (.retryReady ch) s fun t => chState t ch = 3 ∧
        (lastReq t).map (fun r => (r.kind, r.mw)) = some (.chan ch true, fget s (CHN.LEDG.RESV_MW ch))) ∧
  (∀ (ch : Fin 64) (s : State),
      s.start.running = true ∧ chState s ch = 0xA ∧ fon s (WIRE.STAT.HOLD ch) = false ∧
      ((chan s ch).pSoa = true → (chan s ch).soa = 0) ∧ (chan s ch).retry = true →
      Completes (.retryRerequest ch) s fun t => chState t ch = 3 ∧
        (lastReq t).map (fun r => (r.kind, r.mw)) = some (.chan ch true, fget s (CHN.LEDG.RESV_MW ch))) ∧
  (∀ (ch : Fin 64) (k : TripCause) (s : State),
      5 ≤ chState s ch ∧ chState s ch ≤ 7 →
      Completes (.retryCountReset ch k) s fun t => chR (chan t ch) (causeIdx k) = 0)

/-- A trip turns a driven channel off at once, names its cause, counts it, and starts the wait of its retry policy (R103, R108, R109, R112, R115, R118, R119, R120). -/
def Obligations.ChannelTripsTurnOffAndRecord : Prop :=
  (∀ (ch : Fin 64) (s : State),
      CalmChan s ch ∧ chDriven s ch = true ∧ chExhausted s ch 0 = false →
      Completes (.scTrip ch) s fun t => chState t ch = 0xA ∧ fget t (CHN.STAT.CAUSE ch) = 1 ∧
        fget t (CHN.EVT.SC ch) = 1 ∧ (chan t ch).pSc = true ∧ fget t (CHN.EDGE_CT_LO.CT ch) = served s % 2 ^ 32 ∧ fget t (CHN.EDGE_CT_HI.CT ch) = served s / 2 ^ 32 % 2 ^ 32 ∧
        localNs s + chWait s ch 0 * 1000000 ≤ (chan t ch).ready) ∧
  (∀ (ch : Fin 64) (s : State),
      CalmChan s ch ∧ chDriven s ch = true ∧ chExhausted s ch 0 = true →
      Completes (.scTrip ch) s fun t => chState t ch = 0xB ∧ fget t (CHN.CTL.MODE ch) = 0 ∧
        fget t (CHN.STAT.LATCHED ch) = 1 ∧ fget t (CHN.EVT.LATCH ch) = 1) ∧
  (∀ (ch : Fin 64) (s : State),
      CalmChan s ch ∧ chState s ch = 4 ∧ fget s (CHN.SOA.TIME_MS ch) ≠ 0 ∧ chExhausted s ch 3 = false →
      Completes (.rampTimeLimit ch) s fun t => chState t ch = 0xA ∧ fget t (CHN.STAT.CAUSE ch) = 4 ∧
        fget t (CHN.EVT.SOA ch) = 1 ∧ (chan t ch).pSoa = true ∧ fget t (CHN.EDGE_CT_LO.CT ch) = served s % 2 ^ 32 ∧ fget t (CHN.EDGE_CT_HI.CT ch) = served s / 2 ^ 32 % 2 ^ 32 ∧
        localNs s + chWait s ch 3 * 1000000 ≤ (chan t ch).ready) ∧
  (∀ (ch : Fin 64) (v i b : Nat) (s : State),
      CalmChan s ch ∧ chDriven s ch = true ∧ chExhausted s ch 3 = false ∧
      fget s (CHN.SOA.ENERGY_MJ ch) * 1000000000 ≤
        soaNext (chan s ch).soa (if chState s ch = 4 ∨ chState s ch = 7 ∨ chState s ch = 8 then 2 * (v * i) else 0)
          (fget s (CHN.SOA_P.P_CONT ch)) →
      Completes (.soaSample ch v i b) s fun t => chState t ch = 0xA ∧ fget t (CHN.STAT.CAUSE ch) = 4 ∧
        fget t (CHN.EVT.SOA ch) = 1 ∧ (chan t ch).pSoa = true ∧ fget t (CHN.EDGE_CT_LO.CT ch) = served s % 2 ^ 32 ∧ fget t (CHN.EDGE_CT_HI.CT ch) = served s / 2 ^ 32 % 2 ^ 32 ∧
        localNs s + chWait s ch 3 * 1000000 ≤ (chan t ch).ready) ∧
  (∀ (ch : Fin 64) (s : State),
      CalmChan s ch ∧ chState s ch = 5 ∧ fget s (CHN.OL.OL_MS ch) ≠ 0 ∧ fget s (CHN.STAT.OPEN_LOAD ch) = 0 →
      Completes (.openLoad ch) s fun t => chState t ch = 5 ∧ fget t (CHN.STAT.OPEN_LOAD ch) = 1 ∧
        fget t (CHN.EVT.OL ch) = 1) ∧
  (∀ (ch : Fin 64) (s : State),
      CalmChan s ch ∧ chState s ch = 8 →
      Completes (.preLimit ch) s fun t => chState t ch = 0 ∧ fget t (CHN.CTL.MODE ch) = 0 ∧
        fget t (CHN.EVT.PRE_LIMIT ch) = 1)

/-- A command or event of one channel leaves every other register alone, but for reporting, and every other channel (R97, R101, R103, R115, R120, R571). -/
def Obligations.ChannelEventsFrame : Prop :=
  (∀ (ch : Fin 64) (c : Instr) (s : State),
      CalmChan s ch ∧
      (c = .chnModeOn ch ∨ c = .chnModePwm ch ∨ c = .chnModeCreg ch ∨ c = .chnModePrecharge ch ∨ c = .chnClrLatch ch
        ∨ c = .rampComplete ch ∨ c = .rampTimeLimit ch ∨ c = .scTrip ch ∨ c = .openLoad ch
        ∨ c = .preLimit ch ∨ c = .rampDownComplete ch ∨ c = .retryRerequest ch) →
      Completes c s fun t => SameBut (chanKeys ch) s t ∧ chanRest ch s t) ∧
  (∀ (ch : Fin 64) (v i b : Nat) (s : State),
      CalmChan s ch →
      Completes (.soaSample ch v i b) s fun t => SameBut (chanKeys ch) s t ∧ chanRest ch s t) ∧
  (∀ (ch : Fin 64) (k : TripCause) (s : State),
      CalmChan s ch →
      Completes (.retryCountReset ch k) s fun t => SameBut (chanKeys ch) s t ∧ chanRest ch s t)

/-- A wire-model frame leaves Tc and Ti of each running model as the pseudocode of R154 gives them (R151, R152, R153, R154, R157, R164, R171). -/
def Obligations.WireModelFrameIntegrates : Prop :=
  (∀ (n : Fin 64) (h : Bool) (w : WType) (work : Nat) (s : State),
      h = decide (32 ≤ n.val) ∧ frameRuns s (if h then 3 else 2) = true ∧ stage s ≠ 4 ∧ WireCalm s ∧
      wireType s n = some w ∧ fon s (WIRE.STAT.RUN n) = true →
      Completes (.wireModelFrame h work) s fun t =>
        ((wireX t n).tc, (wireX t n).ti) = wireAfter s (if h then 3 else 2) n w ∧ (wireX t n).res = [] ∧
        fgetI t (WIRE.TEMP.TC n) = f32ToFixed (wireX t n).tc 16 ∧ fgetI t (WIRE.TEMP.TI n) = f32ToFixed (wireX t n).ti 16)

/-- At T_LIM a wire holds its channel, tripping it where driven; below, a cooled wire is released; the warning follows Tc (R117, R120, R157, R160, R161, R162, R172). -/
def Obligations.WireLimitHoldsAndTrips : Prop :=
  (∀ (n : Fin 64) (h : Bool) (w : WType) (work : Nat) (s : State),
      h = decide (32 ≤ n.val) ∧ frameRuns s (if h then 3 else 2) = true ∧ stage s ≠ 4 ∧ WireCalm s ∧
      wireType s n = some w ∧ fon s (WIRE.STAT.RUN n) = true →
      Completes (.wireModelFrame h work) s fun t =>
        let r := wireAfter s (if h then 3 else 2) n w
        fon t (WIRE.STAT.WARN n) = (if f32Le (f32Of16 (w.tLim - fget s (WIRE.LIM.WARN_K n))) r.1 then true
          else if f32Lt r.1 (f32Of16 (w.tLim - fget s (WIRE.LIM.WARN_K n) - 16)) then false else fon s (WIRE.STAT.WARN n)) ∧
        (wireHot w r = true → fon t (WIRE.STAT.HOLD n) = true ∧
          ((4 ≤ chState s n ∧ chState s n ≤ 9) → fget t (WIRE.STAT.HOLD_CAUSE n) = 1 ∧ fget t (CHN.STAT.CAUSE n) = 3 ∧
            fget t (CHN.EVT.WIRE n) = 1 ∧ chState t n = (if chExhausted s n 2 then 0xB else 0xA)) ∧
          (chState s n = 3 → chState t n = (if (chan s n).retry then 0xA else 0))) ∧
        (wireHot w r = false → fon t (WIRE.STAT.HOLD n) = (fon s (WIRE.STAT.HOLD n) &&
          !(decide ((wireX s n).holdAt + fget s (WIRE.COOL.COOL_MS n) * 1000000 ≤ t.time.loc) &&
            (f32Le r.1 (f32Of16 (w.tLim - fget s (WIRE.LIM.REL_K n))) || f32Le (f32Sub r.1 (wireTa s (if h then 3 else 2) n)) (f32OfRat 1 1))))))

/-- Stale currents and faulty ambient sources are flagged and replaced; the retention record takes every excess (R153, R158, R159, R165, R177). -/
def Obligations.WireInputsAndRetention : Prop :=
  (∀ (n : Fin 64) (s : State),
      fon s (WIRE.STAT.RUN n) = true ∧ chDriven s n = true ∧ fget s (WIRE.STAT.STALE n) = 0 ∧ Reports s 0x25A →
      Completes (.wireStale n) s fun t => fget t (WIRE.STAT.STALE n) = 1 ∧ fget t (FLT.LAT 0x25A) = 1) ∧
  (∀ (k : Fin 16) (s : State),
      fget s (WIRE.AMB.CTL.SRC k) ≠ 0 ∧ (ambX s k).faulty = false ∧ Reports s 0x25C →
      Completes (.ambientFault k) s fun t => (ambX t k).faulty = true ∧
        fget t (WIRE.AMB.VAL.T k) = fget s (WIRE.AMB.VAL.FB k) ∧ ambient t k = f32Of16 (fgetI s (WIRE.AMB.VAL.FB k)) ∧
        (∀ n < 64, fget s (WIRE.CFG.AMB n) = k → fget t (WIRE.STAT.AMB_FB n) = 1) ∧ fget t (FLT.LAT 0x25C) = 1) ∧
  (∀ (k : Fin 16) (s : State),
      fget s (WIRE.AMB.CTL.SRC k) = 0 →
      exec (.ambientFault k) s = .next s) ∧
  (∀ (k : Fin 16) (v : Int) (s : State),
      fget s (WIRE.AMB.CTL.SRC k) = 1 ∧ ambInRange (f32Add (f32Of16 v) (fget s (WIRE.AMB.OFFS.OFFS k))) = true →
      Completes (.dieTempConversion v) s fun t => t.wire.die = some (v, s.time.loc) ∧ (ambX t k).faulty = false ∧
        ambient t k = f32Add (f32Of16 v) (fget s (WIRE.AMB.OFFS.OFFS k))) ∧
  (∀ (s : State),
      Completes .wireRetentionWrite s fun t => t = { s with wire := { s.wire with record := some (bkpCount s, (List.range 64).map fun n =>
          let ta := ambient s (fget s (WIRE.CFG.AMB n))
          (f32ToFixed (f32Sub (wireX s n).tc ta) 16, f32ToFixed (f32Sub (wireX s n).ti ta) 16)) } })

/-- EN turns a loop on through admission and the sense check, and off at once or by a ramp; CLR_LATCH and CSEL act as written (R182, R190, R198, R199, R200, R188, R205). -/
def Obligations.LoopTurnOnAndOff : Prop :=
  (∀ (l : Fin 4) (s : State),
      loopUp s l ∧ s.start.running = true ∧ loopPhases s l ≠ [] ∧ loopState s l = 0 →
      Completes (.loopEnable l) s fun t => t.comp = ⟨stOk, []⟩ ∧ loopState t l = 1 ∧ fget t (LOOP.CTL.EN l) = 1 ∧
        fget t (LOOP.STAT.PENDING l) = 1 ∧ fget t (LOOP.VREF.VTGT l) = min (fget s (LOOP.VSET.VSET l)) 4200 ∧
        lastReq t = some { kind := .loopOn l, mw := loopResv s l (min (fget s (LOOP.VSET.VSET l)) 4200), arrival := localNs s }) ∧
  (∀ (l : Fin 4) (s : State),
      loopUp s l ∧ s.start.running = true ∧ loopPhases s l ≠ [] ∧ loopState s l = 5 →
      Completes (.loopEnable l) s fun t => t.comp = ⟨stOk, []⟩ ∧ loopState t l = 3 ∧ fget t (LOOP.CTL.EN l) = 1 ∧
        t.ldg.reqs = s.ldg.reqs ∧ (loopX t l).vref = (loopX s l).vref) ∧
  (∀ (l : Fin 4) (s : State),
      loopUp s l ∧ (loopState s l = 3 ∨ loopState s l = 4) →
      Completes (.loopDisable l) s fun t => t.comp = ⟨stOk, []⟩ ∧ fget t (LOOP.CTL.EN l) = 0 ∧
        if fon s (LOOP.CTL.OFF_MODE l) then loopState t l = 5
        else loopState t l = 0 ∧ loopActive t l = [] ∧ ∀ r ∈ t.ldg.reqs, isLoopReq l r.kind = false) ∧
  (∀ (l : Fin 4) (s : State),
      loopUp s l ∧ loopState s l = 1 →
      Completes (.loopDisable l) s fun t => t.comp = ⟨stOk, []⟩ ∧ loopState t l = 0 ∧ fget t (LOOP.CTL.EN l) = 0 ∧
        ∀ r ∈ t.ldg.reqs, isLoopReq l r.kind = false) ∧
  (∀ (l : Fin 4) (s : State),
      loopUp s l ∧ loopState s l = 7 →
      Completes (.loopClrLatch l) s fun t => t.comp = ⟨stOk, []⟩ ∧ loopState t l = 0 ∧ fget t (LOOP.CTL.EN l) = 0) ∧
  (∀ (l : Fin 4) (c : Fin 64) (s : State),
      loopUp s l →
      Completes (.loopCselChange l c) s fun t => t.comp = ⟨stOk, []⟩ ∧ t.lps = s.lps ∧
        fget t (LOOP.CTL.CSEL l) = (if c.val < s.lps.coefs.length ∨ (0x20 ≤ c.val ∧ c.val ≤ 0x27) then c.val else fget s (LOOP.CTL.CSEL l))) ∧
  (∀ (l : Fin 4) (v : Int) (s : State),
      loopState s l = 2 →
      Completes (.senseCheckDone l false v) s fun t => loopState t l = 3 ∧ (loopX t l).vref = v.toNat ∧
        ((loopX t l).i, (loopX t l).y1, (loopX t l).y2, (loopX t l).ePrev, (loopX t l).dPrev) = (0, 0, 0, 0, 0) ∧
        loopActive t l = loopPhases s l) ∧
  (∀ (l : Fin 4) (v : Int) (s : State),
      loopState s l = 2 ∧ Calm s (0x1F2 + 7 * l) ∧ Reports s (0x1F2 + 7 * l) →
      Completes (.senseCheckDone l true v) s fun t => loopState t l = 0 ∧ fget t (LOOP.CTL.EN l) = 0 ∧
        fget t (LOOP.EVT.SENSE_OPEN l) = 1 ∧ fget t (FLT.LAT (0x1F2 + 7 * l)) = 1)

/-- A VSET write above VTGT asks for the difference of reservations; at or below it lowers VTGT at once; an off loop stores it (R196, R200, R201, R207). -/
def Obligations.LoopVsetIsAdmittedBeforeItRises : Prop :=
  (∀ (l : Fin 4) (c : Fin 8192) (s : State),
      loopUp s l ∧ (loopState s l = 0 ∨ loopState s l = 7 ∨ loopState s l = 8) →
      Completes (.loopVsetWrite l c) s fun t => t.comp = ⟨stOk, []⟩ ∧ fget t (LOOP.VSET.VSET l) = c.val ∧
        fget t (LOOP.VREF.VTGT l) = fget s (LOOP.VREF.VTGT l) ∧ loopRaising t l = false) ∧
  (∀ (l : Fin 4) (c : Fin 8192) (s : State),
      loopUp s l ∧ s.start.running = true ∧ 1 ≤ loopState s l ∧ loopState s l ≤ 6 ∧ fget s (LOOP.VREF.VTGT l) < min c.val 4200 →
      Completes (.loopVsetWrite l c) s fun t => t.comp = ⟨stOk, []⟩ ∧ fget t (LOOP.VSET.VSET l) = c.val ∧
        fget t (LOOP.VREF.VTGT l) = fget s (LOOP.VREF.VTGT l) ∧ fget t (LOOP.STAT.PENDING l) = 1 ∧
        (lastReq t).map (fun r => (r.kind, r.mw, r.arrival)) = some (.loopRaise l c,
          loopResv s l (min c.val 4200) - loopResv s l (fget s (LOOP.VREF.VTGT l)), localNs s) ∧
        (t.ldg.reqs.filter fun r => match r.kind with | .loopRaise m _ => m == l.val | _ => false).length = 1) ∧
  (∀ (l : Fin 4) (c : Fin 8192) (s : State),
      loopUp s l ∧ s.start.running = true ∧ 1 ≤ loopState s l ∧ loopState s l ≤ 6 ∧ min c.val 4200 ≤ fget s (LOOP.VREF.VTGT l) →
      Completes (.loopVsetWrite l c) s fun t => t.comp = ⟨stOk, []⟩ ∧ fget t (LOOP.VSET.VSET l) = c.val ∧
        fget t (LOOP.VREF.VTGT l) = min c.val 4200 ∧ loopRaising t l = false)

/-- A 40 ns sample slews VREF and runs the compensator of R188 on the error code, holding the integrator while braking (R186, R187, R188, R189, R196, R209, R212, R234). -/
def Obligations.LoopSampleRunsTheCompensator : Prop :=
  (∀ (l : Fin 4) (v : Int) (s : State),
      switching s l ∧ LoopCalm s →
      Completes (.loopSample l v) s fun t =>
        let x := loopX s l
        let y := loopX t l
        let k := loopCoef s l
        let stop := loopState s l = 5
        let goal := if stop then 0 else (fget s (LOOP.VREF.VTGT l) + 200) * 1250
        let step := 2 * clampNat 1 1000 (if loopState s l = 4 then fget s (LOOP.SLEW.SLEW l) else fget s (LOOP.SLEW.SS l))
        let nv : Int := (y.vref : Int) * 1000 - (min 2000 (fget s (LOOP.LL.RLL l)) : Nat) * loopItot s l - v * 1000
        let dmax : Int := (fget s (LOOP.DLIM.DMAX l) * 256 : Nat)
        let dmin : Int := if fget s (LOOP.DLIM.DMAX l) ≤ fget s (LOOP.DLIM.DMIN l) then 0 else (fget s (LOOP.DLIM.DMIN l) * 256 : Nat)
        let sat := (dmax ≤ x.dPrev ∧ 0 < y.ePrev) ∨ (x.dPrev ≤ dmin ∧ y.ePrev < 0)
        let w := k.kp * y.ePrev + y.i + k.kd * (y.ePrev - x.ePrev)
        let d0 : Int := ((y.vref * 2 ^ 24 / loopVin s l : Nat) : Int)
        y.vref = (if x.vref < goal then min goal (x.vref + step) else max goal (x.vref - step)) ∧
        (y.ePrev = clampInt (-256) 255 (nv / 625000) ∨ (nv % 625000 ≠ 0 ∧ y.ePrev = clampInt (-256) 255 (nv / 625000 + 1))) ∧
        y.i = (if sat ∨ fon t (LOOP.PROT_STAT.BRAKING l) = true then x.i else clampInt (-(2 ^ 24)) (2 ^ 24) (x.i + k.ki * y.ePrev)) ∧
        y.y1 = x.y1 + k.a1 * (w - x.y1) / 65536 ∧ y.y2 = x.y2 + k.a2 * (y.y1 - x.y2) / 65536 ∧
        y.dPrev = clampInt dmin dmax (y.y2 + d0 + ffStep s l))

/-- Period start spaces and times the phases; IMON, balance, shedding and the current limit follow R193-R195 and R236 (R184, R185, R193, R194, R195, R236, R189). -/
def Obligations.LoopPhasesAreTimedAndLimited : Prop :=
  (∀ (l : Fin 4) (e : Nat × Nat) (s : State),
      switching s l ∧ e ∈ (loopActive s l).zipIdx →
      Completes (.loopPeriodStart l) s fun t =>
        let per := clampNat 8534 128000 (fget s (LOOP.PER.PER l))
        let b := if fon s (LOOP.BAL.EN l) then (phaseX s e.1).trim else 0
        (phaseX t e.1).begin = e.2 * per / (loopActive s l).length ∧
        (phaseX t e.1).ton = (clampInt (fget s (LOOP.TMIN.TON_MIN l)) ((per : Int) - fget s (LOOP.TMIN.TOFF_MIN l))
          (((loopX s l).dPrev + b) * (per : Int) / 2 ^ 24)).toNat ∧ (phaseX t e.1).limited = false ∧
        (fon s (LOOP.PROT_STAT.BRAKING l) = false → fget t (LOOP.PROT_STAT.RUN l) =
          if (loopActive s l).any (fun k => (phaseX s k).limited) then min 255 (fget s (LOOP.PROT_STAT.RUN l) + 1) else 0)) ∧
  (∀ (l : Fin 4) (k : Fin 16) (c : BitVec 11) (on : Bool) (s : State),
      fget s (LOOP.PHS.CFG.LOOP k) = l ∧ fon s (LOOP.PHS.CFG.ACT k) = true ∧ switching s l →
      Completes (.imonSample k c on) s fun t =>
        let i := (c.toInt - fgetI s (LOOP.PHS.TRIM.OFFS k)) * (fget s (LOOP.PHS.CFG.GAIN k) : Int)
        let lim := if fget s (LOOP.OCL.I_LIM l) = 0 then 255 else fget s (LOOP.OCL.I_LIM l)
        (phaseX t k).sum = (phaseX s k).sum + i ∧ (phaseX t k).cnt = (phaseX s k).cnt + 1 ∧
        (on = true → ((lim * 16000 : Nat) : Int) ≤ i → fon s (LOOP.PROT_STAT.BRAKING l) = false →
          (phaseX t k).limited = true ∧ fget t (LOOP.PH_LIM l k) = 1 ∧ fget t (LOOP.PROT_EVT.LIMIT l) = 1)) ∧
  (∀ (l : Fin 4) (k : Nat) (s : State),
      fon s (LOOP.BAL.EN l) = true ∧ k ∈ loopActive s l →
      Completes (.balanceUpdate l) s fun t =>
        let lim : Int := (fget s (LOOP.BAL.BAL_LIM l) * 256 : Nat)
        let avg := (loopItot s l).tdiv (loopActive s l).length
        (phaseX t k).trim = clampInt (-lim) lim ((phaseX s k).trim +
          ((fget s (LOOP.BAL.KBAL l) : Int) * (avg - fgetI s (LOOP.PHS.MEAS.I_MA k))).tdiv 1000)) ∧
  (∀ (l : Fin 4) (k : Fin 16) (s : State),
      fget s (LOOP.PHS.CFG.LOOP k) = l ∧ fon s (LOOP.BAL.EN l) = true ∧ fon s (LOOP.PHS.CFG.ACT k) = true ∧
      (phaseX s k).trim.natAbs = fget s (LOOP.BAL.BAL_LIM l) * 256 ∧ Reports s (0x1F1 + 7 * l) →
      Completes (.balanceLimitTimeout k) s fun t => fget t (LOOP.STAT.BAL_LIM l) = 1 ∧ fget t (LOOP.EVT.IMBAL l) = 1 ∧
        fget t (FLT.LAT (0x1F1 + 7 * l)) = 1) ∧
  (∀ (l : Fin 4) (i : Int) (s : State),
      switching s l ∧ fon s (LOOP.SHED.EN l) = true ∧ loopPhases s l ≠ [] ∧
      loopActive s l = (loopPhases s l).take (loopActive s l).length →
      Completes (.phaseShedWindow l i) s fun t =>
        let full := (loopPhases s l).length
        let req := clampNat (clampNat 1 full (fget s (LOOP.SHED.N_MIN l))) full (ceilDiv i.toNat (1000 * atLeast1 (fget s (LOOP.SHED.I_ADD l))))
        loopActive t l = (loopPhases s l).take (loopActive t l).length ∧ req ≤ (loopActive t l).length + 1 ∧
        ((loopActive s l).length < req → (loopActive t l).length = req) ∧
        (req ≤ (loopActive s l).length → (loopActive t l).length = (loopActive s l).length ∨ (loopActive t l).length + 1 = (loopActive s l).length)) ∧
  (∀ (l : Fin 4) (s : State),
      switching s l ∧ fget s (LOOP.VIN_CFG.SRC l) = 1 ∧ vinMeasured s l = none ∧ (loopX s l).vinFb = false ∧ Reports s (0x1F0 + 7 * l) →
      Completes (.vinFallback l) s fun t => fget t (LOOP.EVT.VIN_FB l) = 1 ∧ (loopX t l).vinFb = true ∧
        loopVin t l = (if fget s (LOOP.VIN_CFG.FIX_MV l) = 0 then 12000 else fget s (LOOP.VIN_CFG.FIX_MV l)) * 1000 ∧
        fget t (FLT.LAT (0x1F0 + 7 * l)) = 1)

/-- Announcements by pin, register and frame are accepted or rejected by the first row of R228 that matches (R226, R227, R228, R232, R241, R244, R246, R247). -/
def Obligations.StepAnnouncementsAreJudged : Prop :=
  (∀ (l : Fin 4) (s : State),
      fon s (LOOP.STEP_CFG.PIN_EN l) = true ∧ fon s TOP.SUPPLY.VDDIO = true ∧ Calm s (0x1F3 + 7 * l) →
      Completes (.stepPinActive l) s fun t =>
        let a := served s + clampNat 5 500 (fget s (LOOP.STEP_CFG.PIN_LEAD l)) * 100
        if r228 s l true 0 a = 0 then accepted s t l 0 (fgetI s (LOOP.STEP_CFG.PIN_DI l)) a else rejected s t l 0 (r228 s l true 0 a)) ∧
  (∀ (l : Fin 4) (i : BitVec 8) (d : BitVec 12) (s : State),
      loopUp s l ∧ Calm s (0x1F3 + 7 * l) →
      Completes (.annCtlAnnounce l i d) s fun t =>
        let a := fget64 s (LOOP.ANN_CT_LO.CT l) (LOOP.ANN_CT_HI.CT l)
        let c := r228 s l false i.toNat a
        t.comp = ⟨if c = 3 ∨ c = 8 then stIllegal else stOk, []⟩ ∧
        if c = 0 then accepted s t l i.toNat d.toInt a else rejected s t l i.toNat c) ∧
  (∀ (l : Fin 4) (i : BitVec 8) (d : BitVec 12) (a : BitVec 64) (s : State),
      Calm s (0x1F3 + 7 * l) →
      Completes (.stepAnnAnnounce l i d a) s fun t =>
        let c := r228 s l false i.toNat a.toNat
        if c = 0 then accepted s t l i.toNat d.toInt a.toNat else rejected s t l i.toNat c)

/-- A cancel removes a pending announcement, ramps out an active one, and is rejected as UNKNOWN for any other identifier (R227, R229, R240). -/
def Obligations.StepAnnouncementsAreCancelled : Prop :=
  (∀ (l : Fin 4) (i : BitVec 8) (a : Ann) (s : State),
      loopUp s l ∧ (loopX s l).anns.find? (fun a => a.id == i.toNat) = some a ∧ a.applied = false →
      Completes (.annCtlCancel l i) s fun t =>
        (loopX t l).anns = (loopX s l).anns.filter (fun b => b.id != i.toNat) ∧ fget t (LOOP.ANN_EVT.CANCEL_PRE l) = 1) ∧
  (∀ (l : Fin 4) (i : BitVec 8) (a : Ann) (s : State),
      loopUp s l ∧ (loopX s l).anns.find? (fun a => a.id == i.toNat) = some a ∧ a.applied = true →
      Completes (.annCtlCancel l i) s fun t =>
        fget t (LOOP.ANN_EVT.CANCEL_POST l) = 1 ∧ (loopX t l).anns =
          if fget s (LOOP.FF_SHAPE.CANCEL l) = 0 then (loopX s l).anns.filter (fun b => b.id != i.toNat)
          else (loopX s l).anns.map (fun b => if b.id = i.toNat then { b with cancel := some (annFf s l a, 1) } else b)) ∧
  (∀ (l : Fin 4) (i : BitVec 8) (s : State),
      loopUp s l ∧ (loopX s l).anns.find? (fun a => a.id == i.toNat) = none ∧ i.toNat ≠ 0 →
      Completes (.annCtlCancel l i) s fun t =>
        rejected s t l i.toNat 7) ∧
  (∀ (l : Fin 4) (i : BitVec 8) (a : Ann) (s : State),
      (loopX s l).anns.find? (fun a => a.id == i.toNat) = some a ∧ a.applied = false →
      Completes (.stepAnnCancel l i) s fun t =>
        (loopX t l).anns = (loopX s l).anns.filter (fun b => b.id != i.toNat) ∧ fget t (LOOP.ANN_EVT.CANCEL_PRE l) = 1) ∧
  (∀ (l : Fin 4) (i : BitVec 8) (a : Ann) (s : State),
      (loopX s l).anns.find? (fun a => a.id == i.toNat) = some a ∧ a.applied = true →
      Completes (.stepAnnCancel l i) s fun t =>
        fget t (LOOP.ANN_EVT.CANCEL_POST l) = 1 ∧ (loopX t l).anns =
          if fget s (LOOP.FF_SHAPE.CANCEL l) = 0 then (loopX s l).anns.filter (fun b => b.id != i.toNat)
          else (loopX s l).anns.map (fun b => if b.id = i.toNat then { b with cancel := some (annFf s l a, 1) } else b)) ∧
  (∀ (l : Fin 4) (i : BitVec 8) (s : State),
      (loopX s l).anns.find? (fun a => a.id == i.toNat) = none ∧ i.toNat ≠ 0 →
      Completes (.stepAnnCancel l i) s fun t =>
        rejected s t l i.toNat 7) ∧
  (∀ (l : Fin 4) (s : State),
      fon s (LOOP.STEP_CFG.PIN_EN l) = true ∧ ∃ a ∈ (loopX s l).anns, a.id = 0 ∧ a.applied = false ∧ served s < a.apply ∧
      (loopX s l).anns.find? (fun b => b.id == 0) = some a →
      Completes (.stepPinInactive l) s fun t =>
        (loopX t l).anns = (loopX s l).anns.filter (fun b => b.id != 0) ∧ fget t (LOOP.ANN_EVT.CANCEL_PRE l) = 1) ∧
  (∀ (l : Fin 4) (s : State),
      ∀ a ∈ (loopX s l).anns, a.id = 0 → a.applied = true ∨ a.apply ≤ served s →
      exec (.stepPinInactive l) s = .next s)

/-- An applied step enters ff_step and may start or end braking; braking times out; hiccup stops, restarts or latches the loop (R230, R231, R234, R235, R237, R245, R252, R254). -/
def Obligations.StepsBrakingAndHiccup : Prop :=
  (∀ (l : Fin 4) (i : BitVec 8) (a : Ann) (s : State),
      (loopX s l).anns.find? (fun b => b.id == i.toNat && !b.applied) = some a ∧ loopState s l = 4 →
      Completes (.annApply l i) s fun t =>
        (∀ b ∈ (loopX t l).anns, b.id = a.id → b.applied = true ∧ b.s = (served t - a.apply) / 40) ∧ a.apply ≤ served t ∧
        fget t (LOOP.ANN_EVT.APPLIED l) = 1 ∧ fget t (LOOP.LAST_CT_LO.CT l) = served t % 2 ^ 32 ∧
        (0 < a.di → fon s (LOOP.PROT_STAT.BRAKING l) = true → fon t (LOOP.PROT_STAT.BRAKING l) = false) ∧
        (a.di < 0 → fon s (LOOP.BRAKE.EN l) = true → fon s (LOOP.BRAKE.ANN l) = true → (loopX s l).brakeBar ≤ localNs s →
          fon t (LOOP.PROT_STAT.BRAKING l) = true)) ∧
  (∀ (l : Fin 4) (s : State),
      fon s (LOOP.PROT_STAT.BRAKING l) = true ∧ atLeast1 (fget s (LOOP.BRAKE.TMAX l)) ≤ (loopX s l).brakeN ∧ Calm s (0x1F4 + 7 * l) ∧ Reports s (0x1F4 + 7 * l) →
      Completes (.brakeTimeout l) s fun t => fon t (LOOP.PROT_STAT.BRAKING l) = false ∧ fget t (LOOP.PROT_EVT.BRAKE_TMO l) = 1 ∧
        fget t (FLT.LAT (0x1F4 + 7 * l)) = 1 ∧ loopState t l = loopState s l) ∧
  (∀ (l : Fin 4) (s : State),
      switching s l ∧ atLeast1 (fget s (LOOP.OCL.N l)) ≤ fget s (LOOP.PROT_STAT.RUN l) ∧ Calm s (0x1F5 + 7 * l) ∧ Reports s (0x1F5 + 7 * l) →
      Completes (.hiccupEntry l) s fun t => loopState t l = 6 ∧ fget t (LOOP.PROT_STAT.RUN l) = 0 ∧
        fget t (LOOP.PROT_EVT.HICCUP l) = 1 ∧ fget t (FLT.LAT (0x1F5 + 7 * l)) = 1 ∧ loopActive t l = [] ∧
        (loopState s l = 4 → (loopX t l).anns = [] ∧ fon t (LOOP.PROT_STAT.BRAKING l) = false) ∧ (loopX t l).hiccupAt = localNs s) ∧
  (∀ (l : Fin 4) (v : Int) (s : State),
      loopState s l = 6 ∧ (fget s (LOOP.HICCUP.RETRY l) = 15 ∨ (loopX s l).r < fget s (LOOP.HICCUP.RETRY l)) →
      Completes (.hiccupOffExpiry l v) s fun t => loopState t l = 3 ∧ (loopX t l).vref = v.toNat ∧
        (loopX t l).r = (loopX s l).r + 1 ∧ (stage s ≠ 0 → s.pwr.storage = false →
          (loopX s l).hiccupAt + clampNat 1 1000 (fget s (LOOP.HICCUP.OFF_MS l)) * 1000000 ≤ localNs t)) ∧
  (∀ (l : Fin 4) (v : Int) (s : State),
      loopState s l = 6 ∧ fget s (LOOP.HICCUP.RETRY l) ≠ 15 ∧ fget s (LOOP.HICCUP.RETRY l) ≤ (loopX s l).r ∧
      Calm s (0x1F6 + 7 * l) ∧ Reports s (0x1F6 + 7 * l) →
      Completes (.hiccupOffExpiry l v) s fun t => loopState t l = 7 ∧ fget t (LOOP.PROT_EVT.LATCH l) = 1 ∧
        fget t (FLT.LAT (0x1F6 + 7 * l)) = 1) ∧
  (∀ (l : Fin 4) (s : State),
      loopState s l = 4 →
      Completes (.loopHiccupCountReset l) s fun t => (loopX t l).r = 0 ∧ fget t (LOOP.PROT_STAT.RTRY l) = 0 ∧ loopState t l = 4)

/-- Loop commands and events change only the loops' block, reporting, time and the fabric (R183, R196, R198, R229, R571). -/
def Obligations.LoopEventsFrame : Prop :=
  (∀ (l : Fin 4) (c : Fin 8192) (i : BitVec 8) (d : BitVec 12) (k : Fin 16) (b : BitVec 11) (on : Bool) (v : Int) (x : Instr) (s : State),
      LoopCalm s ∧ stage s ≠ 3 ∧ (x = .loopEnable l ∨ x = .loopDisable l ∨ x = .loopClrLatch l ∨ x = .loopPeriodStart l ∨ x = .balanceUpdate l ∨ x = .loopHiccupCountReset l ∨
      x = .loopVsetWrite l c ∨ x = .loopSample l v ∨ x = .hiccupEntry l ∨ x = .annCtlAnnounce l i d ∨ x = .imonSample k b on) →
      Completes x s fun t => SameBut loopKeys s t ∧ t.chx = s.chx ∧ t.rgs = s.rgs ∧ t.chg = s.chg ∧ t.gau = s.gau ∧
        t.pds = s.pds ∧ t.itx = s.itx ∧ t.cvy = s.cvy ∧ t.wire = s.wire ∧ t.otp = s.otp ∧ t.flash = s.flash)

/-- EN turns a regulator on through admission and off at once; soft start ends in ON; VSET raises a buck by admission only (R258, R261, R263, R265, R275). -/
def Obligations.RegulatorTurnOnAndOff : Prop :=
  (∀ (r : Fin 8) (s : State),
      regUp s r ∧ s.start.running = true ∧ regState s r = 0 →
      Completes (.regEnable r) s fun t => t.comp = ⟨stOk, []⟩ ∧ regState t r = 1 ∧ fget t (REG.CTL.EN r) = 1 ∧
        fget t (REG.STAT.PENDING r) = 1 ∧ fget t (REG.VSET.VTGT r) = codeOf r (fget s (REG.VSET.VSET r)) ∧
        lastReq t = some { kind := .regOn r, mw := regResv s r (codeOf r (fget s (REG.VSET.VSET r))), arrival := localNs s }) ∧
  (∀ (r : Fin 8) (s : State),
      regUp s r ∧ s.start.running = true ∧ 1 ≤ regState s r ∧ regState s r ≤ 5 →
      Completes (.regEnable r) s fun t => t.comp = ⟨stOk, []⟩ ∧ t.ldg.reqs = s.ldg.reqs ∧ t.rgs = s.rgs ∧
        SameBut (inBlocks [0xA]) s t) ∧
  (∀ (r : Fin 8) (s : State),
      regUp s r ∧ (regState s r = 6 ∨ regState s r = 7) →
      Completes (.regEnable r) s fun t => t.comp = ⟨stIllegal, []⟩ ∧ t.ldg.reqs = s.ldg.reqs ∧ t.rgs = s.rgs ∧
        SameBut (inBlocks [0xA]) s t) ∧
  (∀ (r : Fin 8) (s : State),
      regUp s r ∧ 1 ≤ regState s r ∧ regState s r ≤ 5 →
      Completes (.regDisable r) s fun t => t.comp = ⟨stOk, []⟩ ∧ regState t r = 0 ∧ fget t (REG.CTL.EN r) = 0 ∧
        fget t (REG.STAT.PG r) = 0 ∧ fget t (REG.STAT.PENDING r) = 0 ∧ regAsksNothing t r) ∧
  (∀ (r : Fin 8) (s : State),
      regUp s r ∧ regState s r = 6 →
      Completes (.regClrLatch r) s fun t => t.comp = ⟨stOk, []⟩ ∧ regState t r = 0 ∧ fget t (REG.CTL.EN r) = 0) ∧
  (∀ (r : Fin 8) (s : State),
      regState s r = 2 ∧ fon s (REG.STAT.NOIN r) = false →
      Completes (.regSsComplete r) s fun t => regState t r = 3 ∧ regSlewing t r = false ∧ t.ldg = s.ldg) ∧
  (∀ (r : Fin 8) (c : Fin 2048) (s : State),
      regUp s r ∧ (regState s r = 0 ∨ regState s r = 6 ∨ regState s r = 7) →
      Completes (.regVsetWrite r c) s fun t => t.comp = ⟨stOk, []⟩ ∧ fget t (REG.VSET.VSET r) = c.val ∧ fget t (REG.VSET.VTGT r) = fget s (REG.VSET.VTGT r) ∧
        regRaising t r = false) ∧
  (∀ (r : Fin 8) (c : Fin 2048) (s : State),
      regUp s r ∧ s.start.running = true ∧ 1 ≤ regState s r ∧ regState s r ≤ 5 ∧ r.val < 4 ∧
      fget s (REG.VSET.VTGT r) < codeOf r c →
      Completes (.regVsetWrite r c) s fun t => t.comp = ⟨stOk, []⟩ ∧ fget t (REG.VSET.VSET r) = c.val ∧ fget t (REG.VSET.VTGT r) = fget s (REG.VSET.VTGT r) ∧
        fget t (REG.STAT.PENDING r) = 1 ∧ (lastReq t).map (fun q => (q.kind, q.mw, q.arrival)) = some (.regRaise r c,
          regResv s r (codeOf r c) - regResv s r (fget s (REG.VSET.VTGT r)), localNs s)) ∧
  (∀ (r : Fin 8) (c : Fin 2048) (s : State),
      regUp s r ∧ s.start.running = true ∧ 1 ≤ regState s r ∧ regState s r ≤ 5 ∧
      (4 ≤ r.val ∨ codeOf r c ≤ fget s (REG.VSET.VTGT r)) →
      Completes (.regVsetWrite r c) s fun t => t.comp = ⟨stOk, []⟩ ∧ fget t (REG.VSET.VSET r) = c.val ∧
        fget t (REG.VSET.VTGT r) = codeOf r c ∧ regRaising t r = false)

/-- A limit condition, over-temperature, a lost input, an overvoltage and the power-good edges move a regulator as R261-R265 say (R261, R262, R264, R265, R270). -/
def Obligations.RegulatorProtectionAndPowerGood : Prop :=
  (∀ (r : Fin 8) (s : State),
      (regState s r = 2 ∨ regState s r = 3) ∧ Calm s (0x20C + 4 * r) ∧ Reports s (0x20C + 4 * r) →
      Completes (.regLimitCondition r) s fun t => regState t r = 4 ∧ fget t (REG.EVT.HICCUP r) = 1 ∧
        fget t (FLT.LAT (0x20C + 4 * r)) = 1 ∧ fget t (REG.STAT.PG r) = 0 ∧
        t.ldg = s.ldg) ∧
  (∀ (r : Fin 8) (s : State),
      regState s r = 4 ∧ (fget s (REG.PROT.RETRY r) = 15 ∨ (regX s r).r < fget s (REG.PROT.RETRY r)) →
      Completes (.regHiccupRestart r) s fun t => regState t r = 2 ∧ (regX t r).r = (regX s r).r + 1 ∧
        fget t (REG.STAT.RTRY r) = min 15 ((regX s r).r + 1) ∧ t.ldg = s.ldg ∧ (stage s ≠ 0 → s.pwr.storage = false →
          (regX s r).hiccupAt + max 1 (fget s (REG.PROT.OFF_MS r)) * 1000000 ≤ localNs t)) ∧
  (∀ (r : Fin 8) (s : State),
      regState s r = 4 ∧ fget s (REG.PROT.RETRY r) ≠ 15 ∧ fget s (REG.PROT.RETRY r) ≤ (regX s r).r ∧ Calm s (0x20D + 4 * r) ∧ Reports s (0x20D + 4 * r) →
      Completes (.regHiccupRestart r) s fun t => regState t r = 6 ∧ fget t (REG.EVT.LATCH r) = 1 ∧
        fget t (FLT.LAT (0x20D + 4 * r)) = 1 ∧ fget t (REG.STAT.PG r) = 0) ∧
  (∀ (r : Fin 8) (s : State),
      2 ≤ regState s r ∧ regState s r ≤ 4 ∧ Calm s (0x20E + 4 * r) ∧ Reports s (0x20E + 4 * r) →
      Completes (.regOvertemp r) s fun t => regState t r = 5 ∧ fget t (REG.EVT.THERM r) = 1 ∧
        fget t (FLT.LAT (0x20E + 4 * r)) = 1 ∧ fget t (REG.STAT.PG r) = 0 ∧
        (regX t r).r = (regX s r).r) ∧
  (∀ (r : Fin 8) (s : State),
      regState s r = 5 →
      Completes (.regTempRecover r) s fun t => regState t r = 2 ∧ t.ldg = s.ldg) ∧
  (∀ (r : Fin 8) (s : State),
      regState s r = 2 ∨ regState s r = 3 →
      Completes (.regInputLoss r) s (fun t => fget t (REG.STAT.NOIN r) = 1 ∧ regState t r = regState s r ∧
          SameBut (inBlocks [0x5]) s t) ∧
        Completes (.regInputReturn r) { s with regs := (fset s (REG.STAT.NOIN r) 1).regs } (fun t => fget t (REG.STAT.NOIN r) = 0 ∧ regState t r = 2)) ∧
  (∀ (r : Fin 8) (s : State),
      r.val < 4 ∧ (regState s r = 2 ∨ regState s r = 3) →
      Completes (.regOvervoltage r) s fun t => fget t (REG.EVT.OV r) = 1 ∧ (regX t r).ov = true ∧ regState t r = regState s r) ∧
  (∀ (r : Fin 8) (s : State),
      Completes (.regOvRecover r) s fun t => (regX t r).ov = false ∧ t.regs = s.regs) ∧
  (∀ (r : Fin 8) (s : State),
      regState s r = 3 →
      Completes (.regPgSet r) s (fun t => fget t (REG.STAT.PG r) = 1 ∧ regState t r = 3) ∧
        Completes (.regHiccupCountReset r) s (fun t => (regX t r).r = 0 ∧ fget t (REG.STAT.RTRY r) = 0 ∧ regState t r = 3)) ∧
  (∀ (r : Fin 8) (s : State),
      regState s r = 3 ∧ fon s (REG.STAT.PG r) = true ∧ Calm s (0x20F + 4 * r) ∧ Reports s (0x20F + 4 * r) →
      Completes (.regPgLost r) s fun t => regState t r = 3 ∧ fget t (REG.EVT.PG_LOST r) = 1 ∧
        fget t (FLT.LAT (0x20F + 4 * r)) = 1 ∧ fget t (REG.STAT.PG r) = 0) ∧
  (∀ (r : Fin 8) (c : Fin 2048) (x : Instr) (s : State),
      (∀ k < 4, Calm s (0x20C + 4 * r + k)) ∧ (x = .regEnable r ∨ x = .regDisable r ∨ x = .regClrLatch r ∨ x = .regVsetWrite r c ∨ x = .regSsComplete r ∨ x = .regLimitCondition r ∨
      x = .regHiccupRestart r ∨ x = .regOvertemp r ∨ x = .regTempRecover r ∨ x = .regInputLoss r ∨ x = .regOvervoltage r ∨ x = .regPgSet r ∨ x = .regPgLost r) →
      Completes x s fun t => SameBut regKeys s t ∧ t.chx = s.chx ∧ t.lps = s.lps ∧ t.chg = s.chg ∧ t.gau = s.gau ∧ t.pds = s.pds ∧
        t.itx = s.itx ∧ t.cvy = s.cvy ∧ t.wire = s.wire ∧ t.otp = s.otp ∧ t.flash = s.flash ∧
        ∀ j < 8, j ≠ r.val → regX t j = regX s j ∧ regState t j = regState s j ∧ fget t (REG.VSET.VTGT j) = fget s (REG.VSET.VTGT j))

/-- Each step operation acts on its target and is over, or waits, as R278 says; a step that is over begins the next or ends in DONE (R276, R278, R283, R284, R285, R287). -/
def Obligations.SequenceStepsRunInOrder : Prop :=
  (∀ (q : Fin 16) (s : State),
      stepReady s q 1 ∧ railOff s (seqStep s q).tgt →
      Completes (.seqOpOn q) s fun t => railAsks t (seqStep s q).tgt ∧ stepWaits s t q) ∧
  (∀ (q : Fin 16) (s : State),
      stepReady s q 2 ∧ railUp s (seqStep s q).tgt →
      Completes (.seqOpOff q) s fun t => railDown t (seqStep s q).tgt ∧ stepOver s t q) ∧
  (∀ (q : Fin 16) (s : State),
      stepReady s q 3 ∧ targetDown s (if (seqStep s q).tgt < 0x4C then (seqStep s q).tgt else 0x7F) = false →
      Completes (.seqOpWaitPg q) s fun t => if railGood s (seqStep s q).tgt then stepOver s t q else stepWaits s t q) ∧
  (∀ (q : Fin 16) (s : State),
      stepReady s q 4 →
      Completes (.seqOpWaitTime q) s fun t => stepWaits s t q ∧ t.regs = s.regs) ∧
  (∀ (q : Fin 16) (s : State),
      stepReady s q 5 →
      Completes (.seqOpWaitCt q) s fun t =>
        if (seqX s q).base + (seqStep s q).arg * 10000 ≤ served s then stepOver s t q else stepWaits s t q ∧ t.regs = s.regs) ∧
  (∀ (q : Fin 16) (s : State),
      stepReady s q 6 ∧ railUp s (seqStep s q).tgt →
      Completes (.seqOpOffWait q) s fun t => railDown t (seqStep s q).tgt ∧ fget t (MON.STAT.MODE (seqStep s q).mon) = 2 ∧
        fget t (MON.CFG.ARM (seqStep s q).mon) = 0 ∧ stepWaits s t q) ∧
  (∀ (q : Fin 16) (s : State),
      stepReady s q 7 ∧ targetDown s 0x7F = false ∧ 0x50 ≤ (seqStep s q).tgt ∧ (seqStep s q).tgt < 0x80 ∧
      fget s (MON.STAT.MODE ((seqStep s q).tgt - 0x50)) ≠ 2 →
      Completes (.seqOpArm q) s fun t => fget t (MON.CFG.ARM ((seqStep s q).tgt - 0x50)) = (seqStep s q).arg % 2 ∧
        fget t (MON.STAT.MODE ((seqStep s q).tgt - 0x50)) = (seqStep s q).arg % 2 ∧ stepOver s t q) ∧
  (∀ (q : Fin 16) (s : State),
      stepReady s q 8 ∧ railUp s (seqStep s q).tgt ∧ 0x40 ≤ (seqStep s q).tgt ∧
      (seqStep s q).arg ≤ (if (seqStep s q).tgt < 0x44 then 880 else if (seqStep s q).tgt < 0x48 then 540 else 4200) →
      Completes (.seqOpSetV q) s fun t =>
        if (seqStep s q).arg ≤ railVtgt s (seqStep s q).tgt ∨ (0x44 ≤ (seqStep s q).tgt ∧ (seqStep s q).tgt < 0x48) then
          railVtgt t (seqStep s q).tgt = (seqStep s q).arg ∧ stepOver s t q
        else raisePending t (seqStep s q).tgt = true ∧ railVtgt t (seqStep s q).tgt = railVtgt s (seqStep s q).tgt ∧ stepWaits s t q) ∧
  (∀ (q : Fin 16) (s : State),
      stepReady s q 9 →
      Completes (.seqOpFlt q) s fun t => fget t (SEQ.STAT.FLT_HOLD q) = (seqStep s q).arg % 2 ∧
        ((seqStep s q).arg % 2 = 1 → fget t SEQ.FLT_STAT.DRIVE = 1 ∧ fget t SEQ.FLT_STAT.LINE = 0) ∧ stepOver s t q) ∧
  (∀ (q : Fin 16) (s : State),
      stepBegun s q 3 ∧ railGood s (seqStep s q).tgt = true →
      Completes (.seqStepComplete q) s fun t => stepOver s t q) ∧
  (∀ (q : Fin 16) (s : State),
      stepBegun s q 6 →
      Completes (.seqStepComplete q) s fun t => stepOver s t q ∧ fget t (MON.STAT.MODE (seqStep s q).mon) = 0 ∧
        fget t (MON.CFG.ARM (seqStep s q).mon) = 0) ∧
  (∀ (q : Fin 16) (s : State),
      stepBegun s q 4 ∧ stage s ≠ 0 ∧ s.pwr.storage = false →
      Completes (.seqWaitExpiry q) s fun t => stepOver s t q ∧
        (seqX s q).stepAt + (seqStep s q).arg * 10000 ≤ localNs t) ∧
  (∀ (q : Fin 16) (s : State),
      stepBegun s q 5 ∧ stage s ≠ 0 ∧ s.pwr.storage = false →
      Completes (.seqWaitExpiry q) s fun t => stepOver s t q)

/-- SEQ.CMD starts a sequence at step 0 and aborts it where it stands; a step that times out fails with its code (R276, R278, R279, R281, R283, R284, R285). -/
def Obligations.SequenceStartAbortAndTimeout : Prop :=
  (∀ (q : Fin 16) (s : State),
      targetDown s 0x7F = false ∧ fget s (SEQ.STAT.STATE q) = 1 →
      Completes (.seqCmdStart q) s fun t => t.comp = ⟨stIllegal, []⟩ ∧ fget t (SEQ.EVT.IGNORED q) = 1 ∧ t.sqs = s.sqs ∧
        fget t (SEQ.STAT.STATE q) = 1 ∧ fget t (SEQ.STAT.STEP q) = fget s (SEQ.STAT.STEP q)) ∧
  (∀ (q : Fin 16) (s : State),
      targetDown s 0x7F = false ∧ fget s (SEQ.STAT.STATE q) ≠ 1 ∧ s.start.running = true ∧ safe s = false ∧ (seqHead s q).count ≠ 0 →
      Completes (.seqCmdStart q) s fun t => t.comp = ⟨stOk, []⟩ ∧ fget t (SEQ.STAT.STATE q) = 1 ∧ fget t (SEQ.STAT.STEP q) = 0 ∧
        fget t (SEQ.STAT.FAIL_CODE q) = 0 ∧ fget t (SEQ.EVT.STARTED q) = 1 ∧ fget t (SEQ.STAT.FLT_HOLD q) = 0 ∧
        (seqX t q).base = served s ∧ ((seqHead s q).flags % 2 = 1 → ∀ p < 16, p ≠ q.val → fget s (SEQ.STAT.STATE p) = 1 →
          (seqHead s p).flags % 2 = 0 → fget t (SEQ.STAT.STATE p) = 4)) ∧
  (∀ (q : Fin 16) (s : State),
      targetDown s 0x7F = false ∧ fget s (SEQ.STAT.STATE q) = 1 →
      Completes (.seqCmdAbort q) s fun t => t.comp = ⟨stOk, []⟩ ∧ fget t (SEQ.STAT.STATE q) = 4 ∧ fget t (SEQ.EVT.ABORTED q) = 1 ∧
        ((seqStep s q).op = 6 ∧ (seqX s q).issued = true → fget t (MON.STAT.MODE (seqStep s q).mon) = 0 ∧ fget t (MON.CFG.ARM (seqStep s q).mon) = 0) ∧
        ((seqStep s q).op = 1 ∧ (seqX s q).issued = true ∧ 0x40 ≤ (seqStep s q).tgt ∧ (seqStep s q).tgt < 0x48 ∧
          regState s ((seqStep s q).tgt - 0x40) = 1 →
          regState t ((seqStep s q).tgt - 0x40) = 0 ∧ regAsksNothing t ((seqStep s q).tgt - 0x40)) ∧
        ((seqStep s q).op = 1 ∧ (seqX s q).issued = true ∧ (seqStep s q).tgt < 0x40 ∧ chState s (seqStep s q).tgt = 3 →
          chState t (seqStep s q).tgt = 0 ∧ ∀ r ∈ t.ldg.reqs, isChanReq (seqStep s q).tgt r.kind = false)) ∧
  (∀ (q : Fin 16) (s : State),
      (stepBegun s q 1 ∨ stepBegun s q 3 ∨ stepBegun s q 6 ∨ stepBegun s q 8) ∧ Calm s 0x25E ∧ Reports s 0x25E ∧ Calm s 0x25F ∧
      Reports s 0x25F ∧ (seqHead s q).failSeq ≠ q →
      Completes (.seqStepTimeout q) s fun t => let h := seqHead s q
        fget t (SEQ.STAT.FAIL_CODE q) = (if (seqStep s q).op = 6 then 4 else 1) ∧
        ((seqStep s q).op = 6 → fget t (MON.STAT.MODE (seqStep s q).mon) = 0 ∧ fget t (FLT.LAT 0x25F) = 1) ∧
        if (seqStep s q).sflags % 2 = 1 then stepOver s t q
        else fget t (SEQ.STAT.STATE q) = 3 ∧ fget t (SEQ.EVT.FAILED q) = 1 ∧ fget t (FLT.LAT 0x25E) = 1 ∧
          (h.flags / 2 % 2 = 1 → fget t (SEQ.STAT.FLT_HOLD q) = 1) ∧
          (h.failSeq < 16 ∧ s.start.running = true ∧ safe s = false ∧ (seqHead s h.failSeq).count ≠ 0 ∧
            fget s (SEQ.STAT.STATE h.failSeq) ≠ 1 → fget t (SEQ.STAT.STATE h.failSeq) = 1 ∧ fget t (SEQ.STAT.STEP h.failSeq) = 0))

/-- An armed monitor records a condition and may drive SEQ_FLT or start a sequence; an external low starts the sequences it triggers (R284, R287, R288, R291, R292, R305, R306). -/
def Obligations.MonitorsAndTheSharedFaultLine : Prop :=
  (∀ (m : Fin 48) (a : Bool) (s : State),
      targetDown s 0x7F = false →
      Completes (.monArmWrite m a) s fun t =>
        if fget s (MON.STAT.MODE m) = 2 then (a = true → t.comp = ⟨stIllegal, []⟩) ∧ fget t (MON.STAT.MODE m) = 2 ∧
          fget t (MON.CFG.ARM m) = fget s (MON.CFG.ARM m)
        else t.comp = ⟨stOk, []⟩ ∧ fget t (MON.STAT.MODE m) = b2n a ∧ fget t (MON.CFG.ARM m) = b2n a) ∧
  (∀ (m : Fin 48) (s : State),
      (fget s (MON.STAT.MODE m) = 1 ∨ fget s (MON.STAT.MODE m) = 2) ∧ fon s (MON.EVT.OV m) = false ∧ Calm s (0x180 + m) ∧ Reports s (0x180 + m) ∧
      fget s (MON.CFG.SEQ_EN m) = 0 →
      Completes (.monCondition m true) s fun t => fget t (MON.EVT.OV m) = 1 ∧ fget t (FLT.LAT (0x180 + m)) = 1 ∧
        fget t (MON.STAT.MODE m) = fget s (MON.STAT.MODE m) ∧
        (fget s (MON.CFG.FLT_OUT m) = 1 ∧ 2 ≤ stage s → fget t SEQ.FLT_STAT.DRIVE = 1)) ∧
  (∀ (m : Fin 48) (s : State),
      fget s (MON.STAT.MODE m) = 1 ∧ fon s (MON.EVT.UV m) = false ∧ Calm s (0x1B0 + m) ∧ Reports s (0x1B0 + m) ∧
      fget s (MON.CFG.SEQ_EN m) = 0 →
      Completes (.monCondition m false) s fun t => fget t (MON.EVT.UV m) = 1 ∧ fget t (FLT.LAT (0x1B0 + m)) = 1 ∧
        fget t (MON.STAT.MODE m) = fget s (MON.STAT.MODE m) ∧
        (fget s (MON.CFG.FLT_OUT m) = 1 ∧ 2 ≤ stage s → fget t SEQ.FLT_STAT.DRIVE = 1)) ∧
  (∀ (m : Fin 48) (b : Bool) (s : State),
      fget s (MON.STAT.MODE m) = 1 ∧ fon s (MON.EVT.OV m) = false ∧ fon s (MON.EVT.UV m) = false ∧ Calm s (0x180 + m) ∧
      Calm s (0x1B0 + m) ∧ fget s (MON.CFG.SEQ_EN m) = 1 ∧ 2 ≤ stage s ∧ s.start.running = true ∧ safe s = false ∧
      (seqHead s (fget s (MON.CFG.SEQ m))).count ≠ 0 ∧ fget s (SEQ.STAT.STATE (fget s (MON.CFG.SEQ m))) ≠ 1 →
      Completes (.monCondition m b) s fun t => fget t (SEQ.STAT.STATE (fget s (MON.CFG.SEQ m))) = 1 ∧
        fget t (SEQ.STAT.STEP (fget s (MON.CFG.SEQ m))) = 0) ∧
  (∀ (m : Fin 48) (b : Bool) (s : State),
      fget s (MON.STAT.MODE m) = 0 →
      Completes (.monCondition m b) s fun t => fget t (MON.EVT.OV m) = fget s (MON.EVT.OV m) ∧
        fget t (MON.EVT.UV m) = fget s (MON.EVT.UV m) ∧ (if b then fget t (MON.STAT.ABOVE m) = 1 else fget t (MON.STAT.BELOW m) = 1) ∧
        SameBut (inBlocks [6]) s t ∧ t.sqs = s.sqs) ∧
  (∀ (m : Fin 48) (s : State),
      Completes (.monConditionClear m) s fun t => fget t (MON.STAT.ABOVE m) = 0 ∧ fget t (MON.STAT.BELOW m) = 0) ∧
  (∀ (s : State),
      s.start.running = true ∧ s.start.applied = true ∧ fon s SEQ.FLT_STAT.DRIVE = false ∧ fon s SEQ.FLT_STAT.EXT = false ∧
      Calm s 0x260 ∧ Reports s 0x260 ∧ safe s = false ∧ ∀ q < 16, (seqHead s q).flags % 2 = 0 →
      Completes .seqFltExternal s fun t => fget t SEQ.FLT_STAT.EXT = 1 ∧ fget t SEQ.FLT_STAT.EXT_EVT = 1 ∧ fget t SEQ.FLT_STAT.LINE = 0 ∧
        fget t (FLT.LAT 0x260) = 1 ∧ ∀ q < 16, (seqHead s q).trig / 2 % 2 = 1 → (seqHead s q).count ≠ 0 →
          fget s (SEQ.STAT.STATE q) ≠ 1 → fget t (SEQ.STAT.STATE q) = 1 ∧ fget t (SEQ.STAT.STEP q) = 0) ∧
  (∀ (s : State),
      fon s SEQ.FLT_STAT.EXT = true ∧ fon s SEQ.FLT_STAT.DRIVE = false →
      Completes .seqFltExternalRelease s fun t => fget t SEQ.FLT_STAT.EXT = 0 ∧ fget t SEQ.FLT_STAT.LINE = 1) ∧
  (∀ (s : State),
      fon s SEQ.FLT_STAT.DRIVE = true →
      Completes .seqFltMinExpiry s fun t => fget t SEQ.FLT_STAT.DRIVE = b2n (fltWanted s) ∧ t.sqs.minHold = false ∧
        SameBut (fun k => inBlocks [6, 7, 0x13, 0x15] k) s t)

/-- ENUM gives a unit its address and goes on; the head concludes a ring or a line and broadcasts ENUM_DONE; strays are flagged (R316, R319, R320, R321, R322, R323, R324, R336). -/
def Obligations.EnumerationGivesAddresses : Prop :=
  (∀ (p : Fin 2) (gen : BitVec 8) (single : Bool) (next : Nat) (s : State),
      chainRuns s ∧ isHead s = false ∧ single = false ∧ p = 0 ∧ 1 ≤ next ∧ next ≤ 31 →
      Completes (.enumRx p gen single next) s fun t => fget t LNK.STAT.ADDR = next ∧ fget t LNK.STAT.ADDR_VALID = 1 ∧
        (addressed s = true ∧ myAddr s ≠ next → fget t LNK.EVT.ADDR_CHG = 1) ∧
        if portUp s 1 then sentOn s t 1 1 [gen.toNat * 2 ^ 16 + (next + 1)] ∧ t.lnk.enumHeld = none
        else t.lnk.enumHeld = some (next + 1, gen.toNat)) ∧
  (∀ (p : Fin 2) (gen : BitVec 8) (single : Bool) (next : Nat) (s : State),
      chainRuns s ∧ isHead s = false ∧ single = false ∧ p = 0 ∧ next = 32 ∧ Reports s 0x262 →
      Completes (.enumRx p gen single next) s fun t => fget t LNK.STAT.ADDR_VALID = 0 ∧ fget t LNK.STAT.OVER = 1 ∧
        fget t LNK.EVT.OVER = 1 ∧ fget t (FLT.LAT 0x262) = 1 ∧ (portUp s 0 = true → sentOn s t 0 2 [gen.toNat * 2 ^ 16 + 96])) ∧
  (∀ (p : Fin 2) (gen : BitVec 8) (single : Bool) (next : Nat) (s : State),
      chainRuns s ∧ isHead s = false ∧ single = false ∧ p = 1 ∧ 1 ≤ next ∧ next ≤ 32 →
      Completes (.enumRx p gen single next) s fun t => fget t LNK.EVT.TOPO = 1 ∧ t.lnk = s.lnk ∧ SameBut (inBlocks [7]) s t ∧
        fget t LNK.STAT.ADDR = fget s LNK.STAT.ADDR ∧ fget t LNK.STAT.ADDR_VALID = fget s LNK.STAT.ADDR_VALID) ∧
  (∀ (p : Fin 2) (gen : BitVec 8) (single : Bool) (next : Nat) (s : State),
      chainRuns s ∧ isHead s = false ∧ single = true ∧ addressed s = false ∧ 1 ≤ next ∧ next ≤ 31 →
      Completes (.enumRx p gen single next) s fun t => fget t LNK.STAT.ADDR = next ∧ fget t LNK.STAT.ADDR_VALID = 1 ∧
        t.lnk.enumHeld = s.lnk.enumHeld ∧ (portUp s 0 = true ∧ portUp s 1 = true →
          ∃ q < 2, sentOn s t q 4 [gen.toNat * 2 ^ 16 + 2 ^ 13 + next * 2 ^ 8 + p * 2 ^ 4 + 3])) ∧
  (∀ (p : Fin 2) (gen : BitVec 8) (single : Bool) (next : Nat) (s : State),
      chainRuns s ∧ isHead s = false ∧ single = true ∧ addressed s = true ∧ 1 ≤ next ∧ next ≤ 32 ∧ next ≠ myAddr s ∧ Reports s 0x263 →
      Completes (.enumRx p gen single next) s fun t => fget t LNK.EVT.TOPO = 1 ∧ fget t (FLT.LAT 0x263) = 1 ∧
        fget t LNK.STAT.ADDR = fget s LNK.STAT.ADDR ∧ fget t LNK.STAT.ADDR_VALID = 1) ∧
  (∀ (gen : BitVec 8) (n : Nat) (s : State),
      chainRuns s ∧ chainWhole s ∧ isHead s = true ∧ addressed s = true ∧ s.lnk.enumRuns = true ∧ s.lnk.gen = gen.toNat ∧
      s.lnk.enumHeld = none ∧ 1 ≤ n ∧ n ≤ 32 →
      Completes (.enumRx 0 gen false n) s (fun t => enumerated s t n 2 gen.toNat) ∧
        Completes (.enumEndRx gen false n) s (fun t => enumerated s t n 1 gen.toNat)) ∧
  (∀ (p : Fin 2) (gen : BitVec 8) (single : Bool) (next : Nat) (s : State),
      chainRuns s ∧ isHead s = true ∧ 1 ≤ next ∧ next ≤ 32 ∧ (single = true ∨ s.lnk.enumRuns = false ∨ s.lnk.gen ≠ gen.toNat) ∧
      Reports s 0x264 →
      Completes (.enumRx p gen single next) s fun t => fget t LNK.STAT.HEAD_CONFLICT = 1 ∧ fget t LNK.EVT.HEAD2 = 1 ∧
        fget t (FLT.LAT 0x264) = 1 ∧ fget t LNK.STAT.ADDR = fget s LNK.STAT.ADDR ∧ t.lnk.enumRuns = s.lnk.enumRuns ∧
        t.lnk.enumHeld = s.lnk.enumHeld) ∧
  (∀ (gen : BitVec 8) (ring : Bool) (n : Nat) (s : State),
      chainRuns s ∧ chainWhole s ∧ isHead s = false ∧ n < 64 →
      Completes (.enumDoneRx gen ring n) s fun t => fget t LNK.STAT.N = n ∧ fget t LNK.STAT.TOPO = (if ring then 2 else 1) ∧
        fget t LNK.STAT.CHAIN_GEN = gen.toNat ∧ fget t LNK.EVT.ENUM = 1 ∧ fget t LNK.STAT.ADDR = fget s LNK.STAT.ADDR) ∧
  (∀ (n gen : Nat) (s : State),
      chainRuns s ∧ chainWhole s ∧ s.lnk.enumHeld = some (n, gen) ∧ addressed s = true →
      Completes .enumWaitExpiry s fun t => t.lnk.enumHeld = none ∧
        if isHead s then s.lnk.gen < 256 → enumerated s t 1 1 s.lnk.gen
        else portUp s 0 = true ∧ fon s (LNK.REACH 0) = true ∧ fon s (LNK.ROUTE 0) = true ∧ myAddr s ≠ 0 → sentOn s t 0 2 [gen * 2 ^ 16 + n]) ∧
  (∀ (rq : Fin 24) (s : State),
      chainRuns s ∧ reachable s rq 0x7000C →
      Completes (.lnkCmdReenumerate rq) s fun t =>
        if isHead s then t.comp = ⟨stOk, []⟩ ∧ (addressed s = true → t.lnk.enumRuns = true ∧ t.lnk.gen = s.lnk.gen % 255 + 1 ∧
          (portUp s 1 = true → sentOn s t 1 1 [(s.lnk.gen % 255 + 1) * 2 ^ 16 + 1]))
        else t.comp = ⟨stIllegal, []⟩ ∧ t.lnk = s.lnk ∧ SameBut (recKeys rq) s t) ∧
  (∀ (p : Fin 2) (s : State),
      chainRuns s ∧ portUp s p = true →
      Completes (.helloSend p) s fun t => ∃ f ∈ newOut s t p 0, f.typ = 4 ∧ f.hop = true ∧ f.noaddr = !addressed s ∧
        f.pay = [fget s LNK.STAT.CHAIN_GEN * 2 ^ 16 + b2n (addressed s) * 2 ^ 13 + myAddr s * 2 ^ 8 + p * 2 ^ 4]) ∧
  (∀ (p : Fin 2) (gen : BitVec 8) (v : Bool) (a : Fin 32) (s : State),
      chainRuns s ∧ portUp s p = true →
      Completes (.linkStateHelloRx p gen v a) s fun t => fget t (LNK.PORT.STAT.NB_VALID p) = b2n v ∧
        fget t (LNK.PORT.STAT.NB_ADDR p) = (if v then a.val else 0) ∧
        let next := if p = 1 then myAddr s + 1 else myAddr s - 1
        (v = false ∧ addressed s = true ∧ 1 ≤ next ∧ next ≤ 31 → sentOn s t p 1 [fget s LNK.STAT.CHAIN_GEN * 2 ^ 16 + 2 ^ 8 + next])) ∧
  (∀ (a : Fin 32) (s : State),
      chainRuns s ∧ chainWhole s ∧ isHead s = true ∧ addressed s = true ∧ 1 ≤ fget s LNK.STAT.TOPO →
      Completes (.linkStateJoinedRx a) s fun t =>
        if s.lnk.enumRuns then t.lnk.joined = [a.val] ∧ fget t LNK.STAT.N = fget s LNK.STAT.N
        else if fon s (LNK.REACH a) then t.lnk.enumRuns = true ∧ t.lnk.gen = s.lnk.gen % 255 + 1
        else fget t LNK.STAT.N = max (fget s LNK.STAT.N) (a + 1) ∧ fget t LNK.EVT.ENUM = 1 ∧ t.lnk.enumRuns = false)

/-- Ports train and lose link, breaks and repairs change the routes, and frames are delivered, forwarded, dropped or sent by R313-R318 (R310, R311, R312, R313, R316, R317, R318, R325, R326, R339, R341). -/
def Obligations.PortsRoutesAndForwarding : Prop :=
  (∀ (p : Fin 2) (s : State),
      fget s (LNK.PORT.STAT.STATE p) < 2 ∧ fget s LNK.STAT.RATE ≠ 0 ∧ stage s ≠ 4 ∧ stage s ≠ 3 ∧ ChainCalm s ∧ roomy s →
      Completes (.portTrained p) s fun t => fget t (LNK.PORT.STAT.STATE p) = 2 ∧ fget t (LNK.PORT.STAT.SIG p) = 1 ∧
        fget t (TIME.HOP.VALID p) = 0 ∧ (addressed s = true → p = 1 → t.lnk.enumHeld = none ∧
          ∀ e ∈ s.lnk.enumHeld.toList, sentOn s t 1 1 [e.2 * 2 ^ 16 + e.1])) ∧
  (∀ (p : Fin 2) (s : State),
      portUp s p = true ∧ ChainCalm s ∧ stage s ≠ 3 ∧ roomy s ∧ Reports s 0x265 →
      Completes (.portLinkLoss p) s fun t => fget t (LNK.PORT.STAT.STATE p) = 0 ∧ fget t (LNK.PORT.STAT.NB_VALID p) = 0 ∧
        fget t (TIME.HOP.VALID p) = 0 ∧ fget t (FLT.LAT 0x265) = 1 ∧
        fget t (LNK.PORT.CNT.DOWNS p) = min (fget s (LNK.PORT.CNT.DOWNS p) + 1) 0xFFFF ∧
        (addressed s = true ∧ portUp s (1 - p) = true → sentOn s t (1 - p) 4
          [fget s LNK.STAT.CHAIN_GEN * 2 ^ 16 + 2 ^ 13 + myAddr s * 2 ^ 8 + p * 2 ^ 4 + 1]) ∧
        (addressed s = true ∧ p = 1 → t.lnk.broken.contains (myAddr s) = true ∧ (fget s LNK.STAT.TOPO = 2 ∧ s.lnk.broken = [] →
          fget t LNK.STAT.TOPO = 3 ∧ fget t LNK.EVT.BREAK = 1))) ∧
  (∀ (p : Fin 2) (s : State),
      fget s (LNK.PORT.STAT.STATE p) = 3 →
      Completes (.nightLinkLoss p) s fun t => fget t (LNK.PORT.STAT.STATE p) = 0 ∧ SameBut (inBlocks [7, 8]) s t) ∧
  (∀ (a : Fin 32) (s : State),
      halted s 2 = false ∧ ChainCalm s ∧ stage s ≠ 3 ∧ addressed s = true ∧ s.lnk.broken = [] →
      Completes (.linkStateDownRx a 1) s fun t => t.lnk.broken = [a.val] ∧
        (fget s LNK.STAT.TOPO = 2 → fget t LNK.STAT.TOPO = 3 ∧ fget t LNK.EVT.BREAK = 1) ∧
        (fget s LNK.STAT.TOPO < 2 → ∀ u < 32, u ≠ myAddr s → ((myAddr s ≤ a.val ∧ a.val < u) ∨ (a.val < myAddr s ∧ u ≤ a.val)) →
          fon t (LNK.REACH u) = false) ∧
        (fget s LNK.STAT.TOPO < 2 ∧ a.val < myAddr s ∧ fon s LNK.STAT.ATTACHED = true → fget t LNK.STAT.ATTACHED = 0 ∧ fget t LNK.EVT.DETACH = 1)) ∧
  (∀ (a : Fin 32) (s : State),
      halted s 2 = false ∧ addressed s = true ∧ s.lnk.broken.contains a.val = true →
      Completes (.linkStateUpRx a 1) s fun t => t.lnk.holding.contains a.val = true ∧ t.lnk.broken = s.lnk.broken ∧ t.regs = s.regs) ∧
  (∀ (h : Fin 32) (s : State),
      halted s 2 = false ∧ ChainCalm s ∧ stage s ≠ 3 ∧ s.lnk.holding.contains h.val = true →
      Completes (.repairHoldExpiry h) s fun t => t.lnk.broken = s.lnk.broken.filter (· != h.val) ∧ t.lnk.holding.contains h.val = false ∧
        (s.lnk.broken = [h.val] → fget t LNK.EVT.REPAIR = 1 ∧ (2 ≤ fget s LNK.STAT.TOPO → fget t LNK.STAT.TOPO = 2))) ∧
  (∀ (p : Fin 2) (f : Frame) (bad : Bool) (s : State),
      portUp s p = true ∧ (bad = true ∨ frameValid f = false) ∧ Calm s 0x268 →
      Completes (.frameForward p f bad) s fun t => fget t (LNK.PORT.ERR.CRC p) = min (fget s (LNK.PORT.ERR.CRC p) + 1) 0xFFFF ∧
        t.lnk.delivered = s.lnk.delivered ∧ t.lnk.seen = s.lnk.seen) ∧
  (∀ (p : Fin 2) (f : Frame) (s : State),
      addressed s = true ∧ portUp s p = true ∧ frameValid f = true ∧ f.noaddr = false ∧ f.src = myAddr s →
      Completes (.frameForward p f false) s fun t => t = s) ∧
  (∀ (p : Fin 2) (f : Frame) (s : State),
      portUp s p = true ∧ frameValid f = true ∧ addressed s = true ∧ heldOff s p f = false ∧ frameCopy s f = false ∧ (f.noaddr = true ∨ f.src ≠ myAddr s) ∧
      (f.hop = true ∨ (f.bc = false ∧ f.dst = myAddr s)) →
      Completes (.frameForward p f false) s fun t => t.lnk.delivered = some f ∧ t.lnk.up = s.lnk.up ∧ t.lnk.dn = s.lnk.dn ∧ t.regs = s.regs) ∧
  (∀ (p : Fin 2) (f : Frame) (s : State),
      portUp s p = true ∧ frameValid f = true ∧ addressed s = true ∧ heldOff s p f = false ∧ frameCopy s f = false ∧ (f.noaddr = true ∨ f.src ≠ myAddr s) ∧ f.hop = false ∧
      (f.bc = true ∨ f.dst ≠ myAddr s) ∧ f.typ ≠ 0x20 ∧ 2 ≤ f.ttl ∧ portUp s (forwardPort s p f) = true ∧
      heldOff s (forwardPort s p f) f = false ∧ (classQ (portQ s (forwardPort s p f)) (frameClass f.typ)).length < 8 →
      Completes (.frameForward p f false) s fun t => t.lnk.delivered = (if f.bc then some f else s.lnk.delivered) ∧
        newOut s t (forwardPort s p f) (frameClass f.typ) = [{ f with ttl := f.ttl - 1 }] ∧
        (f.bc = true → forwardPort s p f = 1 - p) ∧ portQ t (1 - forwardPort s p f) = portQ s (1 - forwardPort s p f) ∧ t.regs = s.regs) ∧
  (∀ (p : Fin 2) (f : Frame) (s : State),
      portUp s p = true ∧ frameValid f = true ∧ addressed s = true ∧ heldOff s p f = false ∧ frameCopy s f = false ∧ (f.noaddr = true ∨ f.src ≠ myAddr s) ∧ f.hop = false ∧
      (f.bc = true ∨ f.dst ≠ myAddr s) ∧ f.ttl ≤ 1 →
      Completes (.frameForward p f false) s fun t => fget t (LNK.PORT.CNT.TTL_DROP p) = min (fget s (LNK.PORT.CNT.TTL_DROP p) + 1) 0xFFFF ∧
        t.lnk.up = s.lnk.up ∧ t.lnk.dn = s.lnk.dn) ∧
  (∀ (p : Fin 2) (f : Frame) (s : State),
      portUp s p = true ∧ f.typ ≠ 0x20 ∧ f.typ ≠ 0x21 ∧ ((portQ s p).q0 ++ (portQ s p).q1 ++ (portQ s p).q2).head? = some f →
      Completes (.frameTransmit p) s fun t => (portQ t p).last = some f ∧
        (portQ t p).q0 ++ (portQ t p).q1 ++ (portQ t p).q2 = ((portQ s p).q0 ++ (portQ s p).q1 ++ (portQ s p).q2).tail ∧
        portQ t (1 - p) = portQ s (1 - p) ∧ t.regs = s.regs)

/-- REG_RD and REG_WR are carried out as coaches and answered once; RACC sends one request at a time; LNK.CMD sends RESET frames (R328, R329, R330, R336, R342, R344, R345). -/
def Obligations.RegisterAccessThroughTheChain : Prop :=
  (∀ (src : Fin 32) (tag : BitVec 16) (a : Nat) (s : State),
      halted s 2 = false ∧ a % 4 = 0 ∧ (specAt a).isSome = true ∧ storesOnly a = true ∧ reachable s 10 a ∧ a / 2 ^ 16 ≠ 7 ∧
      portUp s (routePort s src) = true ∧ myAddr s ≠ src ∧ addressed s = true ∧ isRing s = true ∧
      (portQ s (routePort s src)).q2.length < 32 →
      Completes (.regRdRx src tag 1 a) s fun t => let w := (regRead s 10 a).2.2.headD 0
        ∃ f ∈ newOut s t (routePort s src) 2, f.typ = 0x12 ∧ f.dst = src ∧ f.pay = [2 ^ 24 + tag.toNat, w]) ∧
  (∀ (src : Fin 32) (tag : BitVec 16) (n : Fin 32) (a : Nat) (s : State),
      halted s 2 = false ∧ a % 4 = 0 ∧ 1 ≤ n.val ∧ n.val ≤ 15 ∧ ChainCalm s ∧ stage s ≠ 3 ∧
      portUp s (routePort s src) = true ∧ myAddr s ≠ src ∧ addressed s = true ∧ isRing s = true ∧
      (portQ s (routePort s src)).q2.length < 32 →
      Completes (.regRdRx src tag n a) s fun t =>
        ∃ f ∈ newOut s t (routePort s src) 2, f.typ = 0x12 ∧ f.dst = src ∧ let w := f.pay.headD 0
          w % 2 ^ 16 = tag.toNat ∧ bitsOf w 28 24 + 1 = f.pay.length ∧ bitsOf w 28 24 ≤ n ∧ (bitsOf w 23 16 = stOk ↔ bitsOf w 28 24 = n)) ∧
  (∀ (src : Fin 32) (tag : BitVec 16) (n : Fin 32) (a : Nat) (d : List Word) (s : State),
      halted s 2 = false ∧ (n = 0 ∨ 15 < n.val ∨ a % 4 ≠ 0) ∧
      portUp s (routePort s src) = true ∧ myAddr s ≠ src ∧ addressed s = true ∧ isRing s = true ∧
      (portQ s (routePort s src)).q2.length < 32 →
      Completes (.regRdRx src tag n a) s (fun t => sentOn s t (routePort s src) 0x12 [2 ^ 16 + tag.toNat] ∧ t.regs = s.regs) ∧
        Completes (.regWrRx src tag n a d) s (fun t => sentOn s t (routePort s src) 0x12 [2 ^ 16 + tag.toNat] ∧ t.regs = s.regs)) ∧
  (∀ (src : Fin 32) (tag : BitVec 16) (i : Fin 15) (w : Word) (s : State),
      halted s 2 = false ∧ s.lnk.racc = none ∧ fon s LNK.RACC_STAT.BUSY = false ∧ reachable s 10 (0x70140 + 4 * i) ∧
      portUp s (routePort s src) = true ∧ myAddr s ≠ src ∧ addressed s = true ∧ isRing s = true ∧
      (portQ s (routePort s src)).q2.length < 32 →
      Completes (.regWrRx src tag 1 (0x70140 + 4 * i) [w]) s fun t => fget t (LNK.RACC_DATA.DATA i) = w.toNat ∧
        sentOn s t (routePort s src) 0x12 [2 ^ 24 + tag.toNat]) ∧
  (∀ (src : Fin 32) (tag : BitVec 16) (a : Nat) (w : Word) (s : State),
      halted s 2 = false ∧ a % 4 = 0 ∧ wordResets (coachWrite s 10 a w.toNat) a w.toNat = false →
      Completes (.regWrRx src tag 1 a [w]) s fun t => let u := coachWrite s 10 a w.toNat
        t = chainAnswer u src tag.toNat u.comp.status (if u.comp.status = stOk then 1 else 0) []) ∧
  (∀ (r : Racc) (st : BitVec 8) (d : Fin 16) (l : List Word) (s : State),
      halted s 2 = false ∧ s.lnk.racc = some r ∧ r.tag < 2 ^ 16 →
      Completes (.regRspRx (BitVec.ofNat 16 r.tag) st d l) s (fun t => t.lnk.racc = none ∧ fget t LNK.RACC_STAT.STATUS = st.toNat ∧
          fget t LNK.RACC_STAT.DONE = d.val ∧ fget t LNK.RACC_STAT.BUSY = 0 ∧ fget t LNK.RACC_STAT.DONE_EVT = 1 ∧
          ∀ i < 15, fget t (LNK.RACC_DATA.DATA i) =
            (if r.write = false ∧ i < d.val ∧ i < l.length then (l.getD i 0).toNat else fget s (LNK.RACC_DATA.DATA i))) ∧
        Completes (.regRspRx (BitVec.ofNat 16 (r.tag + 1)) st d l) s (fun t => fget t LNK.EVT.RSP_LATE = 1 ∧ t.lnk = s.lnk) ∧
        Completes .raccTimeout s (fun t => t.lnk.racc = none ∧ fget t LNK.RACC_STAT.STATUS = stChainTimeout ∧ fget t LNK.RACC_STAT.DONE = 0 ∧
          fget t LNK.RACC_STAT.BUSY = 0 ∧ fget t LNK.RACC_STAT.DONE_EVT = 1)) ∧
  (∀ (rq : Fin 24) (n : Fin 16) (wr : Bool) (s : State),
      reachable s rq 0x70100 ∧ s.lnk.racc = none ∧ n ≠ 0 ∧ (wr = true → n.val ≤ 14) ∧
      portUp s (routePort s (fget s LNK.RACC_ADDR.UNIT)) = true ∧ myAddr s ≠ (fget s LNK.RACC_ADDR.UNIT) ∧ addressed s = true ∧ isRing s = true ∧
      (portQ s (routePort s (fget s LNK.RACC_ADDR.UNIT))).q2.length < 32 →
      Completes (if wr then .raccWrite rq n else .raccRead rq n) s fun t => t.comp = ⟨stOk, []⟩ ∧ fget t LNK.RACC_STAT.BUSY = 1 ∧
        t.lnk.racc.isSome = true ∧ ∃ f ∈ newOut s t (routePort s (fget s LNK.RACC_ADDR.UNIT)) 2, f.typ = (if wr then 0x11 else 0x10) ∧
          f.dst = fget s LNK.RACC_ADDR.UNIT ∧ f.pay = [n * 2 ^ 16 + s.lnk.tag, fget s LNK.RACC_ADDR.ADDR] ++
            (if wr then (List.range n).map fun i => fget s (LNK.RACC_DATA.DATA i) else [])) ∧
  (∀ (rq : Fin 24) (n : Fin 16) (wr : Bool) (s : State),
      reachable s rq 0x70100 ∧ (s.lnk.racc.isSome = true ∨ addressed s = false ∨ n = 0 ∨ (wr = true ∧ n = 15) ∨
      fget s LNK.RACC_ADDR.UNIT = myAddr s) →
      Completes (if wr then .raccWrite rq n else .raccRead rq n) s fun t => t.comp = ⟨stIllegal, []⟩ ∧ t.lnk = s.lnk ∧
        SameBut (recKeys rq) s t) ∧
  (∀ (rq : Fin 24) (u : Fin 32) (k : BitVec 16) (s : State),
      reachable s rq 0x7000C ∧ chainRuns s ∧ addressed s = true ∧ isRing s = true →
      Completes (.lnkCmdResetUnit rq k u) s (fun t => if k = 0xA5C3 then t.comp = ⟨stOk, []⟩ ∧
          (u.val ≠ myAddr s ∧ portUp s (routePort s u) = true → ∃ f ∈ newOut s t (routePort s u) 0, f.typ = 6 ∧ f.dst = u ∧ f.bc = false ∧ f.pay = [0xA5C30000])
          else t.comp = ⟨stIllegal, []⟩ ∧ t.lnk = s.lnk) ∧
        Completes (.lnkCmdBroadcastReset rq k) s (fun t => if k = 0xA5C3 then t.comp = ⟨stOk, []⟩ ∧
          (∀ p < 2, portUp s p = true → ∃ f ∈ newOut s t p 0, f.typ = 6 ∧ f.bc = true ∧ f.pay = [0xA5C30000])
          else t.comp = ⟨stIllegal, []⟩ ∧ t.lnk = s.lnk))

/-- A valid TIME_SYNC steps or steers CT and moves the time state; others do nothing; hop delays are means of eight measurements (R347, R348, R349, R350, R351, R352, R353, R374, R375, R377, R378). -/
def Obligations.ChainTimeFollowsTheHead : Prop :=
  (∀ (s : State),
      halted s 2 = false ∧ stage s ≠ 3 ∧ stage s ≠ 4 ∧ fget s TIME.STAT.STATE = 4 ∧ addressed s = true ∧ roomy s ∧ s.lnk.broken = [] →
      Completes .timeSyncSend s fun t => t.time.syncSeq = (s.time.syncSeq + 1) % 65536 ∧
        ∀ p < 2, portUp s p = true → sentOn s t p 0x20 [(s.time.syncSeq + 1) % 65536, 0, 0, 0]) ∧
  (∀ (p : Fin 2) (seq : BitVec 16) (tx : BitVec 64) (corr : BitVec 32) (rx : BitVec 64) (s : State),
      syncValid s p seq.toNat corr.toNat ∧ fget s TIME.STAT.STATE = 0 →
      Completes (.timeSyncRx p seq tx corr rx) s fun t => fget t TIME.STAT.STATE = 1 ∧ fget t TIME.STAT.SYNC_SEQ = seq.toNat ∧
        (16 * (t.time.ct : Int) * 1000000000 + 16 * t.time.rem - 16 * (s.time.ct : Int) * 1000000000 - 16 * s.time.rem +
          1000000000 * syncOff s p tx.toNat corr.toNat rx.toNat) % (16 * 2 ^ 64 * 1000000000) = 0 ∧ served t = served s) ∧
  (∀ (p : Fin 2) (seq : BitVec 16) (tx : BitVec 64) (corr : BitVec 32) (rx : BitVec 64) (s : State),
      syncValid s p seq.toNat corr.toNat ∧ fget s TIME.STAT.STATE ≠ 0 ∧
      1600 * thr (fget s TIME.CFG.STEP_THR) < (syncOff s p tx.toNat corr.toNat rx.toNat).natAbs →
      Completes (.timeSyncRx p seq tx corr rx) s fun t => fget t TIME.STAT.STATE = (if fget s TIME.STAT.STATE = 1 then 1 else 5) ∧
        fget t TIME.STAT.SYNC_SEQ = seq.toNat ∧ t.time.good = 0 ∧ (fget s TIME.STAT.STATE ≠ 1 → fget t TIME.EVT.STEP = 1) ∧
        (16 * (t.time.ct : Int) * 1000000000 + 16 * t.time.rem - 16 * (s.time.ct : Int) * 1000000000 - 16 * s.time.rem +
          1000000000 * syncOff s p tx.toNat corr.toNat rx.toNat) % (16 * 2 ^ 64 * 1000000000) = 0) ∧
  (∀ (p : Fin 2) (seq : BitVec 16) (tx : BitVec 64) (corr : BitVec 32) (rx : BitVec 64) (s : State),
      syncValid s p seq.toNat corr.toNat ∧ fget s TIME.STAT.STATE ≠ 0 ∧
      (syncOff s p tx.toNat corr.toNat rx.toNat).natAbs ≤ 1600 * thr (fget s TIME.CFG.STEP_THR) →
      Completes (.timeSyncRx p seq tx corr rx) s fun t =>
        let off := syncOff s p tx.toNat corr.toNat rx.toNat
        let i := match s.time.lastTx with
          | some b => if b < tx.toNat then tx.toNat - b else s.time.interval.getD (100000 * thr (fget s TIME.CFG.SYNC_INT))
          | none => s.time.interval.getD (100000 * thr (fget s TIME.CFG.SYNC_INT))
        let st := if fget s TIME.STAT.STATE = 3 then 5 else fget s TIME.STAT.STATE
        fget t TIME.STAT.SYNC_SEQ = seq.toNat ∧ isQuot (fgetI t TIME.OFFSET.OFF) off 5 ∧
        (t.time.freq = clampInt (-200000) 200000 (s.time.freq - off * 1000000000 / (256 * i : Nat)) ∨
          t.time.freq = clampInt (-200000) 200000 (s.time.freq - (off * 1000000000 / (256 * i : Nat) + 1))) ∧
        (fgetI t TIME.RATE.PPB = clampInt (-200000) 200000 (t.time.freq - off * 1000000000 / (32 * i : Nat)) ∨
          fgetI t TIME.RATE.PPB = clampInt (-200000) 200000 (t.time.freq - (off * 1000000000 / (32 * i : Nat) + 1))) ∧
        t.time.good = (if off.natAbs ≤ 5 * thr (fget s TIME.CFG.LOCK_THR) then s.time.good + 1 else 0) ∧
        t.time.bad = (if 16 * thr (fget s TIME.CFG.UNLOCK_THR) < off.natAbs then s.time.bad + 1 else 0) ∧
        fget t TIME.STAT.STATE = (if (st = 1 ∨ st = 5) ∧ 16 ≤ t.time.good then 2 else if st = 2 ∧ 4 ≤ t.time.bad then 5 else st)) ∧
  (∀ (p : Fin 2) (seq : BitVec 16) (tx : BitVec 64) (corr : BitVec 32) (rx : BitVec 64) (s : State),
      fget s TIME.STAT.STATE = 4 ∨ corr.toNat = 0xFFFFFFFF ∨ fon s (TIME.HOP.VALID p) = false ∨
      ((fget s TIME.STAT.STATE = 1 ∨ fget s TIME.STAT.STATE = 2 ∨ fget s TIME.STAT.STATE = 5) ∧ seq.toNat = fget s TIME.STAT.SYNC_SEQ) →
      Completes (.timeSyncRx p seq tx corr rx) s fun t => t = s) ∧
  (∀ (s : State),
      (fget s TIME.STAT.STATE = 2 ∨ fget s TIME.STAT.STATE = 5) ∧ Calm s 0x26A ∧ Reports s 0x26A ∧ -200000 ≤ s.time.freq ∧ s.time.freq ≤ 200000 →
      Completes .timeHoldoverEntry s fun t => fget t TIME.STAT.STATE = 3 ∧ fget t TIME.EVT.HOLD = 1 ∧ fget t (FLT.LAT 0x26A) = 1 ∧
        fgetI t TIME.RATE.PPB = s.time.freq ∧ t.time.ct = s.time.ct ∧ fget t TIME.HOLD_MS.MS = 0) ∧
  (∀ (p : Fin 2) (s : State),
      halted s 2 = false ∧ addressed s = true ∧ portUp s p = true ∧ roomy s →
      Completes (.delayReqSend p) s fun t => sentOn s t p 0x21 [(s.time.dseq + 1) % 65536, 0, 0] ∧ t.time.dseq = (s.time.dseq + 1) % 65536 ∧
        t.regs = s.regs) ∧
  (∀ (p : Fin 2) (q : BitVec 16) (t1 t2 t3 : BitVec 64) (s : State),
      halted s 2 = false ∧ addressed s = true ∧ portUp s p = true ∧ roomy s →
      Completes (.delayReqRx p q t1 t2 t3) s fun t => t.regs = s.regs ∧ t.time = s.time ∧
        sentOn s t p 0x22 [q.toNat, t2.toNat % 2 ^ 32, t2.toNat / 2 ^ 32, t3.toNat % 2 ^ 32, t3.toNat / 2 ^ 32]) ∧
  (∀ (p : Fin 2) (q : BitVec 16) (t1 t2 t3 t4 : BitVec 64) (s : State),
      halted s 2 = false ∧ (if p = 0 then s.time.reqUp else s.time.reqDn) = some (q.toNat, t1.toNat) ∧
      (hopMeas s p).length ≤ 8 ∧ (∀ d ∈ hopMeas s p, 0 ≤ d ∧ d < 2 ^ 31) ∧ 0 ≤ (t4 - t1).toInt - (t3 - t2).toInt ∧ (t4 - t1).toInt - (t3 - t2).toInt < 2 ^ 31 →
      Completes (.delayRspRx p q t2 t3 t4) s fun t => let d2 := (t4 - t1).toInt - (t3 - t2).toInt
        (if p = 0 then t.time.reqUp else t.time.reqDn) = none ∧
        if fon s (TIME.HOP.VALID p) = true ∧ 32 < (d2 - 2 * (fget s (TIME.HOP.D p) : Int)).natAbs then
          hopMeas t p = hopMeas s p ∧ fget t (TIME.HOP.D p) = fget s (TIME.HOP.D p)
        else hopMeas t p = (d2 :: hopMeas s p).take 8 ∧ (7 ≤ (hopMeas s p).length → fget t (TIME.HOP.VALID p) = 1 ∧
          isQuot (fget t (TIME.HOP.D p)) ((d2 :: hopMeas s p).take 8).sum 16)) ∧
  (∀ (p : Fin 2) (q : BitVec 16) (t2 t3 t4 : BitVec 64) (s : State),
      ((if p = 0 then s.time.reqUp else s.time.reqDn).map fun r => r.1) ≠ some q.toNat →
      Completes (.delayRspRx p q t2 t3 t4) s fun t => t = s)

/-- Activation resolves the launch CT; preparation asks the ledger or loads a slot; withdrawal cancels; a late entry is missed (R354, R355, R360, R361, R362, R363, R390, R399). -/
def Obligations.ItineraryActivationToLoad : Prop :=
  (∀ (i : Fin 8192) (w : Word) (s : State),
      fon s (ITIN.W3.EN i) = false ∧ w.toNat.testBit 31 = true ∧ s.start.running = true ∧ entValid (itinWord s i 1) (itinWord s i 2) w.toNat = true ∧
      entWin s i ≤ served s →
      Completes (.itinActivate i w) s fun t => t.comp = ⟨stOk, []⟩ ∧ itinWord t i 3 = w.toNat ∧ entState t i = 1 ∧
        fget t (TIME.ITIN_ST.RESULT i) = 0 ∧ fget t (TIME.ITIN_ST.LAG i) = 0 ∧ activatedAt s i (ent t i).nominal ∧
        (ent t i).placed = (ent t i).nominal ∧ SameBut (itinKeys i) s t ∧ t.ldg = s.ldg ∧ t.jrn = s.jrn) ∧
  (∀ (i : Fin 8192) (w : Word) (s : State),
      fon s (ITIN.W3.EN i) = false ∧ (w.toNat.testBit 31 = false ∨ (s.start.running = false ∧ entValid (itinWord s i 1) (itinWord s i 2) w.toNat = true)) →
      Completes (.itinActivate i w) s fun t => t.comp = ⟨stOk, []⟩ ∧ itinWord t i 3 = w.toNat ∧ t.itx = s.itx ∧ t.slots = s.slots ∧
        SameBut (itinKeys i) s t ∧ t.ldg = s.ldg ∧ t.jrn = s.jrn) ∧
  (∀ (i : Fin 8192) (w : Word) (s : State),
      w.toNat.testBit 31 = true ∧ (fon s (ITIN.W3.EN i) = true ∨ entValid (itinWord s i 1) (itinWord s i 2) w.toNat = false) →
      Completes (.itinActivate i w) s fun t => t.comp = ⟨stIllegal, []⟩ ∧ t.regs = s.regs ∧ t.itx = s.itx ∧ t.slots = s.slots ∧
        t.ldg = s.ldg) ∧
  (∀ (i : Fin 8192) (s : State),
      fon s (ITIN.W3.EN i) = true ∧ noReference s ∧ (entState s i = 4 → served s + 1000 ≤ (ent s i).placed) →
      Completes (.itinWithdraw i) s fun t => t.comp = ⟨stOk, []⟩ ∧ fget t (ITIN.W3.EN i) = 0 ∧ entState t i = 5 ∧
        fget t (TIME.ITIN_ST.RESULT i) = 5 ∧ fget t (TIME.ITIN_ST.LAG i) = 0 ∧ entClear t i ∧ (ent t i).held = 0) ∧
  (∀ (i : Fin 8192) (s : State),
      entWaits s i ∧ safe s = false ∧ actNoSlot (entAct s i) = false →
      Completes (.itinPrepare i) s fun t =>
        if entAsk s i ≠ none then entState t i = 2 ∧ t.slots = s.slots ∧
          (lastReq t).map (fun r => (r.kind, r.mw)) = some (.entries [i], (entAsk s i).getD 0)
        else t.ldg.reqs = s.ldg.reqs ∧ (targetDown s (entConsumer s i) = false →
          if slotFree s (entTgt s i) then entState t i = 4 ∧ t.slots = s.slots ++ [⟨entTgt s i, i, (ent s i).nominal⟩]
          else entState t i = 2 ∧ (ent t i).waitSlot = true ∧ t.slots = s.slots)) ∧
  (∀ (i : Fin 8192) (s : State),
      entWaits s i ∧ (safe s = true ∨ actNoSlot (entAct s i) = true) →
      Completes (.itinPrepare i) s fun t => entState t i = 4 ∧ t.slots = s.slots ∧ t.ldg.reqs = s.ldg.reqs) ∧
  (∀ (i : Fin 8192) (s : State),
      halted s 1 = false ∧ (ent s i).waitSlot = true ∧ entChain s i = false ∧ safe s = false ∧ actNoSlot (entAct s i) = false ∧
      served s ≤ (ent s i).nominal ∧ targetDown s (entConsumer s i) = false ∧ slotFree s (entTgt s i) = true →
      Completes (.itinSlotLoad i) s fun t => entState t i = 4 ∧ (ent t i).waitSlot = false ∧
        t.slots = s.slots ++ [⟨entTgt s i, i, max (ent s i).placed (served s)⟩] ∧ SameBut (itinKeys i) s t) ∧
  (∀ (i : Fin 8192) (s : State),
      halted s 1 = false ∧ entState s i = 2 ∧ entChain s i = false ∧ (ent s i).k = 0 ∧ safe s = false ∧ noReference s ∧
      (ent s i).gone = false ∧ fon s (ITIN.W3.EN i) = true ∧ Calm s 0x26B ∧ Reports s 0x26B →
      Completes (.itinLaunchMissed i) s fun t => fget t TIME.ITIN_CNT.MISSED = min 255 (fget s TIME.ITIN_CNT.MISSED + 1) ∧
        fget t TIME.ITIN_EVT.MISS = 1 ∧ fget t (FLT.LAT 0x26B) = 1 ∧ entNext s t i 4 ∧ entClear t i ∧ fget t (TIME.ITIN_ST.LAG i) = 0) ∧
  (∀ (i : Fin 8192) (s : State),
      halted s 1 = false ∧ entState s i = 2 ∧ entChain s i = true ∧ safe s = false ∧ noReference s ∧ (ent s i).gone = false ∧ Calm s 0x26D ∧
      Reports s 0x26D →
      Completes (.itinLaunchMissed i) s fun t => fget t TIME.CVY_EVT.MISS = 1 ∧ fget t (FLT.LAT 0x26D) = 1 ∧ entState t i = 1 ∧
        fget t (TIME.ITIN_ST.RESULT i) = 4 ∧ entClear t i)

/-- A loaded launch fires at its launch CT, does to its target what its action says, and records result and lag (R354, R356, R363, R366, R367, R390, R451, R574, R601). -/
def Obligations.ItineraryLaunchesActOnTheirTarget : Prop :=
  (∀ (i : Fin 8192) (s : State),
      entDue s i 0x1 ∧ entArg s i % 8 = 0 ∧ fon s (CHN.CFG.EN (entTgt s i)) = true ∧ 4 ≤ chState s (entTgt s i) ∧ chState s (entTgt s i) ≤ 7 →
      Completes (.itinActMode i) s fun t => entNext s t i 1 ∧ fget t (TIME.ITIN_ST.LAG i) = 0 ∧ fget t (CHN.CTL.MODE (entTgt s i)) = 0 ∧
        chState t (entTgt s i) = (if fon s (CHN.CFG.OFF_SLOW (entTgt s i)) then 9 else 0)) ∧
  (∀ (i : Fin 8192) (s : State),
      entDue s i 0x1 ∧ 1 ≤ entArg s i % 8 ∧ entArg s i % 8 ≤ 4 ∧ (ent s i).ask ≠ none ∧ fon s (CHN.CFG.EN (entTgt s i)) = true ∧
      chState s (entTgt s i) = 0 ∧ fon s (WIRE.STAT.HOLD (entTgt s i)) = false →
      Completes (.itinActMode i) s fun t => entNext s t i 1 ∧ fget t (TIME.ITIN_ST.LAG i) = 0 ∧ fget t (CHN.CTL.MODE (entTgt s i)) = entArg s i % 8 ∧
        chState t (entTgt s i) = [4, 6, 7, 8].getD (entArg s i % 8 - 1) 0) ∧
  (∀ (i : Fin 8192) (s : State),
      entDue s i 0x2 →
      Completes (.itinActDuty i) s fun t => entNext s t i 1 ∧ fget t (TIME.ITIN_ST.LAG i) = 0 ∧ fget t (CHN.PWM_DUTY.DUTY (entTgt s i)) = entArg s i % 2 ^ fwidth (CHN.PWM_DUTY.DUTY (entTgt s i))) ∧
  (∀ (i : Fin 8192) (s : State),
      entDue s i 0x3 →
      Completes (.itinActCreg i) s fun t => entNext s t i 1 ∧ fget t (TIME.ITIN_ST.LAG i) = 0 ∧ fget t (CHN.CREG.TARGET_MA (entTgt s i)) = entArg s i % 2 ^ fwidth (CHN.CREG.TARGET_MA (entTgt s i))) ∧
  (∀ (i : Fin 8192) (s : State),
      entDue s i 0x8 ∧ entArg s i = 0 ∧ 0x40 ≤ entTgt s i ∧ railUp s (entTgt s i) →
      Completes (.itinActEnable i) s fun t => entNext s t i 1 ∧ fget t (TIME.ITIN_ST.LAG i) = 0 ∧ railDown t (entTgt s i)) ∧
  (∀ (i : Fin 8192) (s : State),
      entDue s i 0x8 ∧ entArg s i = 1 ∧ (ent s i).ask ≠ none ∧ 0x40 ≤ entTgt s i ∧ entTgt s i < 0x48 ∧ regState s (entTgt s i - 0x40) = 0 →
      Completes (.itinActEnable i) s fun t => entNext s t i 1 ∧ fget t (TIME.ITIN_ST.LAG i) = 0 ∧ fget t (REG.CTL.EN (entTgt s i - 0x40)) = 1 ∧
        regState t (entTgt s i - 0x40) = 2) ∧
  (∀ (i : Fin 8192) (s : State),
      entDue s i 0x9 ∧ 0x40 ≤ entTgt s i ∧ railUp s (entTgt s i) ∧ entArg s i ≤ railVtgt s (entTgt s i) ∧ railVtgt s (entTgt s i) ≤ 540 ∧
      regState s (entTgt s i - 0x40) ≠ 4 ∧ loopState s (entTgt s i - 0x48) ≠ 6 →
      Completes (.itinActVset i) s fun t => entNext s t i 1 ∧ fget t (TIME.ITIN_ST.LAG i) = 0 ∧ railVtgt t (entTgt s i) = entArg s i) ∧
  (∀ (i : Fin 8192) (s : State),
      entDue s i 0x10 ∧ 0x80 ≤ entTgt s i ∧ entTgt s i < 0x90 ∧ s.start.running = true ∧ fget s (SEQ.STAT.STATE (entTgt s i - 0x80)) ≠ 1 ∧
      (seqHead s (entTgt s i - 0x80)).count ≠ 0 →
      Completes (.itinActSeq i) s fun t => entNext s t i 1 ∧ fget t (TIME.ITIN_ST.LAG i) = 0 ∧ fget t (SEQ.STAT.STATE (entTgt s i - 0x80)) = 1 ∧
        fget t (SEQ.STAT.STEP (entTgt s i - 0x80)) = 0 ∧ (seqX t (entTgt s i - 0x80)).base = (ent s i).placed) ∧
  (∀ (i : Fin 8192) (s : State),
      entDue s i 0x18 ∧ CalmIn s 0x23E 4 ∧ ∃ q < 16, (entArg s i).testBit q = true ∧ fon s (ADC.SEQ.CFG.EN q) = true ∧ adcIsReady s (q / 4) = true ∧
      adcSt s q = 0 →
      Completes (.itinActAdcTrig i) s fun t => entNext s t i 1 ∧ fget t (TIME.ITIN_ST.LAG i) = 0 ∧ ∃ q < 16, (entArg s i).testBit q = true ∧ fon s (ADC.SEQ.CFG.EN q) = true ∧ adcSt t q ≠ 0) ∧
  (∀ (i : Fin 8192) (s : State),
      entDue s i 0x20 ∧ entArg s i / 0x1000 = 0 ∧ fon s CHG.CFG.EN = true ∧ s.start.running = true →
      Completes (.itinActChg i) s fun t => entNext s t i 1 ∧ fget t (TIME.ITIN_ST.LAG i) = 0 ∧ t.chg = s.chg ∧ chgState t = chgState s) ∧
  (∀ (i : Fin 8192) (s : State),
      entDue s i 0x28 ∧ entArg s i / 0x1000 = 0 →
      Completes (.itinActPort i) s fun t => entNext s t i 1 ∧ fget t (TIME.ITIN_ST.LAG i) = 0 ∧ t.pds = s.pds ∧ pdState t 0 = pdState s 0 ∧ pdState t 1 = pdState s 1) ∧
  (∀ (i : Fin 8192) (s : State),
      entDue s i 0x30 ∧ fget s LEDG.STAT.MODE ≠ 5 →
      Completes (.itinActShed i) s fun t => entNext s t i 1 ∧ fget t (TIME.ITIN_ST.LAG i) = 0 ∧ fget t LEDG.SHED.LEVEL = entArg s i % 16 ∧ t.ldg.lvl = true) ∧
  (∀ (i : Fin 8192) (s : State),
      entDue s i 0x38 →
      Completes (.itinActMark i) s fun t => entNext s t i 1 ∧ fget t (TIME.ITIN_ST.LAG i) = 0 ∧ SameBut (fun k => itinKeys i k || inBlocks [7, 0x13, 0x15] k) s t) ∧
  (∀ (i : Fin 8192) (c : Instr) (s : State),
      entState s i = 4 ∧ fon s (ITIN.W3.EN i) = true ∧ entChain s i = false ∧ safe s = true ∧ noReference s ∧ (ent s i).gone = false ∧ stage s ≠ 4 ∧
      ((c = .itinActMode i ∧ entAct s i = 1) ∨ (c = .itinActEnable i ∧ entAct s i = 8) ∨ (c = .itinActSeq i ∧ entAct s i = 0x10) ∨
        (c = .itinActMark i ∧ entAct s i = 0x38)) →
      Completes c s fun t => entNext s t i 7 ∧ t.chx = s.chx ∧ t.rgs = s.rgs ∧ t.lps = s.lps ∧ t.sqs = s.sqs) ∧
  (∀ (i : Fin 8192) (s : State),
      entDue s i 1 ∧ fon s (CHN.CFG.EN (entTgt s i)) = false →
      Completes (.itinActMode i) s fun t => entNext s t i 7 ∧ t.chx = s.chx) ∧
  (∀ (i : Fin 8192) (s : State),
      entDue s i 0x10 ∧ entTgt s i < 0x90 ∧ fget s (SEQ.STAT.STATE (entTgt s i - 0x80)) = 1 →
      Completes (.itinActSeq i) s fun t => entNext s t i 7 ∧ t.sqs = s.sqs) ∧
  (∀ (i : Fin 8192) (s : State),
      entState s i = 4 ∧ entAct s i = 0x38 ∧ fon s (ITIN.W3.EN i) = true ∧ entChain s i = false ∧ (ent s i).gone = false ∧
      safe s = false ∧ stage s ≠ 4 ∧ noReference s ∧ (ent s i).k = 0 ∧ (ent s i).placed < served s ∧ (ent s i).nominal < served s ∧
      served s ≤ (ent s i).nominal + entWin s i ∧ fget s TIME.ITIN_CFG.LAG_LIMIT = 0 ∧ (ent s i).moved = false →
      Completes (.itinActMark i) s fun t => entNext s t i 3 ∧
        fget t (TIME.ITIN_ST.LAG i) = min 0xFFFF ((served s - (ent s i).nominal) / 100)) ∧
  (∀ (i : Fin 8192) (c : Instr) (s : State),
      entState s i ≠ 4 ∧ stage s ≠ 4 ∧ (c = .itinActMode i ∨ c = .itinActDuty i ∨ c = .itinActCreg i ∨ c = .itinActEnable i ∨ c = .itinActVset i
       ∨ c = .itinActSeq i ∨ c = .itinActAdcTrig i ∨ c = .itinActChg i ∨ c = .itinActPort i ∨ c = .itinActShed i ∨ c = .itinActMark i) →
      Completes c s fun t => t = s)

/-- The head arms, commits and cancels convoys by command, itinerary action, acknowledgement and deadline; local ones by command (R368, R369, R371, R384, R385, R387, R388, R362). -/
def Obligations.ConvoysAtTheHead : Prop :=
  (∀ (rq : Fin 24) (c : BitVec 8) (tent : Bool) (s : State),
      restUp s rq ∧ convoyRuns s ∧ hasCT s = true ∧ armable s c.toNat (fget64 s TIME.CVY_LAUNCH_LO.CT TIME.CVY_LAUNCH_HI.CT) (served s) ∧
      ((if fget s TIME.CVY_MEMB.MAP = 0 then reachMap s else fget s TIME.CVY_MEMB.MAP) % 2 = 0 ∨ (if fget s TIME.CVY_MEMB.MAP = 0 then reachMap s else fget s TIME.CVY_MEMB.MAP) / 2 ≠ 0) →
      Completes (.cvyCmdArm rq c tent false) s fun t => t.comp = ⟨stOk, []⟩ ∧
        armedAs s t c.toNat tent (fget64 s TIME.CVY_LAUNCH_LO.CT TIME.CVY_LAUNCH_HI.CT)
          (if fget s TIME.CVY_MEMB.MAP = 0 then reachMap s else fget s TIME.CVY_MEMB.MAP)) ∧
  (∀ (rq : Fin 24) (c : BitVec 8) (tent loc : Bool) (s : State),
      restUp s rq ∧ (loc = true ∨ ¬ armable s c.toNat (fget64 s TIME.CVY_LAUNCH_LO.CT TIME.CVY_LAUNCH_HI.CT) (served s)) →
      Completes (.cvyCmdArm rq c tent loc) s fun t => t.comp = ⟨stIllegal, []⟩ ∧ t.cvy = s.cvy ∧ t.itx = s.itx ∧ t.ldg = s.ldg ∧ t.slots = s.slots) ∧
  (∀ (rq : Fin 24) (c : BitVec 8) (x : Cvy) (s : State),
      restUp s rq ∧ convoyRuns s ∧ headHas s c.toNat x ∧ x.st = 2 ∧ ((fget64 s TIME.CVY_LAUNCH_LO.CT TIME.CVY_LAUNCH_HI.CT) = 0 ∨ x.launch ≤ (fget64 s TIME.CVY_LAUNCH_LO.CT TIME.CVY_LAUNCH_HI.CT)) ∧
      served s + cvyGuard s ≤ x.launch →
      Completes (.cvyCmdCommit rq c false) s fun t => t.comp = ⟨stOk, []⟩ ∧
        committedAs s t x (if (fget64 s TIME.CVY_LAUNCH_LO.CT TIME.CVY_LAUNCH_HI.CT) = 0 then x.launch else (fget64 s TIME.CVY_LAUNCH_LO.CT TIME.CVY_LAUNCH_HI.CT))) ∧
  (∀ (rq : Fin 24) (c : BitVec 8) (s : State),
      restUp s rq ∧ (isHead s = false ∨ ∀ x ∈ s.cvy.head, x.conv = c.toNat → x.st ≠ 2) →
      Completes (.cvyCmdCommit rq c false) s fun t => t.comp = ⟨stIllegal, []⟩ ∧ t.cvy = s.cvy ∧ t.itx = s.itx ∧ t.ldg = s.ldg ∧ t.slots = s.slots) ∧
  (∀ (rq : Fin 24) (c : BitVec 8) (x : Cvy) (s : State),
      restUp s rq ∧ convoyRuns s ∧ headHas s c.toNat x ∧ cvyArmed s x = true ∧ (x.st = 3 → served s + cvyGuard s ≤ x.launch) ∧ Reports s 0x26E →
      Completes (.cvyCmdCancel rq c false) s fun t => t.comp = ⟨stOk, []⟩ ∧ cancelledAs s t x 5) ∧
  (∀ (rq : Fin 24) (c : BitVec 8) (s : State),
      restUp s rq ∧ (isHead s = false ∨ ∀ x ∈ s.cvy.head, x.conv = c.toNat → cvyArmed s x = false) →
      Completes (.cvyCmdCancel rq c false) s fun t => t.comp = ⟨stIllegal, []⟩ ∧ t.cvy = s.cvy ∧ t.itx = s.itx ∧ t.ldg = s.ldg ∧ t.slots = s.slots) ∧
  (∀ (rq : Fin 24) (c : BitVec 8) (s : State),
      restUp s rq ∧ noReference s ∧ safe s = false ∧ Calm s 0x26B →
      Completes (.cvyCmdCommit rq c true) s fun t =>
        let l := locEntries s c.toNat fun st => st == 2 || st == 3
        t.comp = ⟨if l = [] then stIllegal else stOk, []⟩ ∧ ∀ i ∈ l, entState t i ≠ 3 ∧ (entState s i = 2 → (ent t i).commit = true)) ∧
  (∀ (rq : Fin 24) (c : BitVec 8) (s : State),
      restUp s rq ∧ noReference s →
      Completes (.cvyCmdCancel rq c true) s fun t =>
        let l := locEntries s c.toNat fun st => st == 2 || st == 3
        t.comp = ⟨if l = [] then stIllegal else stOk, []⟩ ∧ ∀ i ∈ l, entOver t i 5 5) ∧
  (∀ (i : Fin 8192) (s : State),
      entDue s i 0x40 ∧ convoyRuns s ∧ hasCT s = true ∧ armable s (entConv s i) ((ent s i).placed + entArg s i * 10000) (ent s i).placed ∧
      reachMap s / 2 ≠ 0 ∧ fget s TIME.STAT.STATE = 4 →
      Completes (.itinActArm i) s fun t => entNext s t i 1 ∧
        armedAs s t (entConv s i) (fon s (ITIN.W3.TENT i)) ((ent s i).placed + entArg s i * 10000) (reachMap s)) ∧
  (∀ (i : Fin 8192) (x : Cvy) (s : State),
      entDue s i 0x41 ∧ convoyRuns s ∧ headHas s (entConv s i) x ∧ x.st = 2 ∧ (ent s i).placed + cvyGuard s ≤ x.launch →
      Completes (.itinActCommit i) s fun t => entNext s t i 1 ∧ committedAs s t x x.launch) ∧
  (∀ (i : Fin 8192) (x : Cvy) (s : State),
      entDue s i 0x42 ∧ convoyRuns s ∧ headHas s (entConv s i) x ∧ (x.st = 1 ∨ x.st = 2) ∧ Reports s 0x26E →
      Completes (.itinActCancel i) s fun t => entNext s t i 1 ∧ cancelledAs s t x 5) ∧
  (∀ (i : Fin 8192) (c : Instr) (s : State),
      isHead s = false ∧ ((c = .itinActArm i ∧ entDue s i 0x40) ∨ (c = .itinActCommit i ∧ entDue s i 0x41) ∨
        (c = .itinActCancel i ∧ entDue s i 0x42)) →
      Completes c s fun t => entNext s t i 7 ∧ t.cvy = s.cvy) ∧
  (∀ (src : Fin 32) (c res : BitVec 8) (id : BitVec 16) (mw : Word) (x : Cvy) (s : State),
      convoyRuns s ∧ headHas s c.toNat x ∧ x.st = 1 ∧ x.armId = id.toNat ∧ x.members.testBit src = true ∧
      (∀ y ∈ s.cvy.head, y.conv = c.toNat → y = x) ∧ Reports s 0x26E →
      Completes (.convoyAckRx src c res id mw) s fun t =>
        if res.toNat ≠ 0 then cancelledAs s t x 1
        else if (x.acks ||| 2 ^ src.val) &&& x.members ≠ x.members then
          (cvyFind t.cvy.head c.toNat).map (fun y => (y.st, y.acks, y.armId)) = some (1, x.acks ||| 2 ^ src.val, x.armId)
        else if x.tent then (cvyFind t.cvy.head c.toNat).map (fun y => (y.st, y.armId)) = some (2, x.armId)
        else committedAs s t x x.launch) ∧
  (∀ (src : Fin 32) (c res : BitVec 8) (id : BitVec 16) (mw : Word) (s : State),
      isHead s = false ∨ ∀ x ∈ s.cvy.head, x.conv = c.toNat → (x.armId ≠ id.toNat ∨ x.members.testBit src = false ∨ x.st ≠ 1) →
      Completes (.convoyAckRx src c res id mw) s fun t => t = s) ∧
  (∀ (c : BitVec 8) (x : Cvy) (s : State),
      convoyRuns s ∧ headHas s c.toNat x ∧ x.st = 1 ∧ Reports s 0x26E →
      Completes (.convoyAckDeadline c) s fun t => cancelledAs s t x 2 ∧ x.launch ≤ served t + cvyGuard s + 10000) ∧
  (∀ (c : BitVec 8) (x : Cvy) (s : State),
      convoyRuns s ∧ headHas s c.toNat x ∧ x.st = 2 ∧ Reports s 0x26E →
      Completes (.convoyHeldExpiry c) s fun t => cancelledAs s t x 3 ∧ x.launch ≤ served t + cvyGuard s) ∧
  (∀ (c : BitVec 8) (i : Nat) (s : State),
      halted s 1 = false ∧ noReference s ∧ i ∈ locEntries s c.toNat (· == 3) ∧
      (∀ j ∈ locEntries s c.toNat (· == 3), (ent s i).nominal ≤ (ent s j).nominal) →
      Completes (.localConvoyNoCommit c) s fun t => entOver t i 9 0 ∧ (ent s i).nominal ≤ served t)

/-- A member takes an arm, acknowledges it, loads its entries on the commit and gives all back on a cancel; orphans are counted (R368, R369, R370, R371, R372, R388, R389). -/
def Obligations.ConvoysAtAMember : Prop :=
  (∀ (c : BitVec 8) (tent : Bool) (id : BitVec 16) (l : BitVec 64) (m : Word) (s : State),
      convoyRuns s ∧ chainRuns s ∧ isHead s = false ∧ m.toNat.testBit (myAddr s) = true ∧ safe s = false ∧ cvyFind s.cvy.member c.toNat = none ∧ s.cvy.member.all (fun x => x.conv != c.toNat) = true →
      Completes (.convoyArmRx c tent id l m) s fun t =>
        (cvyFind t.cvy.member c.toNat).map (fun x => (x.armId, x.launch, x.st)) = some (id.toNat, l.toNat, 1) ∧
        (hasCT s = false ∧ portUp s 0 = true ∧ portUp s 1 = true → ∃ p < 2, ∃ f ∈ newOut s t p (frameClass 0x31), f.typ = 0x31 ∧
          f.pay.head? = some (id.toNat * 2 ^ 16 + 9 * 2 ^ 8 + c.toNat)) ∧
        (hasCT s = true ∧ fon s TOP.STATUS.CFG_DEFAULTS = false →
          if (cvyEntries s c.toNat).any (fun i => (entAsk s i).isSome) then
            (lastReq t).map (fun r => (r.kind, r.mw)) = some (.member c.toNat, ((cvyEntries s c.toNat).map fun i => (entAsk s i).getD 0).sum)
          else portUp s 0 = true ∧ portUp s 1 = true → ∃ p < 2, sentOn s t p 0x31 [id.toNat * 2 ^ 16 + c.toNat, 0])) ∧
  (∀ (c : BitVec 8) (tent : Bool) (id : BitVec 16) (l : BitVec 64) (m : Word) (s : State),
      isHead s = true ∨ m.toNat.testBit (myAddr s) = false ∨ ∃ x ∈ s.cvy.member, x.conv = c.toNat ∧ x.armId = id.toNat →
      Completes (.convoyArmRx c tent id l m) s fun t => t = s) ∧
  (∀ (c : BitVec 8) (id : BitVec 16) (l : BitVec 64) (x : Cvy) (s : State),
      convoyRuns s ∧ isHead s = false ∧ s.cvy.member = [x] ∧ x.conv = c.toNat ∧ x.armId = id.toNat ∧ x.st = 1 ∧ safe s = false ∧ served s ≤ l.toNat →
      Completes (.convoyCommitRx c id l) s fun t =>
        (cvyFind t.cvy.member c.toNat).map (fun y => (y.armId, y.launch, y.st)) = some (id.toNat, l.toNat, 3) ∧
        ∀ i ∈ cvyEntries s c.toNat, (ent s i).skip = false → targetDown s (entConsumer s i) = false →
          (entState t i = 4 ∨ (entState t i = 2 ∧ (ent t i).waitSlot = true)) ∧ (ent t i).nominal = l.toNat + entLaunch s i) ∧
  (∀ (c : BitVec 8) (id : BitVec 16) (l : BitVec 64) (s : State),
      halted s 1 = false ∧ isHead s = false ∧ ∀ x ∈ s.cvy.member, x.conv = c.toNat → x.armId ≠ id.toNat →
      Completes (.convoyCommitRx c id l) s fun t => fget t TIME.CVY_EVT.ORPHAN = 1 ∧ t.cvy = s.cvy ∧ t.itx = s.itx ∧ t.ldg = s.ldg ∧ t.slots = s.slots) ∧
  (∀ (c r : BitVec 8) (id : BitVec 16) (x : Cvy) (s : State),
      convoyRuns s ∧ isHead s = false ∧ s.cvy.member = [x] ∧ x.conv = c.toNat ∧ x.armId = id.toNat ∧ (x.st = 1 ∨ x.st = 3) ∧
      (∀ i ∈ cvyEntries s c.toNat, (ent s i).fired = false ∧ (ent s i).gone = false) ∧ Reports s 0x26E →
      Completes (.convoyCancelRx c r id) s fun t =>
        (cvyFind t.cvy.member c.toNat).map (fun y => (y.st, y.reason)) = some (5, r.toNat) ∧ fget t TIME.CVY_EVT.CANCEL = 1 ∧
        fget t (FLT.LAT 0x26E) = 1 ∧ (∀ q ∈ t.ldg.reqs, q.kind ≠ .member c.toNat) ∧ ∀ i ∈ cvyEntries s c.toNat, entOver t i 5 r.toNat ∧ (ent t i).held = 0) ∧
  (∀ (c r : BitVec 8) (id : BitVec 16) (x : Cvy) (s : State),
      halted s 1 = false ∧ isHead s = false ∧ s.cvy.member = [x] ∧ x.conv = c.toNat ∧ x.armId = id.toNat ∧ (x.st = 1 ∨ x.st = 3) ∧
      ∃ i ∈ cvyEntries s c.toNat, (ent s i).fired = true →
      Completes (.convoyCancelRx c r id) s fun t => fget t TIME.CVY_EVT.LATE_CANCEL = 1 ∧ t.cvy = s.cvy ∧ t.itx = s.itx ∧ t.ldg = s.ldg ∧ t.slots = s.slots) ∧
  (∀ (c r : BitVec 8) (id : BitVec 16) (s : State),
      halted s 1 = false ∧ isHead s = false ∧ ∀ x ∈ s.cvy.member, x.conv = c.toNat → x.armId ≠ id.toNat →
      Completes (.convoyCancelRx c r id) s fun t => fget t TIME.CVY_EVT.ORPHAN = 1 ∧ t.cvy = s.cvy ∧ t.itx = s.itx ∧ t.ldg = s.ldg ∧ t.slots = s.slots)

/-- A ledger frame sheds first, then admits or refuses by class, parent, room and mode, or asks the head; the head lends its pool (R391, R393, R395, R396, R399, R400, R402, R403, R404, R405, R410, R416). -/
def Obligations.LedgerFrameDecides : Prop :=
  (∀ (w : Nat) (rm : List (Nat × Nat)) (pm : List (Nat × Nat × Nat)) (n : Nat) (r : Req) (s : State),
      frameRuns s 0 = true ∧ CalmIn s 0x246 5 ∧ CalmIn s 0x270 5 ∧ severity s 0x261 ≠ 3 ∧ stage s ≠ 3 ∧ noReference s ∧ oneDue (frameFigures s w rm pm) n r ∧
      verdict (frameFigures s w rm pm) n r.mw = some 0 →
      Completes (.ledgerFrame w rm pm) s fun t =>
        fget t LEDG.CNT.ADMIT = min 65535 (fget (frameFigures s w rm pm) LEDG.CNT.ADMIT + 1) ∧ t.ldg.reqs = [] ∧
        chState t n = chTarget (fget s (CHN.CTL.MODE n)) ∧ fget t (CHN.STAT.PENDING n) = 0 ∧
        (consOf s n < 128 ∧ consSt (frameFigures s w rm pm) (consOf s n) = 0 → fget t (LEDG.CONS.CFG.STATE (consOf s n)) = 3 ∧
          fget t (LEDG.CONS.RSV.MW (consOf s n)) = (if ledgMode (frameFigures s w rm pm) = 5 then 0 else r.mw % 2 ^ 32))) ∧
  (∀ (w : Nat) (rm : List (Nat × Nat)) (pm : List (Nat × Nat × Nat)) (n : Nat) (r : Req) (s : State),
      frameRuns s 0 = true ∧ CalmIn s 0x246 5 ∧ CalmIn s 0x270 5 ∧ severity s 0x261 ≠ 3 ∧ stage s ≠ 3 ∧ noReference s ∧ oneDue (frameFigures s w rm pm) n r ∧
      verdict (frameFigures s w rm pm) n r.mw ≠ some 0 ∧ verdict (frameFigures s w rm pm) n r.mw ≠ none ∧
      ∀ q < 16, (seqStep s q).tgt ≠ n →
      Completes (.ledgerFrame w rm pm) s fun t =>
        let code := (verdict (frameFigures s w rm pm) n r.mw).getD 0
        fget t LEDG.CNT.REFUSE = min 255 (fget (frameFigures s w rm pm) LEDG.CNT.REFUSE + 1) ∧ t.ldg.reqs = [] ∧ fget t LEDG.EVT.REFUSED = 1 ∧
        fget t LEDG.LAST.REASON = code ∧ fget t (CHN.STAT.REFUSE_CODE n) = code ∧ chState t n = 0 ∧ fget t (CHN.CTL.MODE n) = 0) ∧
  (∀ (w : Nat) (rm : List (Nat × Nat)) (pm : List (Nat × Nat × Nat)) (n : Nat) (r : Req) (i : Nat) (s : State),
      frameRuns s 0 = true ∧ CalmIn s 0x246 5 ∧ CalmIn s 0x270 5 ∧ severity s 0x261 ≠ 3 ∧ stage s ≠ 3 ∧ noReference s ∧ oneDue (frameFigures s w rm pm) n r ∧
      verdict (frameFigures s w rm pm) n r.mw = none ∧ isHead s = false ∧ addressed s = true ∧ roomyOne s ∧
      s.lnk.broken = [] ∧ portUp s 0 = true ∧ portUp s 1 = true ∧ shortBy (frameFigures s w rm pm) n r.mw i ∧
      myAddr s ≠ 0 ∧ i < s.ldg.srcs.length ∧ (srcE s i).feed < 16 ∧ (feedX s (srcE s i).feed).out = none ∧ r.mw < 2 ^ 31 →
      Completes (.ledgerFrame w rm pm) s fun t =>
        let f := (srcE s i).feed
        let room := (max (roomOf (frameFigures s w rm pm) (consCls (frameFigures s w rm pm) (consOf s n)) i) 0).toNat
        (lastReq t).map (fun q => (q.kind, q.wait, q.held, q.out)) = some (r.kind, true, [(consOf s n, room)], [(f, s.ldg.nextReq)]) ∧
        fget t (LEDG.FEED.STAT.WAIT f) = 1 ∧ chState t n = 3 ∧
        ∃ p < 2, sentOn s t p 0x41 [f * 2 ^ 16 + s.ldg.nextReq, (ceilDiv (r.mw - room) (quantMw s) * quantMw s) % 2 ^ 32]) ∧
  (∀ (w : Nat) (rm : List (Nat × Nat)) (pm : List (Nat × Nat × Nat)) (i c : Nat) (s : State),
      frameRuns s 0 = true ∧ CalmIn s 0x246 5 ∧ CalmIn s 0x270 5 ∧ severity s 0x261 ≠ 3 ∧ stage s ≠ 3 ∧ noReference s ∧ (frameFigures s w rm pm).ldg.lvl = false ∧ ledgMode (frameFigures s w rm pm) ≠ 5 ∧
      feedsQuiet (frameFigures s w rm pm) ∧ (frameFigures s w rm pm).ldg.reqs = [] ∧ i < s.ldg.srcs.length ∧
      avail (frameFigures s w rm pm) i < srcClaim (frameFigures s w rm pm) i ∧
      (∀ j < s.ldg.srcs.length, j ≠ i → srcClaim (frameFigures s w rm pm) j ≤ avail (frameFigures s w rm pm) j) ∧
      fget s LEDG.CFG.OVER_FR ≤ overCount s i + 1 ∧ (shedList (frameFigures s w rm pm) i).head? = some c ∧
      c < 64 ∧ c < s.ldg.cons.length ∧ consTarget s c < 64 ∧ chDriven (frameFigures s w rm pm) (consTarget s c) = true ∧
      Reports s 0x272 ∧ fon s (CHN.CFG.PRIV_ACT (consTarget s c)) = false →
      Completes (.ledgerFrame w rm pm) s fun t =>
        fget t LEDG.EVT.OVER = 1 ∧ fget t LEDG.EVT.SHED = 1 ∧ chState t (consTarget s c) = 0xC ∧ fget t (LEDG.CONS.RSV.MW c) = 0 ∧
        fget t (FLT.LAT 0x272) = 1 ∧ min 255 (fget (frameFigures s w rm pm) LEDG.CNT.SHED + 1) ≤ fget t LEDG.CNT.SHED) ∧
  (∀ (w : Nat) (rm : List (Nat × Nat)) (pm : List (Nat × Nat × Nat)) (i : Nat) (s : State),
      frameRuns s 0 = true ∧ CalmIn s 0x246 5 ∧ CalmIn s 0x270 5 ∧ severity s 0x261 ≠ 3 ∧ stage s ≠ 3 ∧ noReference s ∧ (frameFigures s w rm pm).ldg.lvl = false ∧ ledgMode (frameFigures s w rm pm) ≠ 5 ∧
      feedsQuiet (frameFigures s w rm pm) ∧ (frameFigures s w rm pm).ldg.reqs = [] ∧ i < s.ldg.srcs.length ∧
      avail (frameFigures s w rm pm) i < srcClaim (frameFigures s w rm pm) i ∧
      (∀ j < s.ldg.srcs.length, j ≠ i → srcClaim (frameFigures s w rm pm) j ≤ avail (frameFigures s w rm pm) j) ∧
      overCount s i + 1 < fget s LEDG.CFG.OVER_FR →
      Completes (.ledgerFrame w rm pm) s fun t =>
        fget t LEDG.EVT.OVER = 1 ∧ overCount t i = overCount s i + 1 ∧ ∀ n < 64, chState t n = chState s n) ∧
  (∀ (w : Nat) (rm : List (Nat × Nat)) (pm : List (Nat × Nat × Nat)) (c : Nat) (s : State),
      frameRuns s 0 = true ∧ CalmIn s 0x246 5 ∧ CalmIn s 0x270 5 ∧ severity s 0x261 ≠ 3 ∧ stage s ≠ 3 ∧ noReference s ∧ (frameFigures s w rm pm).ldg.lvl = true ∧ ledgMode (frameFigures s w rm pm) ≠ 5 ∧
      coveredAll (frameFigures s w rm pm) ∧ feedsQuiet (frameFigures s w rm pm) ∧
      fget s LEDG.SHED.LEVEL ≠ 0 ∧ c < 64 ∧ c < s.ldg.cons.length ∧ consTarget s c < 64 ∧ consSt (frameFigures s w rm pm) c = 4 ∧
      fget s LEDG.SHED.LEVEL ≤ consCls s c ∧ chDriven (frameFigures s w rm pm) (consTarget s c) = true →
      Completes (.ledgerFrame w rm pm) s fun t =>
        t.ldg.lvl = false ∧ chState t (consTarget s c) = 0xC ∧ fget t (LEDG.CONS.RSV.MW c) = 0 ∧ fget t LEDG.EVT.SHED = 1) ∧
  (∀ (w : Nat) (rm : List (Nat × Nat)) (pm : List (Nat × Nat × Nat)) (q : ResvIn) (s : State),
      frameRuns s 0 = true ∧ CalmIn s 0x246 5 ∧ CalmIn s 0x270 5 ∧ severity s 0x261 ≠ 3 ∧ stage s ≠ 3 ∧ noReference s ∧ (frameFigures s w rm pm).ldg.lvl = false ∧ coveredAll (frameFigures s w rm pm) ∧
      (∀ f < 16, fgetI s (LEDG.FEED.BORROW.MW f) ≤ 0) ∧ (frameFigures s w rm pm).ldg.reqs = [] ∧ isHead s = true ∧ addressed s = true ∧
      s.ldg.resvIn = [q] ∧ q.arrival < localNs (frameFigures s w rm pm) ∧ feedEntry s q.feed ≠ none ∧ resyncing s q.feed q.src = false ∧
      1 ≤ q.src ∧ q.src < 32 ∧ q.feed < 16 ∧ 0 ≤ q.mw ∧ q.mw < 2 ^ 30 ∧ 0 ≤ grantOf s q.feed q.src ∧ grantOf s q.feed q.src < 2 ^ 30 ∧
      0 ≤ feedBase s q.feed q.src ∧ roomyOne s ∧ s.lnk.broken = [] ∧ portUp s 0 = true ∧ portUp s 1 = true ∧ myAddr s = 0 ∧ q.reqId < 2 ^ 16 →
      Completes (.ledgerFrame w rm pm) s fun t =>
        let g := grantOf s q.feed q.src
        let amt : Int := max 0 (min q.mw (g - feedBase s q.feed q.src))
        t.ldg.resvIn = [] ∧
        if q.release then grantOf t q.feed q.src = g - amt ∧ ∃ p < 2, sentOn s t p 0x42 [q.reqId, ofSigned 32 (-amt)]
        else if q.mw ≤ poolOf s q.feed then grantOf t q.feed q.src = g + q.mw ∧ ∃ p < 2, sentOn s t p 0x42 [q.reqId, ofSigned 32 q.mw]
        else grantOf t q.feed q.src = g ∧ ∃ p < 2, sentOn s t p 0x42 [5 * 2 ^ 16 + q.reqId, 0])

/-- Answers, timeouts, shares and reports move shares and grants as R400 and R405-R407 say; a SHED write sets the level (R394, R400, R401, R403, R405, R406, R407, R413, R414, R415, R418). -/
def Obligations.SharesAndGrantsFollowTheHead : Prop :=
  (∀ (rq : Fin 24) (lvl : Fin 16) (s : State),
      restUp s rq →
      Completes (.ledgShedLevelWrite rq lvl) s fun t =>
        if fget s LEDG.STAT.MODE = 5 then t.comp = ⟨stIllegal, []⟩ ∧ fget t LEDG.SHED.LEVEL = fget s LEDG.SHED.LEVEL ∧ t.ldg = s.ldg
        else t.comp = ⟨stOk, []⟩ ∧ fget t LEDG.SHED.LEVEL = lvl.val ∧ t.ldg.lvl = true ∧ t.ldg.reqs = s.ldg.reqs) ∧
  (∀ (f : Fin 16) (id mw : Nat) (s : State),
      halted s 0 = false ∧ (feedX s f).out = some (id, mw, false) ∧ Calm s 0x271 ∧ Reports s 0x271 →
      Completes (.ledgResvTimeout f) s fun t => (feedX t f).out = none ∧ fget t (LEDG.FEED.STAT.WAIT f) = 0 ∧
        fget t LEDG.EVT.TIMEOUT = 1 ∧ fget t (FLT.LAT 0x271) = 1 ∧ id ∈ (feedX t f).late ∧
        (∀ r ∈ t.ldg.reqs, r.out.contains (f.val, id) = false) ∧
        (t.ldg.reqs.filter fun r => r.answer == some 6).length = (s.ldg.reqs.filter fun r => r.answer == some 6 || r.out.contains (f.val, id)).length ∧ feedRest s t) ∧
  (∀ (f : Fin 16) (id mw : Nat) (s : State),
      halted s 0 = false ∧ (feedX s f).out = some (id, mw, true) →
      Completes (.ledgResvTimeout f) s fun t => (feedX t f).out = none ∧ fget t (LEDG.FEED.STAT.WAIT f) = 0 ∧
        fget t LEDG.EVT.TIMEOUT = fget s LEDG.EVT.TIMEOUT ∧ t.ldg.reqs = s.ldg.reqs ∧ feedRest s t) ∧
  (∀ (f : Fin 16) (id : BitVec 16) (mw : Nat) (res : BitVec 8) (g : Word) (s : State),
      halted s 0 = false ∧ (feedX s f).out = some (id.toNat, mw, false) ∧ (∀ h < 16, (feedX s h).out.map (fun o => o.1) = some id.toNat → h = f.val) →
      Completes (.ledgResvRspRx id res g) s fun t => (feedX t f).out = none ∧ fget t (LEDG.FEED.STAT.WAIT f) = 0 ∧
        (∀ r ∈ t.ldg.reqs, r.out.contains (f.val, id.toNat) = false) ∧
        (∀ r ∈ s.ldg.reqs, r.out = [(f.val, id.toNat)] → (r.answer = none → ∃ q ∈ t.ldg.reqs, q.kind = r.kind ∧ q.answer = some res.toNat)) ∧
        (fgetI s (LEDG.FEED.SHARE.MW f) + g.toInt < 2 ^ 31 → -2 ^ 31 ≤ fgetI s (LEDG.FEED.SHARE.MW f) + g.toInt →
          fgetI t (LEDG.FEED.SHARE.MW f) = fgetI s (LEDG.FEED.SHARE.MW f) + (if res = 0 then g.toInt else 0)) ∧ feedRest s t) ∧
  (∀ (f : Fin 16) (id : BitVec 16) (res : BitVec 8) (g : Word) (s : State),
      halted s 0 = false ∧ id.toNat ∈ (feedX s f).late ∧ (∀ h < 16, (feedX s h).out.map (fun o => o.1) ≠ some id.toNat) ∧
      (∀ h < 16, id.toNat ∈ (feedX s h).late → h = f.val) ∧ fgetI s (LEDG.FEED.SHARE.MW f) + g.toInt < 2 ^ 31 ∧ -2 ^ 31 ≤ fgetI s (LEDG.FEED.SHARE.MW f) + g.toInt →
      Completes (.ledgResvRspRx id res g) s fun t => t.ldg.reqs = s.ldg.reqs ∧
        fgetI t (LEDG.FEED.SHARE.MW f) = fgetI s (LEDG.FEED.SHARE.MW f) + (if res = 0 then g.toInt else 0) ∧ feedRest s t) ∧
  (∀ (id : BitVec 16) (res : BitVec 8) (g : Word) (s : State),
      ∀ h < 16, (feedX s h).out.map (fun o => o.1) ≠ some id.toNat ∧ id.toNat ∉ (feedX s h).late →
      Completes (.ledgResvRspRx id res g) s fun t => t = s) ∧
  (∀ (src : Fin 32) (rel : Bool) (f : Fin 16) (id : BitVec 16) (mw : Word) (s : State),
      halted s 0 = false →
      Completes (.ledgResvRx src rel f id mw) s fun t => t.regs = s.regs ∧ t.ldg.reqs = s.ldg.reqs ∧
        t.ldg.resvIn = (if isHead s then s.ldg.resvIn ++ [⟨src, rel, f, id.toNat, mw.toInt, localNs s⟩] else s.ldg.resvIn)) ∧
  (∀ (gen : BitVec 16) (f : Fin 16) (mw : Word) (s : State),
      halted s 0 = false ∧ isHead s = false ∧ mw.toInt = -1 ∧ sendsOne s ∧ myAddr s ≠ 0 →
      Completes (.ledgShareRx gen f mw) s fun t => fget t (LEDG.FEED.STAT.SYNC f) = 1 ∧
        fget t (LEDG.FEED.SHARE.MW f) = fget s (LEDG.FEED.SHARE.MW f) ∧ feedRest s t ∧
        ∃ p < 2, ∃ x ∈ newOut s t p 1, x.typ = 0x43 ∧ x.pay.head? = some (s.ldg.frame % 65536 * 2 ^ 16 + f)) ∧
  (∀ (gen : BitVec 16) (f : Fin 16) (mw : Word) (s : State),
      halted s 0 = false ∧ isHead s = false ∧ mw.toInt ≠ -1 ∧ (fon s (LEDG.FEED.STAT.SYNC f) = true ∨ ((feedX s f).out = none ∧
        (fon s (LEDG.FEED.STAT.VALID f) = false ∨ newerGen gen.toNat (fget s (LEDG.FEED.STAT.SHARE_GEN f))))) →
      Completes (.ledgShareRx gen f mw) s fun t => fget t (LEDG.FEED.SHARE.MW f) = mw.toNat ∧
        fget t (LEDG.FEED.STAT.SHARE_GEN f) = gen.toNat ∧ fget t (LEDG.FEED.STAT.VALID f) = 1 ∧ fget t (LEDG.FEED.STAT.SYNC f) = 0 ∧
        ((feedX s f).base = none → fget t (LEDG.FEED.BORROW.MW f) = 0 ∧ (feedX t f).base = some mw.toInt) ∧
        (∀ b ∈ (feedX s f).base, fget t (LEDG.FEED.BORROW.MW f) = ofSigned 32 (mw.toInt - b)) ∧
        t.ldg.reqs = s.ldg.reqs ∧ feedRest s t) ∧
  (∀ (gen : BitVec 16) (f : Fin 16) (mw : Word) (s : State),
      isHead s = true ∨ (mw.toInt ≠ -1 ∧ fon s (LEDG.FEED.STAT.SYNC f) = false ∧ ((feedX s f).out ≠ none ∨
        (fon s (LEDG.FEED.STAT.VALID f) = true ∧ ¬ newerGen gen.toNat (fget s (LEDG.FEED.STAT.SHARE_GEN f))))) →
      Completes (.ledgShareRx gen f mw) s fun t => t = s) ∧
  (∀ (e : FeedE) (u : Nat) (s : State),
      halted s 0 = false ∧ isHead s = true ∧ s.start.running = true ∧ s.ldg.feedsE = [e] ∧ sendsOne s ∧ myAddr s = 0 ∧ 1 ≤ u ∧ u < 32 ∧
      fon s (LNK.REACH u) = true ∧ resyncing s e.feed u = false ∧ ((List.range 32).filter fun v => fon s (LNK.REACH v)).length ≤ 5 →
      Completes .ledgShareSend s fun t => feedRest s t ∧
        ∃ p < 2, sentOn s t p 0x40 [genOf s e.feed u * 2 ^ 16 + e.feed, ofSigned 32 (grantOf s e.feed u)]) ∧
  (∀ (f : Nat) (s : State),
      halted s 0 = false ∧ isHead s = false ∧ stage s ≠ 4 ∧ (ledgMode s = 2 ∨ ledgMode s = 3) ∧ chainFeeds s = [f] ∧ sendsOne s ∧ myAddr s ≠ 0 →
      Completes .ledgReportSend s fun t => t.regs = s.regs ∧ t.ldg = s.ldg ∧
        ∃ p < 2, ∃ x ∈ newOut s t p 1, x.typ = 0x43 ∧ x.pay.head? = some (s.ldg.frame % 65536 * 2 ^ 16 + f)) ∧
  (∀ (src : Fin 32) (q : BitVec 16) (f : Fin 16) (d r : Word) (s : State),
      halted s 0 = false ∧ isHead s = true ∧ resyncing s f src = true ∧ ChainCalm s ∧ stage s ≠ 3 ∧ 0 ≤ feedBase s f src ∧ feedBase s f src < 2 ^ 31 ∧
      (feedEntry s f).isSome = true →
      Completes (.ledgReportRx src q f d r) s fun t =>
        grantOf t f src = max (feedBase s f src) r.toInt ∧ resyncing t f src = false ∧ (poolOf t f < 0 → fget t LEDG.EVT.FEED_NEG = 1) ∧ feedRest s t) ∧
  (∀ (src : Fin 32) (q : BitVec 16) (f : Fin 16) (d r : Word) (s : State),
      isHead s = false ∨ resyncing s f src = false →
      Completes (.ledgReportRx src q f d r) s fun t => t = s) ∧
  (∀ (f : Fin 16) (u : Fin 32) (s : State),
      halted s 0 = false ∧ isHead s = true ∧ resyncing s f u = true ∧ ChainCalm s ∧ stage s ≠ 3 ∧ -2 ^ 31 ≤ feedBase s f u ∧ feedBase s f u < 2 ^ 31 →
      Completes (.ledgResyncTimeout f u) s fun t =>
        grantOf t f u = feedBase s f u ∧ resyncing t f u = false ∧ (poolOf t f < 0 → fget t LEDG.EVT.FEED_NEG = 1) ∧ feedRest s t) ∧
  (∀ (f : Fin 16) (u : Fin 32) (s : State),
      isHead s = false ∨ resyncing s f u = false →
      Completes (.ledgResyncTimeout f u) s fun t => t = s)

/-- A coach takes a tag or stalls; its target carries it out in order; a hung or reset target loses what is outstanding (R424, R425, R426, R427, R428, R429, R431, R432, R433, R434, R439, R440). -/
def Obligations.FabricCarriesCoachesAndLosesThem : Prop :=
  (∀ (rq : Fin 24) (k : CoachKind) (a : Nat) (d : Word) (s : State),
      mayTake s rq = true ∧ fabInjected s rq = false ∧ targetDown s (coachTarget k a) = false →
      Completes (.coachIssue rq k a d) s fun t => t.comp = s.comp ∧ SameBut (inBlocks [0xA]) s t ∧ t.fab.stalled = s.fab.stalled ∧
        ∃ n < 1024, tagFree s n ∧ t.fab.coaches = s.fab.coaches ++ [⟨n, rq, k, a, d.toNat, coachTarget k a, coachPort k a⟩]) ∧
  (∀ (rq : Fin 24) (k : CoachKind) (a : Nat) (d : Word) (s : State),
      mayTake s rq = true ∧ fabInjected s rq = false ∧ targetDown s (coachTarget k a) = true →
      Completes (.coachIssue rq k a d) s fun t => t.comp = ⟨stDown, []⟩ ∧ SameBut (recKeys rq) s t ∧ t.fab = s.fab ∧
        fget t FAB.CNT.DOWN = min 255 (fget s FAB.CNT.DOWN + 1) ∧ fget t FAB.LAST.STATUS = 4 ∧ fget t FAB.LAST.REQ = rq ∧
        fget t FAB.LAST.TGT = coachTarget k a % 128) ∧
  (∀ (rq : Fin 24) (k : CoachKind) (a : Nat) (d : Word) (s : State),
      mayTake s rq = true ∧ fabInjected s rq = true ∧ Calm s 0x275 ∧ Reports s 0x275 →
      Completes (.coachIssue rq k a d) s fun t => t.comp = ⟨stDataErr, []⟩ ∧ SameBut (fun k => fabKeys k || recKeys rq k) s t ∧ t.fab = s.fab ∧
        fget t FAB.EVT.PAR = 1 ∧ fget t (FLT.LAT 0x275) = 1 ∧ fget t FLT.LAST.INJ = 1 ∧ fabInjected t rq = false ∧ fget t FAB.LAST.STATUS = 7) ∧
  (∀ (rq : Fin 24) (k : CoachKind) (a : Nat) (d : Word) (s : State),
      mayTake s rq = false →
      Completes (.coachIssue rq k a d) s fun t => fget t (FAB.REQ.STAT.STALL rq) = 1 ∧ t.comp = s.comp ∧
        SameBut (inBlocks [0xA]) s t ∧ t.fab.coaches = s.fab.coaches ∧ t.fab.stalled = s.fab.stalled ++ [(rq.val, k, a, d.toNat)]) ∧
  (∀ (p : Fin 32) (c : Coach) (s : State),
      oldestAt s p c ∧ c.kind = .read ∧ storesOnly c.addr = true ∧ (fieldsAt c.addr).all (fun f => f.acc != .rc) = true →
      Completes (.coachExecute p) s fun t => t.comp = ⟨stOk, [regWord s c.addr]⟩ ∧
        t.fab.coaches = s.fab.coaches.erase c ∧ t.regs = s.regs) ∧
  (∀ (p : Fin 32) (c : Coach) (s : State),
      oldestAt s p c ∧ c.kind ≠ .service ∧ specAt c.addr = none →
      Completes (.coachExecute p) s fun t => t.comp.status = stNoReg ∧ (c.kind = .read → t.comp.data = [0]) ∧
        t.fab.coaches = s.fab.coaches.erase c ∧ SameBut (recKeys c.rq) s t) ∧
  (∀ (p : Fin 32) (c : Coach) (s : State),
      oldestAt s p c ∧ c.kind = .write ∧ storesOnly c.addr = true ∧ c.data < 2 ^ 32 →
      Completes (.coachExecute p) s fun t => t.fab.coaches = s.fab.coaches.erase c ∧
        (sealedNow s = false → t.comp = ⟨stOk, []⟩) ∧ ∀ f ∈ fieldsAt c.addr, fget t (specFld c.addr f) = fieldAfter s c.addr c.data f) ∧
  (∀ (p : Fin 32) (c : Coach) (s : State),
      oldestAt s p c ∧ c.kind = .service →
      Completes (.coachExecute p) s fun t => t.comp.status = stOk ∧ t.comp.data.length = 1 ∧ t.regs = s.regs ∧
        t.fab.coaches = s.fab.coaches.erase c) ∧
  (∀ (p : Fin 32) (s : State),
      ∀ x ∈ s.fab.coaches, x.port ≠ p.val →
      Completes (.coachExecute p) s fun t => t = s) ∧
  (∀ (tag : Fin 1024) (c : Coach) (s : State),
      (s.fab.coaches.find? fun x => x.tag == tag.val) = some c ∧ c.kind ≠ .service ∧ c.tgt < 0x5D ∧ s.fab.stalled = [] ∧
      Calm s 0x277 ∧ Reports s 0x277 ∧ CalmIn s 0x25E 2 →
      Completes (.coachTimeout tag) s fun t => fget t FAB.EVT.TMO = 1 ∧ fget t (FLT.LAT 0x277) = 1 ∧
        fget t (FAB.TGT.EPOCH c.tgt) = (fget s (FAB.TGT.EPOCH c.tgt) + 1) % 16 ∧ fget t (FAB.TGT.DOWN c.tgt) = 1 ∧
        fget t (FAB.TGT.RESETS c.tgt) = min 255 (fget s (FAB.TGT.RESETS c.tgt) + 1) ∧
        t.fab.coaches = s.fab.coaches.filter (fun x => x.tgt != c.tgt) ∧
        ((∀ x ∈ s.fab.coaches, requesterGone s x.rq = false) → fget t FAB.EVT.LOST = 1 ∧
          fget t FAB.CNT.LOST = min 65535 (fget s FAB.CNT.LOST + (s.fab.coaches.filter fun x => x.tgt == c.tgt).length))) ∧
  (∀ (tag : Fin 1024) (c : Coach) (s : State),
      (s.fab.coaches.find? fun x => x.tag == tag.val) = some c ∧ c.kind ≠ .service ∧ c.tgt = 0x7F ∧ s.fab.stalled = [] ∧
      Calm s 0x277 ∧ Reports s 0x277 ∧ requesterGone s c.rq = false →
      Completes (.coachTimeout tag) s fun t => fget t FAB.EVT.TMO = 1 ∧ fget t (FLT.LAT 0x277) = 1 ∧
        t.comp = ⟨stLost, []⟩ ∧ fget t (FAB.TGT.EPOCH 0x7F) = fget s (FAB.TGT.EPOCH 0x7F) ∧ targetDown t 0x7F = targetDown s 0x7F ∧
        t.fab.coaches = s.fab.coaches.filter (fun x => x != c) ∧ SameBut (fun k => fabKeys k || recKeys c.rq k) s t) ∧
  (∀ (tag : Fin 1024) (s : State),
      ∀ x ∈ s.fab.coaches, x.tag = tag.val → x.kind = .service →
      Completes (.coachTimeout tag) s fun t => t = s) ∧
  (∀ (k : Fin 128) (s : State),
      (∀ x ∈ s.fab.coaches, x.tgt ≠ k.val) ∧ ¬(0x55 ≤ k.val ∧ k.val ≤ 0x58 ∧ halted s (k.val - 0x55) = true) →
      Completes (.targetReturn k) s fun t => targetDown t k = false ∧
        SameBut (fun x => x == fkey (FAB.TGT.DOWN k)) s t ∧ t.fab = s.fab) ∧
  (∀ (k : Fin 128) (s : State),
      (∃ x ∈ s.fab.coaches, x.tgt = k.val) ∨ (0x55 ≤ k.val ∧ k.val ≤ 0x58 ∧ halted s (k.val - 0x55) = true) →
      Completes (.targetReturn k) s fun t => t = s)

/-- Starts, conversions and publications of the sequences, and events, ticks and self-checks of the comparators, act as stated (R448, R449, R451, R452, R453, R454, R456, R459, R460, R464, R466, R467). -/
def Obligations.ConvertersAndComparators : Prop :=
  (∀ (c : Fin 4) (s : State),
      (fget s ADC.CTL.EN).testBit c = false ∧ fget s ADC.CTL.EN < 16 →
      Completes (.adcPowerUp c) s fun t => t.comp = ⟨stOk, []⟩ ∧ fget t ADC.CTL.EN = fget s ADC.CTL.EN + 2 ^ c.val ∧
        c.val ∈ t.adc.cal ∧ SameBut (fun k => k == fkey ADC.CTL.EN) s t) ∧
  (∀ (c : Fin 4) (s : State),
      (fget s ADC.CTL.EN).testBit c = true ∧ s.fab.stalled = [] ∧ (∀ x ∈ s.fab.coaches, x.tgt ≠ 0x4C + c.val) →
      Completes (.adcPowerDown c) s fun t => t.comp.status = stOk ∧ (fget t ADC.CTL.EN).testBit c = false ∧
        fget t (adcStatF c) = 0 ∧ targetDown t (0x4C + c) = true ∧ fget t (FAB.TGT.EPOCH (0x4C + c)) = (fget s (FAB.TGT.EPOCH (0x4C + c)) + 1) % 16 ∧
        (∀ q ∈ adcSeqs c, adcSt t q = 0 ∧ fget t (ADC.SEQ.STAT.RUN q) = 0 ∧ (2 ≤ adcSt s q → fget t (ADC.SEQ.EVT.ABORT q) = 1)) ∧
        (∀ i < 256, fget t (ADC.RES.VALUE i) = fget s (ADC.RES.VALUE i)) ∧ SameBut (inBlocks [0xA, 0xB]) s t) ∧
  (∀ (c : Fin 4) (s : State),
      c.val ∈ s.adc.cal ∧ (∀ q ∈ adcSeqs c, adcSt s q = 0) ∧ CalmIn s 0x23E 4 ∧ severity s 0x261 ≠ 3 ∧ stage s ≠ 3 →
      Completes (.adcReady c) s fun t => c.val ∉ t.adc.cal ∧ adcIsReady t c = true ∧
        ∀ q ∈ adcSeqs c, s.start.running = true ∧ fon s (ADC.SEQ.CFG.EN q) = true ∧ fon s (ADC.SEQ.CFG.AUTO q) = true → adcSt t q ≠ 0) ∧
  (∀ (m : BitVec 16) (s : State),
      CalmIn s 0x23E 4 ∧ severity s 0x261 ≠ 3 ∧ stage s ≠ 3 →
      Completes (.adcSwtrig m) s fun t => adcTriggers s t (adcMask m.toNat) ∧ SameBut adcKeys s t ∧
        t.comp = ⟨if (∃ q ∈ adcMask m.toNat, adcCan s q) then stOk else stIllegal, []⟩) ∧
  (∀ (n : Fin 4) (s : State),
      fget s (ADC.TRG.CFG.SRC n) = 1 ∧ CalmIn s 0x23E 4 ∧ severity s 0x261 ≠ 3 ∧ stage s ≠ 3 →
      Completes (.adcTriggerFire n) s fun t => adcTriggers s t (adcTriggered s n) ∧
        served t % (10 * max 200 (fget s (ADC.TRG.PARAM.VAL n))) = 0) ∧
  (∀ (n : Fin 4) (s : State),
      2 ≤ fget s (ADC.TRG.CFG.SRC n) ∧ fget s (ADC.TRG.CFG.SRC n) ≤ 4 ∧ CalmIn s 0x23E 4 ∧ severity s 0x261 ≠ 3 ∧ stage s ≠ 3 →
      Completes (.adcTriggerFire n) s fun t =>
        if fget s (ADC.TRG.CFG.DIV n) < trgCount s n then
          adcTriggers s t (adcTriggered s n) ∧ trgCount t n = trgCount s n - (fget s (ADC.TRG.CFG.DIV n) + 1)
        else t = s) ∧
  (∀ (c : Fin 4) (x : Int) (q : Nat) (s : State),
      adcRunning s c = some q ∧ (adcX s q).stop = false ∧ fget s (ADC.SEQ.STAT.ENTRY q) + 1 < min 16 (fget s (ADC.SEQ.CFG.LEN q)) ∧
      (∀ p < q, 4 * c.val ≤ p → adcSt s p ≠ 1) →
      Completes (.adcConversionEnd c x) s fun t => adcSt t q = 2 ∧
        fget t (ADC.SEQ.STAT.ENTRY q) = fget s (ADC.SEQ.STAT.ENTRY q) + 1 ∧
        (adcX t q).sums = (adcAdd (adcX s q) (fget s (ADC.SEQ.STAT.ENTRY q)) (clampInt (-32768) 32767 x) (decide (x < -32768 ∨ 32767 < x))).sums ∧
        (x < -32768 ∨ 32767 < x → fget t (ADC.SEQ.EVT.SAT q) = 1) ∧ SameBut (inBlocks [0xB]) s t) ∧
  (∀ (c : Fin 4) (x : Int) (q : Nat) (s : State),
      adcRunning s c = some q ∧ (adcX s q).stop = false ∧ fget s (ADC.SEQ.STAT.ENTRY q) + 1 = fget s (ADC.SEQ.CFG.LEN q) ∧
      fon s (ADC.SEQ.CFG.NEXT_EN q) = false ∧ (∀ p < 16, p ≠ q → adcSt s p = 0) ∧ fget s (ADC.SEQ.CFG.AVG q) ≤ 8 →
      Completes (.adcConversionEnd c x) s fun t => adcSt t q = 0 ∧ fget t (ADC.SEQ.STAT.ENTRY q) = 0 ∧
        if 2 ^ fget s (ADC.SEQ.CFG.AVG q) ≤ fget s (ADC.SEQ.STAT.RUN q) + 1 then fget t (ADC.SEQ.STAT.RUN q) = 0 ∧ (adcX t q).ready ≠ none ∧ (adcX t q).sums = []
        else fget t (ADC.SEQ.STAT.RUN q) = (fget s (ADC.SEQ.STAT.RUN q) + 1) % 512 ∧ (adcX t q).ready = (adcX s q).ready) ∧
  (∀ (c : Fin 4) (x : Int) (q p : Nat) (s : State),
      adcRunning s c = some q ∧ (adcX s q).stop = false ∧ fget s (ADC.SEQ.STAT.ENTRY q) + 1 < min 16 (fget s (ADC.SEQ.CFG.LEN q)) ∧
      p < q ∧ 4 * c.val ≤ p ∧ adcSt s p = 1 ∧ (adcX s p).chained = false ∧ (∀ r < p, adcSt s r = 0) ∧ adcIsReady s c = true →
      Completes (.adcConversionEnd c x) s fun t => adcSt t q = 3 ∧ adcSt t p = 2 ∧
        fget t (ADC.SEQ.STAT.ENTRY q) = fget s (ADC.SEQ.STAT.ENTRY q) + 1) ∧
  (∀ (c : Fin 4) (x : Int) (q : Nat) (s : State),
      adcRunning s c = some q ∧ (adcX s q).stop = true ∧ (∀ p < 16, p ≠ q → adcSt s p = 0) →
      Completes (.adcConversionEnd c x) s fun t => adcSt t q = 0 ∧ fget t (ADC.SEQ.EVT.ABORT q) = 1 ∧ (adcX t q).sums = [] ∧
        fget t (ADC.SEQ.STAT.RUN q) = 0) ∧
  (∀ (c q : Fin 4) (l : List (Int × Bool)) (s : State),
      (adcX s (4 * c + q)).ready = some l ∧ l.length ≤ 16 →
      Completes (.adcResultPublish c q) s fun t => let n := 4 * c.val + q
        fget t (ADC.SEQ.EVT.DONE n) = 1 ∧ fget t (ADC.SEQ.CNT.DONE n) = min 65535 (fget s (ADC.SEQ.CNT.DONE n) + 1) ∧ (adcX t n).ready = none ∧
        ∀ e < l.length, fget t (ADC.RES.CNT (16 * n + e)) = (fget s (ADC.RES.CNT (16 * n + e)) + 1) % 16 ∧
          fgetI t (ADC.RES.VALUE (16 * n + e)) = clampInt (-8388608) 8388607 ((l.getD e (0, false)).1 / 2 ^ fget s (ADC.SEQ.CFG.SHIFT n)) ∧
          fget t (ADC.RES.SAT (16 * n + e)) = b2n (l.getD e (0, false)).2) ∧
  (∀ (c q : Fin 4) (w : Word) (s : State),
      targetDown s (0x4C + c) = false ∧ fon s (ADC.SEQ.CFG.EN (4 * c + q)) = true →
      Completes (.adcSeqCfgWrite c q w) s fun t =>
        if w.toNat.testBit 31 then t.comp = ⟨stIllegal, []⟩ ∧ t.regs = s.regs ∧ t.adc = s.adc
        else t.comp = ⟨stOk, []⟩ ∧ fget t (ADC.SEQ.CFG.EN (4 * c + q)) = 0 ∧ fget t (ADC.SEQ.CFG.LEN (4 * c + q)) = fget s (ADC.SEQ.CFG.LEN (4 * c + q)) ∧
          fget t (ADC.SEQ.CFG.TSRC (4 * c + q)) = fget s (ADC.SEQ.CFG.TSRC (4 * c + q)) ∧ SameBut (inBlocks [0xB]) s t ∧
          (adcSt s (4 * c + q) = 1 → adcSt t (4 * c + q) = 0) ∧ (adcSt s (4 * c + q) = 2 → adcSt t (4 * c + q) = 2 ∧ (adcX t (4 * c + q)).stop = true)) ∧
  (∀ (c q : Fin 4) (w : Word) (s : State),
      targetDown s (0x4C + c) = false ∧ fon s (ADC.SEQ.CFG.EN (4 * c + q)) = false ∧ adcCfgOk w.toNat = true →
      Completes (.adcSeqCfgWrite c q w) s fun t => t.comp = ⟨stOk, []⟩ ∧ t.adc = s.adc ∧
        fget t (ADC.SEQ.CFG.EN (4 * c + q)) = bitsOf w.toNat 31 31 ∧ fget t (ADC.SEQ.CFG.AUTO (4 * c + q)) = bitsOf w.toNat 30 30 ∧
        fget t (ADC.SEQ.CFG.TSRC (4 * c + q)) = bitsOf w.toNat 29 27 ∧ fget t (ADC.SEQ.CFG.NEXT_EN (4 * c + q)) = bitsOf w.toNat 26 26 ∧
        fget t (ADC.SEQ.CFG.NEXT (4 * c + q)) = bitsOf w.toNat 25 24 ∧ fget t (ADC.SEQ.CFG.AVG (4 * c + q)) = bitsOf w.toNat 19 16 ∧
        fget t (ADC.SEQ.CFG.SHIFT (4 * c + q)) = bitsOf w.toNat 11 8 ∧ fget t (ADC.SEQ.CFG.LEN (4 * c + q)) = bitsOf w.toNat 4 0) ∧
  (∀ (k : Fin 16) (v : Bool) (s : State),
      cmpMode s k = 1 ∧ stage s ≠ 4 ∧ fget s (CMP.GEN.STAT.OUT k) = b2n (!v) ∧ CalmIn s 0x1E0 16 ∧ severity s 0x261 ≠ 3 ∧ stage s ≠ 3 →
      Completes (.cmpOutputEdge k v) s fun t => fget t (CMP.GEN.STAT.OUT k) = b2n v ∧
        SameBut (fun x => inBlocks [0xC] x || repKey x) s t ∧
        if cmpEdge s k v then cmpEvented s t k (served s)
        else fget t (CMP.GEN.STAT.LATCH k) = fget s (CMP.GEN.STAT.LATCH k) ∧ fget t (CMP.GEN.CNT.EVENTS k) = fget s (CMP.GEN.CNT.EVENTS k)) ∧
  (∀ (w : Nat) (v : BitVec 16) (k : Fin 16) (s : State),
      frameRuns s 1 = true ∧ stage s ≠ 4 ∧ cmpMode s k = 2 ∧ fget s (CMP.GEN.CFG.MODE k) = 2 ∧ k.val ∈ s.cmp.ref ∧ CalmIn s 0x1E0 16 ∧
      CalmIn s 0x246 5 ∧ severity s 0x261 ≠ 3 ∧ stage s ≠ 3 ∧ fget s (CMP.GEN.STAT.OUT k) ≤ 1 →
      Completes (.cmpTick w v) s fun t => fget t (CMP.GEN.STAT.OUT k) = b2n (v.toNat.testBit k) ∧
        if fon s (CMP.GEN.STAT.OUT k) ≠ v.toNat.testBit k ∧ cmpEdge s k (v.toNat.testBit k) = true then
          cmpEvented s t k ((frameStart s 1).2 + 6000)
        else fget t (CMP.GEN.CNT.EVENTS k) = fget s (CMP.GEN.CNT.EVENTS k) ∧
          (fon s (CMP.GEN.CFG.LCLR k) = true ∧ k.val ∉ s.cmp.active → fget t (CMP.GEN.STAT.LATCH k) = 0)) ∧
  (∀ (rq : Fin 24) (k : Fin 16) (s : State),
      restUp s rq →
      Completes (.cmpCapRead rq k) s fun t => t.comp = ⟨stOk, [fget s (CMP.GEN.CAP_LO.CT k)]⟩ ∧ fget t (CMP.GEN.STAT.CAPV k) = 0 ∧
        (regRead t rq (0xC010C + 0x20 * k)).2.2 = [fget s (CMP.GEN.CAP_HI.CT k) % 2 ^ 32]) ∧
  (∀ (cmp : Fin 128) (d : Bool) (s : State),
      cmpChecks s = true ∧ cmpInUse s cmp = true ∧ (cmp.val < 112 ∨ cmpMode s (cmp.val - 112) ≠ 2) ∧ CalmIn s 0x278 5 ∧ severity s 0x261 ≠ 3 ∧ stage s ≠ 3 →
      Completes (.cmpSwapCheck cmp d) s fun t =>
        if d = false then t.regs = s.regs ∧ cmp.val ∉ t.cmp.miss
        else if cmpRecent s cmp = none then (if cmp.val ∈ s.cmp.miss then cmpFailed s t cmp else t.regs = s.regs ∧ cmp.val ∈ t.cmp.miss)
        else if (cmpInput s cmp).2.any (nearThr ((cmpRecent s cmp).getD 0)) then t = s else cmpFailed s t cmp) ∧
  (∀ (cmp : Fin 128) (d : Bool) (s : State),
      cmpChecks s = true ∧ 112 ≤ cmp.val ∧ cmpMode s (cmp.val - 112) = 2 ∧ CalmIn s 0x278 5 ∧ severity s 0x261 ≠ 3 ∧ stage s ≠ 3 →
      Completes (.cmpSwapCheck cmp d) s fun t => if d then cmpFailed s t cmp else t = s) ∧
  (∀ (cmp : Fin 128) (d : Bool) (s : State),
      CalmIn s 0x278 5 ∧ severity s 0x261 ≠ 3 ∧ stage s ≠ 3 →
      Completes (.cmpTieCheck cmp d) s fun t =>
        if cmpChecks s = true ∧ cmpInUse s cmp = false ∧ d = true then cmpFailed s t cmp else t = s) ∧
  (∀ (dac : Fin 176) (v e : Nat) (s : State),
      s.start.running = true ∧ adcIsReady s 3 = true ∧ fget s CMP.CHK.MODE ≤ 1 ∧ CalmIn s 0x278 5 ∧ severity s 0x261 ≠ 3 ∧ stage s ≠ 3 →
      Completes (.cmpReadback dac v e) s fun t =>
        if 100 * ((v : Int) - e).natAbs ≤ e + 2000 then t.regs = s.regs ∧ dac.val ∉ t.cmp.dacMiss
        else if dac.val ∈ s.cmp.dacMiss then fget t CMP.CHK_STAT.DAC = 1 ∧ fget t CMP.CHK_STAT.DAC_IDX = dac ∧ (Reports s 0x27B → fget t (FLT.LAT 0x27B) = 1)
        else t.regs = s.regs ∧ dac.val ∈ t.cmp.dacMiss) ∧
  (∀ (s : State),
      s.start.running = true ∧ fget s CMP.CHK.MODE ≤ 1 ∧ adcIsReady s 3 = false ∧ Calm s 0x27C ∧ Reports s 0x27C →
      Completes .cmpRbStall s fun t => fget t (FLT.LAT 0x27C) = 1 ∧ SameBut repKey s t)

/-- Each charger command does as R491 and R492 say in the states that allow it, and nothing, with ILLEGAL_STATE, in the others (R491, R492, R493, R499, R500, R502, R510). -/
def Obligations.ChargerCommands : Prop :=
  (∀ (s : State),
      targetDown s 0x50 = false ∧ chgBars s 1 = true →
      Completes .chgStart s fun t => chgBarred s t) ∧
  (∀ (s : State),
      targetDown s 0x50 = false ∧ chgBars s 2 = true →
      Completes .chgStop s fun t => chgBarred s t) ∧
  (∀ (s : State),
      targetDown s 0x50 = false ∧ chgBars s 4 = true →
      Completes .chgRefCharge s fun t => chgBarred s t) ∧
  (∀ (s : State),
      targetDown s 0x50 = false ∧ chgBars s 5 = true →
      Completes .chgArmSupport s fun t => chgBarred s t) ∧
  (∀ (s : State),
      targetDown s 0x50 = false ∧ chgBars s 6 = true →
      Completes .chgDisarmSupport s fun t => chgBarred s t) ∧
  (∀ (s : State),
      targetDown s 0x50 = false ∧ chgBars s 7 = true →
      Completes .chgStartSupport s fun t => chgBarred s t) ∧
  (∀ (s : State),
      targetDown s 0x50 = false ∧ chgBars s 8 = true →
      Completes .chgEndSupport s fun t => chgBarred s t) ∧
  (∀ (s : State),
      targetDown s 0x50 = false ∧ chgBars s 9 = true →
      Completes .chgClearFault s fun t => chgBarred s t) ∧
  (∀ (i : Fin 4096) (s : State),
      targetDown s 0x50 = false ∧ chgBars s 3 = true →
      Completes (.chgSetCurrent i) s fun t => chgBarred s t) ∧
  (∀ (s : State),
      chgUp s ∧ chgState s = 0 ∧ fget s CHG.PACK.CELLS ≠ 0 →
      Completes .chgStart s fun t => t.comp = ⟨stOk, []⟩ ∧ chgState t = 1 ∧ SameBut (inBlocks [0xA, 0xD]) s t) ∧
  (∀ (s : State),
      chgUp s ∧ chgState s = 0 ∧ fget s CHG.PACK.CELLS = 0 ∧ fon s CHG.CFG.HOLD_EN = true →
      Completes .chgStart s fun t => t.comp = ⟨stOk, []⟩ ∧ chgState t = 0xB ∧ fget t CHG.STAT.PACK_GONE = fget s CHG.STAT.PACK_GONE) ∧
  (∀ (s : State),
      chgUp s ∧ chgBars s 2 = false →
      Completes .chgStop s fun t => t.comp = ⟨stOk, []⟩ ∧ chgState t = 0 ∧ chgAsksNothing t ∧ fget t CHG.STAT.REF = 0 ∧
        (chgState s = 0xC → supEndsIn s t 0 true) ∧ SameBut chgKeys s t) ∧
  (∀ (i : Fin 4096) (s : State),
      chgUp s ∧ chgBars s 3 = false ∧ 10 ≤ fget s CHG.ICHG.ICC_MA →
      Completes (.chgSetCurrent i) s fun t => t.comp = ⟨stOk, []⟩ ∧ chgState t = chgState s ∧ (let new := min (min 12000 (fget s CHG.ICHG.ICC_MA)) (max 10 (i * 10))
        if chgCharging (chgState s) ∧ s.chg.it < new then
          t.chg = s.chg ∧ fget t CHG.PROG.ITGT = fget s CHG.PROG.ITGT ∧
          lastReq t = some { kind := .charge new false, mw := chgR s new - chgR s s.chg.it, arrival := localNs s }
        else t.chg.it = new ∧ fget t CHG.PROG.ITGT = new / 10 ∧
          (chgCharging (chgState s) = true → ∀ r ∈ t.ldg.reqs, r.kind ≠ .charge new false))) ∧
  (∀ (s : State),
      chgUp s ∧ chgBars s 4 = false ∧ chgState s ≠ 0 ∧ chgState s ≠ 8 →
      Completes .chgRefCharge s fun t => t.comp = ⟨stOk, []⟩ ∧ fget t CHG.STAT.REF = 1 ∧ t.ldg = s.ldg ∧ t.chg = s.chg ∧
        SameBut (fun k => inBlocks [0xA] k || k == fkey CHG.STAT.REF) s t) ∧
  (∀ (s : State),
      chgUp s ∧ fget s CHG.PACK.CELLS ≠ 0 ∧ (chgState s = 0 ∨ chgState s = 8) →
      Completes .chgRefCharge s fun t => t.comp = ⟨stOk, []⟩ ∧ fget t CHG.STAT.REF = 1 ∧
        if chgState s = 0 then chgState t = 1 else chgAsks s t) ∧
  (∀ (s : State),
      chgUp s ∧ chgBars s 5 = false ∧ fon s CHG.STAT.SUP_ARMED = false ∧ (∀ r ∈ s.ldg.reqs, r.kind ≠ .support) →
      Completes .chgArmSupport s fun t => t.comp = ⟨stOk, []⟩ ∧
        lastReq t = some { kind := .support, mw := min 500 (fget s CHG.SUP2.SUP_W) * 1064, arrival := localNs s } ∧ fget t CHG.STAT.SUP_ARMED = 0 ∧ t.chg = s.chg) ∧
  (∀ (s : State),
      chgUp s ∧ chgBars s 6 = false →
      Completes .chgDisarmSupport s fun t => t.comp = ⟨stOk, []⟩ ∧ (if chgState s = 0xC then supEndsIn s t 1 false
        else chgState t = chgState s ∧ fget t CHG.STAT.SUP_ARMED = 0 ∧ t.ldg.sup = 0 ∧ ∀ r ∈ t.ldg.reqs, r.kind ≠ .support)) ∧
  (∀ (s : State),
      chgUp s ∧ chgBars s 7 = false ∧ supBarred s = false →
      Completes .chgStartSupport s fun t => t.comp = ⟨stOk, []⟩ ∧ supStarted s t) ∧
  (∀ (s : State),
      chgUp s ∧ chgState s = 0xC →
      Completes .chgEndSupport s fun t => t.comp = ⟨stOk, []⟩ ∧ supEndsIn s t 1 true) ∧
  (∀ (s : State),
      chgUp s ∧ chgState s = 0xA →
      Completes .chgClearFault s fun t => t.comp = ⟨stOk, []⟩ ∧ chgState t = 0 ∧ fget t CHG.STAT.FCAUSE = 0)

/-- Charge phases, the safety timer, overvoltage, removal, acceptance, support, tracking, the diode and Storage follow R491-R506 (R491, R493, R495, R496, R497, R498, R499, R500, R501, R503, R504, R506). -/
def Obligations.ChargeCycleAndPowerPath : Prop :=
  (∀ (e : ChgEvent) (s : State),
      halted s 3 = false ∧ ¬ phaseAsks s e →
      Completes (.chgPhaseChange e) s fun t => chgState t = phaseTo s e ∧
        (chgState s = 6 ∧ e = .terminated → fget t CHG.EVT.TERM = 1 ∧ fget t CHG.CNT.TERMS = min 65535 (fget s CHG.CNT.TERMS + 1)) ∧
        (chgState t = 8 ∧ chgState s ≠ 8 → fget t CHG.STAT.REF = 0) ∧ (chgState t = 9 ∧ chgState s ≠ 9 → chgAsksNothing t) ∧ SameBut chgKeys s t) ∧
  (∀ (e : ChgEvent) (s : State),
      halted s 3 = false ∧ phaseAsks s e →
      Completes (.chgPhaseChange e) s fun t => chgAsks s t) ∧
  (∀ (s : State),
      halted s 3 = false ∧ chgState s = 3 ∧ chgAsksNothing s →
      Completes .chgPauseRetry s fun t => chgState t = 3 ∧ t.regs = s.regs ∧
        lastReq t = some { kind := .charge s.chg.it true, mw := chgR s s.chg.it, arrival := localNs s }) ∧
  (∀ (v i p : Nat) (c : Int) (s : State),
      halted s 3 = false ∧ 4 ≤ chgState s ∧ chgState s ≤ 6 ∧ Calm s 0x234 ∧ Reports s 0x234 →
      Completes (.chgSafetyTimerTick v i p c) s fun t =>
        let goal : Int := ((if chgState s = 4 then fget s CHG.ICHG.IPRE_MA else s.chg.it : Nat) : Int)
        let slow := (fon t CHG.STAT.TLIM = true ∨ fon t CHG.STAT.ILIM = true) ∧ c * 20 < goal
        t.chg.timer = s.chg.timer + (if slow then 1 else 2) ∧ fget t CHG.PROG.ELAPSED = min (t.chg.timer / 2) 0x1FFFF ∧
        fget t CHG.MEAS.VPACK_MV = min v 65535 ∧ fget t CHG.MEAS_IN.VIN_MV = min i 65535 ∧ fget t CHG.MEAS_IN.PIN_DW = min p 65535 ∧
        (fget s CHG.STAT.INSEL = 1 → i < fget s CHG.INLIM.VIN_MIN_MV → fon t CHG.STAT.ILIM = true) ∧
        if min 24 (max 1 (fget s CHG.TERM.TIMER_H)) * 3600 * 2 ≤ t.chg.timer then
          chgState t = 0xA ∧ fget t CHG.STAT.FCAUSE = 1 ∧ fget t CHG.EVT.TIMER = 1 ∧ fget t (FLT.LAT 0x234) = 1
        else chgState t = chgState s) ∧
  (∀ (v i p : Nat) (c : Int) (s : State),
      halted s 3 = false ∧ (chgState s < 4 ∨ 6 < chgState s) →
      Completes (.chgSafetyTimerTick v i p c) s fun t => t.chg = s.chg ∧ chgState t = chgState s ∧
        fget t CHG.PROG.ELAPSED = fget s CHG.PROG.ELAPSED ∧ SameBut (inBlocks [0xD]) s t) ∧
  (∀ (s : State),
      halted s 3 = false ∧ 4 ≤ chgState s ∧ chgState s ≤ 6 ∧ min 24 (max 1 (fget s CHG.TERM.TIMER_H)) * 7200 ≤ s.chg.timer ∧ Calm s 0x234 ∧ Reports s 0x234 →
      Completes .chgSafetyTimerExpiry s fun t => chgState t = 0xA ∧
        fget t CHG.STAT.FCAUSE = 1 ∧ fget t CHG.EVT.TIMER = 1 ∧ fget t (FLT.LAT 0x234) = 1 ∧ chgAsksNothing t) ∧
  (∀ (v : Nat) (s : State),
      fget s CHG.PACK.CELLS ≠ 0 ∧ (chgCharging (chgState s) = true ∨ chgState s = 0xB) →
      Completes (.chgOvpTrip v) s fun t => chgState t = chgState s ∧
        if packMv s CHG.VCELL.CV_MV 3450 3650 4000 4200 * 105 < v * 100 then t.chg.ovp = true ∧ fget t CHG.EVT.OVP = 1 ∧ SameBut chgKeys s t else t = s) ∧
  (∀ (h : Bool) (s : State),
      s.chg.ovp = true ∧ Calm s 0x235 ∧ Reports s 0x235 →
      Completes (.chgOvpResolve h) s fun t => t.chg.ovp = false ∧
        if h then chgState t = 0xA ∧ fget t CHG.STAT.FCAUSE = 2 ∧ fget t (FLT.LAT 0x235) = 1 ∧ chgAsksNothing t
        else if chgCharging (chgState s) then chgAsks s t else chgState t = chgState s) ∧
  (∀ (s : State),
      chgState s ≠ 0 ∧ chgState s ≠ 0xD ∧ ¬ (chgState s = 0xA ∧ fget s CHG.STAT.FCAUSE = 2) ∧ fget s CHG.PACK.CELLS ≠ 0 ∧
      fon s CHG.STAT.PACK_GONE = false ∧ Calm s 0x236 ∧ Reports s 0x236 →
      Completes .packAbsence s fun t =>
        let input := fon s TOP.SUPPLY.CHG_IN = true ∨ (chgState s ≠ 0xC ∧ fon s TOP.SUPPLY.VSOL = true)
        fget t CHG.STAT.PACK_GONE = 1 ∧ fget t CHG.EVT.PACK_GONE = 1 ∧ fget t CHG.CNT.GONE = min 255 (fget s CHG.CNT.GONE + 1) ∧ t.chg.diode = false ∧
        fget t (FLT.LAT 0x236) = 1 ∧ chgAsksNothing t ∧ chgState t = (if fon s CHG.CFG.HOLD_EN = true ∧ input then 0xB else 0) ∧
        (chgState s = 0xC → fget t CHG.EVT.SUP_END = 1 ∧ fget t CHG.STAT.SUP_ARMED = 0 ∧ t.ldg.sup = 0) ∧
        (fon s GAUGE.STAT.RUN = true → fget t GAUGE.STAT.FROZEN = 1 ∧ fget t GAUGE.EVT.FREEZE = 1)) ∧
  (∀ (id : Fin 16) (v : Nat) (s : State),
      (chgState s = 1 ∨ (chgState s = 0xB ∧ fon s CHG.STAT.PACK_GONE = true)) ∧ fget s CHG.PACK.CELLS ≠ 0 ∧ id.val ≠ 15 ∧ idFits s id →
      Completes (.packAccept id v) s fun t =>
        fget t CHG.STAT.PACK_GONE = 0 ∧ fget t CHG.EVT.PACK_BACK = 1 ∧ t.chg.accepted = true ∧ fget t CHG.STAT.ID = id ∧ t.chg.learned = some (s.chg.learned.getD id) ∧
        if v < packMv s CHG.VCELL2.RECH_MV 3300 3400 3950 4100 ∨ fon s CHG.STAT.REF = true then chgAsks s t else chgState t = 8) ∧
  (∀ (id : Fin 16) (v : Nat) (s : State),
      (chgState s = 1 ∨ (chgState s = 0xB ∧ fon s CHG.STAT.PACK_GONE = true)) ∧ fget s CHG.PACK.CELLS ≠ 0 ∧ id.val ≠ 15 ∧ ¬ idFits s id ∧ Calm s 0x237 ∧ Reports s 0x237 →
      Completes (.packAccept id v) s fun t =>
        chgState t = 0xA ∧ fget t CHG.STAT.FCAUSE = 3 ∧ fget t CHG.EVT.ID_MISMATCH = 1 ∧ fget t (FLT.LAT 0x237) = 1 ∧ t.chg.accepted = s.chg.accepted) ∧
  (∀ (s : State),
      chgState s = 0xB ∧ chgPick s = 0 ∧ Calm s 0x238 ∧ Reports s 0x238 →
      Completes .chgHoldInputLoss s fun t => chgState t = 0xB ∧ fget t CHG.STAT.NOIN = 1 ∧ fget t (FLT.LAT 0x238) = 1 ∧ t.chg = s.chg) ∧
  (∀ (s : State),
      chgBars s 7 = false ∧ supBarred s = false →
      Completes .supportTrigger s fun t => supStarted s t ∧ SameBut chgKeys s t) ∧
  (∀ (s : State),
      chgState s = 0xC ∧ stage s ≠ 0 ∧ s.pwr.storage = false ∧ Calm s 0x239 ∧ Reports s 0x239 →
      Completes .supportTimeout s fun t => supEndsIn s t 1 false ∧ fget t CHG.EVT.SUP_TMO = 1 ∧ fget t (FLT.LAT 0x239) = 1 ∧
        s.chg.supAt + max 1 (fget s CHG.SUP2.SUP_T) * 10000000 ≤ localNs t) ∧
  (∀ (s : State),
      chgState s = 0xC →
      Completes .supportCutoff s (fun t => supEndsIn s t 1 false ∧ fget t CHG.EVT.SUP_CUT = 1 ∧ SameBut chgKeys s t) ∧
        Completes .supportRecovered s (fun t => supEndsIn s t 1 true ∧ SameBut chgKeys s t)) ∧
  (∀ (p : Nat) (s : State),
      halted s 3 = false ∧ fget s CHG.STAT.INSEL = 2 ∧ s.chg.sweeping = false →
      Completes (.mpptTrack p) s fun t =>
        t.chg.up = (if p < s.chg.pPrev then !s.chg.up else s.chg.up) ∧ t.chg.pPrev = p ∧ fget t CHG.MPP.PMPP_DW = min p 65535 ∧
        (let d : Int := (max 1 (fget s CHG.MPPT.STEP_MV) * 10 * 3100 : Nat)
         (t.chg.vref : Int) = clampInt (s.chg.voc * 3100 * 50 / 100 : Nat) (s.chg.voc * 3100 * 95 / 100 : Nat) (s.chg.vref + (if t.chg.up then d else -d)))) ∧
  (∀ (s : State),
      halted s 3 = false ∧ fget s CHG.STAT.INSEL = 2 →
      Completes .mpptSweep s fun t => t.chg.sweeping = true ∧ t.regs = s.regs ∧ t.ldg = s.ldg) ∧
  (∀ (v k : Nat) (l : List Nat) (s : State),
      halted s 3 = false ∧ s.chg.sweeping = true ∧ l.length = 32 ∧ k < 32 ∧ (∀ j < 32, j < k → l.getD j 0 < l.getD k 0) ∧ (∀ j < 32, l.getD j 0 ≤ l.getD k 0) →
      Completes (.mpptSweepDone v l) s fun t =>
        t.chg.sweeping = false ∧ t.chg.voc = v ∧ t.chg.vref * 31 = v * 31 * 2945 - v * 45 * 31 * k ∧ t.chg.up = false ∧
        (fget t CHG.MPP.VMPP_MV = min 65535 (t.chg.vref / 3100) ∨ fget t CHG.MPP.VMPP_MV = min 65535 (t.chg.vref / 3100 + 1)) ∧
        (fget s CHG.CFG.SEL = 1 → fget t CHG.STAT.INSEL = b2n (fon s TOP.SUPPLY.CHG_IN))) ∧
  (∀ (s : State),
      s.start.dawn = true ∧ fon s CHG.STAT.PACK_GONE = false ∧ s.pwr.storage = false →
      Completes .idealDiodeConduct s (fun t => t.chg.diode = true ∧ t.regs = s.regs) ∧
        Completes .idealDiodeBlock s (fun t => t.chg.diode = false ∧ t.regs = s.regs)) ∧
  (∀ (s : State),
      s.start.dawn = false ∨ fon s CHG.STAT.PACK_GONE = true ∨ s.pwr.storage = true →
      Completes .idealDiodeConduct s fun t => t.chg = s.chg ∧ t.regs = s.regs) ∧
  (∀ (rq : Fin 24) (key : BitVec 16) (s : State),
      fabInjected s rq = false ∧ targetDown s 0x50 = false ∧ key.toNat ≠ 0x5C3A →
      Completes (.storageEntry rq key) s fun t => t.comp = ⟨stOk, []⟩ ∧ t.chg = s.chg ∧ t.pwr = s.pwr ∧
        SameBut (inBlocks [0xA]) s t) ∧
  (∀ (rq : Fin 24) (s : State),
      fabInjected s rq = false ∧ targetDown s 0x50 = false ∧
      (stage s ≠ 2 ∨ fon s TOP.SUPPLY.CHG_IN = true ∨ fon s TOP.SUPPLY.VIN48 = true ∨ fon s TOP.SUPPLY.VIN12 = true) →
      Completes (.storageEntry rq 0x5C3A) s fun t => t.comp = ⟨stIllegal, []⟩ ∧ t.chg = s.chg ∧ t.pwr = s.pwr ∧
        SameBut (recKeys rq) s t) ∧
  (∀ (rq : Fin 24) (s : State),
      fabInjected s rq = false ∧ targetDown s 0x50 = false ∧ stage s = 2 ∧ s.fab.stalled = [] ∧ (∀ x ∈ s.fab.coaches, x.tgt ≠ 0x50) ∧
      fon s TOP.SUPPLY.CHG_IN = false ∧ fon s TOP.SUPPLY.VIN48 = false ∧ fon s TOP.SUPPLY.VIN12 = false →
      Completes (.storageEntry rq 0x5C3A) s fun t => t.comp.status = stOk ∧ t.pwr.storage = true ∧
        t.chg.diode = false ∧ chgState t = 0 ∧ targetDown t 0x50 = true ∧ fget t (FAB.TGT.EPOCH 0x50) = (fget s (FAB.TGT.EPOCH 0x50) + 1) % 16 ∧
        (∀ n < 64, fon s (CHN.CFG.PRIV_ACT n) = true → chDriven t n = false))

/-- A millisecond adds its charge; a frame counts it, applies one reference, learns, asks for a charge and writes its record (R520, R523, R524, R525, R527, R528, R529, R530, R531, R533, R534, R535). -/
def Obligations.GaugeFollowsTheCount : Prop :=
  (∀ (v : Int) (s : State),
      s.start.applied = true ∧ fon s GAUGE.CFG.EN = true ∧ fget s CHG.PACK.CELLS ≠ 0 ∧ s.pwr.storage = false →
      Completes (.gaugeAccUpdate v) s fun t =>
        let r : Int := (min 5000 (max 100 (fget s GAUGE.CFG.SHUNT_UOHM)) : Nat)
        let x := s.gau.accRem + clampInt (-60000000) 60000000 v
        (t.gau.acc - (s.gau.acc + x / r)) % 2 ^ 64 = 0 ∧ -2 ^ 63 ≤ t.gau.acc ∧ t.gau.acc < 2 ^ 63 ∧ t.gau.accRem = x % r ∧
        fget t GAUGE.ACC_LO.ACC = (t.gau.acc % 2 ^ 32).toNat ∧ fget t GAUGE.ACC_HI.ACC = (t.gau.acc / 2 ^ 32 % 2 ^ 32).toNat ∧
        SameBut (inBlocks [0xE]) s t) ∧
  (∀ (v : Int) (s : State),
      s.start.applied = false ∨ fon s GAUGE.CFG.EN = false ∨ fget s CHG.PACK.CELLS = 0 ∨ s.pwr.storage = true →
      Completes (.gaugeAccUpdate v) s fun t => t = s) ∧
  (∀ (w n v p : Nat) (s : State),
      gaugeTurn s ∧ fon s GAUGE.STAT.FROZEN = false ∧ noPoint s ∧ Reports s 0x23B ∧ (∀ b < 2, ¬ refDue s (gaugeUnc s (gaugeDt s) (b == 1)) (localNs (frameBegin s 4 w).1)) →
      Completes (.gaugeFrame w n v p) s fun t =>
        let dq := s.gau.acc - s.gau.accPrev
        t.gau.accPrev = s.gau.acc ∧ t.gau.acc = s.gau.acc ∧ (0 < gaugeDt s → ∃ e < 2, fget t GAUGE.CURR.I_MA = ((dq * 1000000 / (gaugeDt s : Int) + (e : Nat)) % 2 ^ 32).toNat) ∧
        t.gau.soc = gaugeSoc s ∧ t.gau.unc = gaugeUnc s (gaugeDt s) (fon t GAUGE.STAT.T_FB) ∧ t.gau.qmax = s.gau.qmax ∧
        shows (fget t GAUGE.SOC.SOC) t.gau.soc 100 ∧ shows (fget t GAUGE.SOC.UNC) t.gau.unc 100 ∧ shows (fget t GAUGE.QMAX.QMAX_MAH) t.gau.qmax 1 ∧
        (if warmEnough s n then t.gau.temp = Config.thermistor n (fget s CHG.TEMP.BETA) ∧ fget t GAUGE.STAT.T_FB = 0
         else t.gau.temp = s.gau.temp ∧ fget t GAUGE.STAT.T_FB = 1 ∧ (fget s GAUGE.STAT.T_FB = 0 → fget t GAUGE.EVT.T_FB = 1 ∧ fget t (FLT.LAT 0x23B) = 1)) ∧
        (let one := (gaugeTab s).design * 3600000
         let d := s.gau.dis + (-dq).toNat
         t.gau.dis = d % one ∧ fget t GAUGE.CYC.CYCLES = (if d < one then fget s GAUGE.CYC.CYCLES else min 65535 (fget s GAUGE.CYC.CYCLES + d / one)) ∧
         (one ≤ d → fget t GAUGE.REC_STAT.PENDING = 1 ∨ t.gau.writing ≠ none)) ∧ SameBut gaugeKeys s t) ∧
  (∀ (w n v p : Nat) (s : State),
      gaugeTurn s ∧ fon s GAUGE.STAT.FROZEN = false ∧ (s.gau.full = true ∨ s.gau.term = true) ∧ s.gau.point = none →
      Completes (.gaugeFrame w n v p) s fun t =>
        let term := f32OfRat (fget s GAUGE.UNC_LIM.UNC_TERM) 100
        let unc := gaugeUnc s (gaugeDt s) (fon t GAUGE.STAT.T_FB)
        t.gau.soc = f32OfRat 100 1 ∧ t.gau.unc = (if s.gau.full then term else if f32Lt (f32Mul (f32OfRat 3 1) term) unc then f32Mul (f32OfRat 3 1) term else unc) ∧
        fget t GAUGE.EVT.REF_TERM = 1 ∧ fget t GAUGE.CNT.REFS = min 65535 (fget s GAUGE.CNT.REFS + 1) ∧ t.gau.point = some (t.gau.soc, t.gau.unc, s.gau.acc) ∧
        t.gau.term = false ∧ t.gau.full = false ∧ t.gau.qmax = s.gau.qmax ∧ (s.gau.full = true → fget t GAUGE.STAT.REF_REQ = 0 ∧ t.gau.reqAt = s.gau.reqAt)) ∧
  (∀ (w n v p soc0 unc0 : Nat) (acc0 : Int) (s : State),
      gaugeTurn s ∧ fon s GAUGE.STAT.FROZEN = false ∧ s.gau.full = true ∧ s.gau.point = some (soc0, unc0, acc0) →
      Completes (.gaugeFrame w n v p) s fun t =>
        let hi := f32OfRat 100 1
        let span := if f32Lt hi soc0 then f32Sub soc0 hi else f32Sub hi soc0
        let q := f32Div (f32Mul hi (f32OfRat ((s.gau.acc - acc0).natAbs : Nat) 3600000)) span
        let far := if f32Lt q s.gau.qmax then f32Sub s.gau.qmax q else f32Sub q s.gau.qmax
        let good := fon s GAUGE.CFG.LEARN_EN = true ∧ f32Le (f32OfRat (fget s GAUGE.LEARN.DSOC) 1) span = true ∧
          f32Le (f32Div (f32Add unc0 t.gau.unc) span) (f32OfRat 5 100) = true ∧
          f32Le far (f32Mul (f32OfRat (fget s GAUGE.LEARN.QSTEP) 100) s.gau.qmax) = true
        t.gau.point = some (hi, t.gau.unc, s.gau.acc) ∧
        if good then t.gau.qmax = f32Div (f32Add (f32Mul (f32OfRat 3 1) s.gau.qmax) q) (f32OfRat 4 1) ∧ fget t GAUGE.EVT.LEARN = 1 ∧
          fget t GAUGE.CNT.LEARNS = min 255 (fget s GAUGE.CNT.LEARNS + 1) ∧ (fget t GAUGE.REC_STAT.PENDING = 1 ∨ t.gau.writing ≠ none)
        else t.gau.qmax = s.gau.qmax ∧ fget t GAUGE.EVT.LEARN_REJ = 1 ∧ fget t GAUGE.CNT.LEARNS = fget s GAUGE.CNT.LEARNS) ∧
  (∀ (w n v p soc unc : Nat) (s : State),
      gaugeTurn s ∧ fon s GAUGE.STAT.FROZEN = false ∧ s.gau.term = false ∧ s.gau.full = false ∧ s.gau.restNow = true ∧ s.gau.point = none ∧ ocvPoint s v = some (soc, unc) →
      Completes (.gaugeFrame w n v p) s fun t =>
        let u := gaugeUnc s (gaugeDt s) (fon t GAUGE.STAT.T_FB)
        t.gau.restNow = false ∧ if fon t GAUGE.STAT.T_FB = false ∧ 160 ≤ t.gau.temp ∧ t.gau.temp ≤ 640 ∧ f32Lt unc u = true then
          t.gau.soc = soc ∧ t.gau.unc = unc ∧ fget t GAUGE.EVT.REF_OCV = 1 ∧ fget t GAUGE.CNT.REFS = min 65535 (fget s GAUGE.CNT.REFS + 1)
        else t.gau.soc = gaugeSoc s ∧ t.gau.unc = u ∧ t.gau.point = none ∧ fget t GAUGE.EVT.REF_OCV = fget s GAUGE.EVT.REF_OCV) ∧
  (∀ (w n v p : Nat) (s : State),
      gaugeTurn s ∧ fon s GAUGE.STAT.FROZEN = false ∧ noPoint s ∧ (∀ b < 2, refDue s (gaugeUnc s (gaugeDt s) (b == 1)) (localNs (frameBegin s 4 w).1)) ∧ noReference s →
      Completes (.gaugeFrame w n v p) s fun t =>
        fget t GAUGE.EVT.REQ = 1 ∧ fget t GAUGE.STAT.REF_REQ = 1 ∧ fget t GAUGE.CNT.REQS = min 255 (fget s GAUGE.CNT.REQS + 1) ∧ t.gau.reqAt = some (localNs t) ∧
        if refEntry s then itinWord t (fget s GAUGE.REF.REFENT) 3 = itinWord s (fget s GAUGE.REF.REFENT) 3 + 2 ^ 31 ∧ t.gau.reqOut = true ∧
          entState t (fget s GAUGE.REF.REFENT) = 1
        else fget t GAUGE.EVT.REQ_FAIL = 1 ∧ t.gau.reqOut = false ∧ (Reports s 0x23C → fget t (FLT.LAT 0x23C) = 1) ∧ t.itx = s.itx) ∧
  (∀ (w n v p : Nat) (s : State),
      gaugeTurn s ∧ fon s GAUGE.STAT.FROZEN = true →
      Completes (.gaugeFrame w n v p) s fun t => t.gau.accPrev = s.gau.acc ∧ t.gau.acc = s.gau.acc ∧ t.gau.soc = s.gau.soc ∧ t.gau.unc = s.gau.unc ∧ t.gau.qmax = s.gau.qmax ∧
        t.gau.point = s.gau.point ∧ t.gau.reqAt = s.gau.reqAt ∧ t.gau.writing = s.gau.writing ∧ t.itx = s.itx ∧
        (∀ f ∈ [GAUGE.SOC.SOC, GAUGE.SOC.UNC, GAUGE.RM.RM_MAH, GAUGE.QMAX.QMAX_MAH, GAUGE.EREM.MWH, GAUGE.REC_STAT.PENDING], fget t f = fget s f) ∧ SameBut gaugeKeys s t) ∧
  (∀ (w n v p : Nat) (s : State),
      gaugeTurn s ∧ fon s GAUGE.STAT.FROZEN = false ∧ fon s GAUGE.REC_STAT.PENDING = true →
      Completes (.gaugeFrame w n v p) s fun t =>
        if recMay s p then
          let k := if fget s GAUGE.REC.SEQ = 0 then 0 else 1 - fget s GAUGE.REC_STAT.SLOT
          fget t GAUGE.REC_STAT.PENDING = 0 ∧ (if k = 0 then t.gau.slot0 else t.gau.slot1) = none ∧ (if k = 0 then t.gau.slot1 = s.gau.slot1 else t.gau.slot0 = s.gau.slot0) ∧
          t.gau.writing.map (fun r => (r.1, r.2.seq, r.2.id, r.2.desc, r.2.design, r.2.qmax, r.2.cycles)) =
            some (k, if fget s GAUGE.REC.SEQ < 0xFFFFFFFE then fget s GAUGE.REC.SEQ + 1 else 1, fget s CHG.STAT.ID,
              fget s CHG.PACK.CHEM * 64 + fget s CHG.PACK.CELLS, (gaugeTab s).design, fget t GAUGE.QMAX.QMAX_MAH, fget t GAUGE.CYC.CYCLES)
        else fget t GAUGE.REC_STAT.PENDING = 1 ∧ t.gau.writing = s.gau.writing ∧ t.gau.slot0 = s.gau.slot0 ∧ t.gau.slot1 = s.gau.slot1) ∧
  (∀ (k : Nat) (r : GRec) (s : State),
      halted s 3 = false ∧ s.gau.writing = some (k, r) ∧ k < 2 →
      Completes (.gaugeRecordWriteDone true) s fun t => t.gau.writing = none ∧ t.gau.tries = 0 ∧
        (if k = 0 then t.gau.slot0 else t.gau.slot1) = some r ∧ fget t GAUGE.REC.SEQ = r.seq % 2 ^ 32 ∧ fget t GAUGE.REC_STAT.SLOT = k ∧ fget t GAUGE.STAT.NOREC = 0 ∧
        SameBut gaugeKeys s t) ∧
  (∀ (x : Nat × GRec) (s : State),
      halted s 3 = false ∧ s.gau.writing = some x ∧ Calm s 0x23D ∧ Reports s 0x23D →
      Completes (.gaugeRecordWriteDone false) s fun t => t.gau.writing = none ∧
        fget t GAUGE.EVT.REC_FAIL = 1 ∧ fget t (FLT.LAT 0x23D) = 1 ∧ t.gau.slot0 = s.gau.slot0 ∧ t.gau.slot1 = s.gau.slot1 ∧
        if s.gau.tries < 3 then fget t GAUGE.REC_STAT.PENDING = 1 ∧ t.gau.tries = s.gau.tries + 1
        else fget t GAUGE.REC_STAT.PENDING = fget s GAUGE.REC_STAT.PENDING ∧ t.gau.tries = 0) ∧
  (∀ (s : State),
      halted s 3 = false ∧ fon s GAUGE.STAT.RUN = true →
      Completes .gaugeRetentionWrite s fun t => t.regs = s.regs ∧
        t.gau = { s.gau with kept := some (s.gau.soc, s.gau.unc, fget s CHG.STAT.ID, (fgetI s GAUGE.CURR.I_MA).natAbs, rtcSeconds s) })

/-- Port commands, attach, requests, capabilities, swaps, Hard Resets, trips and the alternate mode act as R543-R559 say (R543, R545, R546, R547, R548, R549, R551, R552, R553, R555, R557, R558). -/
def Obligations.CabinPortsFollowTheirPolicy : Prop :=
  (∀ (n : Fin 2) (s : State),
      targetDown s (0x52 + n) = false ∧ (s.start.running = false ∨ pdState s n ≠ 0) →
      Completes (.pdEnable n) s fun t => pdBarred s t) ∧
  (∀ (n : Fin 2) (s : State),
      targetDown s (0x52 + n) = false ∧ (s.start.running = false ∨ pdState s n = 0xA) →
      Completes (.pdDisable n) s fun t => pdBarred s t) ∧
  (∀ (n : Fin 2) (s : State),
      targetDown s (0x52 + n) = false ∧ (s.start.running = false ∨ pdState s n ≠ 4 ∧ pdState s n ≠ 5 ∧ pdState s n ≠ 6) →
      Completes (.pdHardResetCmd n) s fun t => pdBarred s t) ∧
  (∀ (n : Fin 2) (s : State),
      targetDown s (0x52 + n) = false ∧ (s.start.running = false ∨ (n = 0 ∨ fon s (PD.STAT.CONTRACT n) = false ∨ (pdState s n ≠ 4 ∧ pdState s n ≠ 5))) →
      Completes (.pdPrSwapCmd n) s fun t => pdBarred s t) ∧
  (∀ (n : Fin 2) (s : State),
      targetDown s (0x52 + n) = false ∧ (s.start.running = false ∨ pdState s n ≠ 4) →
      Completes (.pdResendCaps n) s fun t => pdBarred s t) ∧
  (∀ (n : Fin 2) (s : State),
      targetDown s (0x52 + n) = false ∧ (s.start.running = false ∨ pdState s n ≠ 4) →
      Completes (.pdExitAltMode n) s fun t => pdBarred s t) ∧
  (∀ (n : Fin 2) (s : State),
      targetDown s (0x52 + n) = false ∧ (s.start.running = false ∨ pdState s n ≠ 9) →
      Completes (.pdClearLatch n) s fun t => pdBarred s t) ∧
  (∀ (n : Fin 2) (s : State),
      pdUp s n ∧ pdState s n = 0 →
      Completes (.pdEnable n) s fun t => t.comp = ⟨stOk, []⟩ ∧ SameBut pdKeys s t ∧
        if n = 0 ∨ fget s (PD.CFG.ROLE n) ≠ 1 then pdState t n = 3 ∧ pdAsks s t n 1 (rpLevel s n (fget s (PD.CFG.RP_DEF n))) else pdState t n = 1 ∧ pdAsksNothing t n) ∧
  (∀ (n : Fin 2) (s : State),
      pdUp s n ∧ pdState s n ≠ 0 ∧ pdState s n ≠ 0xA ∧ s.fab.stalled = [] ∧ (∀ x ∈ s.fab.coaches, x.tgt ≠ 0x52 + n) →
      Completes (.pdDisable n) s fun t => t.comp.status = stOk ∧ pdOff t n 0 ∧ fget t (PD.STAT.FLIP n) = 0 ∧ pdEpoch s t n ∧ SameBut pdKeys s t) ∧
  (∀ (n : Fin 2) (s : State),
      pdUp s n ∧ (pdState s n = 4 ∨ pdState s n = 5) ∧ s.fab.stalled = [] ∧ (∀ x ∈ s.fab.coaches, x.tgt ≠ 0x52 + n) →
      Completes (.pdHardResetCmd n) s (fun t => t.comp.status = stOk ∧ pdReset s t n ∧ pdState t n = pdState s n ∧ pdAsksNothing t n ∧ pdSent t n .hardReset ∧
          (pdState s n = 4 → (pdX t n).resv = min (pdX s n).resv (rpLevel s n (fget s (PD.STAT.RP n))))) ∧
        Completes (.pdHardResetRx n) s (fun t => pdReset s t n ∧ pdState t n = pdState s n ∧ pdAsksNothing t n ∧ SameBut pdKeys s t ∧
          (pdState s n = 4 → (pdX t n).resv = min (pdX s n).resv (rpLevel s n (fget s (PD.STAT.RP n)))))) ∧
  (∀ (n : Fin 2) (s : State),
      pdUp s n ∧ pdState s n = 6 ∧ s.fab.stalled = [] ∧ (∀ x ∈ s.fab.coaches, x.tgt ≠ 0x52 + n) →
      Completes (.pdHardResetCmd n) s (fun t => pdReset s t n ∧ pdUnswapped s t n) ∧
        Completes (.pdHardResetRx n) s (fun t => pdReset s t n ∧ pdUnswapped s t n)) ∧
  (∀ (n : Fin 2) (s : State),
      pdState s n ≠ 4 ∧ pdState s n ≠ 5 ∧ pdState s n ≠ 6 →
      Completes (.pdHardResetRx n) s fun t => t = s) ∧
  (∀ (s : State),
      pdUp s 1 ∧ fon s (PD.STAT.CONTRACT 1) = true ∧ (pdState s 1 = 4 ∨ pdState s 1 = 5) →
      Completes (.pdPrSwapCmd 1) s fun t => t.comp = ⟨stOk, []⟩ ∧
        if pdState s 1 = 4 then pdState t 1 = 6 ∧ pdSent t 1 .prSwap ∧ pdAsksNothing t 1 ∧ (pdX t 1).resv = (pdX s 1).resv ∧ fget t (PD.STAT.MUX 1) = 0
        else pdState t 1 = 5 ∧ pdAsks s t 1 4 (rpLevel s 1 (fget s (PD.CFG.RP_DEF 1)))) ∧
  (∀ (n : Fin 2) (s : State),
      pdUp s n ∧ pdState s n = 4 →
      Completes (.pdResendCaps n) s (fun t => t.comp = ⟨stOk, []⟩ ∧ pdState t n = 4 ∧ pdCapsSent t n) ∧
        Completes (.pdExitAltMode n) s (fun t => t.comp = ⟨stOk, []⟩ ∧ pdState t n = 4 ∧ fget t (PD.STAT.MUX n) = 0 ∧ pdSent t n .exitMode)) ∧
  (∀ (n : Fin 2) (s : State),
      pdUp s n ∧ pdState s n = 9 →
      Completes (.pdClearLatch n) s fun t => t.comp = ⟨stOk, []⟩ ∧ pdState t n = 1 ∧ pdAsksNothing t n) ∧
  (∀ (n : Fin 2) (w : BitVec 8) (s : State),
      targetDown s (0x52 + n) = false →
      Completes (.pdCapWWrite n w) s fun t => t.comp = ⟨stOk, []⟩ ∧ fget t (PD.CAP.CAP_W n) = w.toNat ∧ t.ldg = s.ldg ∧
        (pdState s n = 4 ∧ fget s (PD.CAP.CAP_W n) ≠ w.toNat → pdCapsSent t n)) ∧
  (∀ (n : Fin 2) (fl ra : Bool) (s : State),
      (pdState s n = 1 ∨ pdState s n = 2) ∧ (n = 0 ∨ fget s (PD.CFG.ROLE n) ≠ 1) →
      Completes (.pdSinkAttach n fl ra) s fun t => pdState t n = 3 ∧ fget t (PD.STAT.FLIP n) = b2n fl ∧
        fget t (PD.STAT.RP n) = fget s (PD.CFG.RP_DEF n) ∧ pdAsks s t n 1 (rpLevel s n (fget s (PD.CFG.RP_DEF n))) ∧ SameBut (inBlocks [0xF]) s t) ∧
  (∀ (n : Fin 2) (s : State),
      2 ≤ pdState s n ∧ pdState s n ≤ 8 →
      Completes (.pdDetach n) s fun t => pdOff t n 1 ∧ fget t (PD.STAT.FLIP n) = 0 ∧ (pdX t n).partner = none ∧ SameBut pdKeys s t) ∧
  (∀ (n : Fin 2) (s : State),
      pdState s n = 8 ∧ (pdX s n).ask = 0 →
      Completes (.pdNopowerRetry n) s fun t => pdState t n = 8 ∧ pdAsks s t n 2 (rpLevel s n 1) ∧ t.regs = s.regs) ∧
  (∀ (n : Fin 2) (w : Word) (s : State),
      pdState s n = 4 ∧ pdPoint s n w.toNat = none →
      Completes (.pdRequestRx n w) s fun t => pdSent t n .reject ∧ pdAsksNothing t n ∧ t.regs = s.regs ∧ (pdX t n).resv = (pdX s n).resv) ∧
  (∀ (n : Fin 2) (w : Word) (v i : Nat) (pps : Bool) (s : State),
      pdState s n = 4 ∧ pdPoint s n w.toNat = some (v, i, pps) ∧ v < 4096 ∧ i < 1024 →
      Completes (.pdRequestRx n w) s fun t =>
        let ma := if pps then bitsOf w.toNat 6 0 * 50 else bitsOf w.toNat 19 10 * 10
        let e := min 1000 (max 500 (fget s (PD.CFG.EFF n)))
        let r := (v * 20 * ma + e - 1) / e
        if r ≤ (pdX s n).resv then pdSent t n .accept ∧ (pdX t n).resv = r ∧ pdAsksNothing t n ∧ fget t (PD.STAT.CONTRACT n) = 1 ∧ fget t (PD.STAT.PPS n) = b2n pps ∧
          fget t (PD.CONTR.V n) = v ∧ fget t (PD.CONTR.I n) = i ∧ fget t (PD.EVT.CONTRACT n) = 1 ∧ SameBut pdKeys s t
        else pdAsks s t n 3 (r - (pdX s n).resv) ∧ (pdX t n).resv = (pdX s n).resv ∧ t.regs = s.regs) ∧
  (∀ (n : Fin 2) (s : State),
      pdState s n = 4 ∧ (pdX s n).reduced = true →
      Completes (.pdReoffer n) s fun t => (pdX t n).reduced = false ∧ pdCapsSent t n ∧ t.regs = s.regs) ∧
  (∀ (l : List Word) (w : Word) (k : Nat) (s : State),
      pdState s 1 = 5 ∧ l.length ≤ 7 ∧ l[k]? = some w ∧ pdSuits s w.toNat ∧
      ∀ e ∈ l.zipIdx, pdSuits s e.1.toNat → if e.2 < k then pdoMv e.1.toNat * pdoMa e.1.toNat < pdoMv w.toNat * pdoMa w.toNat else pdoMv e.1.toNat * pdoMa e.1.toNat ≤ pdoMv w.toNat * pdoMa w.toNat →
      Completes (.pdSourceCapsRx 1 l) s fun t =>
        let i := min (pdoMa w.toNat) (min 60 (fget s (PD.SNK.SNK_W 1)) * 1000000 / pdoMv w.toNat) / 10
        pdSent t 1 (.request ((k + 1) * 2 ^ 28 + i * 2 ^ 10 + i)) ∧ t.regs = s.regs ∧ t.ldg = s.ldg) ∧
  (∀ (l : List Word) (s : State),
      pdState s 1 = 5 ∧ (l.all fun w => !decide (pdSuits s w.toNat)) = true →
      Completes (.pdSourceCapsRx 1 l) s fun t =>
        pdSent t 1 (.request (2 ^ 28 + (pdX s 1).rpMa / 10 * 2 ^ 10 + (pdX s 1).rpMa / 10)) ∧ t.regs = s.regs) ∧
  (∀ (v i mw : Nat) (s : State),
      pdState s 1 = 5 ∧ (pdX s 1).want = some (v, i, mw) ∧ v < 4096 ∧ i < 1024 →
      Completes (.pdPsRdyRx 1) s fun t => fget t (PD.STAT.CONTRACT 1) = 1 ∧ fget t (PD.CONTR.V 1) = v ∧ fget t (PD.CONTR.I 1) = i ∧
        (pdX t 1).sinkOn = true ∧ (pdX t 1).sinkMw = mw ∧ (pdX t 1).want = none ∧ fget t (PD.EVT.CONTRACT 1) = 1) ∧
  (∀ (b : Bool) (s : State),
      pdState s 0 = 4 →
      Completes (.pdPrSwapRx 0 b) s (fun t => pdSent t 0 .reject ∧ t.regs = s.regs ∧ t.ldg = s.ldg) ∧ Completes (.pdPsRdyRx 0) s (fun t => t = s) ∧ Completes (.pdSourceCapsRx 0 []) s (fun t => t = s)) ∧
  (∀ (s : State),
      pdState s 1 = 4 →
      Completes (.pdPrSwapRx 1 false) s fun t => if fget s (PD.CFG.SWAP 1) % 2 = 1 then pdState t 1 = 6 ∧ pdSent t 1 .accept ∧ pdAsksNothing t 1 ∧ (pdX t 1).resv = (pdX s 1).resv
        else pdSent t 1 .reject ∧ t.regs = s.regs ∧ t.ldg = s.ldg) ∧
  (∀ (s : State),
      pdState s 1 = 5 ∧ (pdX s 1).swap ≠ some (true, true) →
      Completes (.pdPrSwapRx 1 true) s fun t => if fget s (PD.CFG.SWAP 1) / 2 % 2 = 1 then pdState t 1 = 5 ∧ pdAsks s t 1 4 (rpLevel s 1 (fget s (PD.CFG.RP_DEF 1)))
        else pdSent t 1 .reject ∧ t.regs = s.regs ∧ t.ldg = s.ldg) ∧
  (∀ (s : State),
      pdState s 1 = 6 ∧ (pdX s 1).swap = some (false, true) →
      Completes (.pdPrSwapRx 1 false) s fun t => t = s) ∧
  (∀ (s : State),
      pdState s 1 = 6 ∧ (pdX s 1).swap = some (true, true) →
      Completes (.pdPrSwapRx 1 true) s fun t => fget t (PD.EVT.SWAP_ABORT 1) = 1 ∧
        if fget s (PD.CFG.SWAP 1) / 2 % 2 = 1 then pdState t 1 = 6 ∧ (pdX t 1).swap = some (true, false) ∧ pdSent t 1 .accept ∧ (pdX t 1).resv = (pdX s 1).resv
        else pdState t 1 = 5 ∧ (pdX t 1).swap = none ∧ pdSent t 1 .reject ∧ (pdX t 1).resv = 0) ∧
  (∀ (n : Fin 2) (src own : Bool) (s : State),
      pdState s n = 6 ∧ (pdX s n).swap = some (src, own) →
      Completes (.pdPrSwapDone n) s fun t => fget t (PD.CNT.SWAPS n) = min 255 (fget s (PD.CNT.SWAPS n) + 1) ∧ (pdX t n).swap = none ∧ fget t (PD.STAT.CONTRACT n) = 0 ∧
        if src then pdState t n = 4 ∧ (pdX t n).resv = (pdX s n).resv ∧ fget t (PD.STAT.RP n) = fget s (PD.CFG.RP_DEF n) else pdState t n = 5 ∧ (pdX t n).resv = 0) ∧
  (∀ (n : Fin 2) (b : Bool) (s : State),
      4 ≤ pdState s n ∧ pdState s n ≤ 6 →
      Completes (.pdUnsupportedMessage n b) s fun t => pdSent t n (if b then .reject else .notSupported) ∧ t.regs = s.regs ∧ t.ldg = s.ldg) ∧
  (∀ (n : Fin 2) (w : Word) (s : State),
      pdState s n = 4 ∧ fon s (PD.STAT.VCONN n) = true →
      Completes (.pdCableIdentity n w) s (fun t => fget t (PD.CABLE.VDO n) = w.toNat ∧ (fon t (PD.STAT.CABLE_5A n) = true ↔ bitsOf w.toNat 6 5 = 2) ∧ pdCapsSent t n) ∧
        Completes (.pdDiscoverRetry n) s (fun t => t.regs = s.regs ∧ if (pdX s n).tries ≤ 20 then pdSent t n .discoverIdentity ∧ (pdX t n).tries = (pdX s n).tries + 1 else pdCapsSent t n)) ∧
  (∀ (n : Fin 2) (h : Bool) (s : State),
      pdState s n = 4 →
      Completes (.pdDpConfigureAck n) s (fun t => fget t (PD.STAT.MUX n) = (if fon s (PD.CFG.ALT_EN n) then 1 else fget s (PD.STAT.MUX n)) ∧ SameBut (· == fkey (PD.STAT.MUX n)) s t) ∧
        Completes (.pdAttentionRx n h) s (fun t => fget t (PD.STAT.HPD n) = b2n h ∧ SameBut (· == fkey (PD.STAT.HPD n)) s t)) ∧
  (∀ (n : Fin 2) (s : State),
      pdState s n ≠ 4 →
      Completes (.pdDpConfigureAck n) s (fun t => t = s) ∧ Completes (.pdAttentionRx n true) s (fun t => t = s)) ∧
  (∀ (n : Fin 2) (s : State),
      (pdState s n = 4 ∨ pdState s n = 5) ∧ CalmIn s 0x22C 8 ∧ severity s 0x261 ≠ 3 ∧ stage s ≠ 3 →
      Completes (.pdOvpTrip n) s fun t => pdTripped s t n (PD.EVT.OVP n) 0 ∧ SameBut pdKeys s t) ∧
  (∀ (n : Fin 2) (s : State),
      pdState s n = 4 ∧ CalmIn s 0x22C 8 ∧ severity s 0x261 ≠ 3 ∧ stage s ≠ 3 →
      Completes (.pdOcpFastTrip n) s fun t => pdTripped s t n (PD.EVT.OCP n) 1 ∧ SameBut pdKeys s t) ∧
  (∀ (n : Fin 2) (s : State),
      pdState s n = 4 ∧ fon s (PD.STAT.PPS n) = false ∧ CalmIn s 0x22C 8 ∧ severity s 0x261 ≠ 3 ∧ stage s ≠ 3 →
      Completes (.pdOcpSlowTrip n) s fun t => pdTripped s t n (PD.EVT.OCP n) 1 ∧ SameBut pdKeys s t) ∧
  (∀ (n : Fin 2) (s : State),
      (pdState s n = 4 ∨ pdState s n = 5) ∧ CalmIn s 0x22C 8 ∧ severity s 0x261 ≠ 3 ∧ stage s ≠ 3 →
      Completes (.pdRcpTrip n) s fun t => pdTripped s t n (PD.EVT.RCP n) 2 ∧ SameBut pdKeys s t) ∧
  (∀ (n : Fin 2) (s : State),
      fon s (PD.STAT.PPS n) = true ∨ (pdState s n ≠ 4 ∧ pdState s n ≠ 6) →
      Completes (.pdOcpSlowTrip n) s fun t => t = s) ∧
  (∀ (n : Fin 2) (s : State),
      pdState s n = 7 →
      Completes (.pdRecoveryEnd n) s fun t => if (pdX s n).partner = some false then pdState t n = 3 ∧ pdAsks s t n 1 (rpLevel s n (fget s (PD.CFG.RP_DEF n))) else pdState t n = 1 ∧ pdAsksNothing t n) ∧
  (∀ (rp : Fin 3) (s : State),
      (pdState s 1 = 1 ∨ pdState s 1 = 2) ∧ fget s (PD.CFG.ROLE 1) ≠ 0 →
      Completes (.pd1SourceAttach rp) s fun t => let ma := if rp.val = 2 then 3000 else if rp.val = 1 then 1500 else 900
        pdState t 1 = 5 ∧ (pdX t 1).sinkOn = true ∧ (pdX t 1).sinkMw = 5 * ma ∧ (pdX t 1).rpMa = ma ∧ t.ldg = s.ldg)

/-- A raise reacts by its severity; a fatal one, a self-fault or a lost heartbeat enters the whole safe state; injections act (R569, R570, R571, R572, R573, R574, R576, R578, R580, R581, R582, R583). -/
def Obligations.FaultsAreCollectedAndTheSafeStateEntered : Prop :=
  (∀ (i : Fin 640) (s : State),
      severity s i = 0 ∧ fon s (FLT.RAW i) = false →
      Completes (.faultRaise i) s fun t => fget t (FLT.RAW i) = 1 ∧ SameBut (· == fkey (FLT.RAW i)) s t ∧ t.start = s.start) ∧
  (∀ (i : Fin 640) (s : State),
      fon s (FLT.RAW i) = true →
      Completes (.faultRaise i) s fun t => t = s) ∧
  (∀ (i : Fin 640) (s : State),
      severity s i = 1 ∧ fon s (FLT.RAW i) = false →
      Completes (.faultRaise i) s fun t => fget t (FLT.RAW i) = 1 ∧ fget t (FLT.LAT i) = 1 ∧ lastIs t i 1 false false ∧
        fget t FLT.EVT.CORRECTED = 1 ∧ fget t FLT.CNT.CORR = min 65535 (fget s FLT.CNT.CORR + 1) ∧ fget t FLT.CNT.CONT = fget s FLT.CNT.CONT ∧
        fget t FLT.EVT.CONTAINED = fget s FLT.EVT.CONTAINED ∧ SameBut repKey s t ∧ fget t LEDG.SHED.LEVEL = shedLevel s ∧
        (s.regsWf = true ∧ fget s (FLT.LAT i) = 0 → fltActive t = fltActive s + 1)) ∧
  (∀ (i : Fin 640) (s : State),
      severity s i = 2 ∧ fon s (FLT.RAW i) = false ∧ quietSum s →
      Completes (.faultRaise i) s fun t => fget t (FLT.RAW i) = 1 ∧ fget t (FLT.LAT i) = 1 ∧
        fget t FLT.EVT.CONTAINED = 1 ∧ (i.val ≠ 0x261 → severity s 0x261 < 2 → fget t FLT.CNT.CONT = min 255 (fget s FLT.CNT.CONT + 1)) ∧
        (severity s 0x261 = 0 → lastIs t i 2 false false ∧ fget t FLT.CNT.CORR = fget s FLT.CNT.CORR) ∧ reacted s t ∧ safe t = safe s ∧ SameBut repKey s t ∧
        (addressed s = true ∧ roomy s ∧ s.lnk.broken = [] → ∀ p < 2, portUp s p = true → sentOn s t p 0x50 (sumWords t))) ∧
  (∀ (i : Fin 640) (s : State),
      severity s i = 3 ∧ i.val ≠ 0x27F ∧ fon s (FLT.RAW i) = false ∧ safe s = false ∧ stage s ≠ 3 →
      Completes (.faultRaise i) s fun t => inSafe s t ∧ fget t (FLT.LAT i) = 1 ∧
        fget t FLT.EVT.FATAL = 1 ∧ fget t FLT.EVT.CONTAINED = (if severity s 0x261 = 2 then fget t FLT.EVT.CONTAINED else fget s FLT.EVT.CONTAINED) ∧ firstIs s t i ∧
        (severity s 0x261 = 0 → lastIs t i 3 false false) ∧ reacted s t) ∧
  (∀ (i : Fin 640) (s : State),
      severity s i = 3 ∧ fon s (FLT.RAW i) = false ∧ safe s = true ∧ stage s ≠ 3 →
      Completes (.faultRaise i) s fun t => safe t = true ∧ fget t (FLT.LAT i) = 1 ∧
        fget t FLT.EVT.FATAL = 1 ∧ t.start = s.start ∧ (∀ f ∈ [FLT.FIRST.VALID, FLT.FIRST.INDEX, FLT.FIRST_CT_LO.CT, FLT.FIRST_CT_HI.CT], fget t f = fget s f)) ∧
  (∀ (i : Fin 640) (s : State),
      i.val ∉ s.flt.pairs →
      Completes (.faultReportFall i) s fun t => fget t (FLT.RAW i) = 0 ∧ SameBut (· == fkey (FLT.RAW i)) s t) ∧
  (∀ (i : Fin 640) (s : State),
      i.val < 0x27D ∧ i.val ∉ s.flt.pairs ∧ Calm s i ∧ severity s 0x27D ≠ 3 ∧ quietSum s →
      Completes (.brokenPair i) s fun t => fget t (FLT.BRK i) = 1 ∧ fget t FLT.EVT.BROKEN = 1 ∧
        fget t FLT.CNT.BRK = min 255 (fget s FLT.CNT.BRK + 1) ∧ fget t (FLT.RAW i) = 1 ∧ i.val ∈ t.flt.pairs ∧ (Reports s i → fget t (FLT.LAT i) = 1) ∧
        (Reports s 0x27D → fget t (FLT.LAT 0x27D) = 1) ∧ SameBut repKey s t) ∧
  (∀ (i : Fin 640) (s : State),
      0x27D ≤ i.val ∨ i.val ∈ s.flt.pairs →
      Completes (.brokenPair i) s fun t => t = s) ∧
  (∀ (i : Fin 640) (s : State),
      i.val ∈ s.flt.pairs ∧ s.flt.pairs.Nodup →
      Completes (.faultReportFall i) s fun t => fget t (FLT.RAW i) = 0 ∧ i.val ∉ t.flt.pairs) ∧
  (∀ (s : State),
      stage s = 2 ∧ safe s = false →
      Completes .rstsClear s fun t => fget t FLT.STAT.RSTS = 0 ∧ SameBut (· == fkey FLT.STAT.RSTS) s t) ∧
  (∀ (s : State),
      safe s = false ∧ stage s ≠ 3 ∧ fon s (FLT.RAW 0x27F) = false →
      Completes .collectorSelfFault s fun t => selfFaulted s t false ∧ fget t (FLT.RAW 0x27F) = 0) ∧
  (∀ (s : State),
      safe s = false ∧ stage s ≠ 3 ∧ fon s (FLT.RAW 0x27F) = false →
      Completes .collectorScrub s fun t => t.flt.sevInj = [] ∧ if s.flt.sevInj = [] then t = s else selfFaulted s t true) ∧
  (∀ (s : State),
      s.start.rcRuns = true ∧ safe s = false ∧ stage s ≠ 3 ∧ fon s (FLT.RAW 0x27F) = false →
      Completes .rcOscillatorLoss s fun t => selfFaulted s t false ∧ t.start.rcRuns = false ∧ t.start.rcLost = !s.start.pll ∧
        fget t (FLT.RAW 0x27F) = 1) ∧
  (∀ (s : State),
      s.start.rcRuns = false →
      Completes .rcOscillatorLoss s fun t => t = s) ∧
  (∀ (s : State),
      quietSum s →
      Completes .heartbeatLoss s fun t => t.flt.hbInj = false ∧ safe t = true ∧ if safe s then t.regs = s.regs ∧ t.start = s.start
        else inSafe s t ∧ firstIs s t 0x27F ∧ fget t (FLT.LAT 0x27F) = fget s (FLT.LAT 0x27F)) ∧
  (∀ (h : Bool) (s : State),
      s.start.pair = .healthy h →
      Completes .errorPairToggle s fun t => t.start.pair = .healthy (!h) ∧ t.regs = s.regs) ∧
  (∀ (s : State),
      s.start.pair = .fatal →
      Completes .errorPairToggle s fun t => t = s) ∧
  (∀ (s : State),
      addressed s = true ∧ roomy s ∧ s.lnk.broken = [] ∧ quietSum s →
      Completes .faultSumSend s fun t => (∀ p < 2, portUp s p = true → sentOn s t p 0x50 (sumWords s)) ∧ t.regs = s.regs) ∧
  (∀ (u : Fin 32) (w x : Word) (s : State),
      Calm s 0x27E →
      Completes (.faultSumRx u w x) s fun t => fget t (FLT.REMOTE u) = b2n (w.toNat.testBit 2) ∧
        (∀ v < 32, v ≠ u → fget t (FLT.REMOTE v) = fget s (FLT.REMOTE v)) ∧ SameBut repKey s t ∧
        if w.toNat.testBit 2 ∧ fget s (FLT.REMOTE u) = 0 then fget t FLT.EVT.REMOTE = 1 ∧ (Reports s 0x27E → fget t (FLT.LAT 0x27E) = 1)
        else SameBut (· == fkey (FLT.REMOTE u)) s t) ∧
  (∀ (rq : Fin 24) (k : BitVec 16) (n : Fin 1024) (s : State),
      restUp s rq ∧ (fon s FLT.CFG.INJ_EN = false ∨ k.toNat ≠ 0x3C96 ∨ 24 ≤ n.val) →
      Completes (.injFabric rq k n) s fun t => injBarred rq s t) ∧
  (∀ (rq : Fin 24) (k : BitVec 16) (n : Fin 1024) (s : State),
      restUp s rq ∧ (fon s FLT.CFG.INJ_EN = false ∨ k.toNat ≠ 0x3C96 ∨ 637 ≤ n.val) →
      Completes (.injPair rq k n) s fun t => injBarred rq s t) ∧
  (∀ (rq : Fin 24) (k : BitVec 16) (n : Fin 1024) (s : State),
      restUp s rq ∧ (fon s FLT.CFG.INJ_EN = false ∨ k.toNat ≠ 0x3C96 ∨ 40 ≤ n.val) →
      Completes (.injCollectorReg rq k n) s fun t => injBarred rq s t) ∧
  (∀ (rq : Fin 24) (k : BitVec 16) (n : Fin 1024) (s : State),
      restUp s rq ∧ (fon s FLT.CFG.INJ_EN = false ∨ k.toNat ≠ 0x3C96 ∨ 4 ≤ n.val) →
      Completes (.injLockstep rq k n) s fun t => injBarred rq s t) ∧
  (∀ (rq : Fin 24) (k : BitVec 16) (n : Fin 1024) (s : State),
      restUp s rq ∧ (fon s FLT.CFG.INJ_EN = false ∨ k.toNat ≠ 0x3C96 ∨ 1 ≤ n.val) →
      Completes (.injHeartbeat rq k n) s fun t => injBarred rq s t) ∧
  (∀ (rq : Fin 24) (k : BitVec 16) (n : Fin 1024) (s : State),
      restUp s rq ∧ (fon s FLT.CFG.INJ_EN = false ∨ k.toNat ≠ 0x3C96 ∨ 640 ≤ n.val) →
      Completes (.faultForce rq k n) s fun t => injBarred rq s t) ∧
  (∀ (rq : Fin 24) (k : BitVec 16) (n : Fin 1024) (s : State),
      injMay s rq k ∧ n.val < 24 →
      Completes (.injFabric rq k n) s fun t => injected t ∧ n.val ∈ t.flt.fabInj ∧ injActive t = true ∧ SameBut (fun x => inBlocks [0xA] x || repKey x) s t) ∧
  (∀ (rq : Fin 24) (k : BitVec 16) (n : Fin 1024) (s : State),
      injMay s rq k ∧ n.val < 0x27D ∧ Calm s n ∧ severity s 0x27D ≠ 3 →
      Completes (.injPair rq k n) s fun t => injected t ∧ fget t (FLT.BRK n) = 1 ∧ fget t FLT.CNT.BRK = min 255 (fget s FLT.CNT.BRK + 1) ∧
        (n.val ∉ s.flt.pairs → fget t (FLT.RAW n) = fget s (FLT.RAW n)) ∧ (Reports s n → fget t (FLT.LAT n) = 1) ∧ (Reports s 0x27D → fget t (FLT.LAT 0x27D) = 1)) ∧
  (∀ (rq : Fin 24) (k : BitVec 16) (n : Fin 1024) (s : State),
      injMay s rq k ∧ n.val < 40 →
      Completes (.injCollectorReg rq k n) s fun t => injected t ∧ n.val ∈ t.flt.sevInj ∧ injActive t = true ∧ safe t = safe s) ∧
  (∀ (rq : Fin 24) (k : BitVec 16) (n : Fin 1024) (s : State),
      injMay s rq k ∧ n.val < 4 ∧ fget s (ENG.STAT.STATE n) = 1 ∧ Calm s (0x242 + n) ∧ s.fab.stalled = [] ∧ (∀ x ∈ s.fab.coaches, x.tgt ≠ 0x55 + n) →
      Completes (.injLockstep rq k n) s fun t => t.comp.status = stOk ∧ fget t FLT.EVT.INJ = 1 ∧
        halted t n = true ∧ targetDown t (0x55 + n) = true ∧ (Reports s (0x242 + n) → fget t (FLT.LAT (0x242 + n)) = 1)) ∧
  (∀ (rq : Fin 24) (k : BitVec 16) (n : Fin 1024) (s : State),
      injMay s rq k ∧ n.val = 0 →
      Completes (.injHeartbeat rq k n) s fun t => injected t ∧ t.flt.hbInj = true ∧ injActive t = true ∧ safe t = safe s) ∧
  (∀ (rq : Fin 24) (k : BitVec 16) (n : Fin 1024) (s : State),
      injMay s rq k ∧ n.val < 640 ∧ Calm s n →
      Completes (.faultForce rq k n) s fun t => injected t ∧ (n.val ∉ s.flt.pairs → fget t (FLT.RAW n) = fget s (FLT.RAW n)) ∧ (Reports s n → fget t (FLT.LAT n) = 1) ∧
        (Reports s n ∧ severity s n = 1 → lastIs t n 1 true false) ∧ SameBut (fun x => inBlocks [0xA] x || repKey x) s t) ∧
  (∀ (rq : Fin 24) (k : BitVec 16) (n : Fin 1024) (s : State),
      injMay s rq k ∧ n.val = 0x27F ∧ safe s = false ∧ stage s ≠ 3 ∧ fon s (FLT.RAW 0x27F) = false →
      Completes (.faultForce rq k n) s fun t => selfFaulted s t true ∧ t.comp = ⟨stOk, []⟩)

/-- Requests move the stage, Night entry and waking reverse each other, beacons flood once, and the clock, alarms and PON act (R597, R598, R599, R603, R604, R605, R609, R610, R611, R612, R613, R616). -/
def Obligations.StagesWakesAndTheCalendar : Prop :=
  (∀ (rq : Fin 24) (n : Fin 16) (s : State),
      restUp s rq ∧ (s.lnk.racc.isSome = true ∨ addressed s = false ∨ n.val = 0 ∨ fget s LNK.RACC_ADDR.UNIT = myAddr s) →
      Completes (.raccRead rq n) s fun t => turnedAway rq s t) ∧
  (∀ (rq : Fin 24) (n : Fin 16) (s : State),
      restUp s rq ∧ s.lnk.racc = none ∧ addressed s = true ∧ 1 ≤ n.val ∧ (n.val ≤ 14 ∨ false = false) ∧ fget s LNK.RACC_ADDR.UNIT ≠ myAddr s ∧ (∀ p < 2, portUp s p = true ∧ (classQ (portQ s p) 2).length < 32) ∧ s.lnk.broken = [] →
      Completes (.raccRead rq n) s fun t => t.comp = ⟨stOk, []⟩ ∧
        fget t LNK.RACC_STAT.BUSY = 1 ∧ t.lnk.racc = some ⟨s.lnk.tag, false, n⟩ ∧ t.lnk.tag = (s.lnk.tag + 1) % 65536 ∧ SameBut (fun k => inBlocks [0xA] k || k == fkey LNK.RACC_STAT.BUSY) s t ∧
        ∃ p < 2, sentOn s t p 0x10 ([n.val * 2 ^ 16 + s.lnk.tag, fget s LNK.RACC_ADDR.ADDR] ++ [])) ∧
  (∀ (rq : Fin 24) (n : Fin 16) (s : State),
      restUp s rq ∧ (s.lnk.racc.isSome = true ∨ addressed s = false ∨ n.val = 0 ∨ 14 < n.val ∨ fget s LNK.RACC_ADDR.UNIT = myAddr s) →
      Completes (.raccWrite rq n) s fun t => turnedAway rq s t) ∧
  (∀ (rq : Fin 24) (n : Fin 16) (s : State),
      restUp s rq ∧ s.lnk.racc = none ∧ addressed s = true ∧ 1 ≤ n.val ∧ (n.val ≤ 14 ∨ true = false) ∧ fget s LNK.RACC_ADDR.UNIT ≠ myAddr s ∧ (∀ p < 2, portUp s p = true ∧ (classQ (portQ s p) 2).length < 32) ∧ s.lnk.broken = [] →
      Completes (.raccWrite rq n) s fun t => t.comp = ⟨stOk, []⟩ ∧
        fget t LNK.RACC_STAT.BUSY = 1 ∧ t.lnk.racc = some ⟨s.lnk.tag, true, n⟩ ∧ t.lnk.tag = (s.lnk.tag + 1) % 65536 ∧ SameBut (fun k => inBlocks [0xA] k || k == fkey LNK.RACC_STAT.BUSY) s t ∧
        ∃ p < 2, sentOn s t p 0x11 ([n.val * 2 ^ 16 + s.lnk.tag, fget s LNK.RACC_ADDR.ADDR] ++ (List.range n.val).map fun i => fget s (LNK.RACC_DATA.DATA i))) ∧
  (∀ (p : Fin 2) (src : Fin 32) (b c : BitVec 8) (s : State),
      beaconFirst s p src b.toNat ∧ stage s = 4 ∧ s.pwr.waking = false →
      Completes (.beaconRxWake p src b c) s fun t => wakes s t 4 src ∧ forwarded s t p ⟨0x80, src, b.toNat, [c.toNat, 0, 0, 0, 0, 0, 0, 0]⟩) ∧
  (∀ (p : Fin 2) (src : Fin 32) (b c : BitVec 8) (s : State),
      beaconFirst s p src b.toNat ∧ stage s = 4 ∧ s.pwr.waking = true →
      Completes (.beaconRxWake p src b c) s fun t => fget t RTC.WAKE.CNT = min 255 (fget s RTC.WAKE.CNT + 1) ∧ t.pwr = s.pwr ∧
        forwarded s t p ⟨0x80, src, b.toNat, [c.toNat, 0, 0, 0, 0, 0, 0, 0]⟩) ∧
  (∀ (p : Fin 2) (src : Fin 32) (b c : BitVec 8) (s : State),
      fget s (LNK.PORT.STAT.STATE p) ≠ 3 ∨ b.toNat ∈ tabGet (fun _ => []) s.lnk.bseen src ∨ (addressed s = true ∧ src = myAddr s) →
      Completes (.beaconRxWake p src b c) s (fun t => t = s) ∧ Completes (.beaconRxFault p src b 0x7 0x1) s (fun t => t = s)) ∧
  (∀ (p : Fin 2) (src : Fin 32) (b : BitVec 8) (w x : Word) (s : State),
      beaconFirst s p src b.toNat ∧ Calm s 0x27E →
      Completes (.beaconRxFault p src b w x) s fun t => fget t (FLT.REMOTE src) = b2n (w.toNat.testBit 2) ∧
        forwarded s t p ⟨0x81, src, b.toNat, leBytes 4 w.toNat ++ leBytes 4 x.toNat⟩ ∧
        (w.toNat.testBit 2 = true → fget s (FLT.REMOTE src) = 0 → fget t FLT.EVT.REMOTE = 1 ∧ (Reports s 0x27E → fget t (FLT.LAT 0x27E) = 1))) ∧
  (∀ (p : Fin 2) (src : Fin 32) (b : BitVec 8) (c : BitVec 64) (s : State),
      halted s 2 = false ∧ beaconFirst s p src b.toNat ∧ stage s = 4 ∧ fget s TIME.STAT.STATE = 3 ∧ isHead s = false →
      Completes (.beaconRxTime p src b c) s fun t =>
        let h := if p = 0 then myAddr s else fget s LNK.STAT.N - myAddr s
        fget t TIME.STAT.BEACON = 1 ∧ forwarded s t p ⟨0x82, src, b.toNat, leBytes 8 c.toNat⟩ ∧
        if h * 15000 + 2000 < 50 * fget s TIME.HOLD_MS.MS then t.time.ct = (c.toNat + h * 707000) % 2 ^ 64 ∧ fget t TIME.EVT.STEP = 1 else t.time = s.time) ∧
  (∀ (p : Fin 2) (src a : Fin 32) (g : BitVec 8) (s : State),
      halted s 2 = false ∧ fget s (LNK.PORT.STAT.STATE p) = 3 →
      Completes (.beaconRxHello p src a g) s fun t => fget t (LNK.PORT.STAT.NB_VALID p) = 1 ∧ fget t (LNK.PORT.STAT.NB_ADDR p) = a ∧ t.lnk = s.lnk ∧
        SameBut (fun k => k == fkey (LNK.PORT.STAT.NB_VALID p) || k == fkey (LNK.PORT.STAT.NB_ADDR p)) s t) ∧
  (∀ (rq : Fin 24) (s : State),
      restUp s rq ∧ stage s = 2 ∧ stageFree s →
      Completes (.pwrReqEvening rq) s fun t => t.comp = ⟨stOk, []⟩ ∧ stage t = 3 ∧ t.pwr.eveLevel = shedLevel s ∧ triggered s t 3 ∧
        levelled s t (if fget s RTC.PWR_CFG.EVE_LEVEL = 0 then shedLevel s else fget s RTC.PWR_CFG.EVE_LEVEL) ∧ fget t CFG.UPD_STAT.OPEN = 0) ∧
  (∀ (rq : Fin 24) (s : State),
      restUp s rq ∧ (stage s ≠ 2 ∨ ¬ stageFree s) →
      Completes (.pwrReqEvening rq) s fun t => turnedAway rq s t) ∧
  (∀ (rq : Fin 24) (s : State),
      restUp s rq ∧ stage s = 3 ∧ stageFree s →
      Completes (.pwrReqNoon rq) s fun t => t.comp = ⟨stOk, []⟩ ∧ stage t = 2 ∧ levelled s t s.pwr.eveLevel ∧ triggered s t 5) ∧
  (∀ (rq : Fin 24) (s : State),
      restUp s rq ∧ stage s = 4 ∧ stageFree s →
      Completes (.pwrReqNoon rq) s fun t => t.comp = ⟨stOk, []⟩ ∧ wakesAll s t 5) ∧
  (∀ (rq : Fin 24) (s : State),
      restUp s rq ∧ ((stage s ≠ 3 ∧ stage s ≠ 4) ∨ ¬ stageFree s) →
      Completes (.pwrReqNoon rq) s fun t => turnedAway rq s t) ∧
  (∀ (rq : Fin 24) (s : State),
      restUp s rq ∧ (stage s = 2 ∨ stage s = 3) ∧ stageFree s ∧ (addressed s = false ∨ fon s LNK.STAT.ATTACHED = false ∨ fon s TOP.STATUS.SOLO = true) →
      Completes (.pwrReqNight rq) s fun t => t.comp = ⟨stOk, []⟩ ∧ t.pwr = { s.pwr with rate := some (served s + 10000) } ∧ t.lnk = s.lnk ∧ SameBut (inBlocks [0xA]) s t) ∧
  (∀ (rq : Fin 24) (s : State),
      restUp s rq ∧ (stage s = 2 ∨ stage s = 3) ∧ stageFree s ∧ addressed s = true ∧ fon s LNK.STAT.ATTACHED = true ∧ fon s TOP.STATUS.SOLO = false ∧ isHead s = true ∧
      (∀ x ∈ s.cvy.head, cvyArmed s x = false) ∧ (∀ u < 32, u = myAddr s ∨ fon s (LNK.REACH u) = false ∨ tabGet (fun _ => 2) s.pwr.stages u = 2 ∨ tabGet (fun _ => 2) s.pwr.stages u = 3) ∧ roomy s ∧ s.lnk.broken = [] ∧ quietSum s →
      Completes (.pwrReqNight rq) s fun t =>
        let c := served s + max 10 (fget s RTC.PWR_CFG.NIGHT_LEAD) * 1000000
        t.comp = ⟨stOk, []⟩ ∧ t.pwr.rate = some c ∧ stage t = stage s ∧ ∀ p < 2, portUp s p = true → sentOn s t p 5 (1 :: ctWords c)) ∧
  (∀ (rq : Fin 24) (s : State),
      restUp s rq ∧ ((stage s ≠ 2 ∧ stage s ≠ 3) ∨ ¬ stageFree s ∨ (addressed s = true ∧ fon s LNK.STAT.ATTACHED = true ∧ fon s TOP.STATUS.SOLO = false ∧
      (isHead s = false ∨ (∃ x ∈ s.cvy.head, cvyArmed s x = true) ∨ ∃ u < 32, u ≠ myAddr s ∧ fon s (LNK.REACH u) = true ∧ tabGet (fun _ => 2) s.pwr.stages u ≠ 2 ∧ tabGet (fun _ => 2) s.pwr.stages u ≠ 3))) →
      Completes (.pwrReqNight rq) s fun t => turnedAway rq s t) ∧
  (∀ (n : Bool) (c : BitVec 64) (s : State),
      halted s 2 = false →
      Completes (.rateRx n c) s fun t => if n then t = { s with pwr := { s.pwr with rate := some c.toNat } } else t = s) ∧
  (∀ (c : Nat) (s : State),
      s.pwr.rate = some c ∧ (stage s = 2 ∨ stage s = 3) ∧ s.pwr.heldCause = none →
      Completes .nightEntry s fun t => stage t = 4 ∧ t.pwr.rate = none ∧ t.pwr.nightLevel = shedLevel s ∧ fget t LNK.STAT.RATE = 2 ∧
        (∀ p < 2, portUp s p = true → fget t (LNK.PORT.STAT.STATE p) = 3) ∧ levelled s t (if fget s RTC.PWR_CFG.NIGHT_LEVEL = 0 then shedLevel s else fget s RTC.PWR_CFG.NIGHT_LEVEL) ∧
        (∀ l < 4, loopState t l = if loopState s l = 7 ∨ loopState s l = 8 then loopState s l else 0) ∧ (∀ n < 2, pdState t n = if pdState s n = 0xA then 0xA else 0) ∧
        (∀ n < 2, pdState s n ≠ 0 → pdState s n ≠ 0xA → targetDown t (0x52 + n) = true) ∧ (∀ k < 4, adcIsReady t k = false ∧ k ∉ t.adc.cal) ∧ fget t ADC.CTL.EN = fget s ADC.CTL.EN ∧
        (∀ n < 64, chDriven t n = chDriven s n) ∧ (∀ r < 8, regState t r = regState s r) ∧ chgState t = chgState s ∧ (halted s 6 = false → fget t (ENG.STAT.STATE 6) = 0) ∧ triggered s t 4) ∧
  (∀ (c : Nat) (x : Nat × Nat) (s : State),
      s.pwr.rate = some c ∧ (stage s = 2 ∨ stage s = 3) ∧ s.pwr.heldCause = some x ∧ s.pwr.waking = false ∧ x.1 < 256 ∧ x.2 < 32 →
      Completes .nightEntry s fun t => wakes s t x.1 x.2 ∧ t.pwr.heldCause = none ∧ t.pwr.nightLevel = shedLevel s) ∧
  (∀ (s : State),
      s.pwr.rate = none →
      Completes .nightEntry s fun t => t = s) ∧
  (∀ (l : List (Fin 64 × Int × Int)) (m : List (Fin 256 × Int)) (d : Fin 176) (v e : Nat) (s : State),
      stage s ≠ 4 →
      Completes (.nightScan l m d v e) s fun t => t = s) ∧
  (∀ (i : Fin 256) (x : Int) (d : Fin 176) (v : Nat) (s : State),
      stage s = 4 ∧ fget s CMP.CHK.MODE ≤ 1 ∧ d.val ∉ s.cmp.dacMiss ∧ CalmIn s 0x259 9 ∧
      (∃ k < 16, fget s (WIRE.AMB.CTL.SRC k) = 2 ∧ fget s (WIRE.AMB.CTL.RIDX k) = i ∧ ∃ n < 64, fon s (WIRE.STAT.RUN n) = true ∧ fget s (WIRE.CFG.AMB n) = k) →
      Completes (.nightScan [] [(i, x)] d v v) s fun t =>
        fget t (ADC.RES.CNT i) = (fget s (ADC.RES.CNT i) + 1) % 16 ∧ fgetI t (ADC.RES.VALUE i) = clampInt (-8388608) 8388607 (x * 2 ^ fget s (ADC.SEQ.CFG.AVG (i / 16)) / 2 ^ fget s (ADC.SEQ.CFG.SHIFT (i / 16))) ∧
        fget t ADC.CTL.EN = fget s ADC.CTL.EN ∧ fget t ADC.STAT.C3 = fget s ADC.STAT.C3 ∧ fget t (FAB.TGT.EPOCH 0x4F) = fget s (FAB.TGT.EPOCH 0x4F)) ∧
  (∀ (s : State),
      stage s = 4 ∧ entTimed s ≠ [] ∧ fon s RTC.WAKE.EN_ITIN = true ∧ s.pwr.waking = false ∧ s.pwr.rate = none →
      Completes .itinWake s fun t => wakesAll s t 6 ∧ ∃ i ∈ entTimed s, (ent s i).placed ≤ served t + max 30 (fget s TIME.ITIN_CFG.LEAD) * 1000 + max 1 (fget s RTC.PWR_CFG.ITIN_WAKE) * 1000000) ∧
  (∀ (s : State),
      entTimed s = [] →
      Completes .itinWake s fun t => t = s) ∧
  (∀ (s : State),
      halted s 2 = false ∧ stage s = 4 →
      Completes .beaconHelloSend s (fun t => beaconed s t 0x83 [myAddr s, fget s LNK.STAT.CHAIN_GEN, 0, 0, 0, 0, 0, 0] ∧ t.regs = s.regs) ∧
        Completes .beaconTimeSend s (fun t => t.regs = s.regs ∧ if isHead s then beaconed s t 0x82 (leBytes 8 s.time.ct) else t = s) ∧
        Completes .beaconFaultSend s (fun t => beaconed s t 0x81 ((sumWords s).map (leBytes 4)).flatten ∧ t.regs = s.regs)) ∧
  (∀ (s : State),
      stage s ≠ 4 →
      Completes .beaconHelloSend s (fun t => t = s) ∧ Completes .beaconTimeSend s (fun t => t = s) ∧ Completes .beaconFaultSend s (fun t => t = s)) ∧
  (∀ (s : State),
      stage s = 4 ∧ s.pwr.waking = true →
      Completes .wakeToNoon s fun t => stage t = 2 ∧ t.pwr.waking = false ∧ fget t LNK.STAT.RATE = 1 ∧ levelled s t s.pwr.nightLevel ∧
        (∀ e < 8, halted s e = false → fget t (ENG.STAT.STATE e) = 1) ∧ (∀ c < 4, (fget s ADC.CTL.EN).testBit c = true → c ∈ t.adc.cal) ∧
        (∀ n < 2, fon s (PD.CFG.EN n) = true → pdState s n = 0 → pdState t n = if n = 0 ∨ fget s (PD.CFG.ROLE n) ≠ 1 then 3 else 1) ∧
        (∀ l < 4, loopState t l = loopState s l) ∧ triggered s t 5) ∧
  (∀ (s : State),
      stage s ≠ 4 ∨ s.pwr.waking = false →
      Completes .wakeToNoon s fun t => t = s) ∧
  (∀ (s : State),
      s.start.bkp = true ∧ calOk s →
      Completes .rtcSecond s fun t => t.time.bkp = 0 ∧ fget t RTC.SUB.PRESC = 0 ∧
        if fget s RTC.DATE.YEAR = 2199 ∧ fget s RTC.DATE.MONTH = 12 ∧ fget s RTC.DATE.DAY = 31 ∧ fget s RTC.TIME.HOUR = 23 ∧ fget s RTC.TIME.MIN = 59 ∧ fget s RTC.TIME.SEC = 59 then rtcSeconds t = rtcSeconds s
        else calAt t (rtcSeconds s + 1) ∧ ∀ k < 2, almDue s t k → almFired s t k) ∧
  (∀ (rq : Fin 24) (w : Word) (s : State),
      restUp s rq →
      Completes (.rtcTimeWrite rq w) s fun t =>
        let y := (s.pwr.staged.map fun d => bitsOf d 31 16).getD (fget s RTC.DATE.YEAR)
        let m := (s.pwr.staged.map fun d => bitsOf d 11 8).getD (fget s RTC.DATE.MONTH)
        let d := (s.pwr.staged.map fun d => bitsOf d 4 0).getD (fget s RTC.DATE.DAY)
        if dateExists y m d = true ∧ bitsOf w.toNat 20 16 < 24 ∧ bitsOf w.toNat 13 8 < 60 ∧ bitsOf w.toNat 5 0 < 60 then
          t.comp = ⟨stOk, []⟩ ∧ calOk t ∧ fget t RTC.DATE.YEAR = y ∧ fget t RTC.DATE.MONTH = m ∧ fget t RTC.DATE.DAY = d ∧ fget t RTC.TIME.HOUR = bitsOf w.toNat 20 16 ∧
          fget t RTC.TIME.MIN = bitsOf w.toNat 13 8 ∧ fget t RTC.TIME.SEC = bitsOf w.toNat 5 0 ∧ fget t RTC.SUB.PRESC = 0 ∧ t.time.bkp = 0 ∧ fget t RTC.STAT.SET = 1 ∧ t.pwr.staged = none ∧
          SameBut (inBlocks [0xA, 0x13]) s t
        else turnedAway rq s t) ∧
  (∀ (rq : Fin 24) (w : Word) (s : State),
      restUp s rq →
      Completes (.rtcDateWrite rq w) s fun t => t.comp = ⟨stOk, []⟩ ∧ t.pwr = { s.pwr with staged := some w.toNat } ∧ SameBut (inBlocks [0xA]) s t) ∧
  (∀ (rq : Fin 24) (s : State),
      restUp s rq ∧ targetDown s 0x7F = false →
      Completes (.rtcTimeRead rq) s fun t => t.comp = ⟨stOk, [fget s RTC.TIME.HOUR * 2 ^ 16 + fget s RTC.TIME.MIN * 2 ^ 8 + fget s RTC.TIME.SEC]⟩ ∧
        (regRead t rq 0x130004).2.2 = [regWord s 0x130004] ∧ (regRead t rq 0x130008).2.2 = [regWord s 0x130008] ∧ SameBut (inBlocks [0xA]) s t) ∧
  (∀ (rq : Fin 24) (s : State),
      restUp s rq ∧ calOk s →
      Completes (.rtcAddHour rq) s fun t => if fon s RTC.STAT.DST = true ∨ (fget s RTC.DATE.YEAR = 2199 ∧ fget s RTC.DATE.MONTH = 12 ∧ fget s RTC.DATE.DAY = 31 ∧ fget s RTC.TIME.HOUR = 23) then turnedAway rq s t
        else t.comp = ⟨stOk, []⟩ ∧ calAt t (rtcSeconds s + 3600) ∧ fget t RTC.STAT.DST = 1 ∧ fget t RTC.SUB.PRESC = fget s RTC.SUB.PRESC ∧ ∀ k < 2, almDue s t k → almFired s t k) ∧
  (∀ (rq : Fin 24) (s : State),
      restUp s rq ∧ calOk s →
      Completes (.rtcSubtractHour rq) s fun t => if fon s RTC.STAT.DST = false ∨ rtcSeconds s < 3600 then turnedAway rq s t
        else t.comp = ⟨stOk, []⟩ ∧ calAt t (rtcSeconds s - 3600) ∧ fget t RTC.STAT.DST = 0 ∧ fget t RTC.SUB.PRESC = fget s RTC.SUB.PRESC) ∧
  (∀ (rq : Fin 24) (k : Fin 2) (w : Word) (s : State),
      restUp s rq →
      Completes (.rtcAlmWrite rq k w) s fun t =>
        if (w.toNat.testBit 28 = true ∨ bitsOf w.toNat 24 20 ≠ 0) ∧ (w.toNat.testBit 27 = true ∨ bitsOf w.toNat 19 15 < 24) ∧ (w.toNat.testBit 26 = true ∨ bitsOf w.toNat 11 6 < 60) ∧ (w.toNat.testBit 25 = true ∨ bitsOf w.toNat 5 0 < 60) then
          t.comp = ⟨stOk, []⟩ ∧ fget t (RTC.ALM.EN k) = bitsOf w.toNat 31 31 ∧ fget t (RTC.ALM.PON k) = bitsOf w.toNat 30 30 ∧ fget t (RTC.ALM.WAKE k) = bitsOf w.toNat 29 29 ∧
          fget t (RTC.ALM.MSK k) = bitsOf w.toNat 28 25 ∧ fget t (RTC.ALM.DAY k) = bitsOf w.toNat 24 20 ∧ fget t (RTC.ALM.HOUR k) = bitsOf w.toNat 19 15 ∧ fget t (RTC.ALM.MIN k) = bitsOf w.toNat 11 6 ∧
          fget t (RTC.ALM.SEC k) = bitsOf w.toNat 5 0 ∧ t.pwr = s.pwr
        else turnedAway rq s t) ∧
  (∀ (rq : Fin 24) (s : State),
      restUp s rq ∧ s.pwr.storage = false →
      Completes (.ponAssert rq) s (fun t => t.comp = ⟨stOk, []⟩ ∧ fget t RTC.STAT.PON = 1 ∧ SameBut (fun k => inBlocks [0xA] k || k == fkey RTC.STAT.PON) s t) ∧
        Completes (.ponRelease rq) s (fun t => t.comp = ⟨stOk, []⟩ ∧ fget t RTC.STAT.PON = 0 ∧ SameBut (fun k => inBlocks [0xA] k || k == fkey RTC.STAT.PON) s t)) ∧
  (∀ (s : State),
      True →
      Completes .ponPulseExpiry s fun t => fget t RTC.STAT.PON = (if fget s RTC.PON.PULSE_MS = 0 then fget s RTC.STAT.PON else 0) ∧ SameBut (· == fkey RTC.STAT.PON) s t)

/-- The bus commands read and write registers at the pointer, which advances; in Dawn only IDENT, STAGE and FAULT have an effect (R622, R626). -/
def Obligations.BusTransactions : Prop :=
  (∀ (pec : Bool) (s : State),
      busFree s →
      Completes (.busIdent pec) s (fun t => busHeard s t 0 ∧ SameBut (busPuts []) s t ∧ t.comp = s.comp ∧
          busBytes s t [0] (leBytes 4 (regWord s 0) ++ [fget s LNK.STAT.ADDR + 128 * fget s LNK.STAT.ADDR_VALID,
            fget s BUS.STAT.ADDR % 8 + 8 * fget s TOP.STATUS.HEAD] ++ leBytes 2 (fget s ENG.ID.ROM_VER)) pec) ∧
        Completes (.busStage pec) s (fun t => busHeard s t 1 ∧ SameBut (busPuts []) s t ∧ t.comp = s.comp ∧
          busBytes s t [1] [fget s TOP.STAGE.STAGE, regWord s 8 % 256, regWord s 0x10 % 256, regWord s 0x10 / 256 % 256] pec) ∧
        Completes (.busFault pec) s (fun t => busHeard s t 2 ∧ SameBut (busPuts []) s t ∧ t.comp = s.comp ∧
          busBytes s t [2] (leBytes 4 (fltStatWord s) ++ leBytes 4 (fltGroups s)) pec)) ∧
  (∀ (q : Bool) (n : Nat) (ptr : BitVec 24) (w : BitVec 32) (ws : List (BitVec 32)) (p : Option (BitVec 8)) (s : State),
      busUp s ∧ portFull s →
      Completes (.busIdent q) s (fun t => fget t BUS.EVT.NACK_BUSY = 1 ∧ fget t BUS.CNT.NACK = min 255 (fget s BUS.CNT.NACK + 1) ∧ fget t BUS.CNT.XFER = min 65535 (fget s BUS.CNT.XFER + 1) ∧ t.fab = s.fab ∧ SameBut (busPuts [BUS.EVT.NACK_BUSY, BUS.CNT.NACK]) s t) ∧
        Completes (.busStage q) s (fun t => fget t BUS.EVT.NACK_BUSY = 1 ∧ fget t BUS.CNT.NACK = min 255 (fget s BUS.CNT.NACK + 1) ∧ fget t BUS.CNT.XFER = min 65535 (fget s BUS.CNT.XFER + 1) ∧ t.fab = s.fab ∧ SameBut (busPuts [BUS.EVT.NACK_BUSY, BUS.CNT.NACK]) s t) ∧
        Completes (.busFault q) s (fun t => fget t BUS.EVT.NACK_BUSY = 1 ∧ fget t BUS.CNT.NACK = min 255 (fget s BUS.CNT.NACK + 1) ∧ fget t BUS.CNT.XFER = min 65535 (fget s BUS.CNT.XFER + 1) ∧ t.fab = s.fab ∧ SameBut (busPuts [BUS.EVT.NACK_BUSY, BUS.CNT.NACK]) s t) ∧
        Completes (.busWindow ptr p) s (fun t => fget t BUS.EVT.NACK_BUSY = 1 ∧ fget t BUS.CNT.NACK = min 255 (fget s BUS.CNT.NACK + 1) ∧ fget t BUS.CNT.XFER = min 65535 (fget s BUS.CNT.XFER + 1) ∧ t.fab = s.fab ∧ SameBut (busPuts [BUS.EVT.NACK_BUSY, BUS.CNT.NACK]) s t) ∧
        Completes (.busRdWord q) s (fun t => fget t BUS.EVT.NACK_BUSY = 1 ∧ fget t BUS.CNT.NACK = min 255 (fget s BUS.CNT.NACK + 1) ∧ fget t BUS.CNT.XFER = min 65535 (fget s BUS.CNT.XFER + 1) ∧ t.fab = s.fab ∧ SameBut (busPuts [BUS.EVT.NACK_BUSY, BUS.CNT.NACK]) s t) ∧
        Completes (.busWrWord w p) s (fun t => fget t BUS.EVT.NACK_BUSY = 1 ∧ fget t BUS.CNT.NACK = min 255 (fget s BUS.CNT.NACK + 1) ∧ fget t BUS.CNT.XFER = min 65535 (fget s BUS.CNT.XFER + 1) ∧ t.fab = s.fab ∧ SameBut (busPuts [BUS.EVT.NACK_BUSY, BUS.CNT.NACK]) s t) ∧
        Completes (.busRdBlock n q) s (fun t => fget t BUS.EVT.NACK_BUSY = 1 ∧ fget t BUS.CNT.NACK = min 255 (fget s BUS.CNT.NACK + 1) ∧ fget t BUS.CNT.XFER = min 65535 (fget s BUS.CNT.XFER + 1) ∧ t.fab = s.fab ∧ SameBut (busPuts [BUS.EVT.NACK_BUSY, BUS.CNT.NACK]) s t) ∧
        Completes (.busWrBlock n ws p) s (fun t => fget t BUS.EVT.NACK_BUSY = 1 ∧ fget t BUS.CNT.NACK = min 255 (fget s BUS.CNT.NACK + 1) ∧ fget t BUS.CNT.XFER = min 65535 (fget s BUS.CNT.XFER + 1) ∧ t.fab = s.fab ∧ SameBut (busPuts [BUS.EVT.NACK_BUSY, BUS.CNT.NACK]) s t)) ∧
  (∀ (q : Bool) (n : Nat) (ptr : BitVec 24) (w : BitVec 32) (ws : List (BitVec 32)) (p : Option (BitVec 8)) (s : State),
      ¬ busUp s →
      Completes (.busIdent q) s (fun t => t = s) ∧
        Completes (.busStage q) s (fun t => t = s) ∧
        Completes (.busFault q) s (fun t => t = s) ∧
        Completes (.busWindow ptr p) s (fun t => t = s) ∧
        Completes (.busRdWord q) s (fun t => t = s) ∧
        Completes (.busWrWord w p) s (fun t => t = s) ∧
        Completes (.busRdBlock n q) s (fun t => t = s) ∧
        Completes (.busWrBlock n ws p) s (fun t => t = s) ∧
        Completes (.busAttentionPulse q) s (fun t => t = s) ∧
        Completes .busSclTimeout s (fun t => t = s)) ∧
  (∀ (ptr : BitVec 24) (p : Option (BitVec 8)) (s : State),
      busFree s ∧ ptr.toNat % 4 = 0 ∧ stage s ≠ 0 ∧ pecPasses s (8 :: leBytes 3 ptr.toNat) p →
      Completes (.busWindow ptr p) s fun t => busHeard s t 8 ∧ fget t BUS.PTR.PTR = ptr.toNat ∧ SameBut (busPuts [BUS.PTR.PTR]) s t) ∧
  (∀ (ptr : BitVec 24) (p : Option (BitVec 8)) (s : State),
      busFree s ∧ ptr.toNat % 4 ≠ 0 →
      Completes (.busWindow ptr p) s fun t => busHeard s t 8 ∧ SameBut (busPuts []) s t) ∧
  (∀ (n : Nat) (ptr : BitVec 24) (w : BitVec 32) (ws : List (BitVec 32)) (x : BitVec 8) (s : State),
      busFree s ∧ ptr.toNat % 4 = 0 ∧ 1 ≤ n ∧ n ≤ 4 →
      (x ≠ pecOf s (0x08 :: leBytes 3 ptr.toNat) → Completes (.busWindow ptr (some x)) s fun t => fget t BUS.EVT.PEC_ERR = 1 ∧
          fget t BUS.CNT.PEC = min 15 (fget s BUS.CNT.PEC + 1) ∧ SameBut (busPuts [BUS.EVT.PEC_ERR, BUS.CNT.PEC]) s t) ∧
        (x ≠ pecOf s (0x0A :: leBytes 4 w.toNat) → Completes (.busWrWord w (some x)) s fun t => fget t BUS.EVT.PEC_ERR = 1 ∧
          fget t BUS.CNT.PEC = min 15 (fget s BUS.CNT.PEC + 1) ∧ SameBut (busPuts [BUS.EVT.PEC_ERR, BUS.CNT.PEC]) s t) ∧
        (x ≠ pecOf s (0x0C :: 4 * n :: ws.flatMap (fun x => leBytes 4 x.toNat)) → Completes (.busWrBlock n ws (some x)) s fun t => fget t BUS.EVT.PEC_ERR = 1 ∧
          fget t BUS.CNT.PEC = min 15 (fget s BUS.CNT.PEC + 1) ∧ SameBut (busPuts [BUS.EVT.PEC_ERR, BUS.CNT.PEC]) s t)) ∧
  (∀ (n : Nat) (ptr : BitVec 24) (w : BitVec 32) (ws : List (BitVec 32)) (s : State),
      busFree s ∧ ptr.toNat % 4 = 0 ∧ 1 ≤ n ∧ n ≤ 4 ∧ fon s BUS.CFG.PEC_REQ = true →
      Completes (.busWindow ptr none) s (fun t => fget t BUS.EVT.PEC_MISS = 1 ∧ SameBut (busPuts [BUS.EVT.PEC_MISS]) s t) ∧
        Completes (.busWrWord w none) s (fun t => fget t BUS.EVT.PEC_MISS = 1 ∧ SameBut (busPuts [BUS.EVT.PEC_MISS]) s t) ∧
        Completes (.busWrBlock n ws none) s (fun t => fget t BUS.EVT.PEC_MISS = 1 ∧ SameBut (busPuts [BUS.EVT.PEC_MISS]) s t)) ∧
  (∀ (q : Bool) (n : Nat) (s : State),
      busFree s ∧ stage s = 0 ∧ 1 ≤ n ∧ n ≤ 4 →
      Completes (.busRdWord q) s (fun t => busRefused s t ∧ busHeard s t 9 ∧ busBytes s t [9] [0, 0, 0, 0] q) ∧
        Completes (.busRdBlock n q) s (fun t => busRefused s t ∧ busHeard s t 0xB ∧ busBytes s t [0xB, n] (List.replicate (1 + 4 * n) 0) q)) ∧
  (∀ (n : Nat) (ptr : BitVec 24) (w : BitVec 32) (ws : List (BitVec 32)) (p : Option (BitVec 8)) (s : State),
      busFree s ∧ stage s = 0 ∧ 1 ≤ n ∧ n ≤ 4 ∧ ptr.toNat % 4 = 0 →
      (pecPasses s (0x08 :: leBytes 3 ptr.toNat) p → Completes (.busWindow ptr p) s fun t => busRefused s t) ∧
        (pecPasses s (0x0A :: leBytes 4 w.toNat) p → Completes (.busWrWord w p) s fun t => busRefused s t) ∧
        (pecPasses s (0x0C :: 4 * n :: ws.flatMap (fun x => leBytes 4 x.toNat)) p → Completes (.busWrBlock n ws p) s fun t => busRefused s t)) ∧
  (∀ (q : Bool) (n : Nat) (s : State),
      busFree s ∧ stage s ≠ 0 ∧ 1 ≤ n ∧ n ≤ 4 ∧ ptrPlain s n true →
      Completes (.busRdBlock n q) s fun t => busHeard s t 0xB ∧ ptrPast s t n ∧
        busBytes s t [0xB, n] (n :: (List.range n).flatMap fun i => leBytes 4 (regWord s (ptrAt s i))) q ∧
        SameBut (fun k => inBlocks [0xA] k || busPuts [BUS.PTR.PTR] k) s t) ∧
  (∀ (q : Bool) (s : State),
      busFree s ∧ stage s ≠ 0 ∧ ptrPlain s 1 true →
      Completes (.busRdWord q) s fun t => busHeard s t 9 ∧ ptrPast s t 1 ∧ busBytes s t [9] (leBytes 4 (regWord s (fget s BUS.PTR.PTR))) q ∧
        SameBut (fun k => inBlocks [0xA] k || busPuts [BUS.PTR.PTR] k) s t) ∧
  (∀ (q : Bool) (s : State),
      busFree s ∧ stage s ≠ 0 ∧ fabInjected s 9 = false ∧ (specAt (fget s BUS.PTR.PTR) = none ∨ targetDown s (addrTarget (fget s BUS.PTR.PTR)) = true) →
      Completes (.busRdWord q) s fun t => busBytes s t [9] [0, 0, 0, 0] q ∧
        busRecorded s t (fget s BUS.PTR.PTR) (if targetDown s (addrTarget (fget s BUS.PTR.PTR)) then 4 else 5) ∧ ptrPast s t 1) ∧
  (∀ (w : BitVec 32) (p : Option (BitVec 8)) (s : State),
      busFree s ∧ stage s ≠ 0 ∧ ptrPlain s 1 false ∧ pecPasses s (0x0A :: leBytes 4 w.toNat) p →
      Completes (.busWrWord w p) s fun t =>
        let a := fget s BUS.PTR.PTR
        busHeard s t 0xA ∧ ptrPast s t 1 ∧ (∀ f ∈ fieldsAt a, fget t (specFld a f) = fieldAfter s a w.toNat f) ∧
        ((sealedNow s && (fieldsAt a).any (fun f => f.acc == .sealed && bitsOf w.toNat f.hi f.lo != fget s (specFld a f))) = true → busRecorded s t a 1) ∧
        SameBut (fun k => k / 32 == a || recKeys 9 k || busPuts [BUS.PTR.PTR] k) s t) ∧
  (∀ (n : Nat) (ws : List (BitVec 32)) (p : Option (BitVec 8)) (s : State),
      busFree s ∧ stage s ≠ 0 ∧ 1 ≤ n ∧ n ≤ 4 ∧ ws.length = n ∧ ptrPlain s n false ∧ pecPasses s (0x0C :: 4 * n :: ws.flatMap (fun x => leBytes 4 x.toNat)) p →
      Completes (.busWrBlock n ws p) s fun t =>
        busHeard s t 0xC ∧ ptrPast s t n ∧ (∀ i < n, ∀ f ∈ fieldsAt (ptrAt s i), fget t (specFld (ptrAt s i) f) = fieldAfter s (ptrAt s i) (ws.getD i 0).toNat f) ∧
        SameBut (fun k => (List.range n).any (fun i => k / 32 == ptrAt s i) || recKeys 9 k || busPuts [BUS.PTR.PTR] k) s t) ∧
  (∀ (n : Nat) (q : Bool) (ws : List (BitVec 32)) (p : Option (BitVec 8)) (s : State),
      busFree s ∧ (n = 0 ∨ 4 < n) →
      Completes (.busRdBlock n q) s (fun t => busHeard s t 0xB ∧ SameBut (busPuts []) s t) ∧
        Completes (.busWrBlock n ws p) s (fun t => busHeard s t 0xC ∧ SameBut (busPuts []) s t)) ∧
  (∀ (s : State),
      Completes .busReadAbandon s fun t => t.bus.reply = [] ∧ t.regs = s.regs ∧ t.fab = s.fab) ∧
  (∀ (s : State),
      busUp s →
      Completes .busSclTimeout s fun t => if fon s BUS.CFG.TMO_EN then fget t BUS.EVT.TIMEOUT = 1 ∧ t.bus.reply = [] ∧ SameBut (· == fkey BUS.EVT.TIMEOUT) s t
        else t = s) ∧
  (∀ (c : Bool) (s : State),
      busUp s →
      Completes (.busAttentionPulse c) s fun t => if c = true ∧ 1 ≤ stage s ∧ asksAttention s then fget t BUS.EVT.ATTN_COLL = 1 ∧ SameBut (· == fkey BUS.EVT.ATTN_COLL) s t
        else t = s) ∧
  (∀ (rq : Fin 24) (b : Bool) (s : State),
      restUp s rq →
      Completes (.busAttnSet rq b) s fun t => t.comp = ⟨stOk, []⟩ ∧ (b = true → fget t BUS.ATTN.SOFT = 1) ∧
        SameBut (fun k => inBlocks [0xA] k || b && k == fkey BUS.ATTN.SOFT) s t)

/-- The journal finds its place in the ring, programs pages of records, erases ahead, searches by SEQ and takes forwarded records (R639, R640, R641, R643, R645, R646, R647, R648, R649, R651, R653, R655). -/
def Obligations.JournalStoresAndReadsRecords : Prop :=
  (∀ (a p4k p128 : Bool) (blocks : Nat) (bad : List Nat) (s : State),
      (jState s = 2 ∨ jState s = 4) ∧ (¬ devFits a p4k p128 blocks ∨ ((List.range blocks).filter fun b => decide (ringBlock blocks (s.jrn.bad ++ bad) b)).length < 16) →
      Completes (.journalScanDone a p4k p128 blocks bad) s fun t => jState t = 1 ∧ t.jrn.present = false ∧
        t.jrn.queue = [] ∧ t.jrn.page = [] ∧ t.jrn.nand = s.jrn.nand ∧ t.jrn.head = s.jrn.head) ∧
  (∀ (a p4k p128 : Bool) (blocks : Nat) (bad : List Nat) (b pg q p : Nat) (s : State),
      (jState s = 2 ∨ jState s = 4) ∧ devFits a p4k p128 blocks ∧ bad.length + s.jrn.bad.length + 24 ≤ blocks ∧
      s.jrn.head = some (b, pg, q) ∧ q < 2 ^ 47 ∧ ringBlock blocks (s.jrn.bad ++ bad) b ∧ pg ≤ p ∧ p < devPpb p128 ∧
      (∀ i < devPpb p128, pg ≤ i → (tabGet (fun _ => []) s.jrn.nand (b * devPpb p128 + i) = [] ↔ p ≤ i)) ∧
      (∀ e ∈ s.jrn.nand, ∀ x ∈ e.2.filterMap slotRec, x.1 < 2 ^ 47) ∧ (∀ e ∈ s.jrn.nand, e.2.length ≤ 64) ∧ s.jrn.nand.length < 2 ^ 22 →
      Completes (.journalScanDone a p4k p128 blocks bad) s fun t => jState t = 3 ∧ t.jrn.blk = b ∧ t.jrn.pg = p ∧ q ≤ jHead t ∧
        (∀ e ∈ s.jrn.nand, ringBlock blocks (s.jrn.bad ++ bad) (e.1 / devPpb p128) → ∀ x ∈ e.2.filterMap slotRec, x.1 < jHead t) ∧
        (p = pg + 1 → (tabGet (fun _ => []) s.jrn.nand (b * devPpb p128 + pg)).all (· == .torn) = true →
          q + (tabGet (fun _ => []) s.jrn.nand (b * devPpb p128 + pg)).length ≤ jHead t) ∧
        fget t JRNL.GEOM.PAGE4K = b2n p4k ∧ fget t JRNL.GEOM.PPB128 = b2n p128 ∧ fget t JRNL.GEOM.BLOCKS = blocks % 32768 ∧
        (∀ k ∈ bad, k < blocks → k ∈ t.jrn.bad) ∧ (∀ k ∈ s.jrn.bad, k ∈ t.jrn.bad) ∧ fget t JRNL.BAD.COUNT = t.jrn.bad.length % 65536 ∧ oldestIs t ∧
        t.jrn.nand = s.jrn.nand ∧ (jState s = 4 → (∀ x ∈ s.fab.coaches, x.tgt ≠ 0x54) → targetDown t 0x54 = false)) ∧
  (∀ (a p4k p128 : Bool) (blocks : Nat) (bad : List Nat) (b q p : Nat) (w : List Nat) (s : State),
      (jState s = 2 ∨ jState s = 4) ∧ devFits a p4k p128 blocks ∧ bad.length + s.jrn.bad.length + 24 ≤ blocks ∧ s.jrn.head = none ∧
      ringBlock blocks (s.jrn.bad ++ bad) b ∧ p < devPpb p128 ∧ 0 < q ∧ ((tabGet (fun _ => []) s.jrn.nand (b * devPpb p128)).headD .torn = .record q w) ∧
      (∀ i < devPpb p128, (tabGet (fun _ => []) s.jrn.nand (b * devPpb p128 + i) = [] ↔ p ≤ i)) ∧ s.jrn.nand.Pairwise (fun x y => x.1 < y.1) ∧
      (∀ e ∈ s.jrn.nand, e.1 % devPpb p128 = 0 → e.1 / devPpb p128 ≠ b → ringBlock blocks (s.jrn.bad ++ bad) (e.1 / devPpb p128) → ∀ x ∈ slotRec (e.2.headD .torn), x.1 < q) →
      Completes (.journalScanDone a p4k p128 blocks bad) s fun t => jState t = 3 ∧ t.jrn.blk = b ∧ t.jrn.pg = p) ∧
  (∀ (a p4k p128 : Bool) (blocks : Nat) (bad : List Nat) (s : State),
      jState s ≠ 2 ∧ jState s ≠ 4 →
      Completes (.journalScanDone a p4k p128 blocks bad) s fun t => t = s) ∧
  (∀ (r : JRec) (h l : List JRec) (s : State),
      s.jrn.queue = h ++ r :: l ∧ (∀ x ∈ h, x.held = false) ∧ r.held = true ∧ jState s ≠ 3 →
      Completes .journalRepeatWindowClose s fun t => t.jrn = { s.jrn with queue := h ++ { r with held := false } :: l } ∧ t.regs = s.regs) ∧
  (∀ (r : JRec) (s : State),
      s.jrn.queue = [r] ∧ r.held = true ∧ jState s = 3 ∧ s.jrn.page.length < (if fon s JRNL.GEOM.PAGE4K then 64 else 32) →
      Completes .journalRepeatWindowClose s fun t => t.jrn.queue = [] ∧ t.jrn.page = s.jrn.page ++ [{ r with held := false }] ∧
        (r.typ = 1 ∨ r.typ = 0x0B → t.jrn.flush = true) ∧ t.regs = s.regs) ∧
  (∀ (rq : Fin 24) (s : State),
      jrnlUp s rq ∧ s.jrn.page ≠ [] →
      Completes .journalFlushTimer s (fun t => t.jrn = { s.jrn with flush := true } ∧ t.regs = s.regs) ∧
        Completes (.jrnlCmdFlush rq 0x4A1E) s fun t => t.jrn = { s.jrn with flush := true } ∧ t.comp = ⟨stOk, []⟩ ∧ SameBut (inBlocks [0xA]) s t) ∧
  (∀ (rq : Fin 24) (s : State),
      jrnlUp s rq ∧ s.jrn.page = [] →
      Completes .journalFlushTimer s (fun t => t = s) ∧ Completes (.jrnlCmdFlush rq 0x4A1E) s fun t => t.jrn = s.jrn ∧ t.comp = ⟨stOk, []⟩) ∧
  (∀ (rq : Fin 24) (k : BitVec 16) (s : State),
      jrnlUp s rq ∧ (k ≠ 0x4A1E ∨ jState s = 0) →
      (k ≠ 0x4A1E → Completes (.jrnlCmdFlush rq k) s fun t => t.jrn = s.jrn ∧ t.comp = ⟨stIllegal, []⟩ ∧ SameBut (recKeys rq) s t) ∧
        Completes (.jrnlCmdReinit rq k) s fun t => t.jrn = s.jrn ∧ t.comp = ⟨stIllegal, []⟩ ∧ SameBut (recKeys rq) s t) ∧
  (∀ (s : State),
      jState s = 3 ∧ s.jrn.op = .idle ∧ s.jrn.prog = [] ∧ s.jrn.page ≠ [] ∧ s.jrn.queue = [] ∧
      (s.jrn.flush = true ∨ (if fon s JRNL.GEOM.PAGE4K then 64 else 32) ≤ s.jrn.page.length) →
      Completes .journalPageProgram s fun t => t.jrn = { s.jrn with prog := s.jrn.page, page := [], flush := false, op := .program } ∧ t.regs = s.regs) ∧
  (∀ (s : State),
      jState s ≠ 3 ∨ s.jrn.op ≠ .idle ∨ (s.jrn.prog = [] ∧ (s.jrn.page = [] ∨ (s.jrn.flush = false ∧ s.jrn.page.length < (if fon s JRNL.GEOM.PAGE4K then 64 else 32)))) →
      Completes .journalPageProgram s fun t => t = s) ∧
  (∀ (n : Nat) (s : State),
      s.jrn.op = .program ∧ jHead s + s.jrn.prog.length < 2 ^ 48 - 2 ∧ ringBlock (jrnlBlocks s) s.jrn.bad s.jrn.blk ∧ s.jrn.pg < jrnlPpb s ∧ s.jrn.prog ≠ [] ∧
      nextGood s s.jrn.blk n = true →
      Completes (.journalProgramDone true) s fun t =>
        let l := tabGet (fun _ => []) t.jrn.nand (s.jrn.blk * jrnlPpb s + s.jrn.pg)
        l.length = s.jrn.prog.length ∧ (∀ e ∈ s.jrn.prog.zipIdx, slotIs (jHead s + e.2) e.1 (l.getD e.2 .torn) = true) ∧
        (∀ e ∈ s.jrn.nand, e.1 ≠ s.jrn.blk * jrnlPpb s + s.jrn.pg → e ∈ t.jrn.nand) ∧ jHead t = jHead s + s.jrn.prog.length ∧ t.jrn.prog = [] ∧ t.jrn.fails = 0 ∧
        (if s.jrn.pg + 1 < jrnlPpb s then t.jrn.blk = s.jrn.blk ∧ t.jrn.pg = s.jrn.pg + 1 else t.jrn.blk = n ∧ t.jrn.pg = 0) ∧
        t.jrn.head = some (t.jrn.blk, t.jrn.pg, jHead t) ∧ (s.jrn.pg = 0 → t.jrn.op = .erase ∧ t.jrn.erasing = n) ∧
        (0 < s.jrn.pg ∧ s.jrn.pg + 1 < jrnlPpb s → t.jrn.op = .idle) ∧ oldestIs t ∧ t.jrn.queue = s.jrn.queue ∧ t.jrn.page = s.jrn.page ∧
        SameBut (fun k => [JRNL.HEAD_LO.SEQ, JRNL.HEAD_HI.SEQ, JRNL.OLDEST_LO.SEQ, JRNL.OLDEST_HI.SEQ].any fun f => fkey f == k) s t) ∧
  (∀ (n : Nat) (s : State),
      s.jrn.op = .program ∧ jState s = 3 ∧ s.jrn.fails < 2 ∧ s.jrn.blk ∉ s.jrn.bad ∧ s.jrn.bad.length + 25 ≤ jrnlBlocks s ∧ nextGood s s.jrn.blk n = true ∧ n ≠ s.jrn.blk ∧ s.jrn.bad.Nodup →
      Completes (.journalProgramDone false) s fun t =>
        t.jrn.bad = s.jrn.bad ++ [s.jrn.blk] ∧ fget t JRNL.BAD.COUNT = (s.jrn.bad.length + 1) % 65536 ∧ t.jrn.fails = s.jrn.fails + 1 ∧
        t.jrn.prog = s.jrn.prog ∧ t.jrn.queue = s.jrn.queue ∧ t.jrn.page = s.jrn.page ∧ t.jrn.blk = n ∧ t.jrn.pg = 0 ∧ jState t = 3 ∧ oldestIs t) ∧
  (∀ (s : State),
      s.jrn.op = .program ∧ s.jrn.fails = 2 ∧ jState s = 3 ∧ s.jrn.bad.length + 25 ≤ jrnlBlocks s ∧ jrnlAlone s ∧ s.jrn.blk ∈ s.jrn.bad →
      Completes (.journalProgramDone false) s fun t => reinitialised s t) ∧
  (∀ (s : State),
      s.jrn.op = .erase →
      Completes (.journalEraseDone true) s fun t => (∀ e ∈ t.jrn.nand, e.1 / jrnlPpb s ≠ s.jrn.erasing) ∧
        (∀ e ∈ s.jrn.nand, e.1 / jrnlPpb s ≠ s.jrn.erasing → e ∈ t.jrn.nand) ∧ t.jrn.op = .idle ∧ t.jrn.fails = 0 ∧ oldestIs t ∧
        t.jrn.queue = s.jrn.queue ∧ t.jrn.page = s.jrn.page ∧ t.jrn.prog = s.jrn.prog ∧ t.jrn.blk = s.jrn.blk ∧ t.jrn.pg = s.jrn.pg ∧
        SameBut (fun k => [JRNL.OLDEST_LO.SEQ, JRNL.OLDEST_HI.SEQ].any fun f => fkey f == k) s t) ∧
  (∀ (n : Nat) (s : State),
      s.jrn.op = .erase ∧ jState s = 3 ∧ s.jrn.fails < 2 ∧ s.jrn.erasing ∉ s.jrn.bad ∧ s.jrn.bad.length + 25 ≤ jrnlBlocks s ∧ s.jrn.erasing ≠ s.jrn.blk ∧ s.jrn.bad.Nodup ∧
      ringBlock (jrnlBlocks s) s.jrn.bad s.jrn.blk ∧ 0 < s.jrn.pg ∧ s.jrn.pg < jrnlPpb s ∧ nextGood s s.jrn.blk s.jrn.erasing = true ∧ nextGood s s.jrn.erasing n = true ∧ n ≠ s.jrn.blk →
      Completes (.journalEraseDone false) s fun t =>
        t.jrn.bad = s.jrn.bad ++ [s.jrn.erasing] ∧ t.jrn.fails = s.jrn.fails + 1 ∧ t.jrn.blk = s.jrn.blk ∧ t.jrn.pg = s.jrn.pg ∧ t.jrn.op = .erase ∧
        t.jrn.erasing = n ∧ t.jrn.queue = s.jrn.queue) ∧
  (∀ (s : State),
      s.jrn.op ≠ .program ∧ s.jrn.op ≠ .erase →
      Completes (.journalProgramDone true) s (fun t => t = s) ∧ Completes (.journalProgramDone false) s (fun t => t = s) ∧
        Completes (.journalEraseDone true) s (fun t => t = s) ∧ Completes (.journalEraseDone false) s (fun t => t = s)) ∧
  (∀ (rq : Fin 24) (s : State),
      jrnlAlone s ∧ 2 ≤ jState s ∧ (s.jrn.op ≠ .idle ∨ s.jrn.reading.isSome = true) →
      Completes .journalOpTimeout s (fun t => reinitialised s t) ∧
        (jrnlUp s rq → Completes (.jrnlCmdReinit rq 0x4A1E) s fun t => reinitialised s t ∧ t.comp = ⟨stOk, []⟩)) ∧
  (∀ (s : State),
      jState s < 2 ∨ (s.jrn.op = .idle ∧ s.jrn.reading = none) →
      Completes .journalOpTimeout s fun t => t = s) ∧
  (∀ (rq : Fin 24) (s : State),
      jrnlUp s rq →
      Completes (.jrnlRead rq) s fun t => if fon s JRNL.RD_STAT.BUSY then t.comp = ⟨stIllegal, []⟩ ∧ t.jrn = s.jrn ∧ SameBut (recKeys rq) s t
        else t.comp = ⟨stOk, []⟩ ∧ fget t JRNL.RD_STAT.BUSY = 1 ∧ t.jrn = { s.jrn with reading := some ((fget s JRNL.RD_SEQ_LO.SEQ + 2 ^ 32 * fget s JRNL.RD_SEQ_HI.SEQ) % 2 ^ 48) } ∧
          SameBut (fun k => inBlocks [0xA] k || k == fkey JRNL.RD_STAT.BUSY) s t) ∧
  (∀ (q : Nat) (x : Nat × List Nat) (s : State),
      s.jrn.reading = some q ∧ jState s = 3 ∧ lowestFrom (max q (jOldest s)) (ringSlots s) x ∧ x.1 < 2 ^ 48 - 1 ∧ x.2.length ≤ 16 ∧ x.2.all (fun w => decide (w < 2 ^ 32)) = true ∧
      (∀ y ∈ (ringSlots s).filterMap slotRec, y.1 = x.1 → y = x) →
      Completes .jrnlReadDone s fun t =>
        fget t JRNL.RD_STAT.VALID = 1 ∧ fget t JRNL.RD_STAT.END = 0 ∧ fget t JRNL.RD_STAT.BUSY = 0 ∧ (∀ i < x.2.length, fget t (JRNL.RD_DATA.DATA i) = x.2.getD i 0) ∧
        fget t JRNL.RD_SEQ_LO.SEQ + 2 ^ 32 * fget t JRNL.RD_SEQ_HI.SEQ = x.1 + 1 ∧ (q < jOldest s ∨ s.jrn.overrun = true → fget t JRNL.RD_STAT.OVERRUN = 1) ∧
        (¬(q < jOldest s ∨ s.jrn.overrun = true) → fget t JRNL.RD_STAT.OVERRUN = fget s JRNL.RD_STAT.OVERRUN) ∧
        ((∀ y ∈ ringSlots s, y ≠ .torn) → fget t JRNL.RD_STAT.SKIPPED = fget s JRNL.RD_STAT.SKIPPED) ∧ t.jrn = { s.jrn with reading := none, overrun := false } ∧
        SameBut (fun k => k / 32 / 65536 == 0x15) s t) ∧
  (∀ (q : Nat) (s : State),
      s.jrn.reading = some q ∧ ((∀ y ∈ (ringSlots s).filterMap slotRec, y.1 < max q (jOldest s)) ∨ jState s ≠ 3) →
      Completes .jrnlReadDone s fun t =>
        fget t JRNL.RD_STAT.VALID = 0 ∧ fget t JRNL.RD_STAT.END = 1 ∧ fget t JRNL.RD_STAT.BUSY = 0 ∧ t.jrn = { s.jrn with reading := none, overrun := false } ∧
        SameBut (fun k => k / 32 == 0x15003C) s t) ∧
  (∀ (a : Nat) (s : State),
      s.jrn.reading = some 41 ∧ jState s = 3 ∧ jOldest s ≤ 41 ∧ ringSlots s = [.record 40 [], .torn, .torn, .record a []] ∧ 41 < a ∧ a < 100 →
      Completes .jrnlReadDone s fun t => fget t JRNL.RD_STAT.SKIPPED = min 65535 (fget s JRNL.RD_STAT.SKIPPED + 2) ∧ fget t JRNL.RD_STAT.VALID = 1) ∧
  (∀ (s : State),
      s.jrn.reading = none →
      Completes .jrnlReadDone s fun t => t = s) ∧
  (∀ (w : List (BitVec 32)) (s : State),
      fon s JRNL.CFG.ACCEPT = false →
      Completes (.jrnlFwdRx w) s fun t => fget t JRNL.CNT.FWD_DROP = min 65535 (fget s JRNL.CNT.FWD_DROP + 1) ∧ t.jrn = s.jrn ∧
        SameBut (· == fkey JRNL.CNT.FWD_DROP) s t) ∧
  (∀ (w : List (BitVec 32)) (s : State),
      fon s JRNL.CFG.ACCEPT = true ∧ fon s JRNL.CFG.EN = true ∧ fon s JRNL.CFG.FWD_EN = false ∧ (jState s = 0 ∨ jState s = 2 ∨ jState s = 4) ∧
      s.jrn.queue.length < 256 ∧ w.length = 16 ∧ (w.getD 1 0).toNat / 2 ^ 16 % 256 ≠ 1 →
      Completes (.jrnlFwdRx w) s fun t => t.regs = s.regs ∧ t.jrn.queue.take s.jrn.queue.length = s.jrn.queue ∧
        t.jrn.queue.length = s.jrn.queue.length + 1 ∧ t.jrn.loss = false ∧ (t.jrn.queue.drop s.jrn.queue.length).all (fun r =>
          r.held == false && r.flags == ((w.getD 1 0).toNat / 2 ^ 24 ||| 2 ||| b2n s.jrn.loss) && r.typ == (w.getD 1 0).toNat / 2 ^ 16 % 256 &&
          (jrecImage 1 r).getD 5 0 == (w.getD 5 0).toNat % 65536 && [2, 3, 4, 6, 7, 8, 9].all fun i => (jrecImage 1 r).getD i 0 == (w.getD i 0).toNat) = true) ∧
  (∀ (w : List (BitVec 32)) (s : State),
      fon s JRNL.CFG.ACCEPT = true ∧ fon s JRNL.CFG.EN = true ∧ jState s ≠ 1 ∧ 256 ≤ s.jrn.queue.length →
      Completes (.jrnlFwdRx w) s fun t => fget t JRNL.CNT.LOST = min 65535 (fget s JRNL.CNT.LOST + 1) ∧
        t.jrn = { s.jrn with loss := true } ∧ SameBut (· == fkey JRNL.CNT.LOST) s t) ∧
  (∀ (w : List (BitVec 32)) (s : State),
      fon s JRNL.CFG.ACCEPT = true ∧ (jState s = 1 ∨ fon s JRNL.CFG.EN = false) →
      Completes (.jrnlFwdRx w) s fun t => t = s)
end

