-- ==== Sys2Proof/Laws/Flash.lean ====
section
/-!
SUPPORT. Laws/Flash.lean: every operation on the CS0 flash keeps its canonical form.
-/
namespace Sys2Proof.Machine

theorem tabAbove_mono {α : Type} {k j : Nat} {m : List (Nat × α)} (h : tabAbove k m = true) (hj : j ≤ k) :
    tabAbove j m = true := by
  simp only [tabAbove, List.all_eq_true, decide_eq_true_eq] at h ⊢
  exact fun e he => Nat.lt_of_le_of_lt hj (h e he)

theorem Memory.wf_filter (p : Host.Cell → Bool) {m : List Host.Cell} (h : Memory.wf m = true) :
    Memory.wf (m.filter p) = true := by
  induction m with
  | nil => rfl
  | cons e m ih =>
    simp only [Memory.wf, tabWf, Bool.and_eq_true] at h
    by_cases hp : p e = true
    · simp only [List.filter_cons_of_pos hp, Memory.wf, tabWf, Bool.and_eq_true]
      refine ⟨⟨?_, h.1.2⟩, ih h.2⟩
      have := h.1.1
      simp only [tabAbove, List.all_eq_true, decide_eq_true_eq] at this ⊢
      exact fun x hx => this x (List.mem_filter.1 hx).1
    · simpa [List.filter_cons_of_neg hp] using ih h.2

theorem Memory.wf_append {l r : List Host.Cell} (hl : Memory.wf l = true) (hr : Memory.wf r = true)
    (h : ∀ x ∈ l, ∀ y ∈ r, x.1 < y.1) : Memory.wf (l ++ r) = true := by
  induction l with
  | nil => exact hr
  | cons e l ih =>
    simp only [Memory.wf, tabWf, Bool.and_eq_true, List.cons_append] at hl ⊢
    refine ⟨⟨?_, hl.1.2⟩, ih hl.2 fun x hx => h x (by simp [hx])⟩
    have := hl.1.1
    simp only [tabAbove, List.all_eq_true, decide_eq_true_eq, List.mem_append] at this ⊢
    rintro x (hx | hx)
    · exact this x hx
    · exact h e (by simp) x hx

/-- The bytes `f` at addresses from `a` on, without the erased ones, are in canonical form and lie there. -/
theorem Memory.wf_run (f : Nat → BitVec 8) (a n : Nat) :
    Memory.wf (((List.range n).map fun i => (a + i, f i)).filter fun c => c.2 != 0xFF#8) = true ∧
      ∀ c ∈ ((List.range n).map fun i => (a + i, f i)).filter fun c => c.2 != 0xFF#8, a ≤ c.1 ∧ c.1 < a + n := by
  have hb : ∀ n, ∀ c ∈ ((List.range n).map fun i => (a + i, f i)).filter fun c => c.2 != 0xFF#8, a ≤ c.1 ∧ c.1 < a + n := by
    intro n c hc
    obtain ⟨i, hi, rfl⟩ := List.mem_map.1 (List.mem_filter.1 hc).1
    have := List.mem_range.1 hi
    simp; omega
  refine ⟨?_, hb n⟩
  induction n with
  | zero => rfl
  | succ n ih =>
    rw [List.range_succ, List.map_append, List.filter_append]
    refine Memory.wf_append ih ?_ ?_
    · by_cases h : f n = 0xFF#8 <;> simp [Memory.wf, tabWf, tabAbove, h]
    · intro x hx y hy
      have := (hb n x hx).2
      obtain rfl : y = (a + n, f n) := by simpa using (List.mem_filter.1 hy).1
      exact this

/-- R72, R87: replacing the bytes from `a` on, `n` of them, by cells that lie there keeps the canonical form. -/
theorem flashPut_wf {m cs : List Host.Cell} {a n : Nat} (hm : Memory.wf m = true) (hc : Memory.wf cs = true)
    (hi : ∀ c ∈ cs, a ≤ c.1 ∧ c.1 < a + n) : Memory.wf (flashPut m a n cs) = true := by
  unfold flashPut
  refine Memory.wf_append (Memory.wf_append (Memory.wf_filter _ hm) hc ?_) (Memory.wf_filter _ hm) ?_
  · intro x hx y hy
    have h1 := (List.mem_filter.1 hx).2
    have h2 := hi y hy
    simp at h1; omega
  · intro x hx y hy
    have h2 := (List.mem_filter.1 hy).2
    simp at h2
    rcases List.mem_append.1 hx with hx | hx
    · have h1 := (List.mem_filter.1 hx).2
      simp at h1; omega
    · have := hi x hx
      omega

theorem flashTear_wf {s : State} (h : Memory.wf s.flash = true) : Memory.wf (flashTear s).flash = true := by
  unfold flashTear
  split
  · exact flashPut_wf h (Memory.wf_run _ _ _).1 (Memory.wf_run _ _ _).2
  · exact h

/-- R87: a program of the flash keeps the canonical form. -/
theorem flashStore_wf {s : State} (a : Nat) (b : List Nat) (h : Memory.wf s.flash = true) :
    Memory.wf (flashStore s a b).flash = true := by
  have e : (b.zipIdx.map fun x => (a + x.2, BitVec.ofNat 8 x.1)) =
      (List.range b.length).map fun i => (a + i, BitVec.ofNat 8 (b.getD i 0)) := by
    refine List.ext_getElem (by simp) fun i h1 h2 => ?_
    have hb : i < b.length := by simpa using h2
    simp [hb]
  simp only [flashStore, e]
  exact flashPut_wf h (Memory.wf_run _ _ _).1 (Memory.wf_run _ _ _).2

/-- R87: what a command that succeeds does keeps the canonical form. -/
theorem updEffect_wf {s : State} (u : Upd) (h : Memory.wf s.flash = true) : Memory.wf (updEffect s u).flash = true := by
  have hf : ∀ (l : List (Nat × Nat)) (t : State),
      (l.foldl (fun t x => fset t (CFG.UPD_BUF.DATA x.2) x.1) t).flash = t.flash := by
    intro l
    induction l with
    | nil => exact fun _ => rfl
    | cons x l ih => exact fun t => ih _
  unfold updEffect
  split
  · exact flashPut_wf h rfl (by simp)
  · split
    · exact flashStore_wf _ _ h
    · split
      · simpa [hf] using h
      · exact h

end Sys2Proof.Machine
end

