-- ==== Sys2Proof/Laws/Tab.lean ====
section
/-!
SUPPORT. Laws/Tab.lean: reading after writing a sparse table, and the canonical form that every write keeps.
-/
namespace Sys2Proof.Machine

variable {α : Type} {d : Nat → α} {m : List (Nat × α)} {k j : Nat} {v : α}

theorem tabGet_tabErase_same (d : Nat → α) (m : List (Nat × α)) (k : Nat) : tabGet d (tabErase k m) k = d k := by
  induction m with
  | nil => rfl
  | cons e m ih =>
    obtain ⟨a, w⟩ := e
    by_cases h : a = k <;> simp [tabErase, tabGet, h, ih]

theorem tabGet_tabErase_ne (d : Nat → α) (m : List (Nat × α)) (h : j ≠ k) :
    tabGet d (tabErase k m) j = tabGet d m j := by
  induction m with
  | nil => rfl
  | cons e m ih =>
    obtain ⟨a, w⟩ := e
    by_cases ha : a = k
    · have : a ≠ j := fun e => h (e ▸ ha)
      simp [tabErase, tabGet, ha, ih, Ne.symm h]
    · simp [tabErase, tabGet, ha, ih]

theorem tabGet_tabInsert (d : Nat → α) (m : List (Nat × α)) (k j : Nat) (v : α) (h : tabGet d m k = d k ∨ j ≠ k)
    (hm : ∀ e ∈ m, e.1 ≠ k) : tabGet d (tabInsert k v m) j = if j = k then v else tabGet d m j := by
  induction m with
  | nil => by_cases hj : j = k <;> simp [tabInsert, tabGet, hj, eq_comm]; simp [Ne.symm hj]
  | cons e m ih =>
    obtain ⟨a, w⟩ := e
    have ha : a ≠ k := hm (a, w) (by simp)
    have hm' : ∀ e ∈ m, e.1 ≠ k := fun e he => hm e (by simp [he])
    have h' : tabGet d m k = d k ∨ j ≠ k := by simpa [tabGet, ha] using h
    by_cases hk : k < a
    · by_cases hj : j = k
      · simp [tabInsert, hk, tabGet, hj]
      · simp [tabInsert, hk, tabGet, hj, Ne.symm hj]
    · simp only [tabInsert, hk, if_false, tabGet]
      by_cases haj : a = j
      · have : j ≠ k := haj ▸ ha
        simp [haj, this]
      · simp [haj, ih h' hm']

theorem tabErase_ne (k : Nat) (m : List (Nat × α)) : ∀ e ∈ tabErase k m, e.1 ≠ k := by
  induction m with
  | nil => simp [tabErase]
  | cons e m ih =>
    obtain ⟨a, w⟩ := e
    by_cases h : a = k
    · simpa [tabErase, h] using ih
    · intro x hx
      simp only [tabErase, h, if_false, List.mem_cons] at hx
      rcases hx with rfl | hx
      · exact h
      · exact ih x hx

/-- What a key reads after a write of a key: the value written, or what it read before. -/
theorem tabGet_tabPut [DecidableEq α] (d : Nat → α) (m : List (Nat × α)) (k j : Nat) (v : α) :
    tabGet d (tabPut d m k v) j = if j = k then v else tabGet d m j := by
  by_cases hv : v = d k
  · by_cases hj : j = k
    · simp [tabPut, hv, hj, tabGet_tabErase_same]
    · simp [tabPut, hv, hj, tabGet_tabErase_ne]
  · simp only [tabPut, hv, if_false]
    rw [tabGet_tabInsert d (tabErase k m) k j v (.inl (tabGet_tabErase_same d m k)) (tabErase_ne k m)]
    by_cases hj : j = k
    · simp [hj]
    · simp [hj, tabGet_tabErase_ne]

@[simp] theorem tabGet_tabPut_same [DecidableEq α] (d : Nat → α) (m : List (Nat × α)) (k : Nat) (v : α) :
    tabGet d (tabPut d m k v) k = v := by simp [tabGet_tabPut]

theorem tabGet_tabPut_ne [DecidableEq α] (d : Nat → α) (m : List (Nat × α)) (v : α) (h : j ≠ k) :
    tabGet d (tabPut d m k v) j = tabGet d m j := by simp [tabGet_tabPut, h]

theorem tabAbove_iff (k : Nat) (m : List (Nat × α)) : tabAbove k m = true ↔ ∀ e ∈ m, k < e.1 := by
  simp [tabAbove]

theorem tabErase_mem {e : Nat × α} (h : e ∈ tabErase k m) : e ∈ m := by
  induction m with
  | nil => simp [tabErase] at h
  | cons x m ih =>
    obtain ⟨a, w⟩ := x
    by_cases hk : a = k
    · simp only [tabErase, hk, if_true] at h
      exact List.mem_cons_of_mem _ (ih h)
    · simp only [tabErase, hk, if_false, List.mem_cons] at h
      rcases h with rfl | h
      · simp
      · exact List.mem_cons_of_mem _ (ih h)

theorem tabInsert_mem {e : Nat × α} (h : e ∈ tabInsert k v m) : e = (k, v) ∨ e ∈ m := by
  induction m with
  | nil => simpa [tabInsert] using h
  | cons x m ih =>
    obtain ⟨a, w⟩ := x
    by_cases hk : k < a
    · simpa [tabInsert, hk] using h
    · simp only [tabInsert, hk, if_false, List.mem_cons] at h
      rcases h with rfl | h
      · simp
      · rcases ih h with h | h
        · exact .inl h
        · exact .inr (List.mem_cons_of_mem _ h)

theorem tabWf_tabErase [DecidableEq α] (h : tabWf d m = true) : tabWf d (tabErase k m) = true := by
  induction m with
  | nil => rfl
  | cons x m ih =>
    obtain ⟨a, w⟩ := x
    simp only [tabWf, Bool.and_eq_true, decide_eq_true_eq, tabAbove_iff] at h
    by_cases hk : a = k
    · simpa [tabErase, hk] using ih h.2
    · simp only [tabErase, hk, if_false, tabWf, Bool.and_eq_true, decide_eq_true_eq, tabAbove_iff]
      exact ⟨⟨fun e he => h.1.1 e (tabErase_mem he), h.1.2⟩, ih h.2⟩

theorem tabWf_tabInsert [DecidableEq α] (h : tabWf d m = true) (hm : ∀ e ∈ m, e.1 ≠ k) (hv : v ≠ d k) :
    tabWf d (tabInsert k v m) = true := by
  induction m with
  | nil => simp [tabInsert, tabWf, tabAbove, hv]
  | cons x m ih =>
    obtain ⟨a, w⟩ := x
    have ha : a ≠ k := hm (a, w) (by simp)
    have hm' : ∀ e ∈ m, e.1 ≠ k := fun e he => hm e (by simp [he])
    have h0 := h
    simp only [tabWf, Bool.and_eq_true, decide_eq_true_eq, tabAbove_iff] at h
    by_cases hk : k < a
    · simp only [tabInsert, hk, if_true]
      rw [tabWf]
      simp only [Bool.and_eq_true, decide_eq_true_eq, tabAbove_iff]
      refine ⟨⟨fun e he => ?_, hv⟩, h0⟩
      rcases List.mem_cons.1 he with rfl | he
      · exact hk
      · exact Nat.lt_trans hk (h.1.1 e he)
    · simp only [tabInsert, hk, if_false, tabWf, Bool.and_eq_true, decide_eq_true_eq, tabAbove_iff]
      refine ⟨⟨fun e he => ?_, h.1.2⟩, ih h.2 hm'⟩
      rcases tabInsert_mem he with rfl | he
      · simp only; omega
      · exact h.1.1 e he

/-- Every write keeps the canonical form. -/
theorem tabWf_tabPut [DecidableEq α] (h : tabWf d m = true) (k : Nat) (v : α) : tabWf d (tabPut d m k v) = true := by
  by_cases hv : v = d k
  · simpa [tabPut, hv] using tabWf_tabErase h
  · simpa [tabPut, hv] using tabWf_tabInsert (tabWf_tabErase h) (tabErase_ne k m) hv

end Sys2Proof.Machine
end

