-- ==== Sys2Proof/Laws/State.lean ====
section
/-!
SUPPORT. Laws/State.lean: what every named update of State leaves unchanged, field by field, and what a register field
reads after each of them.
-/
namespace Sys2Proof.Machine

variable (s : State) (f g : Fld)

/-- A field is read from the register table alone. -/
theorem fget_congr {s t : State} (h : t.regs = s.regs) : fget t f = fget s f := by simp only [fget, h]

theorem fget_fset (v : Nat) : fget (fset s g v) f = if fkey f = fkey g then v % 2 ^ fwidth g % 2 ^ fwidth f else fget s f := by
  simp only [fget, fset, tabGet_tabPut]; split <;> rfl

@[simp] theorem fget_fset_same (v : Nat) : fget (fset s f v) f = v % 2 ^ fwidth f := by simp [fget_fset]

theorem fget_fset_ne {f g : Fld} (v : Nat) (h : fkey f ≠ fkey g) : fget (fset s g v) f = fget s f := by simp [fget_fset, h]

/-- A field never reads more than its width holds. -/
theorem fget_lt : fget s f < 2 ^ fwidth f := Nat.mod_lt _ (Nat.two_pow_pos _)

theorem finc_eq : finc s f = s ∨ finc s f = fset s f (fget s f + 1) := by
  unfold finc; split <;> simp

theorem fmax_eq (v : Nat) : fmax s f v = s ∨ fmax s f v = fset s f v := by
  unfold fmax; split <;> simp

theorem fget_finc_ne {f g : Fld} (h : fkey f ≠ fkey g) : fget (finc s g) f = fget s f := by
  rcases finc_eq s g with e | e <;> simp [e, fget_fset, h]

theorem fget_fmax_ne {f g : Fld} (v : Nat) (h : fkey f ≠ fkey g) : fget (fmax s g v) f = fget s f := by
  rcases fmax_eq s g v with e | e <;> simp [e, fget_fset, h]

@[simp] theorem fset_pending (f : Fld) (v : Nat) : (fset s f v).pending = s.pending := rfl
@[simp] theorem fset_snap (f : Fld) (v : Nat) : (fset s f v).snap = s.snap := rfl
@[simp] theorem fset_comp (f : Fld) (v : Nat) : (fset s f v).comp = s.comp := rfl
@[simp] theorem fset_free (f : Fld) (v : Nat) : (fset s f v).free = s.free := rfl
@[simp] theorem fset_start (f : Fld) (v : Nat) : (fset s f v).start = s.start := rfl
@[simp] theorem fset_time (f : Fld) (v : Nat) : (fset s f v).time = s.time := rfl
@[simp] theorem fset_frames (f : Fld) (v : Nat) : (fset s f v).frames = s.frames := rfl
@[simp] theorem fset_chx (f : Fld) (v : Nat) : (fset s f v).chx = s.chx := rfl
@[simp] theorem fset_itx (f : Fld) (v : Nat) : (fset s f v).itx = s.itx := rfl
@[simp] theorem fset_slots (f : Fld) (v : Nat) : (fset s f v).slots = s.slots := rfl
@[simp] theorem fset_cvy (f : Fld) (v : Nat) : (fset s f v).cvy = s.cvy := rfl
@[simp] theorem fset_ldg (f : Fld) (v : Nat) : (fset s f v).ldg = s.ldg := rfl
@[simp] theorem fset_sqs (f : Fld) (v : Nat) : (fset s f v).sqs = s.sqs := rfl
@[simp] theorem fset_lnk (f : Fld) (v : Nat) : (fset s f v).lnk = s.lnk := rfl
@[simp] theorem fset_flt (f : Fld) (v : Nat) : (fset s f v).flt = s.flt := rfl
@[simp] theorem fset_jrn (f : Fld) (v : Nat) : (fset s f v).jrn = s.jrn := rfl
@[simp] theorem fset_pwr (f : Fld) (v : Nat) : (fset s f v).pwr = s.pwr := rfl
@[simp] theorem fset_wire (f : Fld) (v : Nat) : (fset s f v).wire = s.wire := rfl
@[simp] theorem fset_adc (f : Fld) (v : Nat) : (fset s f v).adc = s.adc := rfl
@[simp] theorem fset_cmp (f : Fld) (v : Nat) : (fset s f v).cmp = s.cmp := rfl
@[simp] theorem fset_fab (f : Fld) (v : Nat) : (fset s f v).fab = s.fab := rfl
@[simp] theorem fset_lps (f : Fld) (v : Nat) : (fset s f v).lps = s.lps := rfl
@[simp] theorem fset_rgs (f : Fld) (v : Nat) : (fset s f v).rgs = s.rgs := rfl
@[simp] theorem fset_chg (f : Fld) (v : Nat) : (fset s f v).chg = s.chg := rfl
@[simp] theorem fset_gau (f : Fld) (v : Nat) : (fset s f v).gau = s.gau := rfl
@[simp] theorem fset_pds (f : Fld) (v : Nat) : (fset s f v).pds = s.pds := rfl
@[simp] theorem fset_img (f : Fld) (v : Nat) : (fset s f v).img = s.img := rfl
@[simp] theorem fset_otp (f : Fld) (v : Nat) : (fset s f v).otp = s.otp := rfl
@[simp] theorem fset_bus (f : Fld) (v : Nat) : (fset s f v).bus = s.bus := rfl
@[simp] theorem fset_flash (f : Fld) (v : Nat) : (fset s f v).flash = s.flash := rfl

@[simp] theorem fsetB_pending (f : Fld) (b : Bool) : (fsetB s f b).pending = s.pending := rfl
@[simp] theorem fsetB_snap (f : Fld) (b : Bool) : (fsetB s f b).snap = s.snap := rfl
@[simp] theorem fsetB_comp (f : Fld) (b : Bool) : (fsetB s f b).comp = s.comp := rfl
@[simp] theorem fsetB_free (f : Fld) (b : Bool) : (fsetB s f b).free = s.free := rfl
@[simp] theorem fsetB_start (f : Fld) (b : Bool) : (fsetB s f b).start = s.start := rfl
@[simp] theorem fsetB_time (f : Fld) (b : Bool) : (fsetB s f b).time = s.time := rfl
@[simp] theorem fsetB_frames (f : Fld) (b : Bool) : (fsetB s f b).frames = s.frames := rfl
@[simp] theorem fsetB_chx (f : Fld) (b : Bool) : (fsetB s f b).chx = s.chx := rfl
@[simp] theorem fsetB_itx (f : Fld) (b : Bool) : (fsetB s f b).itx = s.itx := rfl
@[simp] theorem fsetB_slots (f : Fld) (b : Bool) : (fsetB s f b).slots = s.slots := rfl
@[simp] theorem fsetB_cvy (f : Fld) (b : Bool) : (fsetB s f b).cvy = s.cvy := rfl
@[simp] theorem fsetB_ldg (f : Fld) (b : Bool) : (fsetB s f b).ldg = s.ldg := rfl
@[simp] theorem fsetB_sqs (f : Fld) (b : Bool) : (fsetB s f b).sqs = s.sqs := rfl
@[simp] theorem fsetB_lnk (f : Fld) (b : Bool) : (fsetB s f b).lnk = s.lnk := rfl
@[simp] theorem fsetB_flt (f : Fld) (b : Bool) : (fsetB s f b).flt = s.flt := rfl
@[simp] theorem fsetB_jrn (f : Fld) (b : Bool) : (fsetB s f b).jrn = s.jrn := rfl
@[simp] theorem fsetB_pwr (f : Fld) (b : Bool) : (fsetB s f b).pwr = s.pwr := rfl
@[simp] theorem fsetB_wire (f : Fld) (b : Bool) : (fsetB s f b).wire = s.wire := rfl
@[simp] theorem fsetB_adc (f : Fld) (b : Bool) : (fsetB s f b).adc = s.adc := rfl
@[simp] theorem fsetB_cmp (f : Fld) (b : Bool) : (fsetB s f b).cmp = s.cmp := rfl
@[simp] theorem fsetB_fab (f : Fld) (b : Bool) : (fsetB s f b).fab = s.fab := rfl
@[simp] theorem fsetB_lps (f : Fld) (b : Bool) : (fsetB s f b).lps = s.lps := rfl
@[simp] theorem fsetB_rgs (f : Fld) (b : Bool) : (fsetB s f b).rgs = s.rgs := rfl
@[simp] theorem fsetB_chg (f : Fld) (b : Bool) : (fsetB s f b).chg = s.chg := rfl
@[simp] theorem fsetB_gau (f : Fld) (b : Bool) : (fsetB s f b).gau = s.gau := rfl
@[simp] theorem fsetB_pds (f : Fld) (b : Bool) : (fsetB s f b).pds = s.pds := rfl
@[simp] theorem fsetB_img (f : Fld) (b : Bool) : (fsetB s f b).img = s.img := rfl
@[simp] theorem fsetB_otp (f : Fld) (b : Bool) : (fsetB s f b).otp = s.otp := rfl
@[simp] theorem fsetB_bus (f : Fld) (b : Bool) : (fsetB s f b).bus = s.bus := rfl
@[simp] theorem fsetB_flash (f : Fld) (b : Bool) : (fsetB s f b).flash = s.flash := rfl

@[simp] theorem fsetI_pending (f : Fld) (v : Int) : (fsetI s f v).pending = s.pending := rfl
@[simp] theorem fsetI_snap (f : Fld) (v : Int) : (fsetI s f v).snap = s.snap := rfl
@[simp] theorem fsetI_comp (f : Fld) (v : Int) : (fsetI s f v).comp = s.comp := rfl
@[simp] theorem fsetI_free (f : Fld) (v : Int) : (fsetI s f v).free = s.free := rfl
@[simp] theorem fsetI_start (f : Fld) (v : Int) : (fsetI s f v).start = s.start := rfl
@[simp] theorem fsetI_time (f : Fld) (v : Int) : (fsetI s f v).time = s.time := rfl
@[simp] theorem fsetI_frames (f : Fld) (v : Int) : (fsetI s f v).frames = s.frames := rfl
@[simp] theorem fsetI_chx (f : Fld) (v : Int) : (fsetI s f v).chx = s.chx := rfl
@[simp] theorem fsetI_itx (f : Fld) (v : Int) : (fsetI s f v).itx = s.itx := rfl
@[simp] theorem fsetI_slots (f : Fld) (v : Int) : (fsetI s f v).slots = s.slots := rfl
@[simp] theorem fsetI_cvy (f : Fld) (v : Int) : (fsetI s f v).cvy = s.cvy := rfl
@[simp] theorem fsetI_ldg (f : Fld) (v : Int) : (fsetI s f v).ldg = s.ldg := rfl
@[simp] theorem fsetI_sqs (f : Fld) (v : Int) : (fsetI s f v).sqs = s.sqs := rfl
@[simp] theorem fsetI_lnk (f : Fld) (v : Int) : (fsetI s f v).lnk = s.lnk := rfl
@[simp] theorem fsetI_flt (f : Fld) (v : Int) : (fsetI s f v).flt = s.flt := rfl
@[simp] theorem fsetI_jrn (f : Fld) (v : Int) : (fsetI s f v).jrn = s.jrn := rfl
@[simp] theorem fsetI_pwr (f : Fld) (v : Int) : (fsetI s f v).pwr = s.pwr := rfl
@[simp] theorem fsetI_wire (f : Fld) (v : Int) : (fsetI s f v).wire = s.wire := rfl
@[simp] theorem fsetI_adc (f : Fld) (v : Int) : (fsetI s f v).adc = s.adc := rfl
@[simp] theorem fsetI_cmp (f : Fld) (v : Int) : (fsetI s f v).cmp = s.cmp := rfl
@[simp] theorem fsetI_fab (f : Fld) (v : Int) : (fsetI s f v).fab = s.fab := rfl
@[simp] theorem fsetI_lps (f : Fld) (v : Int) : (fsetI s f v).lps = s.lps := rfl
@[simp] theorem fsetI_rgs (f : Fld) (v : Int) : (fsetI s f v).rgs = s.rgs := rfl
@[simp] theorem fsetI_chg (f : Fld) (v : Int) : (fsetI s f v).chg = s.chg := rfl
@[simp] theorem fsetI_gau (f : Fld) (v : Int) : (fsetI s f v).gau = s.gau := rfl
@[simp] theorem fsetI_pds (f : Fld) (v : Int) : (fsetI s f v).pds = s.pds := rfl
@[simp] theorem fsetI_img (f : Fld) (v : Int) : (fsetI s f v).img = s.img := rfl
@[simp] theorem fsetI_otp (f : Fld) (v : Int) : (fsetI s f v).otp = s.otp := rfl
@[simp] theorem fsetI_bus (f : Fld) (v : Int) : (fsetI s f v).bus = s.bus := rfl
@[simp] theorem fsetI_flash (f : Fld) (v : Int) : (fsetI s f v).flash = s.flash := rfl

@[simp] theorem finc_pending (f : Fld) : (finc s f).pending = s.pending := by unfold finc; split <;> rfl
@[simp] theorem finc_snap (f : Fld) : (finc s f).snap = s.snap := by unfold finc; split <;> rfl
@[simp] theorem finc_comp (f : Fld) : (finc s f).comp = s.comp := by unfold finc; split <;> rfl
@[simp] theorem finc_free (f : Fld) : (finc s f).free = s.free := by unfold finc; split <;> rfl
@[simp] theorem finc_start (f : Fld) : (finc s f).start = s.start := by unfold finc; split <;> rfl
@[simp] theorem finc_time (f : Fld) : (finc s f).time = s.time := by unfold finc; split <;> rfl
@[simp] theorem finc_frames (f : Fld) : (finc s f).frames = s.frames := by unfold finc; split <;> rfl
@[simp] theorem finc_chx (f : Fld) : (finc s f).chx = s.chx := by unfold finc; split <;> rfl
@[simp] theorem finc_itx (f : Fld) : (finc s f).itx = s.itx := by unfold finc; split <;> rfl
@[simp] theorem finc_slots (f : Fld) : (finc s f).slots = s.slots := by unfold finc; split <;> rfl
@[simp] theorem finc_cvy (f : Fld) : (finc s f).cvy = s.cvy := by unfold finc; split <;> rfl
@[simp] theorem finc_ldg (f : Fld) : (finc s f).ldg = s.ldg := by unfold finc; split <;> rfl
@[simp] theorem finc_sqs (f : Fld) : (finc s f).sqs = s.sqs := by unfold finc; split <;> rfl
@[simp] theorem finc_lnk (f : Fld) : (finc s f).lnk = s.lnk := by unfold finc; split <;> rfl
@[simp] theorem finc_flt (f : Fld) : (finc s f).flt = s.flt := by unfold finc; split <;> rfl
@[simp] theorem finc_jrn (f : Fld) : (finc s f).jrn = s.jrn := by unfold finc; split <;> rfl
@[simp] theorem finc_pwr (f : Fld) : (finc s f).pwr = s.pwr := by unfold finc; split <;> rfl
@[simp] theorem finc_wire (f : Fld) : (finc s f).wire = s.wire := by unfold finc; split <;> rfl
@[simp] theorem finc_adc (f : Fld) : (finc s f).adc = s.adc := by unfold finc; split <;> rfl
@[simp] theorem finc_cmp (f : Fld) : (finc s f).cmp = s.cmp := by unfold finc; split <;> rfl
@[simp] theorem finc_fab (f : Fld) : (finc s f).fab = s.fab := by unfold finc; split <;> rfl
@[simp] theorem finc_lps (f : Fld) : (finc s f).lps = s.lps := by unfold finc; split <;> rfl
@[simp] theorem finc_rgs (f : Fld) : (finc s f).rgs = s.rgs := by unfold finc; split <;> rfl
@[simp] theorem finc_chg (f : Fld) : (finc s f).chg = s.chg := by unfold finc; split <;> rfl
@[simp] theorem finc_gau (f : Fld) : (finc s f).gau = s.gau := by unfold finc; split <;> rfl
@[simp] theorem finc_pds (f : Fld) : (finc s f).pds = s.pds := by unfold finc; split <;> rfl
@[simp] theorem finc_img (f : Fld) : (finc s f).img = s.img := by unfold finc; split <;> rfl
@[simp] theorem finc_otp (f : Fld) : (finc s f).otp = s.otp := by unfold finc; split <;> rfl
@[simp] theorem finc_bus (f : Fld) : (finc s f).bus = s.bus := by unfold finc; split <;> rfl
@[simp] theorem finc_flash (f : Fld) : (finc s f).flash = s.flash := by unfold finc; split <;> rfl

@[simp] theorem fmax_pending (f : Fld) (v : Nat) : (fmax s f v).pending = s.pending := by unfold fmax; split <;> rfl
@[simp] theorem fmax_snap (f : Fld) (v : Nat) : (fmax s f v).snap = s.snap := by unfold fmax; split <;> rfl
@[simp] theorem fmax_comp (f : Fld) (v : Nat) : (fmax s f v).comp = s.comp := by unfold fmax; split <;> rfl
@[simp] theorem fmax_free (f : Fld) (v : Nat) : (fmax s f v).free = s.free := by unfold fmax; split <;> rfl
@[simp] theorem fmax_start (f : Fld) (v : Nat) : (fmax s f v).start = s.start := by unfold fmax; split <;> rfl
@[simp] theorem fmax_time (f : Fld) (v : Nat) : (fmax s f v).time = s.time := by unfold fmax; split <;> rfl
@[simp] theorem fmax_frames (f : Fld) (v : Nat) : (fmax s f v).frames = s.frames := by unfold fmax; split <;> rfl
@[simp] theorem fmax_chx (f : Fld) (v : Nat) : (fmax s f v).chx = s.chx := by unfold fmax; split <;> rfl
@[simp] theorem fmax_itx (f : Fld) (v : Nat) : (fmax s f v).itx = s.itx := by unfold fmax; split <;> rfl
@[simp] theorem fmax_slots (f : Fld) (v : Nat) : (fmax s f v).slots = s.slots := by unfold fmax; split <;> rfl
@[simp] theorem fmax_cvy (f : Fld) (v : Nat) : (fmax s f v).cvy = s.cvy := by unfold fmax; split <;> rfl
@[simp] theorem fmax_ldg (f : Fld) (v : Nat) : (fmax s f v).ldg = s.ldg := by unfold fmax; split <;> rfl
@[simp] theorem fmax_sqs (f : Fld) (v : Nat) : (fmax s f v).sqs = s.sqs := by unfold fmax; split <;> rfl
@[simp] theorem fmax_lnk (f : Fld) (v : Nat) : (fmax s f v).lnk = s.lnk := by unfold fmax; split <;> rfl
@[simp] theorem fmax_flt (f : Fld) (v : Nat) : (fmax s f v).flt = s.flt := by unfold fmax; split <;> rfl
@[simp] theorem fmax_jrn (f : Fld) (v : Nat) : (fmax s f v).jrn = s.jrn := by unfold fmax; split <;> rfl
@[simp] theorem fmax_pwr (f : Fld) (v : Nat) : (fmax s f v).pwr = s.pwr := by unfold fmax; split <;> rfl
@[simp] theorem fmax_wire (f : Fld) (v : Nat) : (fmax s f v).wire = s.wire := by unfold fmax; split <;> rfl
@[simp] theorem fmax_adc (f : Fld) (v : Nat) : (fmax s f v).adc = s.adc := by unfold fmax; split <;> rfl
@[simp] theorem fmax_cmp (f : Fld) (v : Nat) : (fmax s f v).cmp = s.cmp := by unfold fmax; split <;> rfl
@[simp] theorem fmax_fab (f : Fld) (v : Nat) : (fmax s f v).fab = s.fab := by unfold fmax; split <;> rfl
@[simp] theorem fmax_lps (f : Fld) (v : Nat) : (fmax s f v).lps = s.lps := by unfold fmax; split <;> rfl
@[simp] theorem fmax_rgs (f : Fld) (v : Nat) : (fmax s f v).rgs = s.rgs := by unfold fmax; split <;> rfl
@[simp] theorem fmax_chg (f : Fld) (v : Nat) : (fmax s f v).chg = s.chg := by unfold fmax; split <;> rfl
@[simp] theorem fmax_gau (f : Fld) (v : Nat) : (fmax s f v).gau = s.gau := by unfold fmax; split <;> rfl
@[simp] theorem fmax_pds (f : Fld) (v : Nat) : (fmax s f v).pds = s.pds := by unfold fmax; split <;> rfl
@[simp] theorem fmax_img (f : Fld) (v : Nat) : (fmax s f v).img = s.img := by unfold fmax; split <;> rfl
@[simp] theorem fmax_otp (f : Fld) (v : Nat) : (fmax s f v).otp = s.otp := by unfold fmax; split <;> rfl
@[simp] theorem fmax_bus (f : Fld) (v : Nat) : (fmax s f v).bus = s.bus := by unfold fmax; split <;> rfl
@[simp] theorem fmax_flash (f : Fld) (v : Nat) : (fmax s f v).flash = s.flash := by unfold fmax; split <;> rfl

@[simp] theorem fset64_pending (f g : Fld) (v : Nat) : (fset64 s f g v).pending = s.pending := rfl
@[simp] theorem fset64_snap (f g : Fld) (v : Nat) : (fset64 s f g v).snap = s.snap := rfl
@[simp] theorem fset64_comp (f g : Fld) (v : Nat) : (fset64 s f g v).comp = s.comp := rfl
@[simp] theorem fset64_free (f g : Fld) (v : Nat) : (fset64 s f g v).free = s.free := rfl
@[simp] theorem fset64_start (f g : Fld) (v : Nat) : (fset64 s f g v).start = s.start := rfl
@[simp] theorem fset64_time (f g : Fld) (v : Nat) : (fset64 s f g v).time = s.time := rfl
@[simp] theorem fset64_frames (f g : Fld) (v : Nat) : (fset64 s f g v).frames = s.frames := rfl
@[simp] theorem fset64_chx (f g : Fld) (v : Nat) : (fset64 s f g v).chx = s.chx := rfl
@[simp] theorem fset64_itx (f g : Fld) (v : Nat) : (fset64 s f g v).itx = s.itx := rfl
@[simp] theorem fset64_slots (f g : Fld) (v : Nat) : (fset64 s f g v).slots = s.slots := rfl
@[simp] theorem fset64_cvy (f g : Fld) (v : Nat) : (fset64 s f g v).cvy = s.cvy := rfl
@[simp] theorem fset64_ldg (f g : Fld) (v : Nat) : (fset64 s f g v).ldg = s.ldg := rfl
@[simp] theorem fset64_sqs (f g : Fld) (v : Nat) : (fset64 s f g v).sqs = s.sqs := rfl
@[simp] theorem fset64_lnk (f g : Fld) (v : Nat) : (fset64 s f g v).lnk = s.lnk := rfl
@[simp] theorem fset64_flt (f g : Fld) (v : Nat) : (fset64 s f g v).flt = s.flt := rfl
@[simp] theorem fset64_jrn (f g : Fld) (v : Nat) : (fset64 s f g v).jrn = s.jrn := rfl
@[simp] theorem fset64_pwr (f g : Fld) (v : Nat) : (fset64 s f g v).pwr = s.pwr := rfl
@[simp] theorem fset64_wire (f g : Fld) (v : Nat) : (fset64 s f g v).wire = s.wire := rfl
@[simp] theorem fset64_adc (f g : Fld) (v : Nat) : (fset64 s f g v).adc = s.adc := rfl
@[simp] theorem fset64_cmp (f g : Fld) (v : Nat) : (fset64 s f g v).cmp = s.cmp := rfl
@[simp] theorem fset64_fab (f g : Fld) (v : Nat) : (fset64 s f g v).fab = s.fab := rfl
@[simp] theorem fset64_lps (f g : Fld) (v : Nat) : (fset64 s f g v).lps = s.lps := rfl
@[simp] theorem fset64_rgs (f g : Fld) (v : Nat) : (fset64 s f g v).rgs = s.rgs := rfl
@[simp] theorem fset64_chg (f g : Fld) (v : Nat) : (fset64 s f g v).chg = s.chg := rfl
@[simp] theorem fset64_gau (f g : Fld) (v : Nat) : (fset64 s f g v).gau = s.gau := rfl
@[simp] theorem fset64_pds (f g : Fld) (v : Nat) : (fset64 s f g v).pds = s.pds := rfl
@[simp] theorem fset64_img (f g : Fld) (v : Nat) : (fset64 s f g v).img = s.img := rfl
@[simp] theorem fset64_otp (f g : Fld) (v : Nat) : (fset64 s f g v).otp = s.otp := rfl
@[simp] theorem fset64_bus (f g : Fld) (v : Nat) : (fset64 s f g v).bus = s.bus := rfl
@[simp] theorem fset64_flash (f g : Fld) (v : Nat) : (fset64 s f g v).flash = s.flash := rfl

@[simp] theorem fget_complete (st : Nat) (h : Fld) : fget (complete s st) h = fget s h := rfl
@[simp] theorem complete_pending (st : Nat) : (complete s st).pending = s.pending := rfl
@[simp] theorem complete_regs (st : Nat) : (complete s st).regs = s.regs := rfl
@[simp] theorem complete_snap (st : Nat) : (complete s st).snap = s.snap := rfl
@[simp] theorem complete_free (st : Nat) : (complete s st).free = s.free := rfl
@[simp] theorem complete_start (st : Nat) : (complete s st).start = s.start := rfl
@[simp] theorem complete_time (st : Nat) : (complete s st).time = s.time := rfl
@[simp] theorem complete_frames (st : Nat) : (complete s st).frames = s.frames := rfl
@[simp] theorem complete_chx (st : Nat) : (complete s st).chx = s.chx := rfl
@[simp] theorem complete_itx (st : Nat) : (complete s st).itx = s.itx := rfl
@[simp] theorem complete_slots (st : Nat) : (complete s st).slots = s.slots := rfl
@[simp] theorem complete_cvy (st : Nat) : (complete s st).cvy = s.cvy := rfl
@[simp] theorem complete_ldg (st : Nat) : (complete s st).ldg = s.ldg := rfl
@[simp] theorem complete_sqs (st : Nat) : (complete s st).sqs = s.sqs := rfl
@[simp] theorem complete_lnk (st : Nat) : (complete s st).lnk = s.lnk := rfl
@[simp] theorem complete_flt (st : Nat) : (complete s st).flt = s.flt := rfl
@[simp] theorem complete_jrn (st : Nat) : (complete s st).jrn = s.jrn := rfl
@[simp] theorem complete_pwr (st : Nat) : (complete s st).pwr = s.pwr := rfl
@[simp] theorem complete_wire (st : Nat) : (complete s st).wire = s.wire := rfl
@[simp] theorem complete_adc (st : Nat) : (complete s st).adc = s.adc := rfl
@[simp] theorem complete_cmp (st : Nat) : (complete s st).cmp = s.cmp := rfl
@[simp] theorem complete_fab (st : Nat) : (complete s st).fab = s.fab := rfl
@[simp] theorem complete_lps (st : Nat) : (complete s st).lps = s.lps := rfl
@[simp] theorem complete_rgs (st : Nat) : (complete s st).rgs = s.rgs := rfl
@[simp] theorem complete_chg (st : Nat) : (complete s st).chg = s.chg := rfl
@[simp] theorem complete_gau (st : Nat) : (complete s st).gau = s.gau := rfl
@[simp] theorem complete_pds (st : Nat) : (complete s st).pds = s.pds := rfl
@[simp] theorem complete_img (st : Nat) : (complete s st).img = s.img := rfl
@[simp] theorem complete_otp (st : Nat) : (complete s st).otp = s.otp := rfl
@[simp] theorem complete_bus (st : Nat) : (complete s st).bus = s.bus := rfl
@[simp] theorem complete_flash (st : Nat) : (complete s st).flash = s.flash := rfl

@[simp] theorem fget_completeWith (st : Nat) (l : List Nat) (h : Fld) : fget (completeWith s st l) h = fget s h := rfl
@[simp] theorem completeWith_pending (st : Nat) (l : List Nat) : (completeWith s st l).pending = s.pending := rfl
@[simp] theorem completeWith_regs (st : Nat) (l : List Nat) : (completeWith s st l).regs = s.regs := rfl
@[simp] theorem completeWith_snap (st : Nat) (l : List Nat) : (completeWith s st l).snap = s.snap := rfl
@[simp] theorem completeWith_free (st : Nat) (l : List Nat) : (completeWith s st l).free = s.free := rfl
@[simp] theorem completeWith_start (st : Nat) (l : List Nat) : (completeWith s st l).start = s.start := rfl
@[simp] theorem completeWith_time (st : Nat) (l : List Nat) : (completeWith s st l).time = s.time := rfl
@[simp] theorem completeWith_frames (st : Nat) (l : List Nat) : (completeWith s st l).frames = s.frames := rfl
@[simp] theorem completeWith_chx (st : Nat) (l : List Nat) : (completeWith s st l).chx = s.chx := rfl
@[simp] theorem completeWith_itx (st : Nat) (l : List Nat) : (completeWith s st l).itx = s.itx := rfl
@[simp] theorem completeWith_slots (st : Nat) (l : List Nat) : (completeWith s st l).slots = s.slots := rfl
@[simp] theorem completeWith_cvy (st : Nat) (l : List Nat) : (completeWith s st l).cvy = s.cvy := rfl
@[simp] theorem completeWith_ldg (st : Nat) (l : List Nat) : (completeWith s st l).ldg = s.ldg := rfl
@[simp] theorem completeWith_sqs (st : Nat) (l : List Nat) : (completeWith s st l).sqs = s.sqs := rfl
@[simp] theorem completeWith_lnk (st : Nat) (l : List Nat) : (completeWith s st l).lnk = s.lnk := rfl
@[simp] theorem completeWith_flt (st : Nat) (l : List Nat) : (completeWith s st l).flt = s.flt := rfl
@[simp] theorem completeWith_jrn (st : Nat) (l : List Nat) : (completeWith s st l).jrn = s.jrn := rfl
@[simp] theorem completeWith_pwr (st : Nat) (l : List Nat) : (completeWith s st l).pwr = s.pwr := rfl
@[simp] theorem completeWith_wire (st : Nat) (l : List Nat) : (completeWith s st l).wire = s.wire := rfl
@[simp] theorem completeWith_adc (st : Nat) (l : List Nat) : (completeWith s st l).adc = s.adc := rfl
@[simp] theorem completeWith_cmp (st : Nat) (l : List Nat) : (completeWith s st l).cmp = s.cmp := rfl
@[simp] theorem completeWith_fab (st : Nat) (l : List Nat) : (completeWith s st l).fab = s.fab := rfl
@[simp] theorem completeWith_lps (st : Nat) (l : List Nat) : (completeWith s st l).lps = s.lps := rfl
@[simp] theorem completeWith_rgs (st : Nat) (l : List Nat) : (completeWith s st l).rgs = s.rgs := rfl
@[simp] theorem completeWith_chg (st : Nat) (l : List Nat) : (completeWith s st l).chg = s.chg := rfl
@[simp] theorem completeWith_gau (st : Nat) (l : List Nat) : (completeWith s st l).gau = s.gau := rfl
@[simp] theorem completeWith_pds (st : Nat) (l : List Nat) : (completeWith s st l).pds = s.pds := rfl
@[simp] theorem completeWith_img (st : Nat) (l : List Nat) : (completeWith s st l).img = s.img := rfl
@[simp] theorem completeWith_otp (st : Nat) (l : List Nat) : (completeWith s st l).otp = s.otp := rfl
@[simp] theorem completeWith_bus (st : Nat) (l : List Nat) : (completeWith s st l).bus = s.bus := rfl
@[simp] theorem completeWith_flash (st : Nat) (l : List Nat) : (completeWith s st l).flash = s.flash := rfl

@[simp] theorem fget_setChan (n : Nat) (x : ChanX) (h : Fld) : fget (setChan s n x) h = fget s h := rfl
@[simp] theorem setChan_pending (n : Nat) (x : ChanX) : (setChan s n x).pending = s.pending := rfl
@[simp] theorem setChan_regs (n : Nat) (x : ChanX) : (setChan s n x).regs = s.regs := rfl
@[simp] theorem setChan_snap (n : Nat) (x : ChanX) : (setChan s n x).snap = s.snap := rfl
@[simp] theorem setChan_comp (n : Nat) (x : ChanX) : (setChan s n x).comp = s.comp := rfl
@[simp] theorem setChan_free (n : Nat) (x : ChanX) : (setChan s n x).free = s.free := rfl
@[simp] theorem setChan_start (n : Nat) (x : ChanX) : (setChan s n x).start = s.start := rfl
@[simp] theorem setChan_time (n : Nat) (x : ChanX) : (setChan s n x).time = s.time := rfl
@[simp] theorem setChan_frames (n : Nat) (x : ChanX) : (setChan s n x).frames = s.frames := rfl
@[simp] theorem setChan_itx (n : Nat) (x : ChanX) : (setChan s n x).itx = s.itx := rfl
@[simp] theorem setChan_slots (n : Nat) (x : ChanX) : (setChan s n x).slots = s.slots := rfl
@[simp] theorem setChan_cvy (n : Nat) (x : ChanX) : (setChan s n x).cvy = s.cvy := rfl
@[simp] theorem setChan_ldg (n : Nat) (x : ChanX) : (setChan s n x).ldg = s.ldg := rfl
@[simp] theorem setChan_sqs (n : Nat) (x : ChanX) : (setChan s n x).sqs = s.sqs := rfl
@[simp] theorem setChan_lnk (n : Nat) (x : ChanX) : (setChan s n x).lnk = s.lnk := rfl
@[simp] theorem setChan_flt (n : Nat) (x : ChanX) : (setChan s n x).flt = s.flt := rfl
@[simp] theorem setChan_jrn (n : Nat) (x : ChanX) : (setChan s n x).jrn = s.jrn := rfl
@[simp] theorem setChan_pwr (n : Nat) (x : ChanX) : (setChan s n x).pwr = s.pwr := rfl
@[simp] theorem setChan_wire (n : Nat) (x : ChanX) : (setChan s n x).wire = s.wire := rfl
@[simp] theorem setChan_adc (n : Nat) (x : ChanX) : (setChan s n x).adc = s.adc := rfl
@[simp] theorem setChan_cmp (n : Nat) (x : ChanX) : (setChan s n x).cmp = s.cmp := rfl
@[simp] theorem setChan_fab (n : Nat) (x : ChanX) : (setChan s n x).fab = s.fab := rfl
@[simp] theorem setChan_lps (n : Nat) (x : ChanX) : (setChan s n x).lps = s.lps := rfl
@[simp] theorem setChan_rgs (n : Nat) (x : ChanX) : (setChan s n x).rgs = s.rgs := rfl
@[simp] theorem setChan_chg (n : Nat) (x : ChanX) : (setChan s n x).chg = s.chg := rfl
@[simp] theorem setChan_gau (n : Nat) (x : ChanX) : (setChan s n x).gau = s.gau := rfl
@[simp] theorem setChan_pds (n : Nat) (x : ChanX) : (setChan s n x).pds = s.pds := rfl
@[simp] theorem setChan_img (n : Nat) (x : ChanX) : (setChan s n x).img = s.img := rfl
@[simp] theorem setChan_otp (n : Nat) (x : ChanX) : (setChan s n x).otp = s.otp := rfl
@[simp] theorem setChan_bus (n : Nat) (x : ChanX) : (setChan s n x).bus = s.bus := rfl
@[simp] theorem setChan_flash (n : Nat) (x : ChanX) : (setChan s n x).flash = s.flash := rfl

@[simp] theorem fget_setEnt (n : Nat) (x : EntX) (h : Fld) : fget (setEnt s n x) h = fget s h := rfl
@[simp] theorem setEnt_pending (n : Nat) (x : EntX) : (setEnt s n x).pending = s.pending := rfl
@[simp] theorem setEnt_regs (n : Nat) (x : EntX) : (setEnt s n x).regs = s.regs := rfl
@[simp] theorem setEnt_snap (n : Nat) (x : EntX) : (setEnt s n x).snap = s.snap := rfl
@[simp] theorem setEnt_comp (n : Nat) (x : EntX) : (setEnt s n x).comp = s.comp := rfl
@[simp] theorem setEnt_free (n : Nat) (x : EntX) : (setEnt s n x).free = s.free := rfl
@[simp] theorem setEnt_start (n : Nat) (x : EntX) : (setEnt s n x).start = s.start := rfl
@[simp] theorem setEnt_time (n : Nat) (x : EntX) : (setEnt s n x).time = s.time := rfl
@[simp] theorem setEnt_frames (n : Nat) (x : EntX) : (setEnt s n x).frames = s.frames := rfl
@[simp] theorem setEnt_chx (n : Nat) (x : EntX) : (setEnt s n x).chx = s.chx := rfl
@[simp] theorem setEnt_slots (n : Nat) (x : EntX) : (setEnt s n x).slots = s.slots := rfl
@[simp] theorem setEnt_cvy (n : Nat) (x : EntX) : (setEnt s n x).cvy = s.cvy := rfl
@[simp] theorem setEnt_ldg (n : Nat) (x : EntX) : (setEnt s n x).ldg = s.ldg := rfl
@[simp] theorem setEnt_sqs (n : Nat) (x : EntX) : (setEnt s n x).sqs = s.sqs := rfl
@[simp] theorem setEnt_lnk (n : Nat) (x : EntX) : (setEnt s n x).lnk = s.lnk := rfl
@[simp] theorem setEnt_flt (n : Nat) (x : EntX) : (setEnt s n x).flt = s.flt := rfl
@[simp] theorem setEnt_jrn (n : Nat) (x : EntX) : (setEnt s n x).jrn = s.jrn := rfl
@[simp] theorem setEnt_pwr (n : Nat) (x : EntX) : (setEnt s n x).pwr = s.pwr := rfl
@[simp] theorem setEnt_wire (n : Nat) (x : EntX) : (setEnt s n x).wire = s.wire := rfl
@[simp] theorem setEnt_adc (n : Nat) (x : EntX) : (setEnt s n x).adc = s.adc := rfl
@[simp] theorem setEnt_cmp (n : Nat) (x : EntX) : (setEnt s n x).cmp = s.cmp := rfl
@[simp] theorem setEnt_fab (n : Nat) (x : EntX) : (setEnt s n x).fab = s.fab := rfl
@[simp] theorem setEnt_lps (n : Nat) (x : EntX) : (setEnt s n x).lps = s.lps := rfl
@[simp] theorem setEnt_rgs (n : Nat) (x : EntX) : (setEnt s n x).rgs = s.rgs := rfl
@[simp] theorem setEnt_chg (n : Nat) (x : EntX) : (setEnt s n x).chg = s.chg := rfl
@[simp] theorem setEnt_gau (n : Nat) (x : EntX) : (setEnt s n x).gau = s.gau := rfl
@[simp] theorem setEnt_pds (n : Nat) (x : EntX) : (setEnt s n x).pds = s.pds := rfl
@[simp] theorem setEnt_img (n : Nat) (x : EntX) : (setEnt s n x).img = s.img := rfl
@[simp] theorem setEnt_otp (n : Nat) (x : EntX) : (setEnt s n x).otp = s.otp := rfl
@[simp] theorem setEnt_bus (n : Nat) (x : EntX) : (setEnt s n x).bus = s.bus := rfl
@[simp] theorem setEnt_flash (n : Nat) (x : EntX) : (setEnt s n x).flash = s.flash := rfl

@[simp] theorem chan_setChan (n m : Nat) (x : ChanX) : chan (setChan s n x) m = if m = n then x else chan s m := by
  simp only [chan, setChan, tabGet_tabPut]

@[simp] theorem ent_setEnt (n m : Nat) (x : EntX) : ent (setEnt s n x) m = if m = n then x else ent s m := by
  simp only [ent, setEnt, tabGet_tabPut]

@[simp] theorem chan_fset (v n : Nat) : chan (fset s f v) n = chan s n := rfl

@[simp] theorem ent_fset (v n : Nat) : ent (fset s f v) n = ent s n := rfl

end Sys2Proof.Machine
end

