-- ==== Sys2Proof/Laws/Frame.lean ====
section
/-!
SUPPORT. Laws/Frame.lean: what reporting leaves alone. Journal records, frames, and raises of a severity that does not
enter the safe state write the registers of a few blocks only, and of the state beside the registers only the journal, the
chain's queues, the note that a shed level is to be applied and the held wake.
-/
namespace Sys2Proof.Machine

theorem repKey_iff (k : Nat) : repKey k = true ↔
    ((k / 2 ^ 21 = 7 ∨ k / 2 ^ 21 = 0x12 ∨ k / 2 ^ 21 = 0x13 ∨ k / 2 ^ 21 = 0x14 ∨ k / 2 ^ 21 = 0x15) ∧
      ¬(0x120100 * 32 ≤ k ∧ k < 0x1201A0 * 32)) ∨ k = 0x90010 * 32 := by
  unfold repKey; exact decide_eq_true_iff

/-- The state without what reporting may change beside the registers. -/
def repCore (s : State) : State :=
  { s with regs := [], jrn := {}, lnk := {}, pwr := {}, ldg := { s.ldg with lvl := false } }

/-- `t` differs from `s` in nothing but what reporting may change. -/
structure Rep (s t : State) : Prop where
  regs : ∀ k, repKey k = false → tabGet fieldReset t.regs k = tabGet fieldReset s.regs k
  core : repCore t = repCore s

variable {s t u : State}

theorem Rep.refl (s : State) : Rep s s := ⟨fun _ _ => rfl, rfl⟩

theorem Rep.trans (h : Rep s t) (k : Rep t u) : Rep s u :=
  ⟨fun x hx => (k.regs x hx).trans (h.regs x hx), k.core.trans h.core⟩

/-- A field outside what reporting may write reads as before. -/
theorem Rep.fget (h : Rep s t) {f : Fld} (hf : repKey (fkey f) = false) : fget t f = fget s f := by
  simp only [Machine.fget, h.regs _ hf]

theorem Rep.reqs (h : Rep s t) : t.ldg.reqs = s.ldg.reqs := by
  have e := congrArg (fun x : State => x.ldg.reqs) h.core
  exact e
theorem Rep.pending (h : Rep s t) : t.pending = s.pending := by
  have e := congrArg State.pending h.core
  exact e
theorem Rep.snap (h : Rep s t) : t.snap = s.snap := by
  have e := congrArg State.snap h.core
  exact e
theorem Rep.comp (h : Rep s t) : t.comp = s.comp := by
  have e := congrArg State.comp h.core
  exact e
theorem Rep.free (h : Rep s t) : t.free = s.free := by
  have e := congrArg State.free h.core
  exact e
theorem Rep.start (h : Rep s t) : t.start = s.start := by
  have e := congrArg State.start h.core
  exact e
theorem Rep.time (h : Rep s t) : t.time = s.time := by
  have e := congrArg State.time h.core
  exact e
theorem Rep.frames (h : Rep s t) : t.frames = s.frames := by
  have e := congrArg State.frames h.core
  exact e
theorem Rep.chx (h : Rep s t) : t.chx = s.chx := by
  have e := congrArg State.chx h.core
  exact e
theorem Rep.itx (h : Rep s t) : t.itx = s.itx := by
  have e := congrArg State.itx h.core
  exact e
theorem Rep.slots (h : Rep s t) : t.slots = s.slots := by
  have e := congrArg State.slots h.core
  exact e
theorem Rep.cvy (h : Rep s t) : t.cvy = s.cvy := by
  have e := congrArg State.cvy h.core
  exact e
theorem Rep.sqs (h : Rep s t) : t.sqs = s.sqs := by
  have e := congrArg State.sqs h.core
  exact e
theorem Rep.flt (h : Rep s t) : t.flt = s.flt := by
  have e := congrArg State.flt h.core
  exact e
theorem Rep.wire (h : Rep s t) : t.wire = s.wire := by
  have e := congrArg State.wire h.core
  exact e
theorem Rep.adc (h : Rep s t) : t.adc = s.adc := by
  have e := congrArg State.adc h.core
  exact e
theorem Rep.cmp (h : Rep s t) : t.cmp = s.cmp := by
  have e := congrArg State.cmp h.core
  exact e
theorem Rep.fab (h : Rep s t) : t.fab = s.fab := by
  have e := congrArg State.fab h.core
  exact e
theorem Rep.lps (h : Rep s t) : t.lps = s.lps := by
  have e := congrArg State.lps h.core
  exact e
theorem Rep.rgs (h : Rep s t) : t.rgs = s.rgs := by
  have e := congrArg State.rgs h.core
  exact e
theorem Rep.chg (h : Rep s t) : t.chg = s.chg := by
  have e := congrArg State.chg h.core
  exact e
theorem Rep.gau (h : Rep s t) : t.gau = s.gau := by
  have e := congrArg State.gau h.core
  exact e
theorem Rep.pds (h : Rep s t) : t.pds = s.pds := by
  have e := congrArg State.pds h.core
  exact e
theorem Rep.img (h : Rep s t) : t.img = s.img := by
  have e := congrArg State.img h.core
  exact e
theorem Rep.otp (h : Rep s t) : t.otp = s.otp := by
  have e := congrArg State.otp h.core
  exact e
theorem Rep.bus (h : Rep s t) : t.bus = s.bus := by
  have e := congrArg State.bus h.core
  exact e
theorem Rep.flash (h : Rep s t) : t.flash = s.flash := by
  have e := congrArg State.flash h.core
  exact e

theorem Rep.severity (h : Rep s t) (i : Nat) (hi : i < 640) : severity t i = severity s i := by
  unfold Machine.severity
  split
  · rfl
  · exact h.fget (by
      rw [← Bool.not_eq_true, repKey_iff]; simp only [fkey]; omega)

theorem Rep.stage (h : Rep s t) : stage t = stage s := h.fget (by decide)

/-- Two states that agree in registers and core report alike. -/
theorem Rep.congr (h : Rep s t) (hr : u.regs = t.regs) (hc : repCore u = repCore t) : Rep s u :=
  ⟨fun k hk => by rw [hr]; exact h.regs k hk, hc.trans h.core⟩

theorem Rep.fset (h : Rep s t) {f : Fld} (v : Nat) (hf : repKey (fkey f) = true) : Rep s (Machine.fset t f v) :=
  ⟨fun k hk => by
    have : k ≠ fkey f := fun e => by rw [e, hf] at hk; cases hk
    rw [Machine.fset, tabGet_tabPut_ne _ _ _ this]; exact h.regs k hk, h.core⟩

theorem Rep.fsetB (h : Rep s t) {f : Fld} (b : Bool) (hf : repKey (fkey f) = true) : Rep s (Machine.fsetB t f b) :=
  h.fset _ hf

theorem Rep.finc (h : Rep s t) {f : Fld} (hf : repKey (fkey f) = true) : Rep s (Machine.finc t f) := by
  unfold Machine.finc; split
  · exact h.fset _ hf
  · exact h

theorem Rep.fset64 (h : Rep s t) {f g : Fld} (v : Nat) (hf : repKey (fkey f) = true) (hg : repKey (fkey g) = true) :
    Rep s (Machine.fset64 t f g v) := (h.fset _ hf).fset _ hg

theorem Rep.ite {c : Prop} [Decidable c] (h : Rep s t) (k : Rep s u) : Rep s (if c then t else u) := by
  split <;> assumption

/-! ### Frames and records -/

theorem Rep.setPortQ (h : Rep s t) (p : Nat) (q : PortQ) : Rep s (setPortQ t p q) := by
  unfold Machine.setPortQ; split <;> exact h.congr rfl rfl

theorem Rep.pushPort (h : Rep s t) (p : Nat) (f : Frame) : Rep s (pushPort t p f).1 := by
  unfold Machine.pushPort; split
  · exact h
  · dsimp only; split
    · exact h.setPortQ _ _
    · dsimp only; split
      · exact h.finc (by decide)
      · split <;> exact h.finc (by decide)

theorem Rep.pushAll (h : Rep s t) (f : Frame) (l : List (Nat × Bool)) : Rep s (pushAll t f l).1 := by
  induction l generalizing t with
  | nil => exact h
  | cons e l ih => exact ih (h.pushPort _ _)

theorem Rep.enqueue (h : Rep s t) (o : Out) : Rep s (enqueue t o).1 := by
  unfold Machine.enqueue; split
  · exact h
  · exact (h.congr (u := { t with lnk := { t.lnk with seq := (t.lnk.seq + 1) % 65536 } }) rfl rfl).pushAll _ _

theorem Rep.jrnlForward (h : Rep s t) (r : JRec) : Rep s (jrnlForward t r) := by
  unfold Machine.jrnlForward; split
  · exact h.enqueue _
  · exact h

theorem Rep.jrnlFill (h : Rep s t) : Rep s (jrnlFill t) := by
  unfold Machine.jrnlFill; split
  · exact h.congr rfl rfl
  · exact h

theorem Rep.jrnlQueue (h : Rep s t) (r : JRec) : Rep s (jrnlQueue t r) := by
  unfold Machine.jrnlQueue; split
  · exact (h.congr (u := { t with jrn := { t.jrn with loss := true } }) rfl rfl).finc (by decide)
  · exact ((h.congr (u := { t with jrn := { t.jrn with queue := _, loss := false } }) rfl rfl).jrnlForward _).jrnlFill

/-- Journalling one event is reporting. -/
theorem Rep.journal (h : Rep s t) (typ sub event code : Nat) (vals : List Nat) : Rep s (journal t typ sub event code vals) := by
  unfold Machine.journal; split
  · exact h.congr rfl rfl
  · dsimp only; split
    · exact h.jrnlForward _
    · exact h.jrnlQueue _

theorem Rep.setShedLevel (h : Rep s t) (c : Nat) : Rep s (setShedLevel t c).1 := by
  unfold Machine.setShedLevel; split
  · exact h
  · have k : Rep s (Machine.fset { t with ldg := { t.ldg with lvl := true } } LEDG.SHED.LEVEL c) :=
      (h.congr (u := { t with ldg := { t.ldg with lvl := true } }) rfl rfl).fset _ (by decide)
    dsimp only; split
    · exact k
    · exact k.journal _ _ _ _ _

/-! ### Wakes and raises -/

theorem Rep.sendBeacon (h : Rep s t) (b : Nat) (d : List Nat) : Rep s (sendBeacon t b d) := by
  unfold Machine.sendBeacon; dsimp only
  have h0 := h.congr (u := { t with lnk := { t.lnk with bseq := (t.lnk.bseq + 1) % 256 } }) rfl rfl
  split <;> split <;> first | exact h0 | exact h0.setPortQ _ _ | exact (h0.setPortQ _ _).setPortQ _ _

theorem Rep.ponAssert (h : Rep s t) : Rep s (ponAssert t) := by
  unfold Machine.ponAssert; split
  · exact h
  · exact h.fset _ (by decide)

theorem Rep.portWake (h : Rep s t) (p : Nat) (hp : p < 2) : Rep s (portWake t p) := by
  unfold Machine.portWake; dsimp only; split
  · exact (h.setPortQ _ _).fset _ (by
      rcases (show p = 0 ∨ p = 1 by omega) with rfl | rfl <;> decide)
  · exact h

theorem Rep.wakeNight (h : Rep s t) (c n : Nat) (b : Bool) : Rep s (wakeNight t c n b) := by
  unfold Machine.wakeNight; split
  · exact h.finc (by decide)
  · dsimp only
    have h1 : Rep s (Machine.fset (Machine.fset (Machine.fset t RTC.WAKE.CAUSE c) RTC.WAKE.UNIT n) RTC.EVT.WAKE 1) :=
      ((h.fset _ (by decide)).fset _ (by decide)).fset _ (by decide)
    have h2 := h1.congr (u := { Machine.fset (Machine.fset (Machine.fset t RTC.WAKE.CAUSE c) RTC.WAKE.UNIT n) RTC.EVT.WAKE 1 with
      pwr := { (Machine.fset (Machine.fset (Machine.fset t RTC.WAKE.CAUSE c) RTC.WAKE.UNIT n) RTC.EVT.WAKE 1).pwr with waking := true } }) rfl rfl
    refine Rep.portWake (Rep.portWake ?_ 0 (by decide)) 1 (by decide)
    have h3 : ∀ x, Rep s x → Rep s (Machine.sendBeacon x 0x80 [c, 0, 0, 0, 0, 0, 0, 0]) := fun x hx => hx.sendBeacon _ _
    split
    · refine h3 _ (Rep.journal (Rep.ite (Rep.ponAssert h2) h2) _ _ _ _ _)
    · exact Rep.journal (Rep.ite (Rep.ponAssert h2) h2) _ _ _ _ _

/-- A wake cause is reporting but in Evening, where it may return to Noon. -/
theorem Rep.wakeCause (h : Rep s t) (c n : Nat) (hs : Machine.stage s ≠ 3) : Rep s (wakeCause t c n) := by
  unfold Machine.wakeCause; split
  · split
    · exact h.congr rfl rfl
    · exact h.finc (by decide)
  · split
    · exact h.wakeNight _ _ _
    · split
      · exact absurd (h.stage ▸ (by assumption : Machine.stage t = 3 ∧ _).1) hs
      · exact h

theorem repKey_lat (i : Nat) (hi : i < 640) : repKey (fkey (FLT.LAT i)) = true := by
  rw [repKey_iff]; simp only [fkey]; omega

theorem repKey_raw (i : Nat) (hi : i < 640) : repKey (fkey (FLT.RAW i)) = true := by
  rw [repKey_iff]; simp only [fkey]; omega

theorem Rep.recordRaise (h : Rep s t) (i sev : Nat) (inj brk : Bool) (hi : i < 640) : Rep s (recordRaise t i sev inj brk) := by
  unfold Machine.recordRaise; dsimp only
  refine Rep.journal ?_ _ _ _ _ _
  have h2 := ((((h.fset 1 (repKey_lat i hi)).fset (f := FLT.LAST.SEV) sev (by decide)).fsetB (f := FLT.LAST.INJ) inj (by decide)).fsetB
    (f := FLT.LAST.BRK) brk (by decide)).fset (f := FLT.LAST.INDEX) i (by decide)
  split
  · exact (h2.fset _ (by decide)).finc (by decide)
  · refine Rep.finc ?_ (by decide)
    split <;> exact h2.fset _ (by decide)

theorem Rep.containedReaction (h : Rep s t) : Rep s (containedReaction t) := by
  unfold Machine.containedReaction; dsimp only
  have h1 : Rep s (if fon t FLT.CFG.CONT_ATTN = true then Machine.fset t BUS.ATTN.FAULT 1 else t) :=
    Rep.ite (h.fset _ (by decide)) h
  split
  · exact h1
  · exact h1.setShedLevel _

/-- A raise of a severity below fatal is reporting. -/
theorem Rep.raiseCore (h : Rep s t) (i : Nat) (inj brk : Bool) (hi : i < 640) (hf : Machine.severity s i ≠ 3) :
    Rep s (raiseCore t i inj brk).1 := by
  unfold Machine.raiseCore; split
  · exact h
  · have h0 := h.fset 1 (repKey_raw i hi)
    have hsev : Machine.severity t i = Machine.severity s i := h.severity i hi
    dsimp only; split
    · exact h0
    · split
      · exact h0.recordRaise _ _ _ _ hi
      · rw [hsev]
        simp only [hf, if_false]
        have h2 := (h0.recordRaise i (Machine.severity s i) inj brk hi).containedReaction
        split
        · exact h2.fset _ (by decide)
        · exact h2

theorem Rep.sendFaultSum (h : Rep s t) : Rep s (sendFaultSum t).1 := h.enqueue _

theorem Rep.summarise (h : Rep s t) (hf : Machine.severity s 0x261 ≠ 3) : Rep s (summarise t) := by
  unfold Machine.summarise; dsimp only; split
  · split
    · exact ((h.sendFaultSum).raiseCore _ _ _ (by decide) hf).sendFaultSum
    · exact (h.sendFaultSum).raiseCore _ _ _ (by decide) hf
  · exact h.sendFaultSum

theorem Calm.index {i : Nat} (c : Calm s i) : i < 640 := c.1

theorem Calm.severity {i : Nat} (c : Calm s i) : Machine.severity s i ≠ 3 := c.2.1

theorem Calm.drop {i : Nat} (c : Calm s i) : Machine.severity s 0x261 ≠ 3 := c.2.2.1

theorem Calm.stage {i : Nat} (c : Calm s i) : Machine.stage s ≠ 3 := c.2.2.2

theorem Calm.mono {i : Nat} (c : Calm s i) (h : Rep s t) : Calm t i :=
  ⟨c.index, by rw [h.severity i c.index]; exact c.severity, by rw [h.severity _ (by decide)]; exact c.drop,
    by rw [h.stage]; exact c.stage⟩

theorem Rep.raiseWith (h : Rep s t) (i : Nat) (inj brk : Bool) (c : Calm s i) : Rep s (raiseWith t i inj brk) := by
  unfold Machine.raiseWith; dsimp only
  have h1 := h.raiseCore i inj brk c.index c.severity
  split
  · unfold Machine.faultWake
    split
    · exact (h1.summarise c.drop).wakeCause _ _ c.stage
    · exact h1.summarise c.drop
  · exact h1

theorem Rep.lower (h : Rep s t) (i : Nat) (hi : i < 640) : Rep s (lower t i) := by
  unfold Machine.lower; split
  · exact h
  · exact h.fset _ (repKey_raw i hi)

theorem Rep.raiseEvent (h : Rep s t) (i : Nat) (inj brk : Bool) (c : Calm s i) : Rep s (raiseEvent t i inj brk) := by
  unfold Machine.raiseEvent; split
  · exact h
  · exact (h.raiseWith i inj brk c).lower i c.index

/-- A raise of a source that is not fatal only reports. -/
theorem Rep.raise (h : Rep s t) (i : Nat) (c : Calm s i) : Rep s (raise t i) := h.raiseEvent i _ _ c

theorem Rep.raiseLevel (h : Rep s t) (i : Nat) (c : Calm s i) : Rep s (raiseLevel t i) := h.raiseWith i _ _ c

theorem Rep.send (h : Rep s t) (o : Out) (c : Calm s 0x261) : Rep s (send t o) := by
  unfold Machine.send; dsimp only; split
  · exact (h.enqueue o).raise _ c
  · exact h.enqueue o

/-! ### What is read after reporting -/

theorem fget_journal (s : State) (typ sub event code : Nat) (vals : List Nat) {f : Fld} (h : repKey (fkey f) = false) :
    fget (journal s typ sub event code vals) f = fget s f := ((Rep.refl s).journal ..).fget h

theorem fget_raise (s : State) {i : Nat} (c : Calm s i) {f : Fld} (h : repKey (fkey f) = false) :
    fget (raise s i) f = fget s f := ((Rep.refl s).raise i c).fget h

theorem fget_raiseEvent (s : State) {i : Nat} (inj brk : Bool) (c : Calm s i) {f : Fld} (h : repKey (fkey f) = false) :
    fget (raiseEvent s i inj brk) f = fget s f := ((Rep.refl s).raiseEvent i _ _ c).fget h

theorem fget_raiseLevel (s : State) {i : Nat} (c : Calm s i) {f : Fld} (h : repKey (fkey f) = false) :
    fget (raiseLevel s i) f = fget s f := ((Rep.refl s).raiseLevel i c).fget h

theorem fget_enqueue (s : State) (o : Out) {f : Fld} (h : repKey (fkey f) = false) : fget (enqueue s o).1 f = fget s f :=
  ((Rep.refl s).enqueue o).fget h

theorem fget_send (s : State) (o : Out) (c : Calm s 0x261) {f : Fld} (h : repKey (fkey f) = false) :
    fget (send s o) f = fget s f := ((Rep.refl s).send o c).fget h

theorem fget_setShedLevel (s : State) (n : Nat) {f : Fld} (h : repKey (fkey f) = false) :
    fget (setShedLevel s n).1 f = fget s f := ((Rep.refl s).setShedLevel n).fget h

@[simp] theorem journal_pending (s : State) (typ sub event code : Nat) (vals : List Nat) :
    (journal s typ sub event code vals).pending = s.pending := ((Rep.refl s).journal ..).pending

theorem raise_pending (s : State) {i : Nat} (c : Calm s i) : (raise s i).pending = s.pending := ((Rep.refl s).raise i c).pending

@[simp] theorem journal_snap (s : State) (typ sub event code : Nat) (vals : List Nat) :
    (journal s typ sub event code vals).snap = s.snap := ((Rep.refl s).journal ..).snap

theorem raise_snap (s : State) {i : Nat} (c : Calm s i) : (raise s i).snap = s.snap := ((Rep.refl s).raise i c).snap

@[simp] theorem journal_comp (s : State) (typ sub event code : Nat) (vals : List Nat) :
    (journal s typ sub event code vals).comp = s.comp := ((Rep.refl s).journal ..).comp

theorem raise_comp (s : State) {i : Nat} (c : Calm s i) : (raise s i).comp = s.comp := ((Rep.refl s).raise i c).comp

@[simp] theorem journal_free (s : State) (typ sub event code : Nat) (vals : List Nat) :
    (journal s typ sub event code vals).free = s.free := ((Rep.refl s).journal ..).free

theorem raise_free (s : State) {i : Nat} (c : Calm s i) : (raise s i).free = s.free := ((Rep.refl s).raise i c).free

@[simp] theorem journal_start (s : State) (typ sub event code : Nat) (vals : List Nat) :
    (journal s typ sub event code vals).start = s.start := ((Rep.refl s).journal ..).start

theorem raise_start (s : State) {i : Nat} (c : Calm s i) : (raise s i).start = s.start := ((Rep.refl s).raise i c).start

@[simp] theorem journal_time (s : State) (typ sub event code : Nat) (vals : List Nat) :
    (journal s typ sub event code vals).time = s.time := ((Rep.refl s).journal ..).time

theorem raise_time (s : State) {i : Nat} (c : Calm s i) : (raise s i).time = s.time := ((Rep.refl s).raise i c).time

@[simp] theorem journal_frames (s : State) (typ sub event code : Nat) (vals : List Nat) :
    (journal s typ sub event code vals).frames = s.frames := ((Rep.refl s).journal ..).frames

theorem raise_frames (s : State) {i : Nat} (c : Calm s i) : (raise s i).frames = s.frames := ((Rep.refl s).raise i c).frames

@[simp] theorem journal_chx (s : State) (typ sub event code : Nat) (vals : List Nat) :
    (journal s typ sub event code vals).chx = s.chx := ((Rep.refl s).journal ..).chx

theorem raise_chx (s : State) {i : Nat} (c : Calm s i) : (raise s i).chx = s.chx := ((Rep.refl s).raise i c).chx

@[simp] theorem journal_itx (s : State) (typ sub event code : Nat) (vals : List Nat) :
    (journal s typ sub event code vals).itx = s.itx := ((Rep.refl s).journal ..).itx

theorem raise_itx (s : State) {i : Nat} (c : Calm s i) : (raise s i).itx = s.itx := ((Rep.refl s).raise i c).itx

@[simp] theorem journal_slots (s : State) (typ sub event code : Nat) (vals : List Nat) :
    (journal s typ sub event code vals).slots = s.slots := ((Rep.refl s).journal ..).slots

theorem raise_slots (s : State) {i : Nat} (c : Calm s i) : (raise s i).slots = s.slots := ((Rep.refl s).raise i c).slots

@[simp] theorem journal_cvy (s : State) (typ sub event code : Nat) (vals : List Nat) :
    (journal s typ sub event code vals).cvy = s.cvy := ((Rep.refl s).journal ..).cvy

theorem raise_cvy (s : State) {i : Nat} (c : Calm s i) : (raise s i).cvy = s.cvy := ((Rep.refl s).raise i c).cvy

@[simp] theorem journal_sqs (s : State) (typ sub event code : Nat) (vals : List Nat) :
    (journal s typ sub event code vals).sqs = s.sqs := ((Rep.refl s).journal ..).sqs

theorem raise_sqs (s : State) {i : Nat} (c : Calm s i) : (raise s i).sqs = s.sqs := ((Rep.refl s).raise i c).sqs

@[simp] theorem journal_flt (s : State) (typ sub event code : Nat) (vals : List Nat) :
    (journal s typ sub event code vals).flt = s.flt := ((Rep.refl s).journal ..).flt

theorem raise_flt (s : State) {i : Nat} (c : Calm s i) : (raise s i).flt = s.flt := ((Rep.refl s).raise i c).flt

@[simp] theorem journal_wire (s : State) (typ sub event code : Nat) (vals : List Nat) :
    (journal s typ sub event code vals).wire = s.wire := ((Rep.refl s).journal ..).wire

theorem raise_wire (s : State) {i : Nat} (c : Calm s i) : (raise s i).wire = s.wire := ((Rep.refl s).raise i c).wire

@[simp] theorem journal_adc (s : State) (typ sub event code : Nat) (vals : List Nat) :
    (journal s typ sub event code vals).adc = s.adc := ((Rep.refl s).journal ..).adc

theorem raise_adc (s : State) {i : Nat} (c : Calm s i) : (raise s i).adc = s.adc := ((Rep.refl s).raise i c).adc

@[simp] theorem journal_cmp (s : State) (typ sub event code : Nat) (vals : List Nat) :
    (journal s typ sub event code vals).cmp = s.cmp := ((Rep.refl s).journal ..).cmp

theorem raise_cmp (s : State) {i : Nat} (c : Calm s i) : (raise s i).cmp = s.cmp := ((Rep.refl s).raise i c).cmp

@[simp] theorem journal_fab (s : State) (typ sub event code : Nat) (vals : List Nat) :
    (journal s typ sub event code vals).fab = s.fab := ((Rep.refl s).journal ..).fab

theorem raise_fab (s : State) {i : Nat} (c : Calm s i) : (raise s i).fab = s.fab := ((Rep.refl s).raise i c).fab

@[simp] theorem journal_lps (s : State) (typ sub event code : Nat) (vals : List Nat) :
    (journal s typ sub event code vals).lps = s.lps := ((Rep.refl s).journal ..).lps

theorem raise_lps (s : State) {i : Nat} (c : Calm s i) : (raise s i).lps = s.lps := ((Rep.refl s).raise i c).lps

@[simp] theorem journal_rgs (s : State) (typ sub event code : Nat) (vals : List Nat) :
    (journal s typ sub event code vals).rgs = s.rgs := ((Rep.refl s).journal ..).rgs

theorem raise_rgs (s : State) {i : Nat} (c : Calm s i) : (raise s i).rgs = s.rgs := ((Rep.refl s).raise i c).rgs

@[simp] theorem journal_chg (s : State) (typ sub event code : Nat) (vals : List Nat) :
    (journal s typ sub event code vals).chg = s.chg := ((Rep.refl s).journal ..).chg

theorem raise_chg (s : State) {i : Nat} (c : Calm s i) : (raise s i).chg = s.chg := ((Rep.refl s).raise i c).chg

@[simp] theorem journal_gau (s : State) (typ sub event code : Nat) (vals : List Nat) :
    (journal s typ sub event code vals).gau = s.gau := ((Rep.refl s).journal ..).gau

theorem raise_gau (s : State) {i : Nat} (c : Calm s i) : (raise s i).gau = s.gau := ((Rep.refl s).raise i c).gau

@[simp] theorem journal_pds (s : State) (typ sub event code : Nat) (vals : List Nat) :
    (journal s typ sub event code vals).pds = s.pds := ((Rep.refl s).journal ..).pds

theorem raise_pds (s : State) {i : Nat} (c : Calm s i) : (raise s i).pds = s.pds := ((Rep.refl s).raise i c).pds

@[simp] theorem journal_img (s : State) (typ sub event code : Nat) (vals : List Nat) :
    (journal s typ sub event code vals).img = s.img := ((Rep.refl s).journal ..).img

theorem raise_img (s : State) {i : Nat} (c : Calm s i) : (raise s i).img = s.img := ((Rep.refl s).raise i c).img

@[simp] theorem journal_otp (s : State) (typ sub event code : Nat) (vals : List Nat) :
    (journal s typ sub event code vals).otp = s.otp := ((Rep.refl s).journal ..).otp

theorem raise_otp (s : State) {i : Nat} (c : Calm s i) : (raise s i).otp = s.otp := ((Rep.refl s).raise i c).otp

@[simp] theorem journal_bus (s : State) (typ sub event code : Nat) (vals : List Nat) :
    (journal s typ sub event code vals).bus = s.bus := ((Rep.refl s).journal ..).bus

theorem raise_bus (s : State) {i : Nat} (c : Calm s i) : (raise s i).bus = s.bus := ((Rep.refl s).raise i c).bus

@[simp] theorem journal_flash (s : State) (typ sub event code : Nat) (vals : List Nat) :
    (journal s typ sub event code vals).flash = s.flash := ((Rep.refl s).journal ..).flash

theorem raise_flash (s : State) {i : Nat} (c : Calm s i) : (raise s i).flash = s.flash := ((Rep.refl s).raise i c).flash

@[simp] theorem journal_reqs (s : State) (typ sub event code : Nat) (vals : List Nat) :
    (journal s typ sub event code vals).ldg.reqs = s.ldg.reqs := ((Rep.refl s).journal ..).reqs

theorem raise_reqs (s : State) {i : Nat} (c : Calm s i) : (raise s i).ldg.reqs = s.ldg.reqs := ((Rep.refl s).raise i c).reqs

/-- Calm is a matter of the severities and the stage. -/
theorem Calm.of_eq {i : Nat} (c : Calm s i) (hs : ∀ j, j < 640 → Machine.severity t j = Machine.severity s j)
    (hg : Machine.stage t = Machine.stage s) : Calm t i :=
  ⟨c.index, by rw [hs i c.index]; exact c.severity, by rw [hs _ (by decide)]; exact c.drop, by rw [hg]; exact c.stage⟩

theorem severity_fset (s : State) {f : Fld} (v j : Nat) (hj : j < 640)
    (h : ¬(0x120100 * 32 ≤ fkey f ∧ fkey f < 0x1201A0 * 32)) : severity (Machine.fset s f v) j = severity s j := by
  unfold Machine.severity
  split
  · rfl
  · exact fget_fset_ne s v (by simp only [fkey] at h ⊢; omega)

/-- A write of a register that is neither a severity nor the stage leaves a calm state calm. -/
theorem Calm.fset {i : Nat} (c : Calm s i) {f : Fld} (v : Nat) (h : ¬(0x120100 * 32 ≤ fkey f ∧ fkey f < 0x1201A0 * 32))
    (hg : fkey f ≠ 128) : Calm (Machine.fset s f v) i :=
  c.of_eq (fun j hj => severity_fset s v j hj h) (fget_fset_ne s v (fun e => hg e.symm))

theorem Calm.journal {i : Nat} (c : Calm s i) (typ sub event code : Nat) (vals : List Nat) :
    Calm (Machine.journal s typ sub event code vals) i := c.mono ((Rep.refl s).journal ..)

theorem Calm.raise {i j : Nat} (c : Calm s i) (d : Calm s j) : Calm (Machine.raise s j) i := c.mono ((Rep.refl s).raise j d)

/-- A state with the registers of a calm state is calm. -/
theorem Calm.regs {i : Nat} (c : Calm s i) (h : t.regs = s.regs) : Calm t i :=
  c.of_eq (fun j _ => by unfold Machine.severity; split; rfl; exact fget_congr _ h) (fget_congr _ h)

end Sys2Proof.Machine
end

