-- ==== Sys2Proof/Laws/Keeps.lean ====
section
/-!
SUPPORT. Laws/Keeps.lean: what no command may do to the state, as one relation that every operation composes: the queue of
waiting commands is not touched, the register table keeps its canonical form, and a fuse bit once programmed stays (R630).
-/
namespace Sys2Proof.Machine

/-- `t` has the queue of `s`, a register table in canonical form where `s` has one, and every fuse bit of `s`. -/
structure Keeps (s t : State) : Prop where
  pending : t.pending = s.pending
  regs : tabWf fieldReset s.regs = true → tabWf fieldReset t.regs = true
  fuses : ∀ i, fuse s i ||| fuse t i = fuse t i

/-- The outcome of a command keeps what `Keeps` says, if it is a next state. -/
structure KeepsO (s : State) (o : Host.Outcome State Fault Refusal) : Prop where
  next_keeps : ∀ t, o = .next t → Keeps s t

variable {s t u : State}

theorem Keeps.refl (s : State) : Keeps s s := ⟨rfl, id, fun _ => Nat.or_self _⟩

theorem Keeps.trans (h : Keeps s t) (k : Keeps t u) : Keeps s u :=
  ⟨k.pending.trans h.pending, fun w => k.regs (h.regs w), fun i => by
    rw [← k.fuses i, ← Nat.or_assoc, h.fuses i]⟩

/-- A state that differs from `t` in nothing that `Keeps` speaks of. -/
theorem Keeps.same (h : Keeps s t) (hp : u.pending = t.pending) (hr : u.regs = t.regs)
    (ho : u.otp.fuses = t.otp.fuses) : Keeps s u :=
  ⟨hp.trans h.pending, fun w => by rw [hr]; exact h.regs w, fun i => by
    have := h.fuses i
    simpa only [fuse, ho] using this⟩

theorem Keeps.ite {c : Prop} [Decidable c] (h : Keeps s t) (k : Keeps s u) : Keeps s (if c then t else u) := by
  split <;> assumption

theorem Keeps.ite1 {α : Type} {c : Prop} [Decidable c] {a b : State × α} (h : Keeps s a.1) (k : Keeps s b.1) :
    Keeps s (if c then a else b).1 := by split <;> assumption

theorem Keeps.ite2 {α : Type} {c : Prop} [Decidable c] {a b : α × State} (h : Keeps s a.2) (k : Keeps s b.2) :
    Keeps s (if c then a else b).2 := by split <;> assumption

theorem Keeps.foldl {α : Type} {l : List α} {f : State → α → State} (h : Keeps s t)
    (hf : ∀ u a, Keeps s u → Keeps s (f u a)) : Keeps s (l.foldl f t) := by
  induction l generalizing t with
  | nil => exact h
  | cons a l ih => exact ih (hf t a h)

theorem Keeps.foldl1 {α β : Type} {l : List β} {p : State × α} {f : State × α → β → State × α} (h : Keeps s p.1)
    (hf : ∀ u a, Keeps s u.1 → Keeps s (f u a).1) : Keeps s (l.foldl f p).1 := by
  induction l generalizing p with
  | nil => exact h
  | cons a l ih => exact ih (hf p a h)

theorem KeepsO.next (h : Keeps s t) : KeepsO s (.next t) := ⟨fun _ e => by cases e; exact h⟩

theorem KeepsO.ite {c : Prop} [Decidable c] {a b : Host.Outcome State Fault Refusal} (h : KeepsO s a) (k : KeepsO s b) :
    KeepsO s (if c then a else b) := by split <;> assumption

/-- `Keeps` in terms of the three parts of the state it speaks of. -/
def KeepsP (s : State) (p : List Instr) (r : List (Nat × Nat)) (o : List (Nat × Nat)) : Prop :=
  p = s.pending ∧ (tabWf fieldReset s.regs = true → tabWf fieldReset r = true) ∧
    ∀ i, fuse s i ||| tabGet (fun _ => 0) o i = tabGet (fun _ => 0) o i

theorem keepsP_iff : KeepsP s t.pending t.regs t.otp.fuses = Keeps s t :=
  propext ⟨fun h => ⟨h.1, h.2.1, h.2.2⟩, fun h => ⟨h.1, h.2, h.3⟩⟩

/-- A record update shows what it leaves of the three parts. -/
theorem keeps_mk {x_pending} {x_regs} {x_snap} {x_comp} {x_free} {x_start} {x_time} {x_frames} {x_chx} {x_itx} {x_slots}
    {x_cvy} {x_ldg} {x_sqs} {x_lnk} {x_flt} {x_jrn} {x_pwr} {x_wire} {x_adc} {x_cmp} {x_fab} {x_lps} {x_rgs}
    {x_chg} {x_gau} {x_pds} {x_img} {x_otp} {x_bus} {x_flash} :
    Keeps s (State.mk x_pending x_regs x_snap x_comp x_free x_start x_time x_frames x_chx x_itx x_slots x_cvy x_ldg x_sqs
      x_lnk x_flt x_jrn x_pwr x_wire x_adc x_cmp x_fab x_lps x_rgs x_chg x_gau x_pds x_img x_otp x_bus
      x_flash) = KeepsP s x_pending x_regs x_otp.fuses :=
  (keepsP_iff (t := State.mk x_pending x_regs x_snap x_comp x_free x_start x_time x_frames x_chx x_itx x_slots x_cvy x_ldg x_sqs
      x_lnk x_flt x_jrn x_pwr x_wire x_adc x_cmp x_fab x_lps x_rgs x_chg x_gau x_pds x_img x_otp x_bus
      x_flash)).symm

/-- A part of a table in canonical form is in canonical form. -/
theorem tabWf_filter {α : Type} [DecidableEq α] {d : Nat → α} {m : List (Nat × α)} (p : Nat × α → Bool)
    (h : tabWf d m = true) : tabWf d (m.filter p) = true := by
  induction m with
  | nil => rfl
  | cons e m ih =>
    obtain ⟨a, v⟩ := e
    simp only [tabWf, Bool.and_eq_true, decide_eq_true_eq, tabAbove_iff] at h
    cases hp : p (a, v)
    · simpa [List.filter, hp] using ih h.2
    · simp only [List.filter, hp, tabWf, Bool.and_eq_true, decide_eq_true_eq, tabAbove_iff]
      exact ⟨⟨fun e he => h.1.1 e (List.mem_filter.1 he).1, h.1.2⟩, ih h.2⟩

theorem KeepsP.filter {p : List Instr} {r o : List (Nat × Nat)} (q : Nat × Nat → Bool) (h : KeepsP s p r o) :
    KeepsP s p (r.filter q) o := ⟨h.1, fun w => tabWf_filter q (h.2.1 w), h.2.2⟩

/-- A fuse word written with its old bits kept. -/
theorem KeepsP.program {p : List Instr} {r o : List (Nat × Nat)} (k v : Nat) (h : KeepsP s p r o)
    (hv : tabGet (fun _ => 0) o k ||| v = v) : KeepsP s p r (tabPut (fun _ => 0) o k v) :=
  ⟨h.1, h.2.1, fun i => by
    by_cases e : i = k
    · subst e
      simp only [tabGet_tabPut_same]
      rw [← hv, ← Nat.or_assoc, h.2.2 i]
    · rw [tabGet_tabPut_ne _ _ _ e]; exact h.2.2 i⟩

theorem fset_keeps (f : Fld) (v : Nat) (h : Keeps s t) : Keeps s (fset t f v) :=
  ⟨h.pending, fun w => tabWf_tabPut (h.regs w) _ _, h.fuses⟩

end Sys2Proof.Machine
end

