-- ==== Sys2Proof/Laws/KeepsShared.lean ====
section
/-!
SUPPORT. Laws/KeepsShared.lean: the shared operations keep what `Keeps` says, operation by operation.
-/
namespace Sys2Proof.Machine

variable {s t : State}

/-! ### Ops -/

theorem fsetB_keeps (x_f : Fld) (x_b : Bool) (h : Keeps s t) : Keeps s (fsetB t x_f x_b) := by
  unfold fsetB; try dsimp only
  with_reducible repeat' first | exact h | dsimp only | apply fset_keeps | split | assumption

theorem finc_keeps (x_f : Fld) (h : Keeps s t) : Keeps s (finc t x_f) := by
  unfold finc; try dsimp only
  with_reducible repeat' first
    | exact h | apply Keeps.ite | dsimp only | apply fset_keeps | apply Keeps.ite1 | split | assumption

theorem fmax_keeps (x_f : Fld) (x_v : Nat) (h : Keeps s t) : Keeps s (fmax t x_f x_v) := by
  unfold fmax; try dsimp only
  with_reducible repeat' first
    | exact h | apply Keeps.ite | dsimp only | apply fset_keeps | apply Keeps.ite1 | split | assumption

theorem fsetI_keeps (x_f : Fld) (x_v : Int) (h : Keeps s t) : Keeps s (fsetI t x_f x_v) := by
  unfold fsetI; try dsimp only
  with_reducible repeat' first | exact h | dsimp only | apply fset_keeps | split | assumption

theorem fset64_keeps (x_lo : Fld) (x_hi : Fld) (x_v : Nat) (h : Keeps s t) : Keeps s (fset64 t x_lo x_hi x_v) := by
  unfold fset64; try dsimp only
  with_reducible repeat' first | exact h | dsimp only | apply fset_keeps | split | assumption

theorem complete_keeps (x_status : Nat) (h : Keeps s t) : Keeps s (complete t x_status) := by
  unfold complete; try dsimp only
  with_reducible repeat' first
    | exact h | dsimp only | simp only [keeps_mk] | simp only [keepsP_iff] | split | assumption

theorem completeWith_keeps (x_status : Nat) (x_data : List Nat) (h : Keeps s t) : Keeps s (completeWith t x_status x_data) := by
  unfold completeWith; try dsimp only
  with_reducible repeat' first
    | exact h | dsimp only | simp only [keeps_mk] | simp only [keepsP_iff] | split | assumption

theorem byEngine_keeps {a : State} (e : Nat) (k : Keeps s a) (h : Keeps s t) : Keeps s (byEngine a e t) := Keeps.ite k h

theorem drawNat_keeps (x_n : Nat) (h : Keeps s t) : Keeps s ((drawNat t x_n).2) := by
  unfold drawNat; try dsimp only
  with_reducible repeat' first
    | exact h | dsimp only | simp only [keeps_mk] | simp only [keepsP_iff] | split | assumption

theorem drawBool_keeps (h : Keeps s t) : Keeps s ((drawBool t).2) := by
  unfold drawBool; try dsimp only
  with_reducible repeat' first
    | exact h | dsimp only | simp only [keeps_mk] | simp only [keepsP_iff] | split | assumption

theorem setChan_keeps (x_n : Nat) (x_c : ChanX) (h : Keeps s t) : Keeps s (setChan t x_n x_c) := by
  unfold setChan; try dsimp only
  with_reducible repeat' first
    | exact h | dsimp only | simp only [keeps_mk] | simp only [keepsP_iff] | intro _ _ _ h | intro _ _ h | intro _ h
    | split | assumption

theorem setEnt_keeps (x_i : Nat) (x_e : EntX) (h : Keeps s t) : Keeps s (setEnt t x_i x_e) := by
  unfold setEnt; try dsimp only
  with_reducible repeat' first
    | exact h | dsimp only | simp only [keeps_mk] | simp only [keepsP_iff] | intro _ _ _ h | intro _ _ h | intro _ h
    | split | assumption

/-! ### Send -/

theorem setPortQ_keeps (x_p : Nat) (x_q : PortQ) (h : Keeps s t) : Keeps s (setPortQ t x_p x_q) := by
  unfold setPortQ; try dsimp only
  with_reducible repeat' first
    | exact h | apply Keeps.ite | dsimp only | simp only [keeps_mk] | simp only [keepsP_iff] | apply Keeps.ite1
    | split | assumption

theorem pushPort_keeps (x_p : Nat) (x_f : Frame) (h : Keeps s t) : Keeps s ((pushPort t x_p x_f).1) := by
  unfold pushPort; try dsimp only
  with_reducible repeat' first
    | exact h | apply Keeps.ite | dsimp only | apply setPortQ_keeps | apply finc_keeps | apply Keeps.ite1 | split
    | assumption

theorem pushAll_keeps (f : Frame) (l : List (Nat × Bool)) (h : Keeps s t) : Keeps s (pushAll t f l).1 := by
  induction l generalizing t with
  | nil => exact h
  | cons e l ih => exact ih (pushPort_keeps _ _ h)

theorem enqueue_keeps (x_o : Out) (h : Keeps s t) : Keeps s ((enqueue t x_o).1) := by
  unfold enqueue; try dsimp only
  with_reducible repeat' first
    | exact h | apply Keeps.ite | dsimp only | simp only [keeps_mk] | simp only [keepsP_iff] | apply pushAll_keeps
    | apply Keeps.ite1 | split | assumption

/-! ### Journal -/

theorem jrnlFill_keeps (h : Keeps s t) : Keeps s (jrnlFill t) := by
  unfold jrnlFill; try dsimp only
  with_reducible repeat' first
    | exact h | apply Keeps.ite | dsimp only | simp only [keeps_mk] | simp only [keepsP_iff] | apply Keeps.ite1
    | intro _ _ _ h | intro _ _ h | intro _ h | split | assumption

theorem jrnlForward_keeps (x_r : JRec) (h : Keeps s t) : Keeps s (jrnlForward t x_r) := by
  unfold jrnlForward; try dsimp only
  with_reducible repeat' first
    | exact h | apply Keeps.ite | dsimp only | apply enqueue_keeps | apply Keeps.ite1 | split | assumption

theorem jrnlQueue_keeps (x_r : JRec) (h : Keeps s t) : Keeps s (jrnlQueue t x_r) := by
  unfold jrnlQueue; try dsimp only
  with_reducible repeat' first
    | exact h | apply Keeps.ite | dsimp only | simp only [keeps_mk] | simp only [keepsP_iff] | apply finc_keeps
    | apply jrnlFill_keeps | apply jrnlForward_keeps | apply Keeps.ite1 | split | assumption

theorem journal_keeps (x_typ : Nat) (x_sub : Nat) (x_event : Nat) (x_code : Nat) (x_vals : List Nat) (h : Keeps s t) : Keeps s (journal t x_typ x_sub x_event x_code x_vals) := by
  unfold journal; try dsimp only
  with_reducible repeat' first
    | exact h | apply Keeps.ite | dsimp only | simp only [keeps_mk] | simp only [keepsP_iff] | apply jrnlForward_keeps
    | apply jrnlQueue_keeps | apply Keeps.ite1 | split | assumption

/-! ### Ledger -/

theorem request_keeps (x_k : ReqKind) (x_mw : Nat) (h : Keeps s t) : Keeps s (request t x_k x_mw) := by
  unfold request; try dsimp only
  with_reducible repeat' first
    | exact h | dsimp only | simp only [keeps_mk] | simp only [keepsP_iff] | split | assumption

theorem withdraw_keeps (x_p : ReqKind → Bool) (h : Keeps s t) : Keeps s (withdraw t x_p) := by
  unfold withdraw; try dsimp only
  with_reducible repeat' first
    | exact h | dsimp only | simp only [keeps_mk] | simp only [keepsP_iff] | apply KeepsP.filter | intro _ _ _ h
    | intro _ _ h | intro _ h | split | assumption

theorem measure_keeps (x_tgt : Nat) (x_v : Nat) (h : Keeps s t) : Keeps s (measure t x_tgt x_v) := by
  unfold measure; try dsimp only
  with_reducible repeat' first
    | exact h | dsimp only | simp only [keeps_mk] | simp only [keepsP_iff] | intro _ _ _ h | intro _ _ h | intro _ h
    | split | assumption

theorem release_keeps (x_tgt : Nat) (x_mw : Nat) (h : Keeps s t) : Keeps s (release t x_tgt x_mw) := by
  unfold release; try dsimp only
  with_reducible repeat' first
    | exact h | apply Keeps.ite | dsimp only | simp only [keeps_mk] | simp only [keepsP_iff] | apply Keeps.ite1
    | split | assumption

theorem setShedLevel_keeps (x_c : Nat) (h : Keeps s t) : Keeps s ((setShedLevel t x_c).1) := by
  unfold setShedLevel; try dsimp only
  with_reducible repeat' first
    | exact h | apply Keeps.ite | dsimp only | simp only [keeps_mk] | simp only [keepsP_iff] | apply fset_keeps
    | apply journal_keeps | apply Keeps.ite1 | split | assumption

/-! ### SeqCore -/

theorem setSeqX_keeps (x_q : Nat) (x_x : SeqX) (h : Keeps s t) : Keeps s (setSeqX t x_q x_x) := by
  unfold setSeqX; try dsimp only
  with_reducible repeat' first
    | exact h | dsimp only | simp only [keeps_mk] | simp only [keepsP_iff] | intro _ _ _ h | intro _ _ h | intro _ h
    | split | assumption

theorem seqDrain_keeps (n : Nat) (h : Keeps s t) : Keeps s (seqDrain n t) := by
  induction n generalizing t with
  | zero => exact h
  | succ n ih =>
    unfold seqDrain
    split
    · exact h
    · split
      · exact ih (jrnlQueue_keeps _ (h.same rfl rfl rfl))
      · exact h

theorem seqRecord_keeps (x_sub : Nat) (x_event : Nat) (x_code : Nat) (x_vals : List Nat) (h : Keeps s t) : Keeps s (seqRecord t x_sub x_event x_code x_vals) := by
  unfold seqRecord; try dsimp only
  with_reducible repeat' first
    | exact h | apply Keeps.ite | dsimp only | simp only [keeps_mk] | simp only [keepsP_iff] | apply jrnlForward_keeps
    | apply seqDrain_keeps | apply finc_keeps | apply Keeps.ite1 | split | assumption

theorem seqJournal_keeps (x_q : Nat) (x_event : Nat) (h : Keeps s t) : Keeps s (seqJournal t x_q x_event) := by
  unfold seqJournal; try dsimp only
  with_reducible repeat' first
    | exact h | apply Keeps.ite | dsimp only | apply seqRecord_keeps | apply Keeps.ite1 | split | assumption

theorem fltLine_keeps (h : Keeps s t) : Keeps s (fltLine t) := by
  unfold fltLine; try dsimp only
  with_reducible repeat' first
    | exact h | apply Keeps.ite | dsimp only | apply fsetB_keeps | apply seqRecord_keeps | apply Keeps.ite1 | split
    | assumption

theorem fltUpdate_keeps (h : Keeps s t) : Keeps s (fltUpdate t) := by
  unfold fltUpdate; try dsimp only
  with_reducible repeat' first
    | exact h | apply Keeps.ite | dsimp only | simp only [keeps_mk] | simp only [keepsP_iff] | apply fltLine_keeps
    | apply fsetB_keeps | apply Keeps.ite1 | split | assumption

theorem withdrawOn_keeps (x_tgt : Nat) (h : Keeps s t) : Keeps s (withdrawOn t x_tgt) := by
  unfold withdrawOn; try dsimp only
  with_reducible repeat' first
    | exact h | apply Keeps.ite | dsimp only | apply fset_keeps | apply withdraw_keeps | apply Keeps.ite1
    | intro _ _ _ h | intro _ _ h | intro _ h | split | assumption

theorem withdrawSetV_keeps (x_tgt : Nat) (h : Keeps s t) : Keeps s (withdrawSetV t x_tgt) := by
  unfold withdrawSetV; try dsimp only
  with_reducible repeat' first
    | exact h | apply Keeps.ite | dsimp only | apply fset_keeps | apply withdraw_keeps | apply Keeps.ite1
    | intro _ _ _ h | intro _ _ h | intro _ h | split | assumption

theorem monUnarm_keeps (x_m : Nat) (h : Keeps s t) : Keeps s (monUnarm t x_m) := by
  unfold monUnarm; try dsimp only
  with_reducible repeat' first | exact h | dsimp only | apply fset_keeps | split | assumption

theorem abortStep_keeps (x_st : Step) (h : Keeps s t) : Keeps s (abortStep t x_st) := by
  unfold abortStep; try dsimp only
  with_reducible repeat' first
    | exact h | apply Keeps.ite | dsimp only | apply withdrawOn_keeps | apply withdrawSetV_keeps
    | apply monUnarm_keeps | apply Keeps.ite1 | split | assumption

theorem seqAbort_keeps (x_q : Nat) (h : Keeps s t) : Keeps s (seqAbort t x_q) := by
  unfold seqAbort; try dsimp only
  with_reducible repeat' first
    | exact h | apply Keeps.ite | dsimp only | simp only [keeps_mk] | simp only [keepsP_iff] | apply abortStep_keeps
    | apply fset_keeps | apply seqJournal_keeps | apply setSeqX_keeps | apply Keeps.ite1 | split | assumption

theorem seqPreempt_keeps (x_q : Nat) (h : Keeps s t) : Keeps s (seqPreempt t x_q) := by
  unfold seqPreempt; try dsimp only
  with_reducible repeat' first
    | exact h | apply Keeps.ite | dsimp only | apply seqAbort_keeps | apply Keeps.ite1 | apply Keeps.foldl
    | apply Keeps.foldl1 | intro _ _ _ h | intro _ _ h | intro _ h | split | assumption

theorem seqStart_keeps (x_q : Nat) (x_base : Nat) (x_low : Bool) (h : Keeps s t) : Keeps s ((seqStart t x_q x_base x_low).1) := by
  unfold seqStart; try dsimp only
  with_reducible repeat' first
    | exact h | apply Keeps.ite | dsimp only | apply fset_keeps | apply seqPreempt_keeps | apply setSeqX_keeps
    | apply seqJournal_keeps | apply Keeps.ite1 | split | assumption

theorem seqTrigger_keeps (x_b : Nat) (h : Keeps s t) : Keeps s (seqTrigger t x_b) := by
  unfold seqTrigger; try dsimp only
  with_reducible repeat' first
    | exact h | apply Keeps.ite | dsimp only | apply seqStart_keeps | apply Keeps.ite1 | apply Keeps.foldl
    | apply Keeps.foldl1 | intro _ _ _ h | intro _ _ h | intro _ h | split | assumption

theorem seqHostStart_keeps (x_q : Nat) (h : Keeps s t) : Keeps s ((seqHostStart t x_q).1) := by
  unfold seqHostStart; try dsimp only
  with_reducible repeat' first
    | exact h | apply Keeps.ite | dsimp only | apply seqStart_keeps | apply fltUpdate_keeps | apply fset_keeps
    | apply Keeps.ite1 | split | assumption

/-! ### LoopCore -/

theorem setLoopX_keeps (x_n : Nat) (x_x : LoopX) (h : Keeps s t) : Keeps s (setLoopX t x_n x_x) := by
  unfold setLoopX; try dsimp only
  with_reducible repeat' first
    | exact h | dsimp only | simp only [keeps_mk] | simp only [keepsP_iff] | intro _ _ _ h | intro _ _ h | intro _ h
    | split | assumption

theorem setPhaseX_keeps (x_k : Nat) (x_x : PhaseX) (h : Keeps s t) : Keeps s (setPhaseX t x_k x_x) := by
  unfold setPhaseX; try dsimp only
  with_reducible repeat' first
    | exact h | dsimp only | simp only [keeps_mk] | simp only [keepsP_iff] | intro _ _ _ h | intro _ _ h | intro _ h
    | split | assumption

theorem setActive_keeps (x_n : Nat) (x_m : Nat) (h : Keeps s t) : Keeps s (setActive t x_n x_m) := by
  unfold setActive; try dsimp only
  with_reducible repeat' first
    | exact h | apply Keeps.ite | dsimp only | simp only [keeps_mk] | simp only [keepsP_iff] | apply fset_keeps
    | apply setPhaseX_keeps | apply fsetB_keeps | apply Keeps.ite1 | apply Keeps.foldl | apply Keeps.foldl1
    | intro _ _ _ h | intro _ _ h | intro _ h | split | assumption

theorem annJournal_keeps (x_n : Nat) (x_event : Nat) (x_code : Nat) (x_a : Ann) (h : Keeps s t) : Keeps s (annJournal t x_n x_event x_code x_a) := by
  unfold annJournal; try dsimp only
  with_reducible repeat' first | exact h | dsimp only | apply journal_keeps | split | assumption

theorem protJournal_keeps (x_n : Nat) (x_event : Nat) (h : Keeps s t) : Keeps s (protJournal t x_n x_event) := by
  unfold protJournal; try dsimp only
  with_reducible repeat' first | exact h | dsimp only | apply journal_keeps | split | assumption

theorem annShow_keeps (x_n : Nat) (h : Keeps s t) : Keeps s (annShow t x_n) := by
  unfold annShow; try dsimp only
  with_reducible repeat' first | exact h | dsimp only | apply fset_keeps | split | assumption

theorem annDiscard_keeps (x_n : Nat) (h : Keeps s t) : Keeps s (annDiscard t x_n) := by
  unfold annDiscard; try dsimp only
  with_reducible repeat' first
    | exact h | dsimp only | simp only [keeps_mk] | simp only [keepsP_iff] | apply setLoopX_keeps
    | apply annJournal_keeps | apply finc_keeps | apply fset_keeps | apply annShow_keeps | apply Keeps.foldl
    | apply Keeps.foldl1 | intro _ _ _ h | intro _ _ h | intro _ h | split | assumption

theorem brakeExit_keeps (x_n : Nat) (h : Keeps s t) : Keeps s (brakeExit t x_n) := by
  unfold brakeExit; try dsimp only
  with_reducible repeat' first
    | exact h | dsimp only | simp only [keeps_mk] | simp only [keepsP_iff] | apply fset_keeps | apply setLoopX_keeps
    | split | assumption

theorem loopGo_keeps (x_n : Nat) (x_st : Nat) (h : Keeps s t) : Keeps s (loopGo t x_n x_st) := by
  unfold loopGo; try dsimp only
  with_reducible repeat' first
    | exact h | apply Keeps.ite | dsimp only | simp only [keeps_mk] | simp only [keepsP_iff] | apply fset_keeps
    | apply annDiscard_keeps | apply brakeExit_keeps | apply setActive_keeps | apply setLoopX_keeps | apply Keeps.ite1
    | split | assumption

theorem loopStart_keeps (x_n : Nat) (x_vref : Nat) (h : Keeps s t) : Keeps s (loopStart t x_n x_vref) := by
  unfold loopStart; try dsimp only
  with_reducible repeat' first
    | exact h | dsimp only | simp only [keeps_mk] | simp only [keepsP_iff] | apply setLoopX_keeps
    | apply setActive_keeps | apply loopGo_keeps | split | assumption

theorem loopDropRaise_keeps (x_n : Nat) (h : Keeps s t) : Keeps s (loopDropRaise t x_n) := by
  unfold loopDropRaise; try dsimp only
  with_reducible repeat' first
    | exact h | apply Keeps.ite | dsimp only | simp only [keeps_mk] | simp only [keepsP_iff] | apply fset_keeps
    | apply withdraw_keeps | apply Keeps.ite1 | intro _ _ _ h | intro _ _ h | intro _ h | split | assumption

theorem loopOff_keeps (x_n : Nat) (h : Keeps s t) : Keeps s (loopOff t x_n) := by
  unfold loopOff; try dsimp only
  with_reducible repeat' first
    | exact h | dsimp only | apply loopGo_keeps | apply fset_keeps | apply withdraw_keeps | intro _ _ _ h
    | intro _ _ h | intro _ h | split | assumption

/-! ### Safe -/

theorem updClose_keeps (h : Keeps s t) : Keeps s (updClose t) := by
  unfold updClose; try dsimp only
  with_reducible repeat' first | exact h | dsimp only | apply fset_keeps | split | assumption

theorem setStage_keeps (x_g : Nat) (h : Keeps s t) : Keeps s (setStage t x_g) := by
  unfold setStage; try dsimp only
  with_reducible repeat' first
    | exact h | apply Keeps.ite | dsimp only | apply fset_keeps | apply updClose_keeps | apply journal_keeps
    | apply Keeps.ite1 | split | assumption

theorem eveningToNoon_keeps (h : Keeps s t) : Keeps s (eveningToNoon t) := by
  unfold eveningToNoon; try dsimp only
  with_reducible repeat' first
    | exact h | dsimp only | apply seqTrigger_keeps | apply setShedLevel_keeps | apply setStage_keeps | split
    | assumption

theorem sendBeacon_keeps (x_btype : Nat) (x_data : List Nat) (h : Keeps s t) : Keeps s (sendBeacon t x_btype x_data) := by
  unfold sendBeacon; try dsimp only
  with_reducible repeat' first
    | exact h | apply Keeps.ite | dsimp only | simp only [keeps_mk] | simp only [keepsP_iff] | apply setPortQ_keeps
    | apply Keeps.ite1 | split | assumption

theorem ponAssert_keeps (h : Keeps s t) : Keeps s (ponAssert t) := by
  unfold ponAssert; try dsimp only
  with_reducible repeat' first
    | exact h | apply Keeps.ite | dsimp only | apply fset_keeps | apply Keeps.ite1 | split | assumption

theorem portWake_keeps (x_p : Nat) (h : Keeps s t) : Keeps s (portWake t x_p) := by
  unfold portWake; try dsimp only
  with_reducible repeat' first
    | exact h | apply Keeps.ite | dsimp only | simp only [keeps_mk] | simp only [keepsP_iff] | apply fset_keeps
    | apply setPortQ_keeps | apply Keeps.ite1 | intro _ _ _ h | intro _ _ h | intro _ h | split | assumption

theorem wakeNight_keeps (x_cause : Nat) (x_unit : Nat) (x_fwd : Bool) (h : Keeps s t) : Keeps s (wakeNight t x_cause x_unit x_fwd) := by
  unfold wakeNight; try dsimp only
  with_reducible repeat' first
    | exact h | apply Keeps.ite | dsimp only | simp only [keeps_mk] | simp only [keepsP_iff] | apply finc_keeps
    | apply fset_keeps | apply journal_keeps | apply ponAssert_keeps | apply sendBeacon_keeps | apply portWake_keeps
    | apply Keeps.ite1 | split | assumption

theorem wakeCause_keeps (x_cause : Nat) (x_unit : Nat) (h : Keeps s t) : Keeps s (wakeCause t x_cause x_unit) := by
  unfold wakeCause; try dsimp only
  with_reducible repeat' first
    | exact h | apply Keeps.ite | dsimp only | simp only [keeps_mk] | simp only [keepsP_iff] | apply finc_keeps
    | apply wakeNight_keeps | apply eveningToNoon_keeps | apply Keeps.ite1 | split | assumption

theorem edgeCt_keeps (x_n : Nat) (h : Keeps s t) : Keeps s (edgeCt t x_n) := by
  unfold edgeCt; try dsimp only
  with_reducible repeat' first | exact h | dsimp only | apply fset64_keeps | split | assumption

theorem chanSafe_keeps (x_n : Nat) (h : Keeps s t) : Keeps s (chanSafe t x_n) := by
  unfold chanSafe; try dsimp only
  with_reducible repeat' first
    | exact h | apply Keeps.ite | dsimp only | simp only [keeps_mk] | simp only [keepsP_iff] | apply edgeCt_keeps
    | apply fset_keeps | apply setChan_keeps | apply Keeps.ite1 | split | assumption

theorem loopSafe_keeps (x_n : Nat) (h : Keeps s t) : Keeps s (loopSafe t x_n) := by
  unfold loopSafe; try dsimp only
  with_reducible repeat' first | exact h | dsimp only | apply fset_keeps | apply loopGo_keeps | split | assumption

theorem regSafe_keeps (x_r : Nat) (h : Keeps s t) : Keeps s (regSafe t x_r) := by
  unfold regSafe; try dsimp only
  with_reducible repeat' first | exact h | dsimp only | apply fset_keeps | split | assumption

theorem setPdX_keeps (x_n : Nat) (x_x : PdX) (h : Keeps s t) : Keeps s (setPdX t x_n x_x) := by
  unfold setPdX; try dsimp only
  with_reducible repeat' first
    | exact h | dsimp only | simp only [keeps_mk] | simp only [keepsP_iff] | intro _ _ _ h | intro _ _ h | intro _ h
    | split | assumption

theorem portSafe_keeps (x_n : Nat) (h : Keeps s t) : Keeps s (portSafe t x_n) := by
  unfold portSafe; try dsimp only
  with_reducible repeat' first | exact h | dsimp only | apply fset_keeps | apply setPdX_keeps | split | assumption

theorem chgFlag_keeps (x_f : Fld) (h : Keeps s t) : Keeps s (chgFlag t x_f) := by
  unfold chgFlag; try dsimp only
  with_reducible repeat' first | exact h | dsimp only | apply fset_keeps | apply journal_keeps | split | assumption

theorem chgSafe_keeps (h : Keeps s t) : Keeps s (chgSafe t) := by
  unfold chgSafe; try dsimp only
  with_reducible repeat' first
    | exact h | apply Keeps.ite | dsimp only | simp only [keeps_mk] | simp only [keepsP_iff] | apply chgFlag_keeps
    | apply fset_keeps | apply Keeps.ite1 | split | assumption

theorem enterSafe_keeps (h : Keeps s t) : Keeps s (enterSafe t) := by
  unfold enterSafe; try dsimp only
  with_reducible repeat' first
    | exact h | apply Keeps.ite | dsimp only | simp only [keeps_mk] | simp only [keepsP_iff] | apply fset_keeps
    | apply seqAbort_keeps | apply chanSafe_keeps | apply loopSafe_keeps | apply regSafe_keeps | apply chgSafe_keeps
    | apply portSafe_keeps | apply withdraw_keeps | apply journal_keeps | apply Keeps.ite1 | apply Keeps.foldl
    | apply Keeps.foldl1 | intro _ _ _ h | intro _ _ h | intro _ h | split | assumption

/-! ### Raise -/

theorem sendFaultSum_keeps (h : Keeps s t) : Keeps s ((sendFaultSum t).1) := by
  unfold sendFaultSum; try dsimp only
  with_reducible repeat' first | exact h | dsimp only | apply enqueue_keeps | split | assumption

theorem recordRaise_keeps (x_i : Nat) (x_sev : Nat) (x_inj : Bool) (x_brk : Bool) (h : Keeps s t) : Keeps s (recordRaise t x_i x_sev x_inj x_brk) := by
  unfold recordRaise; try dsimp only
  with_reducible repeat' first
    | exact h | apply Keeps.ite | dsimp only | apply fset_keeps | apply fsetB_keeps | apply finc_keeps
    | apply journal_keeps | apply Keeps.ite1 | split | assumption

theorem containedReaction_keeps (h : Keeps s t) : Keeps s (containedReaction t) := by
  unfold containedReaction; try dsimp only
  with_reducible repeat' first
    | exact h | apply Keeps.ite | dsimp only | apply fset_keeps | apply setShedLevel_keeps | apply Keeps.ite1 | split
    | assumption

theorem recordFirst_keeps (x_i : Nat) (h : Keeps s t) : Keeps s (recordFirst t x_i) := by
  unfold recordFirst; try dsimp only
  with_reducible repeat' first
    | exact h | apply Keeps.ite | dsimp only | apply fset64_keeps | apply fset_keeps | apply Keeps.ite1 | split
    | assumption

theorem raiseCore_keeps (x_i : Nat) (x_inj : Bool) (x_brk : Bool) (h : Keeps s t) : Keeps s ((raiseCore t x_i x_inj x_brk).1) := by
  unfold raiseCore; try dsimp only
  with_reducible repeat' first
    | exact h | apply Keeps.ite | dsimp only | apply fset_keeps | apply recordRaise_keeps
    | apply containedReaction_keeps | apply enterSafe_keeps | apply recordFirst_keeps | apply Keeps.ite1 | split
    | assumption

theorem summarise_keeps (h : Keeps s t) : Keeps s (summarise t) := by
  unfold summarise; try dsimp only
  with_reducible repeat' first
    | exact h | apply Keeps.ite | dsimp only | apply sendFaultSum_keeps | apply raiseCore_keeps | apply Keeps.ite1
    | split | assumption

theorem faultWake_keeps (h : Keeps s t) : Keeps s (faultWake t) := by
  unfold faultWake; try dsimp only
  with_reducible repeat' first
    | exact h | apply Keeps.ite | dsimp only | apply wakeCause_keeps | apply Keeps.ite1 | split | assumption

theorem raiseWith_keeps (x_i : Nat) (x_inj : Bool) (x_brk : Bool) (h : Keeps s t) : Keeps s (raiseWith t x_i x_inj x_brk) := by
  unfold raiseWith; try dsimp only
  with_reducible repeat' first
    | exact h | apply Keeps.ite | dsimp only | apply raiseCore_keeps | apply faultWake_keeps | apply summarise_keeps
    | apply Keeps.ite1 | split | assumption

theorem lower_keeps (x_i : Nat) (h : Keeps s t) : Keeps s (lower t x_i) := by
  unfold lower; try dsimp only
  with_reducible repeat' first
    | exact h | apply Keeps.ite | dsimp only | apply fset_keeps | apply Keeps.ite1 | split | assumption

theorem raiseLevel_keeps (x_i : Nat) (h : Keeps s t) : Keeps s (raiseLevel t x_i) := by
  unfold raiseLevel; try dsimp only
  with_reducible repeat' first | exact h | dsimp only | apply raiseWith_keeps | split | assumption

theorem raiseEvent_keeps (x_i : Nat) (x_inj : Bool) (x_brk : Bool) (h : Keeps s t) : Keeps s (raiseEvent t x_i x_inj x_brk) := by
  unfold raiseEvent; try dsimp only
  with_reducible repeat' first
    | exact h | apply Keeps.ite | dsimp only | apply lower_keeps | apply raiseWith_keeps | apply Keeps.ite1 | split
    | assumption

theorem raise_keeps (x_i : Nat) (h : Keeps s t) : Keeps s (raise t x_i) := by
  unfold raise; try dsimp only
  with_reducible repeat' first | exact h | dsimp only | apply raiseEvent_keeps | split | assumption

theorem send_keeps (x_o : Out) (h : Keeps s t) : Keeps s (send t x_o) := by
  unfold send; try dsimp only
  with_reducible repeat' first
    | exact h | apply Keeps.ite | dsimp only | apply enqueue_keeps | apply raise_keeps | apply Keeps.ite1 | split
    | assumption

/-! ### Fab -/

theorem fabRecord_keeps (x_rq : Nat) (x_tgt : Nat) (x_status : Nat) (h : Keeps s t) : Keeps s (fabRecord t x_rq x_tgt x_status) := by
  unfold fabRecord; try dsimp only
  with_reducible repeat' first
    | exact h | apply Keeps.ite | dsimp only | apply fset_keeps | apply finc_keeps | apply Keeps.ite1 | split
    | assumption

theorem busRecord_keeps (x_rq : Nat) (x_a : Nat) (x_status : Nat) (h : Keeps s t) : Keeps s (busRecord t x_rq x_a x_status) := by
  unfold busRecord; try dsimp only
  with_reducible repeat' first
    | exact h | apply Keeps.ite | dsimp only | apply fset_keeps | apply finc_keeps | apply Keeps.ite1 | split
    | assumption

theorem fabComplete_keeps (x_rq : Nat) (x_tgt : Nat) (x_a : Nat) (x_status : Nat) (x_data : List Nat) (h : Keeps s t) : Keeps s (fabComplete t x_rq x_tgt x_a x_status x_data) := by
  unfold fabComplete; try dsimp only
  with_reducible repeat' first
    | exact h | dsimp only | apply busRecord_keeps | apply fabRecord_keeps | apply completeWith_keeps | split
    | assumption

theorem atTarget_keeps (x_k : Nat) (x_f : State → State × Nat)
    (hf_f : ∀ y0, Keeps s y0 → Keeps s ((x_f y0).1)) (h : Keeps s t) : Keeps s (atTarget t x_k x_f) := by
  unfold atTarget; try dsimp only
  with_reducible repeat' first
    | exact h | apply Keeps.ite | dsimp only | apply drawNat_keeps | apply fabComplete_keeps | apply complete_keeps
    | apply hf_f | apply Keeps.ite1 | intro _ _ _ h | intro _ _ h | intro _ h | split | assumption

theorem fabParity_keeps (x_rq : Nat) (x_tgt : Nat) (x_a : Nat) (h : Keeps s t) : Keeps s (fabParity t x_rq x_tgt x_a) := by
  unfold fabParity; try dsimp only
  with_reducible repeat' first
    | exact h | dsimp only | apply raiseEvent_keeps | apply fset_keeps | apply fabComplete_keeps | split | assumption

theorem fabSpend_keeps (x_rq : Nat) (h : Keeps s t) : Keeps s (fabSpend t x_rq) := by
  unfold fabSpend; try dsimp only
  with_reducible repeat' first
    | exact h | dsimp only | simp only [keeps_mk] | simp only [keepsP_iff] | apply KeepsP.filter | split | assumption

theorem fabPeak_keeps (x_rq : Nat) (h : Keeps s t) : Keeps s (fabPeak t x_rq) := by
  unfold fabPeak; try dsimp only
  with_reducible repeat' first | exact h | dsimp only | apply fmax_keeps | split | assumption

theorem asCoach_keeps (x_rq : Nat) (x_k : Nat) (x_a : Nat) (x_f : State → State × Nat × List Nat)
    (hf_f : ∀ y0, Keeps s y0 → Keeps s ((x_f y0).1)) (h : Keeps s t) : Keeps s (asCoach t x_rq x_k x_a x_f) := by
  unfold asCoach; try dsimp only
  with_reducible repeat' first
    | exact h | apply Keeps.ite | dsimp only | apply fabPeak_keeps | apply fabParity_keeps | apply fabSpend_keeps
    | apply fabComplete_keeps | apply hf_f | apply Keeps.ite1 | intro _ _ _ h | intro _ _ h | intro _ h | split
    | assumption

theorem snapPut_keeps (x_rq : Nat) (x_addr : Nat) (x_v : Nat) (h : Keeps s t) : Keeps s (snapPut t x_rq x_addr x_v) := by
  unfold snapPut; try dsimp only
  with_reducible repeat' first
    | exact h | dsimp only | simp only [keeps_mk] | simp only [keepsP_iff] | intro _ _ _ h | intro _ _ h | intro _ h
    | split | assumption

theorem coachGo_keeps (x_rq : Nat) (x_k : CoachKind) (x_addr : Nat) (x_data : Nat) (h : Keeps s t) : Keeps s (coachGo t x_rq x_k x_addr x_data) := by
  unfold coachGo; try dsimp only
  with_reducible repeat' first
    | exact h | apply Keeps.ite | dsimp only | simp only [keeps_mk] | simp only [keepsP_iff] | apply fabPeak_keeps
    | apply fabParity_keeps | apply fabSpend_keeps | apply fabComplete_keeps | apply Keeps.ite1 | split | assumption

theorem fabResume_keeps (n : Nat) (h : Keeps s t) : Keeps s (fabResume n t) := by
  induction n generalizing t with
  | zero => exact h
  | succ n ih =>
    unfold fabResume
    split
    · exact h
    · exact ih (coachGo_keeps _ _ _ _ (fsetB_keeps _ _ (h.same rfl rfl rfl)))

theorem fabFreed_keeps (h : Keeps s t) : Keeps s (fabFreed t) := by
  unfold fabFreed; try dsimp only
  with_reducible repeat' first | exact h | dsimp only | apply fabResume_keeps | split | assumption

theorem fabLose_keeps (x_p : Coach → Bool) (h : Keeps s t) : Keeps s (fabLose t x_p) := by
  unfold fabLose; try dsimp only
  with_reducible repeat' first
    | exact h | apply Keeps.ite | dsimp only | simp only [keeps_mk] | simp only [keepsP_iff] | apply KeepsP.filter
    | apply fabFreed_keeps | apply fabComplete_keeps | apply Keeps.ite1 | apply Keeps.foldl | apply Keeps.foldl1
    | intro _ _ _ h | intro _ _ h | intro _ h | split | assumption

theorem targetReset_keeps (x_k : Nat) (h : Keeps s t) : Keeps s (targetReset t x_k) := by
  unfold targetReset; try dsimp only
  with_reducible repeat' first
    | exact h | dsimp only | apply fset_keeps | apply fabLose_keeps | apply finc_keeps | intro _ _ _ h | intro _ _ h
    | intro _ h | split | assumption

theorem targetBack_keeps (x_k : Nat) (h : Keeps s t) : Keeps s (targetBack t x_k) := by
  unfold targetBack; try dsimp only
  with_reducible repeat' first
    | exact h | apply Keeps.ite | dsimp only | apply fset_keeps | apply Keeps.ite1 | intro _ _ _ h | intro _ _ h
    | intro _ h | split | assumption

/-! ### Clock -/

theorem passBkp_keeps (x_ns : Nat) (h : Keeps s t) : Keeps s (passBkp t x_ns) := by
  unfold passBkp; try dsimp only
  with_reducible repeat' first
    | exact h | dsimp only | simp only [keeps_mk] | simp only [keepsP_iff] | apply fset_keeps | split | assumption

theorem pass_keeps (x_ns : Nat) (h : Keeps s t) : Keeps s (pass t x_ns) := by
  unfold pass; try dsimp only
  with_reducible repeat' first
    | exact h | apply Keeps.ite | dsimp only | simp only [keeps_mk] | simp only [keepsP_iff] | apply passBkp_keeps
    | apply fset_keeps | apply Keeps.ite1 | split | assumption

theorem tick_keeps (h : Keeps s t) : Keeps s (tick t) := by
  unfold tick; try dsimp only
  with_reducible repeat' first | exact h | dsimp only | apply pass_keeps | split | assumption

theorem passLoc_keeps (x_t : Nat) (h : Keeps s t) : Keeps s (passLoc t x_t) := by
  unfold passLoc; try dsimp only
  with_reducible repeat' first
    | exact h | apply Keeps.ite | dsimp only | apply pass_keeps | apply Keeps.ite1 | split | assumption

theorem passTo_keeps (x_t : Nat) (h : Keeps s t) : Keeps s (passTo t x_t) := by
  unfold passTo; try dsimp only
  with_reducible repeat' first
    | exact h | apply Keeps.ite | dsimp only | simp only [keeps_mk] | simp only [keepsP_iff] | apply pass_keeps
    | apply Keeps.ite1 | split | assumption

theorem trgEvent_keeps (x_src : Nat) (x_sel : Nat) (h : Keeps s t) : Keeps s (trgEvent t x_src x_sel) := by
  unfold trgEvent; try dsimp only
  with_reducible repeat' first
    | exact h | apply Keeps.ite | dsimp only | simp only [keeps_mk] | simp only [keepsP_iff] | apply Keeps.ite1
    | apply Keeps.foldl | apply Keeps.foldl1 | intro _ _ _ h | intro _ _ h | intro _ h | split | assumption

/-! ### Frame -/

theorem setFrame_keeps (x_f : Nat) (x_x : FrameX) (h : Keeps s t) : Keeps s (setFrame t x_f x_x) := by
  unfold setFrame; try dsimp only
  with_reducible repeat' first
    | exact h | dsimp only | simp only [keeps_mk] | simp only [keepsP_iff] | intro _ _ _ h | intro _ _ h | intro _ h
    | split | assumption

theorem frameAnchor_keeps (x_d : Int) (x_f : Nat) (h : Keeps s t) : Keeps s (frameAnchor x_d t x_f) := by
  unfold frameAnchor; try dsimp only
  with_reducible repeat' first
    | exact h | apply Keeps.ite | dsimp only | simp only [keeps_mk] | simp only [keepsP_iff] | apply setFrame_keeps
    | apply Keeps.ite1 | split | assumption

theorem anchorAll_keeps (x_d : Int) (h : Keeps s t) : Keeps s (anchorAll t x_d) := by
  unfold anchorAll; try dsimp only
  with_reducible repeat' first
    | exact h | dsimp only | apply frameAnchor_keeps | apply Keeps.foldl | apply Keeps.foldl1 | intro _ _ _ h
    | intro _ _ h | intro _ h | split | assumption

theorem frameLag_keeps (x_f : Nat) (x_lag : Nat) (h : Keeps s t) : Keeps s (frameLag t x_f x_lag) := by
  unfold frameLag; try dsimp only
  with_reducible repeat' first
    | exact h | apply Keeps.ite | dsimp only | apply fsetB_keeps | apply fmax_keeps | apply fset_keeps
    | apply finc_keeps | apply raise_keeps | apply Keeps.ite1 | split | assumption

theorem frameOverrun_keeps (x_f : Nat) (h : Keeps s t) : Keeps s (frameOverrun t x_f) := by
  unfold frameOverrun; try dsimp only
  with_reducible repeat' first
    | exact h | dsimp only | simp only [keeps_mk] | simp only [keepsP_iff] | apply finc_keeps | split | assumption

theorem frameBegin_keeps (x_f : Nat) (x_work : Nat) (h : Keeps s t) : Keeps s ((frameBegin t x_f x_work).1) := by
  unfold frameBegin; try dsimp only
  with_reducible repeat' first
    | exact h | apply Keeps.ite | dsimp only | simp only [keeps_mk] | simp only [keepsP_iff] | apply passTo_keeps
    | apply setFrame_keeps | apply frameLag_keeps | apply frameOverrun_keeps | apply Keeps.ite1 | split | assumption

/-! ### Calendar -/

theorem rtcPut_keeps (x_secs : Nat) (h : Keeps s t) : Keeps s (rtcPut t x_secs) := by
  unfold rtcPut; try dsimp only
  with_reducible repeat' first | exact h | dsimp only | apply fset_keeps | split | assumption

end Sys2Proof.Machine
end

