-- ==== Sys2Proof/Laws/KeepsRails.lean ====
section
/-!
SUPPORT. Laws/KeepsRails.lean: channels, wires, loops, regulators, sequences and the converters keep what `Keeps` says, operation by operation.
-/
namespace Sys2Proof.Machine

variable {s t : State}

/-! ### Channel -/

theorem chJournal_keeps (x_n : Nat) (x_event : Nat) (x_code : Nat) (h : Keeps s t) : Keeps s (chJournal t x_n x_event x_code) := by
  unfold chJournal; try dsimp only
  with_reducible repeat' first | exact h | dsimp only | apply journal_keeps | split | assumption

theorem chPend_keeps (x_n : Nat) (x_retry : Bool) (h : Keeps s t) : Keeps s (chPend t x_n x_retry) := by
  unfold chPend; try dsimp only
  with_reducible repeat' first
    | exact h | dsimp only | simp only [keeps_mk] | simp only [keepsP_iff] | apply fset_keeps | apply setChan_keeps
    | apply request_keeps | split | assumption

theorem chEnter_keeps (x_n : Nat) (x_st : Nat) (h : Keeps s t) : Keeps s (chEnter t x_n x_st) := by
  unfold chEnter; try dsimp only
  with_reducible repeat' first
    | exact h | apply Keeps.ite | dsimp only | simp only [keeps_mk] | simp only [keepsP_iff] | apply fset_keeps
    | apply setChan_keeps | apply Keeps.ite1 | split | assumption

theorem chAdmitted_keeps (x_n : Nat) (h : Keeps s t) : Keeps s (chAdmitted t x_n) := by
  unfold chAdmitted; try dsimp only
  with_reducible repeat' first
    | exact h | apply Keeps.ite | dsimp only | apply chEnter_keeps | apply Keeps.ite1 | split | assumption

theorem chRefused_keeps (x_n : Nat) (x_code : Nat) (h : Keeps s t) : Keeps s (chRefused t x_n x_code) := by
  unfold chRefused; try dsimp only
  with_reducible repeat' first
    | exact h | apply Keeps.ite | dsimp only | apply fset_keeps | apply chJournal_keeps | apply Keeps.ite1 | split
    | assumption

theorem chCancelRetry_keeps (x_n : Nat) (h : Keeps s t) : Keeps s (chCancelRetry t x_n) := by
  unfold chCancelRetry; try dsimp only
  with_reducible repeat' first
    | exact h | dsimp only | simp only [keeps_mk] | simp only [keepsP_iff] | apply setChan_keeps | split | assumption

theorem chOffEdge_keeps (x_n : Nat) (h : Keeps s t) : Keeps s (chOffEdge t x_n) := by
  unfold chOffEdge; try dsimp only
  with_reducible repeat' first
    | exact h | dsimp only | apply chJournal_keeps | apply edgeCt_keeps | split | assumption

theorem chPreEnd_keeps (x_n : Nat) (x_f : Fld) (h : Keeps s t) : Keeps s (chPreEnd t x_n x_f) := by
  unfold chPreEnd; try dsimp only
  with_reducible repeat' first
    | exact h | dsimp only | apply fset_keeps | apply edgeCt_keeps | apply chJournal_keeps | split | assumption

theorem chOff_keeps (x_n : Nat) (h : Keeps s t) : Keeps s (chOff t x_n) := by
  unfold chOff; try dsimp only
  with_reducible repeat' first
    | exact h | apply Keeps.ite | dsimp only | apply fset_keeps | apply chCancelRetry_keeps | apply withdraw_keeps
    | apply chPreEnd_keeps | apply chOffEdge_keeps | apply Keeps.ite1 | intro _ _ _ h | intro _ _ h | intro _ h
    | split | assumption

theorem chShift_keeps (x_n : Nat) (x_m : Nat) (h : Keeps s t) : Keeps s (chShift t x_n x_m) := by
  unfold chShift; try dsimp only
  with_reducible repeat' first
    | exact h | apply Keeps.ite | dsimp only | simp only [keeps_mk] | simp only [keepsP_iff] | apply fset_keeps
    | apply chEnter_keeps | apply setChan_keeps | apply Keeps.ite1 | split | assumption

theorem chCommand_keeps (x_n : Nat) (x_m : Nat) (x_strobe : Bool) (h : Keeps s t) : Keeps s ((chCommand t x_n x_m x_strobe).1) := by
  unfold chCommand; try dsimp only
  with_reducible repeat' first
    | exact h | apply Keeps.ite | dsimp only | apply chOff_keeps | apply fset_keeps | apply chEnter_keeps
    | apply chPend_keeps | apply chShift_keeps | apply Keeps.ite1 | split | assumption

theorem chMode_keeps (x_n : Nat) (x_m : Nat) (h : Keeps s t) : Keeps s ((chMode t x_n x_m).1) := by
  unfold chMode; try dsimp only
  with_reducible repeat' first
    | exact h | apply Keeps.ite | dsimp only | apply chCommand_keeps | apply fset_keeps | apply Keeps.ite1 | split
    | assumption

theorem chClrLatch_keeps (x_n : Nat) (h : Keeps s t) : Keeps s (chClrLatch t x_n) := by
  unfold chClrLatch; try dsimp only
  with_reducible repeat' first
    | exact h | apply Keeps.ite | dsimp only | apply fset_keeps | apply Keeps.ite1 | split | assumption

theorem chCtl_keeps (x_n : Nat) (x_m : Nat) (x_clr : Bool) (h : Keeps s t) : Keeps s ((chCtl t x_n x_m x_clr).1) := by
  unfold chCtl; try dsimp only
  with_reducible repeat' first
    | exact h | apply Keeps.ite | dsimp only | apply chMode_keeps | apply chClrLatch_keeps | apply Keeps.ite1 | split
    | assumption

theorem chUnused_keeps (x_n : Nat) (h : Keeps s t) : Keeps s (chUnused t x_n) := by
  unfold chUnused; try dsimp only
  with_reducible repeat' first
    | exact h | apply Keeps.ite | dsimp only | simp only [keeps_mk] | simp only [keepsP_iff] | apply edgeCt_keeps
    | apply fset_keeps | apply withdraw_keeps | apply setChan_keeps | apply Keeps.ite1 | intro _ _ _ h | intro _ _ h
    | intro _ h | split | assumption

theorem chStored_keeps (x_n : Nat) (h : Keeps s t) : Keeps s (chStored t x_n) := by
  unfold chStored; try dsimp only
  with_reducible repeat' first
    | exact h | apply Keeps.ite | dsimp only | apply chOff_keeps | apply chCommand_keeps | apply Keeps.ite1 | split
    | assumption

theorem chMark_keeps (x_n : Nat) (x_c : Nat) (h : Keeps s t) : Keeps s (chMark t x_n x_c) := by
  unfold chMark; try dsimp only
  with_reducible repeat' first
    | exact h | dsimp only | apply finc_keeps | apply fset_keeps | apply chJournal_keeps | apply raise_keeps | split
    | assumption

theorem chLatch_keeps (x_n : Nat) (h : Keeps s t) : Keeps s (chLatch t x_n) := by
  unfold chLatch; try dsimp only
  with_reducible repeat' first
    | exact h | dsimp only | apply fset_keeps | apply chJournal_keeps | apply raise_keeps | apply chCancelRetry_keeps
    | split | assumption

theorem chTrip_keeps (x_n : Nat) (x_c : Nat) (h : Keeps s t) : Keeps s (chTrip t x_n x_c) := by
  unfold chTrip; try dsimp only
  with_reducible repeat' first
    | exact h | apply Keeps.ite | dsimp only | simp only [keeps_mk] | simp only [keepsP_iff] | apply chMark_keeps
    | apply edgeCt_keeps | apply setChan_keeps | apply fset_keeps | apply chLatch_keeps | apply Keeps.ite1 | split
    | assumption

theorem chShed_keeps (x_n : Nat) (h : Keeps s t) : Keeps s (chShed t x_n) := by
  unfold chShed; try dsimp only
  with_reducible repeat' first
    | exact h | apply Keeps.ite | dsimp only | apply edgeCt_keeps | apply fset_keeps | apply withdraw_keeps
    | apply chJournal_keeps | apply chCancelRetry_keeps | apply Keeps.ite1 | intro _ _ _ h | intro _ _ h | intro _ h
    | split | assumption

theorem chResult_keeps (x_n : Nat) (x_iMa : Nat) (h : Keeps s t) : Keeps s (chResult t x_n x_iMa) := by
  unfold chResult; try dsimp only
  with_reducible repeat' first
    | exact h | apply Keeps.ite | dsimp only | simp only [keeps_mk] | simp only [keepsP_iff] | apply fset_keeps
    | apply setChan_keeps | apply chTrip_keeps | apply Keeps.ite1 | split | assumption

theorem wireStop_keeps (x_n : Nat) (h : Keeps s t) : Keeps s (wireStop t x_n) := by
  unfold wireStop; try dsimp only
  with_reducible repeat' first | exact h | dsimp only | apply fset_keeps | split | assumption

theorem wireNightStop_keeps (h : Keeps s t) : Keeps s (wireNightStop t) := by
  unfold wireNightStop; try dsimp only
  with_reducible repeat' first
    | exact h | apply Keeps.ite | dsimp only | apply wireStop_keeps | apply Keeps.ite1 | apply Keeps.foldl
    | apply Keeps.foldl1 | intro _ _ _ h | intro _ _ h | intro _ h | split | assumption

theorem execChnModeOff_keeps (x_ch : Fin 64) (s : State) : KeepsO s (execChnModeOff x_ch s) := by
  unfold execChnModeOff; try dsimp only
  with_reducible repeat' first
    | exact Keeps.refl s | assumption | apply KeepsO.next | dsimp only | apply wireNightStop_keeps
    | apply atTarget_keeps | apply chMode_keeps | intro _ _ _ _ | intro _ _ _ | intro _ _ | split

theorem execChnModeOn_keeps (x_ch : Fin 64) (s : State) : KeepsO s (execChnModeOn x_ch s) := by
  unfold execChnModeOn; try dsimp only
  with_reducible repeat' first
    | exact Keeps.refl s | assumption | apply KeepsO.next | dsimp only | apply atTarget_keeps | apply chMode_keeps
    | intro _ _ _ _ | intro _ _ _ | intro _ _ | split

theorem execChnModePwm_keeps (x_ch : Fin 64) (s : State) : KeepsO s (execChnModePwm x_ch s) := by
  unfold execChnModePwm; try dsimp only
  with_reducible repeat' first
    | exact Keeps.refl s | assumption | apply KeepsO.next | dsimp only | apply atTarget_keeps | apply chMode_keeps
    | intro _ _ _ _ | intro _ _ _ | intro _ _ | split

theorem execChnModeCreg_keeps (x_ch : Fin 64) (s : State) : KeepsO s (execChnModeCreg x_ch s) := by
  unfold execChnModeCreg; try dsimp only
  with_reducible repeat' first
    | exact Keeps.refl s | assumption | apply KeepsO.next | dsimp only | apply atTarget_keeps | apply chMode_keeps
    | intro _ _ _ _ | intro _ _ _ | intro _ _ | split

theorem execChnModePrecharge_keeps (x_ch : Fin 64) (s : State) : KeepsO s (execChnModePrecharge x_ch s) := by
  unfold execChnModePrecharge; try dsimp only
  with_reducible repeat' first
    | exact Keeps.refl s | assumption | apply KeepsO.next | dsimp only | apply atTarget_keeps | apply chMode_keeps
    | intro _ _ _ _ | intro _ _ _ | intro _ _ | split

theorem execChnClrLatch_keeps (x_ch : Fin 64) (s : State) : KeepsO s (execChnClrLatch x_ch s) := by
  unfold execChnClrLatch; try dsimp only
  with_reducible repeat' first
    | exact Keeps.refl s | assumption | apply KeepsO.next | dsimp only | apply atTarget_keeps | apply chClrLatch_keeps
    | intro _ _ _ _ | intro _ _ _ | intro _ _ | split

theorem execRampComplete_keeps (x_ch : Fin 64) (s : State) : KeepsO s (execRampComplete x_ch s) := by
  unfold execRampComplete; try dsimp only
  with_reducible repeat' first
    | exact Keeps.refl s | assumption | apply KeepsO.next | apply KeepsO.ite | apply Keeps.ite | dsimp only
    | apply chJournal_keeps | apply edgeCt_keeps | apply fset_keeps | apply Keeps.ite1 | intro _ _ _ _ | intro _ _ _
    | intro _ _ | split

theorem execRampTimeLimit_keeps (x_ch : Fin 64) (s : State) : KeepsO s (execRampTimeLimit x_ch s) := by
  unfold execRampTimeLimit; try dsimp only
  with_reducible repeat' first
    | exact Keeps.refl s | assumption | apply KeepsO.next | apply KeepsO.ite | apply Keeps.ite | dsimp only
    | apply chTrip_keeps | apply Keeps.ite1 | intro _ _ _ _ | intro _ _ _ | intro _ _ | split

theorem execSoaSample_keeps (x_ch : Fin 64) (x_vdsMv : Nat) (x_iMa : Nat) (x_vbankMv : Nat) (s : State) : KeepsO s (execSoaSample x_ch x_vdsMv x_iMa x_vbankMv s) := by
  unfold execSoaSample; try dsimp only
  with_reducible repeat' first
    | exact Keeps.refl s | assumption | apply KeepsO.next | apply KeepsO.ite | apply Keeps.ite | dsimp only
    | simp only [keeps_mk] | simp only [keepsP_iff] | apply setChan_keeps | apply fset_keeps | apply chTrip_keeps
    | apply Keeps.ite1 | intro _ _ _ _ | intro _ _ _ | intro _ _ | split

theorem execScTrip_keeps (x_ch : Fin 64) (s : State) : KeepsO s (execScTrip x_ch s) := by
  unfold execScTrip; try dsimp only
  with_reducible repeat' first
    | exact Keeps.refl s | assumption | apply KeepsO.next | dsimp only | apply chTrip_keeps | intro _ _ _ _
    | intro _ _ _ | intro _ _ | split

theorem execOpenLoad_keeps (x_ch : Fin 64) (s : State) : KeepsO s (execOpenLoad x_ch s) := by
  unfold execOpenLoad; try dsimp only
  with_reducible repeat' first
    | exact Keeps.refl s | assumption | apply KeepsO.next | apply KeepsO.ite | apply Keeps.ite | dsimp only
    | apply raise_keeps | apply fset_keeps | apply Keeps.ite1 | intro _ _ _ _ | intro _ _ _ | intro _ _ | split

theorem execPreLimit_keeps (x_ch : Fin 64) (s : State) : KeepsO s (execPreLimit x_ch s) := by
  unfold execPreLimit; try dsimp only
  with_reducible repeat' first
    | exact Keeps.refl s | assumption | apply KeepsO.next | apply KeepsO.ite | apply Keeps.ite | dsimp only
    | apply chPreEnd_keeps | apply fmax_keeps | apply Keeps.ite1 | intro _ _ _ _ | intro _ _ _ | intro _ _ | split

theorem execRampDownComplete_keeps (x_ch : Fin 64) (s : State) : KeepsO s (execRampDownComplete x_ch s) := by
  unfold execRampDownComplete; try dsimp only
  with_reducible repeat' first
    | exact Keeps.refl s | assumption | apply KeepsO.next | apply KeepsO.ite | apply Keeps.ite | dsimp only
    | apply fset_keeps | apply Keeps.ite1 | intro _ _ _ _ | intro _ _ _ | intro _ _ | split

theorem chPwmStart_keeps (x_n : Nat) (h : Keeps s t) : Keeps s (chPwmStart t x_n) := by
  unfold chPwmStart; try dsimp only
  with_reducible repeat' first
    | exact h | apply Keeps.ite | dsimp only | simp only [keeps_mk] | simp only [keepsP_iff] | apply fset_keeps
    | apply setChan_keeps | apply Keeps.ite1 | split | assumption

theorem execPwmPeriodStart_keeps (x_ch : Fin 64) (s : State) : KeepsO s (execPwmPeriodStart x_ch s) := by
  unfold execPwmPeriodStart; try dsimp only
  with_reducible repeat' first
    | exact Keeps.refl s | assumption | apply KeepsO.next | apply KeepsO.ite | apply Keeps.ite | dsimp only
    | apply trgEvent_keeps | apply chPwmStart_keeps | apply Keeps.ite1 | intro _ _ _ _ | intro _ _ _ | intro _ _
    | split

theorem execRetryReady_keeps (x_ch : Fin 64) (s : State) : KeepsO s (execRetryReady x_ch s) := by
  unfold execRetryReady; try dsimp only
  with_reducible repeat' first
    | exact Keeps.refl s | assumption | apply KeepsO.next | apply KeepsO.ite | apply Keeps.ite | dsimp only
    | apply passLoc_keeps | apply chPend_keeps | apply chCancelRetry_keeps | apply Keeps.ite1 | intro _ _ _ _
    | intro _ _ _ | intro _ _ | split

theorem execRetryRerequest_keeps (x_ch : Fin 64) (s : State) : KeepsO s (execRetryRerequest x_ch s) := by
  unfold execRetryRerequest; try dsimp only
  with_reducible repeat' first
    | exact Keeps.refl s | assumption | apply KeepsO.next | apply KeepsO.ite | apply Keeps.ite | dsimp only
    | apply chPend_keeps | apply Keeps.ite1 | intro _ _ _ _ | intro _ _ _ | intro _ _ | split

theorem execRetryCountReset_keeps (x_ch : Fin 64) (x_cause : TripCause) (s : State) : KeepsO s (execRetryCountReset x_ch x_cause s) := by
  unfold execRetryCountReset; try dsimp only
  with_reducible repeat' first
    | exact Keeps.refl s | assumption | apply KeepsO.next | apply KeepsO.ite | apply Keeps.ite | dsimp only
    | apply setChan_keeps | apply fset_keeps | apply Keeps.ite1 | intro _ _ _ _ | intro _ _ _ | intro _ _ | split

/-! ### Wire -/

theorem setWireX_keeps (x_n : Nat) (x_x : WireX) (h : Keeps s t) : Keeps s (setWireX t x_n x_x) := by
  unfold setWireX; try dsimp only
  with_reducible repeat' first
    | exact h | dsimp only | simp only [keeps_mk] | simp only [keepsP_iff] | intro _ _ _ h | intro _ _ h | intro _ h
    | split | assumption

theorem setAmbX_keeps (x_k : Nat) (x_x : AmbX) (h : Keeps s t) : Keeps s (setAmbX t x_k x_x) := by
  unfold setAmbX; try dsimp only
  with_reducible repeat' first
    | exact h | dsimp only | simp only [keeps_mk] | simp only [keepsP_iff] | intro _ _ _ h | intro _ _ h | intro _ h
    | split | assumption

theorem setAmbFb_keeps (x_k : Nat) (x_b : Bool) (h : Keeps s t) : Keeps s (setAmbFb t x_k x_b) := by
  unfold setAmbFb; try dsimp only
  with_reducible repeat' first
    | exact h | apply Keeps.ite | dsimp only | apply fsetB_keeps | apply Keeps.ite1 | apply Keeps.foldl
    | apply Keeps.foldl1 | intro _ _ _ h | intro _ _ h | intro _ h | split | assumption

theorem ambFault_keeps (x_k : Nat) (h : Keeps s t) : Keeps s (ambFault t x_k) := by
  unfold ambFault; try dsimp only
  with_reducible repeat' first
    | exact h | apply Keeps.ite | dsimp only | simp only [keeps_mk] | simp only [keepsP_iff] | apply setAmbFb_keeps
    | apply fset_keeps | apply raise_keeps | apply setAmbX_keeps | apply Keeps.ite1 | split | assumption

theorem ambJudge_keeps (x_k : Nat) (h : Keeps s t) : Keeps s (ambJudge t x_k) := by
  unfold ambJudge; try dsimp only
  with_reducible repeat' first
    | exact h | apply Keeps.ite | dsimp only | simp only [keeps_mk] | simp only [keepsP_iff] | apply fset_keeps
    | apply setAmbFb_keeps | apply setAmbX_keeps | apply ambFault_keeps | apply Keeps.ite1 | split | assumption

theorem setHold_keeps (x_n : Nat) (x_cause : Nat) (h : Keeps s t) : Keeps s (setHold t x_n x_cause) := by
  unfold setHold; try dsimp only
  with_reducible repeat' first
    | exact h | dsimp only | simp only [keeps_mk] | simp only [keepsP_iff] | apply setWireX_keeps | apply fset_keeps
    | split | assumption

theorem wireIdleLimit_keeps (x_n : Nat) (h : Keeps s t) : Keeps s (wireIdleLimit t x_n) := by
  unfold wireIdleLimit; try dsimp only
  with_reducible repeat' first
    | exact h | apply Keeps.ite | dsimp only | simp only [keeps_mk] | simp only [keepsP_iff] | apply fset_keeps
    | apply withdraw_keeps | apply setChan_keeps | apply Keeps.ite1 | intro _ _ _ h | intro _ _ h | intro _ h | split
    | assumption

theorem wireDecide_keeps (x_n : Nat) (x_w : WType) (x_ta : Nat) (h : Keeps s t) : Keeps s (wireDecide t x_n x_w x_ta) := by
  unfold wireDecide; try dsimp only
  with_reducible repeat' first
    | exact h | apply Keeps.ite | dsimp only | apply fset_keeps | apply chTrip_keeps | apply setHold_keeps
    | apply wireIdleLimit_keeps | apply Keeps.ite1 | split | assumption

theorem wireShow_keeps (x_n : Nat) (h : Keeps s t) : Keeps s (wireShow t x_n) := by
  unfold wireShow; try dsimp only
  with_reducible repeat' first
    | exact h | apply Keeps.ite | dsimp only | apply fset_keeps | apply drawBool_keeps | apply Keeps.ite1 | split
    | assumption

theorem wireBegin_keeps (x_n : Nat) (x_w : WType) (h : Keeps s t) : Keeps s (wireBegin t x_n x_w) := by
  unfold wireBegin; try dsimp only
  with_reducible repeat' first
    | exact h | apply Keeps.ite | dsimp only | simp only [keeps_mk] | simp only [keepsP_iff] | apply ambJudge_keeps
    | apply setWireX_keeps | apply fset_keeps | apply setHold_keeps | apply wireShow_keeps | apply Keeps.ite1 | split
    | assumption

theorem wireStart_keeps (x_ns : List Nat) (h : Keeps s t) : Keeps s (wireStart t x_ns) := by
  unfold wireStart; try dsimp only
  with_reducible repeat' first
    | exact h | dsimp only | simp only [keeps_mk] | simp only [keepsP_iff] | apply fsetB_keeps | apply fset_keeps
    | apply wireBegin_keeps | apply Keeps.foldl | apply Keeps.foldl1 | intro _ _ _ h | intro _ _ h | intro _ h | split
    | assumption

theorem wireFrameChan_keeps (x_dt : Nat) (x_n : Nat) (h : Keeps s t) : Keeps s (wireFrameChan x_dt t x_n) := by
  unfold wireFrameChan; try dsimp only
  with_reducible repeat' first
    | exact h | apply Keeps.ite | dsimp only | simp only [keeps_mk] | simp only [keepsP_iff] | apply wireStop_keeps
    | apply wireBegin_keeps | apply ambJudge_keeps | apply setWireX_keeps | apply fset_keeps | apply wireShow_keeps
    | apply wireDecide_keeps | apply Keeps.ite1 | split | assumption

theorem wireResult_keeps (x_n : Nat) (x_iMa : Nat) (h : Keeps s t) : Keeps s (wireResult t x_n x_iMa) := by
  unfold wireResult; try dsimp only
  with_reducible repeat' first
    | exact h | dsimp only | simp only [keeps_mk] | simp only [keepsP_iff] | apply fset_keeps | apply setWireX_keeps
    | split | assumption

theorem execWireModelFrame_keeps (x_half : Bool) (x_work : Nat) (s : State) : KeepsO s (execWireModelFrame x_half x_work s) := by
  unfold execWireModelFrame; try dsimp only
  with_reducible repeat' first
    | exact Keeps.refl s | assumption | apply KeepsO.next | apply KeepsO.ite | apply Keeps.ite | dsimp only
    | apply frameBegin_keeps | apply wireNightStop_keeps | apply wireFrameChan_keeps | apply Keeps.ite1
    | apply Keeps.foldl | apply Keeps.foldl1 | intro _ _ _ _ | intro _ _ _ | intro _ _ | split

theorem execWireStale_keeps (x_ch : Fin 64) (s : State) : KeepsO s (execWireStale x_ch s) := by
  unfold execWireStale; try dsimp only
  with_reducible repeat' first
    | exact Keeps.refl s | assumption | apply KeepsO.next | apply KeepsO.ite | apply Keeps.ite | dsimp only
    | apply passLoc_keeps | apply raise_keeps | apply fset_keeps | apply Keeps.ite1 | intro _ _ _ _ | intro _ _ _
    | intro _ _ | split

theorem execAmbientFault_keeps (x_k : Fin 16) (s : State) : KeepsO s (execAmbientFault x_k s) := by
  unfold execAmbientFault; try dsimp only
  with_reducible repeat' first
    | exact Keeps.refl s | assumption | apply KeepsO.next | dsimp only | apply ambFault_keeps | intro _ _ _ _
    | intro _ _ _ | intro _ _ | split

theorem wireKeep_keeps (h : Keeps s t) : Keeps s (wireKeep t) := by
  unfold wireKeep; try dsimp only
  with_reducible repeat' first
    | exact h | dsimp only | simp only [keeps_mk] | simp only [keepsP_iff] | split | assumption

theorem execWireRetentionWrite_keeps (s : State) : KeepsO s (execWireRetentionWrite s) := by
  unfold execWireRetentionWrite; try dsimp only
  with_reducible repeat' first
    | exact Keeps.refl s | assumption | apply KeepsO.next | dsimp only | apply wireKeep_keeps | intro _ _ _ _
    | intro _ _ _ | intro _ _ | split

theorem dieTemp_keeps (x_t16 : Int) (h : Keeps s t) : Keeps s (dieTemp t x_t16) := by
  unfold dieTemp; try dsimp only
  with_reducible repeat' first
    | exact h | apply Keeps.ite | dsimp only | simp only [keeps_mk] | simp only [keepsP_iff] | apply ambJudge_keeps
    | apply Keeps.ite1 | apply Keeps.foldl | apply Keeps.foldl1 | intro _ _ _ h | intro _ _ h | intro _ h | split
    | assumption

/-! ### Adc -/

theorem setAdcX_keeps (x_q : Nat) (x_x : AdcSeqX) (h : Keeps s t) : Keeps s (setAdcX t x_q x_x) := by
  unfold setAdcX; try dsimp only
  with_reducible repeat' first
    | exact h | dsimp only | simp only [keeps_mk] | simp only [keepsP_iff] | intro _ _ _ h | intro _ _ h | intro _ h
    | split | assumption

theorem adcShow_keeps (x_c : Nat) (x_ready : Bool) (h : Keeps s t) : Keeps s (adcShow t x_c x_ready) := by
  unfold adcShow; try dsimp only
  with_reducible repeat' first
    | exact h | dsimp only | simp only [keeps_mk] | simp only [keepsP_iff] | apply fset_keeps | split | assumption

theorem adcClear_keeps (x_q : Nat) (h : Keeps s t) : Keeps s (adcClear t x_q) := by
  unfold adcClear; try dsimp only
  with_reducible repeat' first
    | exact h | dsimp only | simp only [keeps_mk] | simp only [keepsP_iff] | apply fset_keeps | apply setAdcX_keeps
    | split | assumption

theorem adcBegin_keeps (x_q : Nat) (h : Keeps s t) : Keeps s (adcBegin t x_q) := by
  unfold adcBegin; try dsimp only
  with_reducible repeat' first
    | exact h | apply Keeps.ite | dsimp only | simp only [keeps_mk] | simp only [keepsP_iff] | apply setAdcX_keeps
    | apply fset_keeps | apply fset64_keeps | apply adcShow_keeps | apply Keeps.ite1 | split | assumption

theorem adcNext_keeps (x_c : Nat) (h : Keeps s t) : Keeps s (adcNext t x_c) := by
  unfold adcNext; try dsimp only
  with_reducible repeat' first
    | exact h | apply Keeps.ite | dsimp only | simp only [keeps_mk] | simp only [keepsP_iff] | apply adcBegin_keeps
    | apply adcShow_keeps | apply Keeps.ite1 | intro _ _ _ h | intro _ _ h | intro _ h | split | assumption

theorem adcLost_keeps (x_q : Nat) (h : Keeps s t) : Keeps s (adcLost t x_q) := by
  unfold adcLost; try dsimp only
  with_reducible repeat' first
    | exact h | dsimp only | apply raise_keeps | apply finc_keeps | apply fset_keeps | split | assumption

theorem adcStart_keeps (x_q : Nat) (x_chained : Bool) (h : Keeps s t) : Keeps s ((adcStart t x_q x_chained).1) := by
  unfold adcStart; try dsimp only
  with_reducible repeat' first
    | exact h | apply Keeps.ite | dsimp only | simp only [keeps_mk] | simp only [keepsP_iff] | apply adcLost_keeps
    | apply setAdcX_keeps | apply fset_keeps | apply Keeps.ite1 | split | assumption

theorem adcCommon_keeps (x_qs : List Nat) (h : Keeps s t) : Keeps s ((adcCommon t x_qs).1) := by
  unfold adcCommon; try dsimp only
  with_reducible repeat' first
    | exact h | apply Keeps.ite | dsimp only | apply adcStart_keeps | apply adcNext_keeps | apply Keeps.ite1
    | apply Keeps.foldl | apply Keeps.foldl1 | intro _ _ _ h | intro _ _ h | intro _ h | split | assumption

theorem adcAuto_keeps (x_c : Nat) (h : Keeps s t) : Keeps s (adcAuto t x_c) := by
  unfold adcAuto; try dsimp only
  with_reducible repeat' first
    | exact h | dsimp only | apply KeepsP.filter | apply adcCommon_keeps | intro _ _ _ h | intro _ _ h | intro _ h
    | split | assumption

theorem adcPreempt_keeps (x_c : Nat) (x_q : Nat) (h : Keeps s t) : Keeps s (adcPreempt t x_c x_q) := by
  unfold adcPreempt; try dsimp only
  with_reducible repeat' first
    | exact h | apply Keeps.ite | dsimp only | apply adcNext_keeps | apply fset_keeps | apply Keeps.ite1
    | intro _ _ _ h | intro _ _ h | intro _ h | split | assumption

theorem adcRunEnd_keeps (x_q : Nat) (h : Keeps s t) : Keeps s (adcRunEnd t x_q) := by
  unfold adcRunEnd; try dsimp only
  with_reducible repeat' first
    | exact h | apply Keeps.ite | dsimp only | simp only [keeps_mk] | simp only [keepsP_iff] | apply fset_keeps
    | apply setAdcX_keeps | apply adcStart_keeps | apply adcNext_keeps | apply Keeps.ite1 | split | assumption

theorem quotFree_keeps (x_num : Nat) (x_den : Nat) (h : Keeps s t) : Keeps s ((quotFree t x_num x_den).2) := by
  unfold quotFree; try dsimp only
  with_reducible repeat' first
    | exact h | apply Keeps.ite | dsimp only | apply drawBool_keeps | apply Keeps.ite1 | apply Keeps.ite2 | split
    | assumption

theorem inputPut_keeps (x_i : Nat) (x_sum : Int) (x_avg : Nat) (x_gain : Nat) (h : Keeps s t) : Keeps s (inputPut t x_i x_sum x_avg x_gain) := by
  unfold inputPut; try dsimp only
  with_reducible repeat' first
    | exact h | dsimp only | simp only [keeps_mk] | simp only [keepsP_iff] | intro _ _ _ h | intro _ _ h | intro _ h
    | split | assumption

theorem vdsUpdate_keeps (x_n : Nat) (h : Keeps s t) : Keeps s (vdsUpdate t x_n) := by
  unfold vdsUpdate; try dsimp only
  with_reducible repeat' first | exact h | dsimp only | apply fset_keeps | split | assumption

theorem adcSense_keeps (x_n : Nat) (x_sum : Int) (x_avg : Nat) (x_gain : Nat) (h : Keeps s t) : Keeps s (adcSense t x_n x_sum x_avg x_gain) := by
  unfold adcSense; try dsimp only
  with_reducible repeat' first
    | exact h | dsimp only | apply quotFree_keeps | apply measure_keeps | apply vdsUpdate_keeps
    | apply wireResult_keeps | apply chResult_keeps | split | assumption

theorem adcOut_keeps (x_n : Nat) (x_sum : Int) (x_avg : Nat) (x_gain : Nat) (h : Keeps s t) : Keeps s (adcOut t x_n x_sum x_avg x_gain) := by
  unfold adcOut; try dsimp only
  with_reducible repeat' first
    | exact h | dsimp only | apply quotFree_keeps | apply vdsUpdate_keeps | apply fset_keeps | split | assumption

theorem adcBank_keeps (x_b : Nat) (h : Keeps s t) : Keeps s (adcBank t x_b) := by
  unfold adcBank; try dsimp only
  with_reducible repeat' first
    | exact h | dsimp only | apply vdsUpdate_keeps | apply Keeps.foldl | apply Keeps.foldl1 | intro _ _ _ h
    | intro _ _ h | intro _ h | split | assumption

theorem adcPut_keeps (x_i : Nat) (x_v : Int) (x_sat : Bool) (h : Keeps s t) : Keeps s (adcPut t x_i x_v x_sat) := by
  unfold adcPut; try dsimp only
  with_reducible repeat' first
    | exact h | dsimp only | simp only [keeps_mk] | simp only [keepsP_iff] | apply fset_keeps | apply fsetB_keeps
    | intro _ _ _ h | intro _ _ h | intro _ h | split | assumption

theorem adcForward_keeps (x_inp : Nat) (x_sum : Int) (x_avg : Nat) (x_gain : Nat) (h : Keeps s t) : Keeps s (adcForward t x_inp x_sum x_avg x_gain) := by
  unfold adcForward; try dsimp only
  with_reducible repeat' first
    | exact h | apply Keeps.ite | dsimp only | apply inputPut_keeps | apply adcSense_keeps | apply adcOut_keeps
    | apply adcBank_keeps | apply Keeps.ite1 | split | assumption

theorem adcForwardEnt_keeps (x_q : Nat) (x_e : Nat) (x_sum : Int) (h : Keeps s t) : Keeps s (adcForwardEnt t x_q x_e x_sum) := by
  unfold adcForwardEnt; try dsimp only
  with_reducible repeat' first | exact h | dsimp only | apply adcForward_keeps | split | assumption

theorem adcAmbients_keeps (x_i : Nat) (h : Keeps s t) : Keeps s (adcAmbients t x_i) := by
  unfold adcAmbients; try dsimp only
  with_reducible repeat' first
    | exact h | apply Keeps.ite | dsimp only | apply ambJudge_keeps | apply Keeps.ite1 | apply Keeps.foldl
    | apply Keeps.foldl1 | intro _ _ _ h | intro _ _ h | intro _ h | split | assumption

theorem adcPublish_keeps (x_q : Nat) (x_l : List (Int × Bool)) (h : Keeps s t) : Keeps s (adcPublish t x_q x_l) := by
  unfold adcPublish; try dsimp only
  with_reducible repeat' first
    | exact h | dsimp only | simp only [keeps_mk] | simp only [keepsP_iff] | apply adcPut_keeps | apply setAdcX_keeps
    | apply finc_keeps | apply fset_keeps | apply adcAmbients_keeps | apply adcForwardEnt_keeps | apply Keeps.foldl
    | apply Keeps.foldl1 | intro _ _ _ h | intro _ _ h | intro _ h | split | assumption

theorem adcDown_keeps (x_c : Nat) (h : Keeps s t) : Keeps s (adcDown t x_c) := by
  unfold adcDown; try dsimp only
  with_reducible repeat' first
    | exact h | apply Keeps.ite | dsimp only | simp only [keeps_mk] | simp only [keepsP_iff] | apply KeepsP.filter
    | apply fset_keeps | apply setAdcX_keeps | apply adcClear_keeps | apply targetReset_keeps | apply Keeps.ite1
    | apply Keeps.foldl | apply Keeps.foldl1 | intro _ _ _ h | intro _ _ h | intro _ h | split | assumption

theorem adcUp_keeps (x_c : Nat) (h : Keeps s t) : Keeps s (adcUp t x_c) := by
  unfold adcUp; try dsimp only
  with_reducible repeat' first
    | exact h | dsimp only | simp only [keeps_mk] | simp only [keepsP_iff] | apply KeepsP.filter | split | assumption

theorem adcEnable_keeps (x_en : Nat) (h : Keeps s t) : Keeps s (adcEnable t x_en) := by
  unfold adcEnable; try dsimp only
  with_reducible repeat' first
    | exact h | apply Keeps.ite | dsimp only | apply adcUp_keeps | apply adcDown_keeps | apply fset_keeps
    | apply Keeps.ite1 | apply Keeps.foldl | apply Keeps.foldl1 | intro _ _ _ h | intro _ _ h | intro _ h | split
    | assumption

theorem fsetIf_keeps (x_f : Fld) (x_v : Nat) (x_ok : Bool) (h : Keeps s t) : Keeps s (fsetIf t x_f x_v x_ok) := by
  unfold fsetIf; try dsimp only
  with_reducible repeat' first
    | exact h | apply Keeps.ite | dsimp only | apply fset_keeps | apply Keeps.ite1 | split | assumption

theorem adcCfgStore_keeps (x_q : Nat) (x_w : Nat) (h : Keeps s t) : Keeps s (adcCfgStore t x_q x_w) := by
  unfold adcCfgStore; try dsimp only
  with_reducible repeat' first | exact h | dsimp only | apply fset_keeps | apply fsetIf_keeps | split | assumption

theorem adcDisable_keeps (x_q : Nat) (h : Keeps s t) : Keeps s (adcDisable t x_q) := by
  unfold adcDisable; try dsimp only
  with_reducible repeat' first
    | exact h | apply Keeps.ite | dsimp only | simp only [keeps_mk] | simp only [keepsP_iff] | apply fset_keeps
    | apply setAdcX_keeps | apply adcNext_keeps | apply adcClear_keeps | apply Keeps.ite1 | split | assumption

theorem adcCfgWrite_keeps (x_q : Nat) (x_w : Nat) (h : Keeps s t) : Keeps s ((adcCfgWrite t x_q x_w).1) := by
  unfold adcCfgWrite; try dsimp only
  with_reducible repeat' first
    | exact h | apply Keeps.ite | dsimp only | apply adcDisable_keeps | apply adcCfgStore_keeps | apply Keeps.ite1
    | split | assumption

theorem execAdcPowerUp_keeps (x_c : Fin 4) (s : State) : KeepsO s (execAdcPowerUp x_c s) := by
  unfold execAdcPowerUp; try dsimp only
  with_reducible repeat' first
    | exact Keeps.refl s | assumption | apply KeepsO.next | dsimp only | apply complete_keeps | apply adcEnable_keeps
    | intro _ _ _ _ | intro _ _ _ | intro _ _ | split

theorem execAdcPowerDown_keeps (x_c : Fin 4) (s : State) : KeepsO s (execAdcPowerDown x_c s) := by
  unfold execAdcPowerDown; try dsimp only
  with_reducible repeat' first
    | exact Keeps.refl s | assumption | apply KeepsO.next | dsimp only | apply complete_keeps | apply adcEnable_keeps
    | intro _ _ _ _ | intro _ _ _ | intro _ _ | split

theorem execAdcReady_keeps (x_c : Fin 4) (s : State) : KeepsO s (execAdcReady x_c s) := by
  unfold execAdcReady; try dsimp only
  with_reducible repeat' first
    | exact Keeps.refl s | assumption | apply KeepsO.next | apply KeepsO.ite | apply Keeps.ite | dsimp only
    | simp only [keeps_mk] | simp only [keepsP_iff] | apply KeepsP.filter | apply adcShow_keeps | apply adcAuto_keeps
    | apply Keeps.ite1 | intro _ _ _ _ | intro _ _ _ | intro _ _ | split

theorem execAdcSwtrig_keeps (x_mask : BitVec 16) (s : State) : KeepsO s (execAdcSwtrig x_mask s) := by
  unfold execAdcSwtrig; try dsimp only
  with_reducible repeat' first
    | exact Keeps.refl s | assumption | apply KeepsO.next | apply KeepsO.ite | apply Keeps.ite | dsimp only
    | apply adcCommon_keeps | apply complete_keeps | apply Keeps.ite1 | intro _ _ _ _ | intro _ _ _ | intro _ _
    | split

theorem execAdcTriggerFire_keeps (x_t : Fin 4) (s : State) : KeepsO s (execAdcTriggerFire x_t s) := by
  unfold execAdcTriggerFire; try dsimp only
  with_reducible repeat' first
    | exact Keeps.refl s | assumption | apply KeepsO.next | apply KeepsO.ite | apply Keeps.ite | dsimp only
    | simp only [keeps_mk] | simp only [keepsP_iff] | apply passTo_keeps | apply adcCommon_keeps | apply Keeps.ite1
    | intro _ _ _ _ | intro _ _ _ | intro _ _ | split

theorem execAdcConversionEnd_keeps (x_c : Fin 4) (x_sample : Int) (s : State) : KeepsO s (execAdcConversionEnd x_c x_sample s) := by
  unfold execAdcConversionEnd; try dsimp only
  with_reducible repeat' first
    | exact Keeps.refl s | assumption | apply KeepsO.next | apply KeepsO.ite | apply Keeps.ite | dsimp only
    | simp only [keeps_mk] | simp only [keepsP_iff] | apply adcNext_keeps | apply adcClear_keeps | apply fset_keeps
    | apply setAdcX_keeps | apply adcPreempt_keeps | apply adcRunEnd_keeps | apply Keeps.ite1 | intro _ _ _ _
    | intro _ _ _ | intro _ _ | split

theorem execAdcResultPublish_keeps (x_c : Fin 4) (x_q : Fin 4) (s : State) : KeepsO s (execAdcResultPublish x_c x_q s) := by
  unfold execAdcResultPublish; try dsimp only
  with_reducible repeat' first
    | exact Keeps.refl s | assumption | apply KeepsO.next | dsimp only | simp only [keeps_mk] | simp only [keepsP_iff]
    | apply adcPublish_keeps | intro _ _ _ _ | intro _ _ _ | intro _ _ | split

theorem execAdcSeqCfgWrite_keeps (x_c : Fin 4) (x_q : Fin 4) (x_w : Word) (s : State) : KeepsO s (execAdcSeqCfgWrite x_c x_q x_w s) := by
  unfold execAdcSeqCfgWrite; try dsimp only
  with_reducible repeat' first
    | exact Keeps.refl s | assumption | apply KeepsO.next | dsimp only | apply atTarget_keeps
    | apply adcCfgWrite_keeps | intro _ _ _ _ | intro _ _ _ | intro _ _ | split

/-! ### Charger -/

theorem chgSetIt_keeps (x_ma : Nat) (h : Keeps s t) : Keeps s (chgSetIt t x_ma) := by
  unfold chgSetIt; try dsimp only
  with_reducible repeat' first
    | exact h | dsimp only | simp only [keeps_mk] | simp only [keepsP_iff] | apply fset_keeps | split | assumption

theorem chgGo_keeps (x_st : Nat) (h : Keeps s t) : Keeps s (chgGo t x_st) := by
  unfold chgGo; try dsimp only
  with_reducible repeat' first
    | exact h | apply Keeps.ite | dsimp only | simp only [keeps_mk] | simp only [keepsP_iff] | apply withdraw_keeps
    | apply fset_keeps | apply Keeps.ite1 | intro _ _ _ h | intro _ _ h | intro _ h | split | assumption

theorem chgPend_keeps (h : Keeps s t) : Keeps s (chgPend t) := by
  unfold chgPend; try dsimp only
  with_reducible repeat' first
    | exact h | dsimp only | simp only [keeps_mk] | simp only [keepsP_iff] | apply withdraw_keeps | apply chgGo_keeps
    | apply request_keeps | intro _ _ _ h | intro _ _ h | intro _ h | split | assumption

theorem chgInput_keeps (h : Keeps s t) : Keeps s (chgInput t) := by
  unfold chgInput; try dsimp only
  with_reducible repeat' first | exact h | dsimp only | apply fsetB_keeps | apply fset_keeps | split | assumption

theorem chgReselect_keeps (h : Keeps s t) : Keeps s (chgReselect t) := by
  unfold chgReselect; try dsimp only
  with_reducible repeat' first
    | exact h | apply Keeps.ite | dsimp only | apply chgInput_keeps | apply chgPend_keeps | apply Keeps.ite1 | split
    | assumption

theorem chgSupply_keeps (h : Keeps s t) : Keeps s (chgSupply t) := by
  unfold chgSupply; try dsimp only
  with_reducible repeat' first
    | exact h | apply Keeps.ite | dsimp only | apply chgReselect_keeps | apply Keeps.ite1 | split | assumption

theorem chgAdmit_keeps (h : Keeps s t) : Keeps s (chgAdmit t) := by
  unfold chgAdmit; try dsimp only
  with_reducible repeat' first
    | exact h | apply Keeps.ite | dsimp only | simp only [keeps_mk] | simp only [keepsP_iff] | apply fset_keeps
    | apply chgGo_keeps | apply Keeps.ite1 | split | assumption

theorem chgAdmitted_keeps (x_k : ReqKind) (h : Keeps s t) : Keeps s (chgAdmitted t x_k) := by
  unfold chgAdmitted; try dsimp only
  with_reducible repeat' first
    | exact h | apply Keeps.ite | dsimp only | simp only [keeps_mk] | simp only [keepsP_iff] | apply chgAdmit_keeps
    | apply chgSetIt_keeps | apply fset_keeps | apply Keeps.ite1 | split | assumption

theorem chgRefused_keeps (x_k : ReqKind) (x_code : Nat) (h : Keeps s t) : Keeps s (chgRefused t x_k x_code) := by
  unfold chgRefused; try dsimp only
  with_reducible repeat' first
    | exact h | apply Keeps.ite | dsimp only | simp only [keeps_mk] | simp only [keepsP_iff] | apply chgFlag_keeps
    | apply fset_keeps | apply chgGo_keeps | apply Keeps.ite1 | split | assumption

theorem supDisarm_keeps (h : Keeps s t) : Keeps s (supDisarm t) := by
  unfold supDisarm; try dsimp only
  with_reducible repeat' first
    | exact h | dsimp only | simp only [keeps_mk] | simp only [keepsP_iff] | apply withdraw_keeps | apply fset_keeps
    | intro _ _ _ h | intro _ _ h | intro _ h | split | assumption

theorem supEnded_keeps (x_disarm : Bool) (h : Keeps s t) : Keeps s (supEnded t x_disarm) := by
  unfold supEnded; try dsimp only
  with_reducible repeat' first
    | exact h | apply Keeps.ite | dsimp only | simp only [keeps_mk] | simp only [keepsP_iff] | apply chgFlag_keeps
    | apply supDisarm_keeps | apply Keeps.ite1 | split | assumption

theorem supStop_keeps (x_disarm : Bool) (h : Keeps s t) : Keeps s (supStop t x_disarm) := by
  unfold supStop; try dsimp only
  with_reducible repeat' first | exact h | dsimp only | apply chgGo_keeps | apply supEnded_keeps | split | assumption

theorem supStart_keeps (h : Keeps s t) : Keeps s (supStart t) := by
  unfold supStart; try dsimp only
  with_reducible repeat' first
    | exact h | dsimp only | simp only [keeps_mk] | simp only [keepsP_iff] | apply chgGo_keeps | apply chgFlag_keeps
    | apply finc_keeps | split | assumption

theorem chgShed_keeps (h : Keeps s t) : Keeps s (chgShed t) := by
  unfold chgShed; try dsimp only
  with_reducible repeat' first
    | exact h | apply Keeps.ite | dsimp only | apply supStop_keeps | apply chgFlag_keeps | apply chgGo_keeps
    | apply Keeps.ite1 | split | assumption

theorem chgFault_keeps (x_cause : Nat) (h : Keeps s t) : Keeps s (chgFault t x_cause) := by
  unfold chgFault; try dsimp only
  with_reducible repeat' first | exact h | dsimp only | apply chgGo_keeps | apply fset_keeps | split | assumption

theorem chgStart_keeps (h : Keeps s t) : Keeps s ((chgStart t).1) := by
  unfold chgStart; try dsimp only
  with_reducible repeat' first
    | exact h | apply Keeps.ite | dsimp only | apply chgGo_keeps | apply chgInput_keeps | apply Keeps.ite1 | split
    | assumption

theorem chgSetCurrent_keeps (x_iset : Nat) (x_strobe : Bool) (h : Keeps s t) : Keeps s ((chgSetCurrent t x_iset x_strobe).1) := by
  unfold chgSetCurrent; try dsimp only
  with_reducible repeat' first
    | exact h | apply Keeps.ite | dsimp only | simp only [keeps_mk] | simp only [keepsP_iff] | apply withdraw_keeps
    | apply request_keeps | apply release_keeps | apply chgSetIt_keeps | apply Keeps.ite1 | intro _ _ _ h
    | intro _ _ h | intro _ h | split | assumption

theorem chgRef_keeps (h : Keeps s t) : Keeps s ((chgRef t).1) := by
  unfold chgRef; try dsimp only
  with_reducible repeat' first
    | exact h | apply Keeps.ite | dsimp only | apply fset_keeps | apply chgGo_keeps | apply chgInput_keeps
    | apply chgPend_keeps | apply Keeps.ite1 | split | assumption

theorem chgCommand_keeps (x_cmd : Nat) (x_iset : Nat) (x_strobe : Bool) (h : Keeps s t) : Keeps s ((chgCommand t x_cmd x_iset x_strobe).1) := by
  unfold chgCommand; try dsimp only
  with_reducible repeat' first
    | exact h | apply Keeps.ite | dsimp only | simp only [keeps_mk] | simp only [keepsP_iff] | apply chgStart_keeps
    | apply chgGo_keeps | apply supEnded_keeps | apply chgSetCurrent_keeps | apply chgRef_keeps | apply request_keeps
    | apply supStop_keeps | apply supDisarm_keeps | apply supStart_keeps | apply fset_keeps | apply Keeps.ite1
    | intro _ _ _ h | intro _ _ h | intro _ h | split | assumption

theorem chgDone_keeps (h : Keeps s t) : Keeps s (chgDone t) := by
  unfold chgDone; try dsimp only
  with_reducible repeat' first
    | exact h | dsimp only | simp only [keeps_mk] | simp only [keepsP_iff] | apply chgGo_keeps | split | assumption

theorem chgPhase_keeps (x_e : ChgEvent) (h : Keeps s t) : Keeps s (chgPhase t x_e) := by
  unfold chgPhase; try dsimp only
  with_reducible repeat' first
    | exact h | apply Keeps.ite | dsimp only | simp only [keeps_mk] | simp only [keepsP_iff] | apply chgGo_keeps
    | apply chgFlag_keeps | apply finc_keeps | apply chgDone_keeps | apply chgPend_keeps | apply chgInput_keeps
    | apply Keeps.ite1 | split | assumption

theorem chgThermal_keeps (h : Keeps s t) : Keeps s (chgThermal t) := by
  unfold chgThermal; try dsimp only
  with_reducible repeat' first
    | exact h | dsimp only | simp only [keeps_mk] | simp only [keepsP_iff] | apply fsetB_keeps | split | assumption

theorem chgExpire_keeps (h : Keeps s t) : Keeps s (chgExpire t) := by
  unfold chgExpire; try dsimp only
  with_reducible repeat' first
    | exact h | apply Keeps.ite | dsimp only | apply raise_keeps | apply chgFlag_keeps | apply chgFault_keeps
    | apply Keeps.ite1 | split | assumption

theorem gaugeFreeze_keeps (h : Keeps s t) : Keeps s (gaugeFreeze t) := by
  unfold gaugeFreeze; try dsimp only
  with_reducible repeat' first
    | exact h | apply Keeps.ite | dsimp only | simp only [keeps_mk] | simp only [keepsP_iff] | apply fset_keeps
    | apply journal_keeps | apply Keeps.ite1 | split | assumption

theorem packGone_keeps (h : Keeps s t) : Keeps s (packGone t) := by
  unfold packGone; try dsimp only
  with_reducible repeat' first
    | exact h | apply Keeps.ite | dsimp only | simp only [keeps_mk] | simp only [keepsP_iff] | apply chgFlag_keeps
    | apply finc_keeps | apply fset_keeps | apply gaugeFreeze_keeps | apply supEnded_keeps | apply raise_keeps
    | apply chgGo_keeps | apply chgInput_keeps | apply Keeps.ite1 | split | assumption

theorem gaugeThaw_keeps (h : Keeps s t) : Keeps s (gaugeThaw t) := by
  unfold gaugeThaw; try dsimp only
  with_reducible repeat' first
    | exact h | apply Keeps.ite | dsimp only | simp only [keeps_mk] | simp only [keepsP_iff] | apply fset_keeps
    | apply journal_keeps | apply Keeps.ite1 | split | assumption

theorem packMatch_keeps (x_id : Nat) (x_vpackMv : Nat) (h : Keeps s t) : Keeps s (packMatch t x_id x_vpackMv) := by
  unfold packMatch; try dsimp only
  with_reducible repeat' first
    | exact h | apply Keeps.ite | dsimp only | simp only [keeps_mk] | simp only [keepsP_iff] | apply gaugeThaw_keeps
    | apply chgFlag_keeps | apply fset_keeps | apply chgPend_keeps | apply chgGo_keeps | apply Keeps.ite1 | split
    | assumption

theorem packShown_keeps (x_id : Nat) (x_vpackMv : Nat) (h : Keeps s t) : Keeps s (packShown t x_id x_vpackMv) := by
  unfold packShown; try dsimp only
  with_reducible repeat' first
    | exact h | apply Keeps.ite | dsimp only | simp only [keeps_mk] | simp only [keepsP_iff] | apply fset_keeps
    | apply packMatch_keeps | apply raise_keeps | apply chgFlag_keeps | apply chgFault_keeps | apply Keeps.ite1
    | split | assumption

theorem mpptStep_keeps (x_p : Nat) (h : Keeps s t) : Keeps s (mpptStep t x_p) := by
  unfold mpptStep; try dsimp only
  with_reducible repeat' first
    | exact h | apply Keeps.ite | dsimp only | simp only [keeps_mk] | simp only [keepsP_iff] | apply fset_keeps
    | apply Keeps.ite1 | split | assumption

theorem storageEnter_keeps (h : Keeps s t) : Keeps s (storageEnter t) := by
  unfold storageEnter; try dsimp only
  with_reducible repeat' first
    | exact h | apply Keeps.ite | dsimp only | simp only [keeps_mk] | simp only [keepsP_iff] | apply chOff_keeps
    | apply chgGo_keeps | apply supEnded_keeps | apply targetReset_keeps | apply Keeps.ite1 | apply Keeps.foldl
    | apply Keeps.foldl1 | intro _ _ _ h | intro _ _ h | intro _ h | split | assumption

theorem execChgStart_keeps (s : State) : KeepsO s (execChgStart s) := by
  unfold execChgStart; try dsimp only
  with_reducible repeat' first
    | exact Keeps.refl s | assumption | apply KeepsO.next | dsimp only | apply atTarget_keeps | apply chgCommand_keeps
    | intro _ _ _ _ | intro _ _ _ | intro _ _ | split

theorem execChgStop_keeps (s : State) : KeepsO s (execChgStop s) := by
  unfold execChgStop; try dsimp only
  with_reducible repeat' first
    | exact Keeps.refl s | assumption | apply KeepsO.next | dsimp only | apply atTarget_keeps | apply chgCommand_keeps
    | intro _ _ _ _ | intro _ _ _ | intro _ _ | split

theorem execChgSetCurrent_keeps (x_iset : Fin 4096) (s : State) : KeepsO s (execChgSetCurrent x_iset s) := by
  unfold execChgSetCurrent; try dsimp only
  with_reducible repeat' first
    | exact Keeps.refl s | assumption | apply KeepsO.next | dsimp only | apply atTarget_keeps | apply chgCommand_keeps
    | intro _ _ _ _ | intro _ _ _ | intro _ _ | split

theorem execChgRefCharge_keeps (s : State) : KeepsO s (execChgRefCharge s) := by
  unfold execChgRefCharge; try dsimp only
  with_reducible repeat' first
    | exact Keeps.refl s | assumption | apply KeepsO.next | dsimp only | apply atTarget_keeps | apply chgCommand_keeps
    | intro _ _ _ _ | intro _ _ _ | intro _ _ | split

theorem execChgArmSupport_keeps (s : State) : KeepsO s (execChgArmSupport s) := by
  unfold execChgArmSupport; try dsimp only
  with_reducible repeat' first
    | exact Keeps.refl s | assumption | apply KeepsO.next | dsimp only | apply atTarget_keeps | apply chgCommand_keeps
    | intro _ _ _ _ | intro _ _ _ | intro _ _ | split

theorem execChgDisarmSupport_keeps (s : State) : KeepsO s (execChgDisarmSupport s) := by
  unfold execChgDisarmSupport; try dsimp only
  with_reducible repeat' first
    | exact Keeps.refl s | assumption | apply KeepsO.next | dsimp only | apply atTarget_keeps | apply chgCommand_keeps
    | intro _ _ _ _ | intro _ _ _ | intro _ _ | split

theorem execChgStartSupport_keeps (s : State) : KeepsO s (execChgStartSupport s) := by
  unfold execChgStartSupport; try dsimp only
  with_reducible repeat' first
    | exact Keeps.refl s | assumption | apply KeepsO.next | dsimp only | apply atTarget_keeps | apply chgCommand_keeps
    | intro _ _ _ _ | intro _ _ _ | intro _ _ | split

theorem execChgEndSupport_keeps (s : State) : KeepsO s (execChgEndSupport s) := by
  unfold execChgEndSupport; try dsimp only
  with_reducible repeat' first
    | exact Keeps.refl s | assumption | apply KeepsO.next | dsimp only | apply atTarget_keeps | apply chgCommand_keeps
    | intro _ _ _ _ | intro _ _ _ | intro _ _ | split

theorem execChgClearFault_keeps (s : State) : KeepsO s (execChgClearFault s) := by
  unfold execChgClearFault; try dsimp only
  with_reducible repeat' first
    | exact Keeps.refl s | assumption | apply KeepsO.next | dsimp only | apply atTarget_keeps | apply chgCommand_keeps
    | intro _ _ _ _ | intro _ _ _ | intro _ _ | split

theorem execChgPhaseChange_keeps (x_ev : ChgEvent) (s : State) : KeepsO s (execChgPhaseChange x_ev s) := by
  unfold execChgPhaseChange; try dsimp only
  with_reducible repeat' first
    | exact Keeps.refl s | assumption | apply KeepsO.next | dsimp only | apply byEngine_keeps | apply chgPhase_keeps
    | intro _ _ _ _ | intro _ _ _ | intro _ _ | split

theorem execChgPauseRetry_keeps (s : State) : KeepsO s (execChgPauseRetry s) := by
  unfold execChgPauseRetry; try dsimp only
  with_reducible repeat' first
    | exact Keeps.refl s | assumption | apply KeepsO.next | apply KeepsO.ite | apply Keeps.ite | dsimp only
    | simp only [keeps_mk] | simp only [keepsP_iff] | apply byEngine_keeps | apply request_keeps | apply Keeps.ite1
    | intro _ _ _ _ | intro _ _ _ | intro _ _ | split

theorem execChgSafetyTimerTick_keeps (x_vpackMv : Nat) (x_vinMv : Nat) (x_pinDw : Nat) (x_iTen : Int) (s : State) : KeepsO s (execChgSafetyTimerTick x_vpackMv x_vinMv x_pinDw x_iTen s) := by
  unfold execChgSafetyTimerTick; try dsimp only
  with_reducible repeat' first
    | exact Keeps.refl s | assumption | apply KeepsO.next | apply KeepsO.ite | apply Keeps.ite | dsimp only
    | simp only [keeps_mk] | simp only [keepsP_iff] | apply fsetI_keeps | apply fset_keeps | apply chgThermal_keeps
    | apply fsetB_keeps | apply byEngine_keeps | apply chgExpire_keeps | apply Keeps.ite1 | intro _ _ _ _
    | intro _ _ _ | intro _ _ | split

theorem execChgSafetyTimerExpiry_keeps (s : State) : KeepsO s (execChgSafetyTimerExpiry s) := by
  unfold execChgSafetyTimerExpiry; try dsimp only
  with_reducible repeat' first
    | exact Keeps.refl s | assumption | apply KeepsO.next | dsimp only | apply byEngine_keeps | apply chgExpire_keeps
    | intro _ _ _ _ | intro _ _ _ | intro _ _ | split

theorem execChgOvpTrip_keeps (x_vpackMv : Nat) (s : State) : KeepsO s (execChgOvpTrip x_vpackMv s) := by
  unfold execChgOvpTrip; try dsimp only
  with_reducible repeat' first
    | exact Keeps.refl s | assumption | apply KeepsO.next | apply KeepsO.ite | apply Keeps.ite | dsimp only
    | simp only [keeps_mk] | simp only [keepsP_iff] | apply chgFlag_keeps | apply Keeps.ite1 | intro _ _ _ _
    | intro _ _ _ | intro _ _ | split

theorem execChgOvpResolve_keeps (x_stillHigh : Bool) (s : State) : KeepsO s (execChgOvpResolve x_stillHigh s) := by
  unfold execChgOvpResolve; try dsimp only
  with_reducible repeat' first
    | exact Keeps.refl s | assumption | apply KeepsO.next | apply KeepsO.ite | apply Keeps.ite | dsimp only
    | simp only [keeps_mk] | simp only [keepsP_iff] | apply raise_keeps | apply chgFault_keeps | apply chgPend_keeps
    | apply Keeps.ite1 | intro _ _ _ _ | intro _ _ _ | intro _ _ | split

theorem execPackAbsence_keeps (s : State) : KeepsO s (execPackAbsence s) := by
  unfold execPackAbsence; try dsimp only
  with_reducible repeat' first
    | exact Keeps.refl s | assumption | apply KeepsO.next | apply KeepsO.ite | apply Keeps.ite | dsimp only
    | apply packGone_keeps | apply Keeps.ite1 | intro _ _ _ _ | intro _ _ _ | intro _ _ | split

theorem execPackAccept_keeps (x_id : Fin 16) (x_vpackMv : Nat) (s : State) : KeepsO s (execPackAccept x_id x_vpackMv s) := by
  unfold execPackAccept; try dsimp only
  with_reducible repeat' first
    | exact Keeps.refl s | assumption | apply KeepsO.next | dsimp only | apply packShown_keeps | intro _ _ _ _
    | intro _ _ _ | intro _ _ | split

theorem execChgHoldInputLoss_keeps (s : State) : KeepsO s (execChgHoldInputLoss s) := by
  unfold execChgHoldInputLoss; try dsimp only
  with_reducible repeat' first
    | exact Keeps.refl s | assumption | apply KeepsO.next | apply KeepsO.ite | apply Keeps.ite | dsimp only
    | apply raise_keeps | apply chgInput_keeps | apply Keeps.ite1 | intro _ _ _ _ | intro _ _ _ | intro _ _ | split

theorem execSupportTrigger_keeps (s : State) : KeepsO s (execSupportTrigger s) := by
  unfold execSupportTrigger; try dsimp only
  with_reducible repeat' first
    | exact Keeps.refl s | assumption | apply KeepsO.next | apply KeepsO.ite | apply Keeps.ite | dsimp only
    | apply supStart_keeps | apply Keeps.ite1 | intro _ _ _ _ | intro _ _ _ | intro _ _ | split

theorem execSupportTimeout_keeps (s : State) : KeepsO s (execSupportTimeout s) := by
  unfold execSupportTimeout; try dsimp only
  with_reducible repeat' first
    | exact Keeps.refl s | assumption | apply KeepsO.next | apply KeepsO.ite | apply Keeps.ite | dsimp only
    | apply passLoc_keeps | apply raise_keeps | apply supStop_keeps | apply chgFlag_keeps | apply Keeps.ite1
    | intro _ _ _ _ | intro _ _ _ | intro _ _ | split

theorem execSupportCutoff_keeps (s : State) : KeepsO s (execSupportCutoff s) := by
  unfold execSupportCutoff; try dsimp only
  with_reducible repeat' first
    | exact Keeps.refl s | assumption | apply KeepsO.next | apply KeepsO.ite | apply Keeps.ite | dsimp only
    | apply supStop_keeps | apply chgFlag_keeps | apply Keeps.ite1 | intro _ _ _ _ | intro _ _ _ | intro _ _ | split

theorem execSupportRecovered_keeps (s : State) : KeepsO s (execSupportRecovered s) := by
  unfold execSupportRecovered; try dsimp only
  with_reducible repeat' first
    | exact Keeps.refl s | assumption | apply KeepsO.next | apply KeepsO.ite | apply Keeps.ite | dsimp only
    | apply supStop_keeps | apply Keeps.ite1 | intro _ _ _ _ | intro _ _ _ | intro _ _ | split

theorem execMpptTrack_keeps (x_pDw : Nat) (s : State) : KeepsO s (execMpptTrack x_pDw s) := by
  unfold execMpptTrack; try dsimp only
  with_reducible repeat' first
    | exact Keeps.refl s | assumption | apply KeepsO.next | apply KeepsO.ite | apply Keeps.ite | dsimp only
    | apply byEngine_keeps | apply mpptStep_keeps | apply Keeps.ite1 | intro _ _ _ _ | intro _ _ _ | intro _ _ | split

theorem execMpptSweep_keeps (s : State) : KeepsO s (execMpptSweep s) := by
  unfold execMpptSweep; try dsimp only
  with_reducible repeat' first
    | exact Keeps.refl s | assumption | apply KeepsO.next | apply KeepsO.ite | apply Keeps.ite | dsimp only
    | simp only [keeps_mk] | simp only [keepsP_iff] | apply byEngine_keeps | apply Keeps.ite1 | intro _ _ _ _
    | intro _ _ _ | intro _ _ | split

theorem execMpptSweepDone_keeps (x_vocMv : Nat) (x_pDw : List Nat) (s : State) : KeepsO s (execMpptSweepDone x_vocMv x_pDw s) := by
  unfold execMpptSweepDone; try dsimp only
  with_reducible repeat' first
    | exact Keeps.refl s | assumption | apply KeepsO.next | apply KeepsO.ite | apply Keeps.ite | dsimp only
    | simp only [keeps_mk] | simp only [keepsP_iff] | apply byEngine_keeps | apply quotFree_keeps
    | apply chgReselect_keeps | apply fset_keeps | apply Keeps.ite1 | intro _ _ _ _ | intro _ _ _ | intro _ _ | split

theorem execIdealDiodeConduct_keeps (s : State) : KeepsO s (execIdealDiodeConduct s) := by
  unfold execIdealDiodeConduct; try dsimp only
  with_reducible repeat' first
    | exact Keeps.refl s | assumption | apply KeepsO.next | apply KeepsO.ite | apply Keeps.ite | dsimp only
    | simp only [keeps_mk] | simp only [keepsP_iff] | apply Keeps.ite1 | intro _ _ _ _ | intro _ _ _ | intro _ _
    | split

theorem execIdealDiodeBlock_keeps (s : State) : KeepsO s (execIdealDiodeBlock s) := by
  unfold execIdealDiodeBlock; try dsimp only
  with_reducible repeat' first
    | exact Keeps.refl s | assumption | apply KeepsO.next | dsimp only | simp only [keeps_mk] | simp only [keepsP_iff]
    | intro _ _ _ _ | intro _ _ _ | intro _ _ | split

theorem execDieTempConversion_keeps (x_t16 : Int) (s : State) : KeepsO s (execDieTempConversion x_t16 s) := by
  unfold execDieTempConversion; try dsimp only
  with_reducible repeat' first
    | exact Keeps.refl s | assumption | apply KeepsO.next | dsimp only | apply chgThermal_keeps | apply dieTemp_keeps
    | intro _ _ _ _ | intro _ _ _ | intro _ _ | split

/-! ### Pd -/

theorem pdSend_keeps (x_n : Nat) (x_m : PdMsg) (h : Keeps s t) : Keeps s (pdSend t x_n x_m) := by
  unfold pdSend; try dsimp only
  with_reducible repeat' first
    | exact h | dsimp only | simp only [keeps_mk] | simp only [keepsP_iff] | apply setPdX_keeps | split | assumption

theorem pdJournal_keeps (x_n : Nat) (x_event : Nat) (h : Keeps s t) : Keeps s (pdJournal t x_n x_event) := by
  unfold pdJournal; try dsimp only
  with_reducible repeat' first | exact h | dsimp only | apply journal_keeps | split | assumption

theorem pdFlag_keeps (x_n : Nat) (x_f : Fld) (h : Keeps s t) : Keeps s (pdFlag t x_n x_f) := by
  unfold pdFlag; try dsimp only
  with_reducible repeat' first | exact h | dsimp only | apply pdJournal_keeps | apply fset_keeps | split | assumption

theorem pdSendCaps_keeps (x_n : Nat) (h : Keeps s t) : Keeps s (pdSendCaps t x_n) := by
  unfold pdSendCaps; try dsimp only
  with_reducible repeat' first | exact h | dsimp only | apply pdSend_keeps | split | assumption

theorem pdDrop_keeps (x_n : Nat) (h : Keeps s t) : Keeps s (pdDrop t x_n) := by
  unfold pdDrop; try dsimp only
  with_reducible repeat' first
    | exact h | dsimp only | simp only [keeps_mk] | simp only [keepsP_iff] | apply withdraw_keeps | apply setPdX_keeps
    | intro _ _ _ h | intro _ _ h | intro _ h | split | assumption

theorem pdAsk_keeps (x_n : Nat) (x_ask : Nat) (x_mw : Nat) (h : Keeps s t) : Keeps s (pdAsk t x_n x_ask x_mw) := by
  unfold pdAsk; try dsimp only
  with_reducible repeat' first
    | exact h | dsimp only | simp only [keeps_mk] | simp only [keepsP_iff] | apply pdDrop_keeps | apply request_keeps
    | apply setPdX_keeps | split | assumption

theorem pdResv_keeps (x_n : Nat) (x_mw : Nat) (h : Keeps s t) : Keeps s (pdResv t x_n x_mw) := by
  unfold pdResv; try dsimp only
  with_reducible repeat' first
    | exact h | dsimp only | simp only [keeps_mk] | simp only [keepsP_iff] | apply release_keeps | apply setPdX_keeps
    | split | assumption

theorem pdNoContract_keeps (x_n : Nat) (h : Keeps s t) : Keeps s (pdNoContract t x_n) := by
  unfold pdNoContract; try dsimp only
  with_reducible repeat' first | exact h | dsimp only | apply fset_keeps | split | assumption

theorem pdMuxLow_keeps (x_n : Nat) (h : Keeps s t) : Keeps s (pdMuxLow t x_n) := by
  unfold pdMuxLow; try dsimp only
  with_reducible repeat' first | exact h | dsimp only | apply fset_keeps | split | assumption

theorem pdDown_keeps (x_n : Nat) (x_st : Nat) (x_rp : Nat) (h : Keeps s t) : Keeps s (pdDown t x_n x_st x_rp) := by
  unfold pdDown; try dsimp only
  with_reducible repeat' first
    | exact h | dsimp only | simp only [keeps_mk] | simp only [keepsP_iff] | apply pdMuxLow_keeps
    | apply pdNoContract_keeps | apply pdDrop_keeps | apply fset_keeps | apply setPdX_keeps | split | assumption

theorem pdUnattached_keeps (x_n : Nat) (h : Keeps s t) : Keeps s (pdUnattached t x_n) := by
  unfold pdUnattached; try dsimp only
  with_reducible repeat' first
    | exact h | apply Keeps.ite | dsimp only | simp only [keeps_mk] | simp only [keepsP_iff] | apply fset_keeps
    | apply pdDown_keeps | apply setPdX_keeps | apply Keeps.ite1 | split | assumption

theorem pdSource_keeps (x_n : Nat) (x_rp : Nat) (h : Keeps s t) : Keeps s (pdSource t x_n x_rp) := by
  unfold pdSource; try dsimp only
  with_reducible repeat' first
    | exact h | apply Keeps.ite | dsimp only | simp only [keeps_mk] | simp only [keepsP_iff] | apply fsetB_keeps
    | apply fset_keeps | apply setPdX_keeps | apply pdSend_keeps | apply pdSendCaps_keeps | apply Keeps.ite1 | split
    | assumption

theorem pdTypeC_keeps (x_n : Nat) (h : Keeps s t) : Keeps s (pdTypeC t x_n) := by
  unfold pdTypeC; try dsimp only
  with_reducible repeat' first
    | exact h | dsimp only | apply fset_keeps | apply pdAsk_keeps | apply pdResv_keeps | split | assumption

theorem pdContract_keeps (x_n : Nat) (x_v : Nat) (x_i : Nat) (x_pps : Bool) (x_r : Nat) (h : Keeps s t) : Keeps s (pdContract t x_n x_v x_i x_pps x_r) := by
  unfold pdContract; try dsimp only
  with_reducible repeat' first
    | exact h | dsimp only | apply fset_keeps | apply fsetB_keeps | apply pdFlag_keeps | apply pdResv_keeps
    | apply pdSend_keeps | split | assumption

theorem pdSwapBegin_keeps (x_n : Nat) (x_toSource : Bool) (x_own : Bool) (h : Keeps s t) : Keeps s (pdSwapBegin t x_n x_toSource x_own) := by
  unfold pdSwapBegin; try dsimp only
  with_reducible repeat' first
    | exact h | apply Keeps.ite | dsimp only | simp only [keeps_mk] | simp only [keepsP_iff] | apply pdMuxLow_keeps
    | apply fset_keeps | apply setPdX_keeps | apply pdSend_keeps | apply Keeps.ite1 | split | assumption

theorem pdAdmitted_keeps (x_n : Nat) (x_mw : Nat) (h : Keeps s t) : Keeps s (pdAdmitted t x_n x_mw) := by
  unfold pdAdmitted; try dsimp only
  with_reducible repeat' first
    | exact h | apply Keeps.ite | dsimp only | simp only [keeps_mk] | simp only [keepsP_iff] | apply setPdX_keeps
    | apply pdSource_keeps | apply pdUnattached_keeps | apply pdResv_keeps | apply pdContract_keeps
    | apply pdSwapBegin_keeps | apply Keeps.ite1 | split | assumption

theorem pdRefused_keeps (x_n : Nat) (x_code : Nat) (h : Keeps s t) : Keeps s (pdRefused t x_n x_code) := by
  unfold pdRefused; try dsimp only
  with_reducible repeat' first
    | exact h | apply Keeps.ite | dsimp only | simp only [keeps_mk] | simp only [keepsP_iff] | apply setPdX_keeps
    | apply pdFlag_keeps | apply finc_keeps | apply fset_keeps | apply pdAsk_keeps | apply pdSend_keeps
    | apply pdSendCaps_keeps | apply Keeps.ite1 | split | assumption

theorem pdRecover_keeps (x_n : Nat) (h : Keeps s t) : Keeps s (pdRecover t x_n) := by
  unfold pdRecover; try dsimp only
  with_reducible repeat' first | exact h | dsimp only | apply pdResv_keeps | apply pdDown_keeps | split | assumption

theorem pdHardReset_keeps (x_n : Nat) (h : Keeps s t) : Keeps s (pdHardReset t x_n) := by
  unfold pdHardReset; try dsimp only
  with_reducible repeat' first
    | exact h | apply Keeps.ite | dsimp only | simp only [keeps_mk] | simp only [keepsP_iff] | apply fset_keeps
    | apply pdNoContract_keeps | apply finc_keeps | apply pdDrop_keeps | apply setPdX_keeps | apply targetReset_keeps
    | apply pdJournal_keeps | apply pdFlag_keeps | apply pdTypeC_keeps | apply pdResv_keeps | apply Keeps.ite1 | split
    | assumption

theorem pdShed_keeps (x_n : Nat) (h : Keeps s t) : Keeps s (pdShed t x_n) := by
  unfold pdShed; try dsimp only
  with_reducible repeat' first
    | exact h | apply Keeps.ite | dsimp only | simp only [keeps_mk] | simp only [keepsP_iff] | apply pdFlag_keeps
    | apply pdSend_keeps | apply targetReset_keeps | apply pdJournal_keeps | apply finc_keeps | apply pdRecover_keeps
    | apply Keeps.ite1 | split | assumption

theorem pdTrip_keeps (x_n : Nat) (x_f : Fld) (x_src : Nat) (h : Keeps s t) : Keeps s (pdTrip t x_n x_f x_src) := by
  unfold pdTrip; try dsimp only
  with_reducible repeat' first
    | exact h | apply Keeps.ite | dsimp only | simp only [keeps_mk] | simp only [keepsP_iff] | apply finc_keeps
    | apply setPdX_keeps | apply raise_keeps | apply pdFlag_keeps | apply pdRecover_keeps | apply fset_keeps
    | apply Keeps.ite1 | split | assumption

theorem pdRequest_keeps (x_n : Nat) (x_w : Nat) (h : Keeps s t) : Keeps s (pdRequest t x_n x_w) := by
  unfold pdRequest; try dsimp only
  with_reducible repeat' first
    | exact h | apply Keeps.ite | dsimp only | simp only [keeps_mk] | simp only [keepsP_iff] | apply pdDrop_keeps
    | apply pdSend_keeps | apply pdContract_keeps | apply pdAsk_keeps | apply setPdX_keeps | apply Keeps.ite1 | split
    | assumption

theorem sinkCaps_keeps (x_pdos : List Nat) (h : Keeps s t) : Keeps s (sinkCaps t x_pdos) := by
  unfold sinkCaps; try dsimp only
  with_reducible repeat' first
    | exact h | apply Keeps.ite | dsimp only | simp only [keeps_mk] | simp only [keepsP_iff] | apply setPdX_keeps
    | apply pdSend_keeps | apply request_keeps | apply Keeps.ite1 | split | assumption

theorem sinkReady_keeps (h : Keeps s t) : Keeps s (sinkReady t) := by
  unfold sinkReady; try dsimp only
  with_reducible repeat' first
    | exact h | apply Keeps.ite | dsimp only | simp only [keeps_mk] | simp only [keepsP_iff] | apply fset_keeps
    | apply pdFlag_keeps | apply setPdX_keeps | apply Keeps.ite1 | split | assumption

theorem pdEnable_keeps (x_n : Nat) (x_strobe : Bool) (h : Keeps s t) : Keeps s ((pdEnable t x_n x_strobe).1) := by
  unfold pdEnable; try dsimp only
  with_reducible repeat' first
    | exact h | apply Keeps.ite | dsimp only | simp only [keeps_mk] | simp only [keepsP_iff]
    | apply pdUnattached_keeps | apply setPdX_keeps | apply pdAsk_keeps | apply fset_keeps | apply Keeps.ite1 | split
    | assumption

theorem pdDisable_keeps (x_n : Nat) (h : Keeps s t) : Keeps s ((pdDisable t x_n).1) := by
  unfold pdDisable; try dsimp only
  with_reducible repeat' first
    | exact h | apply Keeps.ite | dsimp only | apply targetReset_keeps | apply pdResv_keeps | apply fset_keeps
    | apply pdDown_keeps | apply Keeps.ite1 | split | assumption

theorem pdSwapCmd_keeps (x_n : Nat) (h : Keeps s t) : Keeps s ((pdSwapCmd t x_n).1) := by
  unfold pdSwapCmd; try dsimp only
  with_reducible repeat' first
    | exact h | apply Keeps.ite | dsimp only | simp only [keeps_mk] | simp only [keepsP_iff] | apply pdSwapBegin_keeps
    | apply pdDrop_keeps | apply pdAsk_keeps | apply setPdX_keeps | apply Keeps.ite1 | split | assumption

theorem pdSwapQuit_keeps (x_n : Nat) (h : Keeps s t) : Keeps s (pdSwapQuit t x_n) := by
  unfold pdSwapQuit; try dsimp only
  with_reducible repeat' first
    | exact h | dsimp only | simp only [keeps_mk] | simp only [keepsP_iff] | apply pdFlag_keeps | apply pdDrop_keeps
    | apply setPdX_keeps | split | assumption

theorem pdSwapRx_keeps (x_n : Nat) (x_toSource : Bool) (h : Keeps s t) : Keeps s (pdSwapRx t x_n x_toSource) := by
  unfold pdSwapRx; try dsimp only
  with_reducible repeat' first
    | exact h | apply Keeps.ite | dsimp only | simp only [keeps_mk] | simp only [keepsP_iff] | apply pdSend_keeps
    | apply pdSwapQuit_keeps | apply pdSwapBegin_keeps | apply pdResv_keeps | apply fset_keeps | apply pdAsk_keeps
    | apply setPdX_keeps | apply pdDrop_keeps | apply Keeps.ite1 | split | assumption

theorem pdSwapDone_keeps (x_n : Nat) (h : Keeps s t) : Keeps s (pdSwapDone t x_n) := by
  unfold pdSwapDone; try dsimp only
  with_reducible repeat' first
    | exact h | apply Keeps.ite | dsimp only | simp only [keeps_mk] | simp only [keepsP_iff] | apply pdJournal_keeps
    | apply finc_keeps | apply setPdX_keeps | apply pdNoContract_keeps | apply pdSource_keeps | apply pdResv_keeps
    | apply fset_keeps | apply Keeps.ite1 | split | assumption

theorem pdCommand_keeps (x_n : Nat) (x_cmd : Nat) (x_strobe : Bool) (h : Keeps s t) : Keeps s ((pdCommand t x_n x_cmd x_strobe).1) := by
  unfold pdCommand; try dsimp only
  with_reducible repeat' first
    | exact h | apply Keeps.ite | dsimp only | apply pdEnable_keeps | apply pdDisable_keeps | apply pdSend_keeps
    | apply pdHardReset_keeps | apply pdSwapCmd_keeps | apply pdSendCaps_keeps | apply fset_keeps
    | apply pdUnattached_keeps | apply Keeps.ite1 | split | assumption

theorem pdCapWrite_keeps (x_n : Nat) (x_w : Nat) (h : Keeps s t) : Keeps s (pdCapWrite t x_n x_w) := by
  unfold pdCapWrite; try dsimp only
  with_reducible repeat' first
    | exact h | apply Keeps.ite | dsimp only | apply fset_keeps | apply pdSendCaps_keeps | apply Keeps.ite1 | split
    | assumption

theorem execPdEnable_keeps (x_n : Fin 2) (s : State) : KeepsO s (execPdEnable x_n s) := by
  unfold execPdEnable; try dsimp only
  with_reducible repeat' first
    | exact Keeps.refl s | assumption | apply KeepsO.next | dsimp only | apply atTarget_keeps | apply pdCommand_keeps
    | intro _ _ _ _ | intro _ _ _ | intro _ _ | split

theorem execPdDisable_keeps (x_n : Fin 2) (s : State) : KeepsO s (execPdDisable x_n s) := by
  unfold execPdDisable; try dsimp only
  with_reducible repeat' first
    | exact Keeps.refl s | assumption | apply KeepsO.next | dsimp only | apply atTarget_keeps | apply pdCommand_keeps
    | intro _ _ _ _ | intro _ _ _ | intro _ _ | split

theorem execPdHardResetCmd_keeps (x_n : Fin 2) (s : State) : KeepsO s (execPdHardResetCmd x_n s) := by
  unfold execPdHardResetCmd; try dsimp only
  with_reducible repeat' first
    | exact Keeps.refl s | assumption | apply KeepsO.next | dsimp only | apply atTarget_keeps | apply pdCommand_keeps
    | intro _ _ _ _ | intro _ _ _ | intro _ _ | split

theorem execPdPrSwapCmd_keeps (x_n : Fin 2) (s : State) : KeepsO s (execPdPrSwapCmd x_n s) := by
  unfold execPdPrSwapCmd; try dsimp only
  with_reducible repeat' first
    | exact Keeps.refl s | assumption | apply KeepsO.next | dsimp only | apply atTarget_keeps | apply pdCommand_keeps
    | intro _ _ _ _ | intro _ _ _ | intro _ _ | split

theorem execPdResendCaps_keeps (x_n : Fin 2) (s : State) : KeepsO s (execPdResendCaps x_n s) := by
  unfold execPdResendCaps; try dsimp only
  with_reducible repeat' first
    | exact Keeps.refl s | assumption | apply KeepsO.next | dsimp only | apply atTarget_keeps | apply pdCommand_keeps
    | intro _ _ _ _ | intro _ _ _ | intro _ _ | split

theorem execPdExitAltMode_keeps (x_n : Fin 2) (s : State) : KeepsO s (execPdExitAltMode x_n s) := by
  unfold execPdExitAltMode; try dsimp only
  with_reducible repeat' first
    | exact Keeps.refl s | assumption | apply KeepsO.next | dsimp only | apply atTarget_keeps | apply pdCommand_keeps
    | intro _ _ _ _ | intro _ _ _ | intro _ _ | split

theorem execPdClearLatch_keeps (x_n : Fin 2) (s : State) : KeepsO s (execPdClearLatch x_n s) := by
  unfold execPdClearLatch; try dsimp only
  with_reducible repeat' first
    | exact Keeps.refl s | assumption | apply KeepsO.next | dsimp only | apply atTarget_keeps | apply pdCommand_keeps
    | intro _ _ _ _ | intro _ _ _ | intro _ _ | split

theorem execPdCapWWrite_keeps (x_n : Fin 2) (x_capW : BitVec 8) (s : State) : KeepsO s (execPdCapWWrite x_n x_capW s) := by
  unfold execPdCapWWrite; try dsimp only
  with_reducible repeat' first
    | exact Keeps.refl s | assumption | apply KeepsO.next | dsimp only | apply atTarget_keeps | apply pdCapWrite_keeps
    | intro _ _ _ _ | intro _ _ _ | intro _ _ | split

theorem execPdSinkAttach_keeps (x_n : Fin 2) (x_flip : Bool) (x_ra : Bool) (s : State) : KeepsO s (execPdSinkAttach x_n x_flip x_ra s) := by
  unfold execPdSinkAttach; try dsimp only
  with_reducible repeat' first
    | exact Keeps.refl s | assumption | apply KeepsO.next | apply KeepsO.ite | apply Keeps.ite | dsimp only
    | simp only [keeps_mk] | simp only [keepsP_iff] | apply setPdX_keeps | apply fsetB_keeps | apply pdTypeC_keeps
    | apply Keeps.ite1 | intro _ _ _ _ | intro _ _ _ | intro _ _ | split

theorem execPdDetach_keeps (x_n : Fin 2) (s : State) : KeepsO s (execPdDetach x_n s) := by
  unfold execPdDetach; try dsimp only
  with_reducible repeat' first
    | exact Keeps.refl s | assumption | apply KeepsO.next | apply KeepsO.ite | apply Keeps.ite | dsimp only
    | apply pdUnattached_keeps | apply pdResv_keeps | apply Keeps.ite1 | intro _ _ _ _ | intro _ _ _ | intro _ _
    | split

theorem execPdNopowerRetry_keeps (x_n : Fin 2) (s : State) : KeepsO s (execPdNopowerRetry x_n s) := by
  unfold execPdNopowerRetry; try dsimp only
  with_reducible repeat' first
    | exact Keeps.refl s | assumption | apply KeepsO.next | apply KeepsO.ite | apply Keeps.ite | dsimp only
    | apply pdAsk_keeps | apply Keeps.ite1 | intro _ _ _ _ | intro _ _ _ | intro _ _ | split

theorem execPdRequestRx_keeps (x_n : Fin 2) (x_rdo : Word) (s : State) : KeepsO s (execPdRequestRx x_n x_rdo s) := by
  unfold execPdRequestRx; try dsimp only
  with_reducible repeat' first
    | exact Keeps.refl s | assumption | apply KeepsO.next | dsimp only | apply pdRequest_keeps | intro _ _ _ _
    | intro _ _ _ | intro _ _ | split

theorem execPdReoffer_keeps (x_n : Fin 2) (s : State) : KeepsO s (execPdReoffer x_n s) := by
  unfold execPdReoffer; try dsimp only
  with_reducible repeat' first
    | exact Keeps.refl s | assumption | apply KeepsO.next | apply KeepsO.ite | apply Keeps.ite | dsimp only
    | simp only [keeps_mk] | simp only [keepsP_iff] | apply pdSendCaps_keeps | apply setPdX_keeps | apply Keeps.ite1
    | intro _ _ _ _ | intro _ _ _ | intro _ _ | split

theorem execPdSourceCapsRx_keeps (x_n : Fin 2) (x_pdos : List Word) (s : State) : KeepsO s (execPdSourceCapsRx x_n x_pdos s) := by
  unfold execPdSourceCapsRx; try dsimp only
  with_reducible repeat' first
    | exact Keeps.refl s | assumption | apply KeepsO.next | apply KeepsO.ite | apply Keeps.ite | dsimp only
    | apply sinkCaps_keeps | apply Keeps.ite1 | intro _ _ _ _ | intro _ _ _ | intro _ _ | split

theorem execPdPsRdyRx_keeps (x_n : Fin 2) (s : State) : KeepsO s (execPdPsRdyRx x_n s) := by
  unfold execPdPsRdyRx; try dsimp only
  with_reducible repeat' first
    | exact Keeps.refl s | assumption | apply KeepsO.next | apply KeepsO.ite | apply Keeps.ite | dsimp only
    | apply sinkReady_keeps | apply Keeps.ite1 | intro _ _ _ _ | intro _ _ _ | intro _ _ | split

theorem execPdPrSwapRx_keeps (x_n : Fin 2) (x_toSource : Bool) (s : State) : KeepsO s (execPdPrSwapRx x_n x_toSource s) := by
  unfold execPdPrSwapRx; try dsimp only
  with_reducible repeat' first
    | exact Keeps.refl s | assumption | apply KeepsO.next | dsimp only | apply pdSwapRx_keeps | intro _ _ _ _
    | intro _ _ _ | intro _ _ | split

theorem execPdPrSwapDone_keeps (x_n : Fin 2) (s : State) : KeepsO s (execPdPrSwapDone x_n s) := by
  unfold execPdPrSwapDone; try dsimp only
  with_reducible repeat' first
    | exact Keeps.refl s | assumption | apply KeepsO.next | dsimp only | apply pdSwapDone_keeps | intro _ _ _ _
    | intro _ _ _ | intro _ _ | split

theorem execPdHardResetRx_keeps (x_n : Fin 2) (s : State) : KeepsO s (execPdHardResetRx x_n s) := by
  unfold execPdHardResetRx; try dsimp only
  with_reducible repeat' first
    | exact Keeps.refl s | assumption | apply KeepsO.next | apply KeepsO.ite | apply Keeps.ite | dsimp only
    | apply pdHardReset_keeps | apply Keeps.ite1 | intro _ _ _ _ | intro _ _ _ | intro _ _ | split

theorem execPdUnsupportedMessage_keeps (x_n : Fin 2) (x_pd2 : Bool) (s : State) : KeepsO s (execPdUnsupportedMessage x_n x_pd2 s) := by
  unfold execPdUnsupportedMessage; try dsimp only
  with_reducible repeat' first
    | exact Keeps.refl s | assumption | apply KeepsO.next | apply KeepsO.ite | apply Keeps.ite | dsimp only
    | apply pdSend_keeps | apply Keeps.ite1 | intro _ _ _ _ | intro _ _ _ | intro _ _ | split

theorem execPdCableIdentity_keeps (x_n : Fin 2) (x_vdo : Word) (s : State) : KeepsO s (execPdCableIdentity x_n x_vdo s) := by
  unfold execPdCableIdentity; try dsimp only
  with_reducible repeat' first
    | exact Keeps.refl s | assumption | apply KeepsO.next | apply KeepsO.ite | apply Keeps.ite | dsimp only
    | apply fsetB_keeps | apply fset_keeps | apply pdSendCaps_keeps | apply Keeps.ite1 | intro _ _ _ _ | intro _ _ _
    | intro _ _ | split

theorem execPdDiscoverRetry_keeps (x_n : Fin 2) (s : State) : KeepsO s (execPdDiscoverRetry x_n s) := by
  unfold execPdDiscoverRetry; try dsimp only
  with_reducible repeat' first
    | exact Keeps.refl s | assumption | apply KeepsO.next | apply KeepsO.ite | apply Keeps.ite | dsimp only
    | simp only [keeps_mk] | simp only [keepsP_iff] | apply pdSend_keeps | apply setPdX_keeps | apply pdSendCaps_keeps
    | apply Keeps.ite1 | intro _ _ _ _ | intro _ _ _ | intro _ _ | split

theorem execPdDpConfigureAck_keeps (x_n : Fin 2) (s : State) : KeepsO s (execPdDpConfigureAck x_n s) := by
  unfold execPdDpConfigureAck; try dsimp only
  with_reducible repeat' first
    | exact Keeps.refl s | assumption | apply KeepsO.next | apply KeepsO.ite | apply Keeps.ite | dsimp only
    | apply fset_keeps | apply Keeps.ite1 | intro _ _ _ _ | intro _ _ _ | intro _ _ | split

theorem execPdAttentionRx_keeps (x_n : Fin 2) (x_hpd : Bool) (s : State) : KeepsO s (execPdAttentionRx x_n x_hpd s) := by
  unfold execPdAttentionRx; try dsimp only
  with_reducible repeat' first
    | exact Keeps.refl s | assumption | apply KeepsO.next | apply KeepsO.ite | apply Keeps.ite | dsimp only
    | apply fsetB_keeps | apply Keeps.ite1 | intro _ _ _ _ | intro _ _ _ | intro _ _ | split

theorem execPdOvpTrip_keeps (x_n : Fin 2) (s : State) : KeepsO s (execPdOvpTrip x_n s) := by
  unfold execPdOvpTrip; try dsimp only
  with_reducible repeat' first
    | exact Keeps.refl s | assumption | apply KeepsO.next | apply KeepsO.ite | apply Keeps.ite | dsimp only
    | apply pdTrip_keeps | apply Keeps.ite1 | intro _ _ _ _ | intro _ _ _ | intro _ _ | split

theorem execPdOcpFastTrip_keeps (x_n : Fin 2) (s : State) : KeepsO s (execPdOcpFastTrip x_n s) := by
  unfold execPdOcpFastTrip; try dsimp only
  with_reducible repeat' first
    | exact Keeps.refl s | assumption | apply KeepsO.next | apply KeepsO.ite | apply Keeps.ite | dsimp only
    | apply pdTrip_keeps | apply Keeps.ite1 | intro _ _ _ _ | intro _ _ _ | intro _ _ | split

theorem execPdOcpSlowTrip_keeps (x_n : Fin 2) (s : State) : KeepsO s (execPdOcpSlowTrip x_n s) := by
  unfold execPdOcpSlowTrip; try dsimp only
  with_reducible repeat' first
    | exact Keeps.refl s | assumption | apply KeepsO.next | apply KeepsO.ite | apply Keeps.ite | dsimp only
    | apply pdTrip_keeps | apply Keeps.ite1 | intro _ _ _ _ | intro _ _ _ | intro _ _ | split

theorem execPdRcpTrip_keeps (x_n : Fin 2) (s : State) : KeepsO s (execPdRcpTrip x_n s) := by
  unfold execPdRcpTrip; try dsimp only
  with_reducible repeat' first
    | exact Keeps.refl s | assumption | apply KeepsO.next | apply KeepsO.ite | apply Keeps.ite | dsimp only
    | apply pdTrip_keeps | apply Keeps.ite1 | intro _ _ _ _ | intro _ _ _ | intro _ _ | split

theorem execPdRecoveryEnd_keeps (x_n : Fin 2) (s : State) : KeepsO s (execPdRecoveryEnd x_n s) := by
  unfold execPdRecoveryEnd; try dsimp only
  with_reducible repeat' first
    | exact Keeps.refl s | assumption | apply KeepsO.next | apply KeepsO.ite | apply Keeps.ite | dsimp only
    | apply pdTypeC_keeps | apply pdUnattached_keeps | apply Keeps.ite1 | intro _ _ _ _ | intro _ _ _ | intro _ _
    | split

theorem execPd1SourceAttach_keeps (x_rp : Fin 3) (s : State) : KeepsO s (execPd1SourceAttach x_rp s) := by
  unfold execPd1SourceAttach; try dsimp only
  with_reducible repeat' first
    | exact Keeps.refl s | assumption | apply KeepsO.next | apply KeepsO.ite | apply Keeps.ite | dsimp only
    | simp only [keeps_mk] | simp only [keepsP_iff] | apply fset_keeps | apply setPdX_keeps | apply Keeps.ite1
    | intro _ _ _ _ | intro _ _ _ | intro _ _ | split

/-! ### Loop -/

theorem loopSlewFlag_keeps (x_n : Nat) (h : Keeps s t) : Keeps s (loopSlewFlag t x_n) := by
  unfold loopSlewFlag; try dsimp only
  with_reducible repeat' first | exact h | dsimp only | apply fsetB_keeps | split | assumption

theorem loopTarget_keeps (x_n : Nat) (x_c : Nat) (h : Keeps s t) : Keeps s (loopTarget t x_n x_c) := by
  unfold loopTarget; try dsimp only
  with_reducible repeat' first
    | exact h | dsimp only | apply loopSlewFlag_keeps | apply fset_keeps | split | assumption

theorem loopPend_keeps (x_n : Nat) (h : Keeps s t) : Keeps s (loopPend t x_n) := by
  unfold loopPend; try dsimp only
  with_reducible repeat' first | exact h | dsimp only | apply fset_keeps | apply request_keeps | split | assumption

theorem loopEnable_keeps (x_n : Nat) (h : Keeps s t) : Keeps s ((loopEnable t x_n).1) := by
  unfold loopEnable; try dsimp only
  with_reducible repeat' first
    | exact h | apply Keeps.ite | dsimp only | apply fset_keeps | apply loopPend_keeps | apply loopGo_keeps
    | apply Keeps.ite1 | split | assumption

theorem loopDisable_keeps (x_n : Nat) (h : Keeps s t) : Keeps s (loopDisable t x_n) := by
  unfold loopDisable; try dsimp only
  with_reducible repeat' first
    | exact h | apply Keeps.ite | dsimp only | apply fset_keeps | apply loopOff_keeps | apply loopGo_keeps
    | apply loopDropRaise_keeps | apply Keeps.ite1 | split | assumption

theorem loopClrLatch_keeps (x_n : Nat) (h : Keeps s t) : Keeps s (loopClrLatch t x_n) := by
  unfold loopClrLatch; try dsimp only
  with_reducible repeat' first
    | exact h | apply Keeps.ite | dsimp only | apply loopGo_keeps | apply fset_keeps | apply Keeps.ite1 | split
    | assumption

theorem loopAdmitted_keeps (x_n : Nat) (h : Keeps s t) : Keeps s (loopAdmitted t x_n) := by
  unfold loopAdmitted; try dsimp only
  with_reducible repeat' first
    | exact h | apply Keeps.ite | dsimp only | apply loopGo_keeps | apply fset_keeps | apply Keeps.ite1 | split
    | assumption

theorem loopRefused_keeps (x_n : Nat) (x_code : Nat) (h : Keeps s t) : Keeps s (loopRefused t x_n x_code) := by
  unfold loopRefused; try dsimp only
  with_reducible repeat' first
    | exact h | apply Keeps.ite | dsimp only | apply fset_keeps | apply loopOff_keeps | apply Keeps.ite1 | split
    | assumption

theorem loopRaised_keeps (x_n : Nat) (x_code : Nat) (h : Keeps s t) : Keeps s (loopRaised t x_n x_code) := by
  unfold loopRaised; try dsimp only
  with_reducible repeat' first | exact h | dsimp only | apply loopTarget_keeps | apply fset_keeps | split | assumption

theorem loopRaiseRefused_keeps (x_n : Nat) (x_code : Nat) (h : Keeps s t) : Keeps s (loopRaiseRefused t x_n x_code) := by
  unfold loopRaiseRefused; try dsimp only
  with_reducible repeat' first | exact h | dsimp only | apply fset_keeps | split | assumption

theorem loopShed_keeps (x_n : Nat) (h : Keeps s t) : Keeps s (loopShed t x_n) := by
  unfold loopShed; try dsimp only
  with_reducible repeat' first
    | exact h | apply Keeps.ite | dsimp only | apply fset_keeps | apply loopOff_keeps | apply Keeps.ite1 | split
    | assumption

theorem loopVset_keeps (x_n : Nat) (x_code : Nat) (h : Keeps s t) : Keeps s (loopVset t x_n x_code) := by
  unfold loopVset; try dsimp only
  with_reducible repeat' first
    | exact h | apply Keeps.ite | dsimp only | apply fset_keeps | apply loopDropRaise_keeps | apply request_keeps
    | apply loopTarget_keeps | apply Keeps.ite1 | split | assumption

theorem loopStrobeEn_keeps (x_n : Nat) (x_en : Bool) (h : Keeps s t) : Keeps s ((loopStrobeEn t x_n x_en).1) := by
  unfold loopStrobeEn; try dsimp only
  with_reducible repeat' first
    | exact h | apply Keeps.ite | dsimp only | apply fset_keeps | apply loopGo_keeps | apply loopEnable_keeps
    | apply loopDisable_keeps | apply Keeps.ite1 | split | assumption

theorem loopStrobeV_keeps (x_n : Nat) (x_code : Nat) (h : Keeps s t) : Keeps s ((loopStrobeV t x_n x_code).1) := by
  unfold loopStrobeV; try dsimp only
  with_reducible repeat' first
    | exact h | apply Keeps.ite | dsimp only | apply loopTarget_keeps | apply fset_keeps | apply loopDropRaise_keeps
    | apply Keeps.ite1 | split | assumption

theorem vinJudge_keeps (x_n : Nat) (h : Keeps s t) : Keeps s (vinJudge t x_n) := by
  unfold vinJudge; try dsimp only
  with_reducible repeat' first
    | exact h | apply Keeps.ite | dsimp only | simp only [keeps_mk] | simp only [keepsP_iff] | apply raise_keeps
    | apply fset_keeps | apply setLoopX_keeps | apply Keeps.ite1 | split | assumption

theorem errCode_keeps (x_nv : Int) (h : Keeps s t) : Keeps s ((errCode t x_nv).2.2) := by
  unfold errCode; try dsimp only
  with_reducible repeat' first
    | exact h | apply Keeps.ite | dsimp only | apply drawBool_keeps | apply Keeps.ite1 | apply Keeps.ite2 | split
    | assumption

theorem annAdvance_keeps (x_n : Nat) (x_ff : Int) (h : Keeps s t) : Keeps s (annAdvance t x_n x_ff) := by
  unfold annAdvance; try dsimp only
  with_reducible repeat' first
    | exact h | apply Keeps.ite | dsimp only | simp only [keeps_mk] | simp only [keepsP_iff] | apply KeepsP.filter
    | apply setLoopX_keeps | apply annShow_keeps | apply fsetB_keeps | apply Keeps.ite1 | intro _ _ _ h | intro _ _ h
    | intro _ h | split | assumption

theorem brakeEnter_keeps (x_n : Nat) (h : Keeps s t) : Keeps s (brakeEnter t x_n) := by
  unfold brakeEnter; try dsimp only
  with_reducible repeat' first
    | exact h | dsimp only | simp only [keeps_mk] | simp only [keepsP_iff] | apply setLoopX_keeps | apply finc_keeps
    | apply fset_keeps | split | assumption

theorem brakeSample_keeps (x_n : Nat) (x_e : Int) (h : Keeps s t) : Keeps s (brakeSample t x_n x_e) := by
  unfold brakeSample; try dsimp only
  with_reducible repeat' first
    | exact h | apply Keeps.ite | dsimp only | simp only [keeps_mk] | simp only [keepsP_iff] | apply brakeExit_keeps
    | apply setLoopX_keeps | apply brakeEnter_keeps | apply Keeps.ite1 | split | assumption

theorem errShow_keeps (x_n : Nat) (x_e : Int) (x_out : Bool) (h : Keeps s t) : Keeps s (errShow t x_n x_e x_out) := by
  unfold errShow; try dsimp only
  with_reducible repeat' first
    | exact h | apply Keeps.ite | dsimp only | simp only [keeps_mk] | simp only [keepsP_iff] | apply fsetB_keeps
    | apply fset_keeps | apply fsetI_keeps | apply setLoopX_keeps | apply Keeps.ite1 | split | assumption

theorem quotFreeI_keeps (x_num : Int) (x_den : Nat) (h : Keeps s t) : Keeps s ((quotFreeI t x_num x_den).2) := by
  unfold quotFreeI; try dsimp only
  with_reducible repeat' first
    | exact h | apply Keeps.ite | dsimp only | apply drawBool_keeps | apply Keeps.ite1 | apply Keeps.ite2 | split
    | assumption

theorem measSample_keeps (x_n : Nat) (x_vout : Int) (x_vin : Nat) (h : Keeps s t) : Keeps s (measSample t x_n x_vout x_vin) := by
  unfold measSample; try dsimp only
  with_reducible repeat' first
    | exact h | apply Keeps.ite | dsimp only | simp only [keeps_mk] | simp only [keepsP_iff] | apply setLoopX_keeps
    | apply quotFree_keeps | apply quotFreeI_keeps | apply fset_keeps | apply fsetI_keeps | apply Keeps.ite1 | split
    | assumption

theorem refSample_keeps (x_n : Nat) (h : Keeps s t) : Keeps s (refSample t x_n) := by
  unfold refSample; try dsimp only
  with_reducible repeat' first
    | exact h | apply Keeps.ite | dsimp only | simp only [keeps_mk] | simp only [keepsP_iff] | apply fset64_keeps
    | apply setLoopX_keeps | apply loopSlewFlag_keeps | apply fset_keeps | apply Keeps.ite1 | split | assumption

theorem loopArrive_keeps (x_n : Nat) (h : Keeps s t) : Keeps s (loopArrive t x_n) := by
  unfold loopArrive; try dsimp only
  with_reducible repeat' first
    | exact h | apply Keeps.ite | dsimp only | apply loopGo_keeps | apply loopOff_keeps | apply Keeps.ite1 | split
    | assumption

theorem loopSample_keeps (x_n : Nat) (x_vout : Int) (h : Keeps s t) : Keeps s (loopSample t x_n x_vout) := by
  unfold loopSample; try dsimp only
  with_reducible repeat' first
    | exact h | dsimp only | apply refSample_keeps | apply vinJudge_keeps | apply errCode_keeps
    | apply brakeSample_keeps | apply errShow_keeps | apply annAdvance_keeps | apply setLoopX_keeps
    | apply loopArrive_keeps | apply measure_keeps | apply measSample_keeps | split | assumption

theorem phasePeriod_keeps (x_n : Nat) (x_m : Nat) (x_e : Nat × Nat) (h : Keeps s t) : Keeps s (phasePeriod x_n x_m t x_e) := by
  unfold phasePeriod; try dsimp only
  with_reducible repeat' first
    | exact h | apply Keeps.ite | dsimp only | simp only [keeps_mk] | simp only [keepsP_iff] | apply quotFreeI_keeps
    | apply fsetI_keeps | apply setPhaseX_keeps | apply Keeps.ite1 | split | assumption

theorem limitPeriod_keeps (x_n : Nat) (h : Keeps s t) : Keeps s (limitPeriod t x_n) := by
  unfold limitPeriod; try dsimp only
  with_reducible repeat' first
    | exact h | apply Keeps.ite | dsimp only | apply finc_keeps | apply fset_keeps | apply Keeps.ite1 | intro _ _ _ h
    | intro _ _ h | intro _ h | split | assumption

theorem imonSample_keeps (x_n : Nat) (x_k : Nat) (x_code : Int) (x_onTime : Bool) (h : Keeps s t) : Keeps s (imonSample t x_n x_k x_code x_onTime) := by
  unfold imonSample; try dsimp only
  with_reducible repeat' first
    | exact h | apply Keeps.ite | dsimp only | simp only [keeps_mk] | simp only [keepsP_iff] | apply setPhaseX_keeps
    | apply fset_keeps | apply Keeps.ite1 | split | assumption

theorem setTrim_keeps (x_k : Nat) (x_b : Int) (h : Keeps s t) : Keeps s (setTrim t x_k x_b) := by
  unfold setTrim; try dsimp only
  with_reducible repeat' first
    | exact h | dsimp only | simp only [keeps_mk] | simp only [keepsP_iff] | apply fsetI_keeps | apply setPhaseX_keeps
    | split | assumption

theorem balClear_keeps (x_n : Nat) (h : Keeps s t) : Keeps s (balClear t x_n) := by
  unfold balClear; try dsimp only
  with_reducible repeat' first
    | exact h | dsimp only | apply fset_keeps | apply setTrim_keeps | apply Keeps.foldl | apply Keeps.foldl1
    | intro _ _ _ h | intro _ _ h | intro _ h | split | assumption

theorem balanceStep_keeps (x_n : Nat) (h : Keeps s t) : Keeps s (balanceStep t x_n) := by
  unfold balanceStep; try dsimp only
  with_reducible repeat' first
    | exact h | apply Keeps.ite | dsimp only | apply balClear_keeps | apply setTrim_keeps | apply fset_keeps
    | apply Keeps.ite1 | apply Keeps.foldl | apply Keeps.foldl1 | intro _ _ _ h | intro _ _ h | intro _ h | split
    | assumption

theorem shedWindow_keeps (x_n : Nat) (x_iMa : Int) (h : Keeps s t) : Keeps s (shedWindow t x_n x_iMa) := by
  unfold shedWindow; try dsimp only
  with_reducible repeat' first
    | exact h | apply Keeps.ite | dsimp only | simp only [keeps_mk] | simp only [keepsP_iff] | apply setActive_keeps
    | apply setLoopX_keeps | apply Keeps.ite1 | split | assumption

theorem annReject_keeps (x_n : Nat) (x_code : Nat) (x_a : Ann) (h : Keeps s t) : Keeps s (annReject t x_n x_code x_a) := by
  unfold annReject; try dsimp only
  with_reducible repeat' first
    | exact h | apply Keeps.ite | dsimp only | apply fset_keeps | apply annJournal_keeps | apply finc_keeps
    | apply raise_keeps | apply Keeps.ite1 | split | assumption

theorem annAccept_keeps (x_n : Nat) (x_a : Ann) (h : Keeps s t) : Keeps s (annAccept t x_n x_a) := by
  unfold annAccept; try dsimp only
  with_reducible repeat' first
    | exact h | apply Keeps.ite | dsimp only | simp only [keeps_mk] | simp only [keepsP_iff] | apply annShow_keeps
    | apply setLoopX_keeps | apply annJournal_keeps | apply fset_keeps | apply setActive_keeps | apply Keeps.ite1
    | split | assumption

theorem annJudge_keeps (x_n : Nat) (x_id : Nat) (x_di : Int) (x_apply : Nat) (x_pin : Bool) (h : Keeps s t) : Keeps s ((annJudge t x_n x_id x_di x_apply x_pin).1) := by
  unfold annJudge; try dsimp only
  with_reducible repeat' first
    | exact h | apply Keeps.ite | dsimp only | apply annAccept_keeps | apply annReject_keeps | apply Keeps.ite1
    | split | assumption

theorem annCancel_keeps (x_n : Nat) (x_id : Nat) (x_pin : Bool) (h : Keeps s t) : Keeps s (annCancel t x_n x_id x_pin) := by
  unfold annCancel; try dsimp only
  with_reducible repeat' first
    | exact h | apply Keeps.ite | dsimp only | simp only [keeps_mk] | simp only [keepsP_iff] | apply KeepsP.filter
    | apply annReject_keeps | apply annShow_keeps | apply setLoopX_keeps | apply annJournal_keeps | apply finc_keeps
    | apply fset_keeps | apply Keeps.ite1 | intro _ _ _ h | intro _ _ h | intro _ h | split | assumption

theorem annApply_keeps (x_n : Nat) (x_a : Ann) (h : Keeps s t) : Keeps s (annApply t x_n x_a) := by
  unfold annApply; try dsimp only
  with_reducible repeat' first
    | exact h | apply Keeps.ite | dsimp only | simp only [keeps_mk] | simp only [keepsP_iff] | apply passTo_keeps
    | apply setLoopX_keeps | apply finc_keeps | apply fset_keeps | apply fset64_keeps | apply brakeExit_keeps
    | apply brakeEnter_keeps | apply Keeps.ite1 | intro _ _ _ h | intro _ _ h | intro _ h | split | assumption

theorem hiccupEnter_keeps (x_n : Nat) (h : Keeps s t) : Keeps s (hiccupEnter t x_n) := by
  unfold hiccupEnter; try dsimp only
  with_reducible repeat' first
    | exact h | dsimp only | simp only [keeps_mk] | simp only [keepsP_iff] | apply loopGo_keeps | apply setLoopX_keeps
    | apply finc_keeps | apply fset_keeps | apply protJournal_keeps | apply raise_keeps | split | assumption

theorem hiccupEnd_keeps (x_n : Nat) (x_sense : Int) (h : Keeps s t) : Keeps s (hiccupEnd t x_n x_sense) := by
  unfold hiccupEnd; try dsimp only
  with_reducible repeat' first
    | exact h | apply Keeps.ite | dsimp only | simp only [keeps_mk] | simp only [keepsP_iff] | apply fset_keeps
    | apply setLoopX_keeps | apply protJournal_keeps | apply loopStart_keeps | apply loopGo_keeps
    | apply loopDropRaise_keeps | apply raise_keeps | apply Keeps.ite1 | split | assumption

theorem execLoopEnable_keeps (x_l : Fin 4) (s : State) : KeepsO s (execLoopEnable x_l s) := by
  unfold execLoopEnable; try dsimp only
  with_reducible repeat' first
    | exact Keeps.refl s | assumption | apply KeepsO.next | dsimp only | apply atTarget_keeps | apply loopEnable_keeps
    | intro _ _ _ _ | intro _ _ _ | intro _ _ | split

theorem execLoopDisable_keeps (x_l : Fin 4) (s : State) : KeepsO s (execLoopDisable x_l s) := by
  unfold execLoopDisable; try dsimp only
  with_reducible repeat' first
    | exact Keeps.refl s | assumption | apply KeepsO.next | dsimp only | apply atTarget_keeps
    | apply loopDisable_keeps | intro _ _ _ _ | intro _ _ _ | intro _ _ | split

theorem execLoopClrLatch_keeps (x_l : Fin 4) (s : State) : KeepsO s (execLoopClrLatch x_l s) := by
  unfold execLoopClrLatch; try dsimp only
  with_reducible repeat' first
    | exact Keeps.refl s | assumption | apply KeepsO.next | dsimp only | apply atTarget_keeps
    | apply loopClrLatch_keeps | intro _ _ _ _ | intro _ _ _ | intro _ _ | split

theorem execLoopCselChange_keeps (x_l : Fin 4) (x_sel : Fin 64) (s : State) : KeepsO s (execLoopCselChange x_l x_sel s) := by
  unfold execLoopCselChange; try dsimp only
  with_reducible repeat' first
    | exact Keeps.refl s | assumption | apply KeepsO.next | dsimp only | apply atTarget_keeps | apply fsetIf_keeps
    | intro _ _ _ _ | intro _ _ _ | intro _ _ | split

theorem execLoopVsetWrite_keeps (x_l : Fin 4) (x_code : Fin 8192) (s : State) : KeepsO s (execLoopVsetWrite x_l x_code s) := by
  unfold execLoopVsetWrite; try dsimp only
  with_reducible repeat' first
    | exact Keeps.refl s | assumption | apply KeepsO.next | dsimp only | apply atTarget_keeps | apply loopVset_keeps
    | intro _ _ _ _ | intro _ _ _ | intro _ _ | split

theorem execSenseCheckDone_keeps (x_l : Fin 4) (x_openLine : Bool) (x_senseUv : Int) (s : State) : KeepsO s (execSenseCheckDone x_l x_openLine x_senseUv s) := by
  unfold execSenseCheckDone; try dsimp only
  with_reducible repeat' first
    | exact Keeps.refl s | assumption | apply KeepsO.next | apply KeepsO.ite | apply Keeps.ite | dsimp only
    | apply raise_keeps | apply fset_keeps | apply loopOff_keeps | apply loopStart_keeps | apply Keeps.ite1
    | intro _ _ _ _ | intro _ _ _ | intro _ _ | split

theorem execLoopSample_keeps (x_l : Fin 4) (x_voutUv : Int) (s : State) : KeepsO s (execLoopSample x_l x_voutUv s) := by
  unfold execLoopSample; try dsimp only
  with_reducible repeat' first
    | exact Keeps.refl s | assumption | apply KeepsO.next | apply KeepsO.ite | apply Keeps.ite | dsimp only
    | apply loopSample_keeps | apply Keeps.ite1 | intro _ _ _ _ | intro _ _ _ | intro _ _ | split

theorem execLoopPeriodStart_keeps (x_l : Fin 4) (s : State) : KeepsO s (execLoopPeriodStart x_l s) := by
  unfold execLoopPeriodStart; try dsimp only
  with_reducible repeat' first
    | exact Keeps.refl s | assumption | apply KeepsO.next | apply KeepsO.ite | apply Keeps.ite | dsimp only
    | apply limitPeriod_keeps | apply trgEvent_keeps | apply phasePeriod_keeps | apply Keeps.ite1 | apply Keeps.foldl
    | apply Keeps.foldl1 | intro _ _ _ _ | intro _ _ _ | intro _ _ | split

theorem execImonSample_keeps (x_k : Fin 16) (x_code : BitVec 11) (x_onTime : Bool) (s : State) : KeepsO s (execImonSample x_k x_code x_onTime s) := by
  unfold execImonSample; try dsimp only
  with_reducible repeat' first
    | exact Keeps.refl s | assumption | apply KeepsO.next | apply KeepsO.ite | apply Keeps.ite | dsimp only
    | apply imonSample_keeps | apply Keeps.ite1 | intro _ _ _ _ | intro _ _ _ | intro _ _ | split

theorem execBalanceUpdate_keeps (x_l : Fin 4) (s : State) : KeepsO s (execBalanceUpdate x_l s) := by
  unfold execBalanceUpdate; try dsimp only
  with_reducible repeat' first
    | exact Keeps.refl s | assumption | apply KeepsO.next | dsimp only | apply balanceStep_keeps | intro _ _ _ _
    | intro _ _ _ | intro _ _ | split

theorem execBalanceLimitTimeout_keeps (x_k : Fin 16) (s : State) : KeepsO s (execBalanceLimitTimeout x_k s) := by
  unfold execBalanceLimitTimeout; try dsimp only
  with_reducible repeat' first
    | exact Keeps.refl s | assumption | apply KeepsO.next | apply KeepsO.ite | apply Keeps.ite | dsimp only
    | apply raise_keeps | apply fset_keeps | apply Keeps.ite1 | intro _ _ _ _ | intro _ _ _ | intro _ _ | split

theorem execPhaseShedWindow_keeps (x_l : Fin 4) (x_iMa : Int) (s : State) : KeepsO s (execPhaseShedWindow x_l x_iMa s) := by
  unfold execPhaseShedWindow; try dsimp only
  with_reducible repeat' first
    | exact Keeps.refl s | assumption | apply KeepsO.next | apply KeepsO.ite | apply Keeps.ite | dsimp only
    | apply shedWindow_keeps | apply Keeps.ite1 | intro _ _ _ _ | intro _ _ _ | intro _ _ | split

theorem execVinFallback_keeps (x_l : Fin 4) (s : State) : KeepsO s (execVinFallback x_l s) := by
  unfold execVinFallback; try dsimp only
  with_reducible repeat' first
    | exact Keeps.refl s | assumption | apply KeepsO.next | apply KeepsO.ite | apply Keeps.ite | dsimp only
    | apply vinJudge_keeps | apply Keeps.ite1 | intro _ _ _ _ | intro _ _ _ | intro _ _ | split

theorem execStepPinActive_keeps (x_l : Fin 4) (s : State) : KeepsO s (execStepPinActive x_l s) := by
  unfold execStepPinActive; try dsimp only
  with_reducible repeat' first
    | exact Keeps.refl s | assumption | apply KeepsO.next | apply KeepsO.ite | apply Keeps.ite | dsimp only
    | apply annJudge_keeps | apply Keeps.ite1 | intro _ _ _ _ | intro _ _ _ | intro _ _ | split

theorem execStepPinInactive_keeps (x_l : Fin 4) (s : State) : KeepsO s (execStepPinInactive x_l s) := by
  unfold execStepPinInactive; try dsimp only
  with_reducible repeat' first
    | exact Keeps.refl s | assumption | apply KeepsO.next | apply KeepsO.ite | apply Keeps.ite | dsimp only
    | apply annCancel_keeps | apply Keeps.ite1 | intro _ _ _ _ | intro _ _ _ | intro _ _ | split

theorem execAnnCtlAnnounce_keeps (x_l : Fin 4) (x_id : BitVec 8) (x_di : BitVec 12) (s : State) : KeepsO s (execAnnCtlAnnounce x_l x_id x_di s) := by
  unfold execAnnCtlAnnounce; try dsimp only
  with_reducible repeat' first
    | exact Keeps.refl s | assumption | apply KeepsO.next | dsimp only | apply atTarget_keeps | apply annJudge_keeps
    | intro _ _ _ _ | intro _ _ _ | intro _ _ | split

theorem execAnnCtlCancel_keeps (x_l : Fin 4) (x_id : BitVec 8) (s : State) : KeepsO s (execAnnCtlCancel x_l x_id s) := by
  unfold execAnnCtlCancel; try dsimp only
  with_reducible repeat' first
    | exact Keeps.refl s | assumption | apply KeepsO.next | dsimp only | apply atTarget_keeps | apply annCancel_keeps
    | intro _ _ _ _ | intro _ _ _ | intro _ _ | split

theorem execStepAnnAnnounce_keeps (x_l : Fin 4) (x_id : BitVec 8) (x_di : BitVec 12) (x_ct : BitVec 64) (s : State) : KeepsO s (execStepAnnAnnounce x_l x_id x_di x_ct s) := by
  unfold execStepAnnAnnounce; try dsimp only
  with_reducible repeat' first
    | exact Keeps.refl s | assumption | apply KeepsO.next | dsimp only | apply annJudge_keeps | intro _ _ _ _
    | intro _ _ _ | intro _ _ | split

theorem execStepAnnCancel_keeps (x_l : Fin 4) (x_id : BitVec 8) (s : State) : KeepsO s (execStepAnnCancel x_l x_id s) := by
  unfold execStepAnnCancel; try dsimp only
  with_reducible repeat' first
    | exact Keeps.refl s | assumption | apply KeepsO.next | dsimp only | apply annCancel_keeps | intro _ _ _ _
    | intro _ _ _ | intro _ _ | split

theorem execAnnApply_keeps (x_l : Fin 4) (x_id : BitVec 8) (s : State) : KeepsO s (execAnnApply x_l x_id s) := by
  unfold execAnnApply; try dsimp only
  with_reducible repeat' first
    | exact Keeps.refl s | assumption | apply KeepsO.next | dsimp only | simp only [keeps_mk] | simp only [keepsP_iff]
    | apply annApply_keeps | intro _ _ _ _ | intro _ _ _ | intro _ _ | split

theorem execBrakeTimeout_keeps (x_l : Fin 4) (s : State) : KeepsO s (execBrakeTimeout x_l s) := by
  unfold execBrakeTimeout; try dsimp only
  with_reducible repeat' first
    | exact Keeps.refl s | assumption | apply KeepsO.next | apply KeepsO.ite | apply Keeps.ite | dsimp only
    | apply finc_keeps | apply fset_keeps | apply brakeExit_keeps | apply protJournal_keeps | apply raise_keeps
    | apply Keeps.ite1 | intro _ _ _ _ | intro _ _ _ | intro _ _ | split

theorem execHiccupEntry_keeps (x_l : Fin 4) (s : State) : KeepsO s (execHiccupEntry x_l s) := by
  unfold execHiccupEntry; try dsimp only
  with_reducible repeat' first
    | exact Keeps.refl s | assumption | apply KeepsO.next | apply KeepsO.ite | apply Keeps.ite | dsimp only
    | apply hiccupEnter_keeps | apply Keeps.ite1 | intro _ _ _ _ | intro _ _ _ | intro _ _ | split

theorem execHiccupOffExpiry_keeps (x_l : Fin 4) (x_senseUv : Int) (s : State) : KeepsO s (execHiccupOffExpiry x_l x_senseUv s) := by
  unfold execHiccupOffExpiry; try dsimp only
  with_reducible repeat' first
    | exact Keeps.refl s | assumption | apply KeepsO.next | apply KeepsO.ite | apply Keeps.ite | dsimp only
    | apply hiccupEnd_keeps | apply passLoc_keeps | apply Keeps.ite1 | intro _ _ _ _ | intro _ _ _ | intro _ _ | split

theorem execLoopHiccupCountReset_keeps (x_l : Fin 4) (s : State) : KeepsO s (execLoopHiccupCountReset x_l s) := by
  unfold execLoopHiccupCountReset; try dsimp only
  with_reducible repeat' first
    | exact Keeps.refl s | assumption | apply KeepsO.next | apply KeepsO.ite | apply Keeps.ite | dsimp only
    | simp only [keeps_mk] | simp only [keepsP_iff] | apply fset_keeps | apply setLoopX_keeps | apply Keeps.ite1
    | intro _ _ _ _ | intro _ _ _ | intro _ _ | split

/-! ### Regulator -/

theorem setRegX_keeps (x_r : Nat) (x_x : RegX) (h : Keeps s t) : Keeps s (setRegX t x_r x_x) := by
  unfold setRegX; try dsimp only
  with_reducible repeat' first
    | exact h | dsimp only | simp only [keeps_mk] | simp only [keepsP_iff] | intro _ _ _ h | intro _ _ h | intro _ h
    | split | assumption

theorem regStatDrawn_keeps (x_r : Nat) (h : Keeps s t) : Keeps s (regStatDrawn t x_r) := by
  unfold regStatDrawn; try dsimp only
  with_reducible repeat' first
    | exact h | apply Keeps.ite | dsimp only | apply drawNat_keeps | apply Keeps.ite1 | split | assumption

theorem regJournal_keeps (x_r : Nat) (x_bit : Nat) (h : Keeps s t) : Keeps s (regJournal t x_r x_bit) := by
  unfold regJournal; try dsimp only
  with_reducible repeat' first
    | exact h | dsimp only | apply journal_keeps | apply regStatDrawn_keeps | split | assumption

theorem regGo_keeps (x_r : Nat) (x_st : Nat) (h : Keeps s t) : Keeps s (regGo t x_r x_st) := by
  unfold regGo; try dsimp only
  with_reducible repeat' first
    | exact h | apply Keeps.ite | dsimp only | simp only [keeps_mk] | simp only [keepsP_iff] | apply fset_keeps
    | apply setRegX_keeps | apply Keeps.ite1 | split | assumption

theorem regOff_keeps (x_r : Nat) (h : Keeps s t) : Keeps s (regOff t x_r) := by
  unfold regOff; try dsimp only
  with_reducible repeat' first
    | exact h | dsimp only | apply regGo_keeps | apply fset_keeps | apply withdraw_keeps | intro _ _ _ h | intro _ _ h
    | intro _ h | split | assumption

theorem regTarget_keeps (x_r : Nat) (x_c : Nat) (h : Keeps s t) : Keeps s (regTarget t x_r x_c) := by
  unfold regTarget; try dsimp only
  with_reducible repeat' first
    | exact h | dsimp only | simp only [keeps_mk] | simp only [keepsP_iff] | apply fset_keeps | apply setRegX_keeps
    | split | assumption

theorem regDropRaise_keeps (x_r : Nat) (h : Keeps s t) : Keeps s (regDropRaise t x_r) := by
  unfold regDropRaise; try dsimp only
  with_reducible repeat' first
    | exact h | apply Keeps.ite | dsimp only | simp only [keeps_mk] | simp only [keepsP_iff] | apply fset_keeps
    | apply withdraw_keeps | apply Keeps.ite1 | intro _ _ _ h | intro _ _ h | intro _ h | split | assumption

theorem regPend_keeps (x_r : Nat) (h : Keeps s t) : Keeps s (regPend t x_r) := by
  unfold regPend; try dsimp only
  with_reducible repeat' first | exact h | dsimp only | apply fset_keeps | apply request_keeps | split | assumption

theorem regEnable_keeps (x_r : Nat) (h : Keeps s t) : Keeps s ((regEnable t x_r).1) := by
  unfold regEnable; try dsimp only
  with_reducible repeat' first
    | exact h | apply Keeps.ite | dsimp only | apply fset_keeps | apply regPend_keeps | apply Keeps.ite1 | split
    | assumption

theorem regDisable_keeps (x_r : Nat) (h : Keeps s t) : Keeps s (regDisable t x_r) := by
  unfold regDisable; try dsimp only
  with_reducible repeat' first
    | exact h | apply Keeps.ite | dsimp only | apply regOff_keeps | apply fset_keeps | apply Keeps.ite1 | split
    | assumption

theorem regClrLatch_keeps (x_r : Nat) (h : Keeps s t) : Keeps s (regClrLatch t x_r) := by
  unfold regClrLatch; try dsimp only
  with_reducible repeat' first
    | exact h | apply Keeps.ite | dsimp only | apply regGo_keeps | apply fset_keeps | apply Keeps.ite1 | split
    | assumption

theorem regAdmitted_keeps (x_r : Nat) (h : Keeps s t) : Keeps s (regAdmitted t x_r) := by
  unfold regAdmitted; try dsimp only
  with_reducible repeat' first
    | exact h | apply Keeps.ite | dsimp only | apply regGo_keeps | apply fset_keeps | apply Keeps.ite1 | split
    | assumption

theorem regRefused_keeps (x_r : Nat) (x_code : Nat) (h : Keeps s t) : Keeps s (regRefused t x_r x_code) := by
  unfold regRefused; try dsimp only
  with_reducible repeat' first
    | exact h | apply Keeps.ite | dsimp only | apply regJournal_keeps | apply fset_keeps | apply regOff_keeps
    | apply Keeps.ite1 | split | assumption

theorem regRaised_keeps (x_r : Nat) (x_code : Nat) (h : Keeps s t) : Keeps s (regRaised t x_r x_code) := by
  unfold regRaised; try dsimp only
  with_reducible repeat' first | exact h | dsimp only | apply regTarget_keeps | apply fset_keeps | split | assumption

theorem regRaiseRefused_keeps (x_r : Nat) (x_code : Nat) (h : Keeps s t) : Keeps s (regRaiseRefused t x_r x_code) := by
  unfold regRaiseRefused; try dsimp only
  with_reducible repeat' first | exact h | dsimp only | apply fset_keeps | apply regJournal_keeps | split | assumption

theorem regShed_keeps (x_r : Nat) (h : Keeps s t) : Keeps s (regShed t x_r) := by
  unfold regShed; try dsimp only
  with_reducible repeat' first
    | exact h | apply Keeps.ite | dsimp only | apply regJournal_keeps | apply fset_keeps | apply regOff_keeps
    | apply Keeps.ite1 | split | assumption

theorem regVset_keeps (x_r : Nat) (x_code : Nat) (h : Keeps s t) : Keeps s (regVset t x_r x_code) := by
  unfold regVset; try dsimp only
  with_reducible repeat' first
    | exact h | apply Keeps.ite | dsimp only | apply fset_keeps | apply regDropRaise_keeps | apply request_keeps
    | apply regTarget_keeps | apply Keeps.ite1 | split | assumption

theorem regStrobeEn_keeps (x_r : Nat) (x_en : Bool) (h : Keeps s t) : Keeps s ((regStrobeEn t x_r x_en).1) := by
  unfold regStrobeEn; try dsimp only
  with_reducible repeat' first
    | exact h | apply Keeps.ite | dsimp only | apply regGo_keeps | apply fset_keeps | apply regEnable_keeps
    | apply regDisable_keeps | apply Keeps.ite1 | split | assumption

theorem regStrobeV_keeps (x_r : Nat) (x_code : Nat) (h : Keeps s t) : Keeps s ((regStrobeV t x_r x_code).1) := by
  unfold regStrobeV; try dsimp only
  with_reducible repeat' first
    | exact h | apply Keeps.ite | dsimp only | apply regTarget_keeps | apply fset_keeps | apply regDropRaise_keeps
    | apply Keeps.ite1 | split | assumption

theorem regInputLoss_keeps (x_r : Nat) (h : Keeps s t) : Keeps s (regInputLoss t x_r) := by
  unfold regInputLoss; try dsimp only
  with_reducible repeat' first
    | exact h | apply Keeps.ite | dsimp only | apply fset_keeps | apply Keeps.ite1 | split | assumption

theorem regInputReturn_keeps (x_r : Nat) (h : Keeps s t) : Keeps s (regInputReturn t x_r) := by
  unfold regInputReturn; try dsimp only
  with_reducible repeat' first
    | exact h | apply Keeps.ite | dsimp only | apply fset_keeps | apply regGo_keeps | apply Keeps.ite1 | split
    | assumption

theorem execRegEnable_keeps (x_r : Fin 8) (s : State) : KeepsO s (execRegEnable x_r s) := by
  unfold execRegEnable; try dsimp only
  with_reducible repeat' first
    | exact Keeps.refl s | assumption | apply KeepsO.next | dsimp only | apply atTarget_keeps | apply regEnable_keeps
    | intro _ _ _ _ | intro _ _ _ | intro _ _ | split

theorem execRegDisable_keeps (x_r : Fin 8) (s : State) : KeepsO s (execRegDisable x_r s) := by
  unfold execRegDisable; try dsimp only
  with_reducible repeat' first
    | exact Keeps.refl s | assumption | apply KeepsO.next | dsimp only | apply atTarget_keeps | apply regDisable_keeps
    | intro _ _ _ _ | intro _ _ _ | intro _ _ | split

theorem execRegClrLatch_keeps (x_r : Fin 8) (s : State) : KeepsO s (execRegClrLatch x_r s) := by
  unfold execRegClrLatch; try dsimp only
  with_reducible repeat' first
    | exact Keeps.refl s | assumption | apply KeepsO.next | dsimp only | apply atTarget_keeps
    | apply regClrLatch_keeps | intro _ _ _ _ | intro _ _ _ | intro _ _ | split

theorem execRegVsetWrite_keeps (x_r : Fin 8) (x_code : Fin 2048) (s : State) : KeepsO s (execRegVsetWrite x_r x_code s) := by
  unfold execRegVsetWrite; try dsimp only
  with_reducible repeat' first
    | exact Keeps.refl s | assumption | apply KeepsO.next | dsimp only | apply atTarget_keeps | apply regVset_keeps
    | intro _ _ _ _ | intro _ _ _ | intro _ _ | split

theorem execRegSsComplete_keeps (x_r : Fin 8) (s : State) : KeepsO s (execRegSsComplete x_r s) := by
  unfold execRegSsComplete; try dsimp only
  with_reducible repeat' first
    | exact Keeps.refl s | assumption | apply KeepsO.next | apply KeepsO.ite | apply Keeps.ite | dsimp only
    | simp only [keeps_mk] | simp only [keepsP_iff] | apply setRegX_keeps | apply regGo_keeps | apply Keeps.ite1
    | intro _ _ _ _ | intro _ _ _ | intro _ _ | split

theorem execRegLimitCondition_keeps (x_r : Fin 8) (s : State) : KeepsO s (execRegLimitCondition x_r s) := by
  unfold execRegLimitCondition; try dsimp only
  with_reducible repeat' first
    | exact Keeps.refl s | assumption | apply KeepsO.next | apply KeepsO.ite | apply Keeps.ite | dsimp only
    | simp only [keeps_mk] | simp only [keepsP_iff] | apply fset_keeps | apply regGo_keeps | apply regJournal_keeps
    | apply raise_keeps | apply setRegX_keeps | apply Keeps.ite1 | intro _ _ _ _ | intro _ _ _ | intro _ _ | split

theorem execRegHiccupRestart_keeps (x_r : Fin 8) (s : State) : KeepsO s (execRegHiccupRestart x_r s) := by
  unfold execRegHiccupRestart; try dsimp only
  with_reducible repeat' first
    | exact Keeps.refl s | assumption | apply KeepsO.next | apply KeepsO.ite | apply Keeps.ite | dsimp only
    | simp only [keeps_mk] | simp only [keepsP_iff] | apply passLoc_keeps | apply regGo_keeps | apply fset_keeps
    | apply setRegX_keeps | apply regJournal_keeps | apply raise_keeps | apply regDropRaise_keeps | apply Keeps.ite1
    | intro _ _ _ _ | intro _ _ _ | intro _ _ | split

theorem execRegOvertemp_keeps (x_r : Fin 8) (s : State) : KeepsO s (execRegOvertemp x_r s) := by
  unfold execRegOvertemp; try dsimp only
  with_reducible repeat' first
    | exact Keeps.refl s | assumption | apply KeepsO.next | apply KeepsO.ite | apply Keeps.ite | dsimp only
    | apply regJournal_keeps | apply raise_keeps | apply fset_keeps | apply regGo_keeps | apply Keeps.ite1
    | intro _ _ _ _ | intro _ _ _ | intro _ _ | split

theorem execRegTempRecover_keeps (x_r : Fin 8) (s : State) : KeepsO s (execRegTempRecover x_r s) := by
  unfold execRegTempRecover; try dsimp only
  with_reducible repeat' first
    | exact Keeps.refl s | assumption | apply KeepsO.next | apply KeepsO.ite | apply Keeps.ite | dsimp only
    | apply regGo_keeps | apply Keeps.ite1 | intro _ _ _ _ | intro _ _ _ | intro _ _ | split

theorem execRegInputLoss_keeps (x_r : Fin 8) (s : State) : KeepsO s (execRegInputLoss x_r s) := by
  unfold execRegInputLoss; try dsimp only
  with_reducible repeat' first
    | exact Keeps.refl s | assumption | apply KeepsO.next | dsimp only | apply regInputLoss_keeps | intro _ _ _ _
    | intro _ _ _ | intro _ _ | split

theorem execRegInputReturn_keeps (x_r : Fin 8) (s : State) : KeepsO s (execRegInputReturn x_r s) := by
  unfold execRegInputReturn; try dsimp only
  with_reducible repeat' first
    | exact Keeps.refl s | assumption | apply KeepsO.next | dsimp only | apply regInputReturn_keeps | intro _ _ _ _
    | intro _ _ _ | intro _ _ | split

theorem execRegOvervoltage_keeps (x_r : Fin 8) (s : State) : KeepsO s (execRegOvervoltage x_r s) := by
  unfold execRegOvervoltage; try dsimp only
  with_reducible repeat' first
    | exact Keeps.refl s | assumption | apply KeepsO.next | apply KeepsO.ite | apply Keeps.ite | dsimp only
    | simp only [keeps_mk] | simp only [keepsP_iff] | apply regJournal_keeps | apply fset_keeps | apply setRegX_keeps
    | apply Keeps.ite1 | intro _ _ _ _ | intro _ _ _ | intro _ _ | split

theorem execRegOvRecover_keeps (x_r : Fin 8) (s : State) : KeepsO s (execRegOvRecover x_r s) := by
  unfold execRegOvRecover; try dsimp only
  with_reducible repeat' first
    | exact Keeps.refl s | assumption | apply KeepsO.next | dsimp only | simp only [keeps_mk] | simp only [keepsP_iff]
    | apply setRegX_keeps | intro _ _ _ _ | intro _ _ _ | intro _ _ | split

theorem execRegPgSet_keeps (x_r : Fin 8) (s : State) : KeepsO s (execRegPgSet x_r s) := by
  unfold execRegPgSet; try dsimp only
  with_reducible repeat' first
    | exact Keeps.refl s | assumption | apply KeepsO.next | apply KeepsO.ite | apply Keeps.ite | dsimp only
    | apply fset_keeps | apply Keeps.ite1 | intro _ _ _ _ | intro _ _ _ | intro _ _ | split

theorem execRegPgLost_keeps (x_r : Fin 8) (s : State) : KeepsO s (execRegPgLost x_r s) := by
  unfold execRegPgLost; try dsimp only
  with_reducible repeat' first
    | exact Keeps.refl s | assumption | apply KeepsO.next | apply KeepsO.ite | apply Keeps.ite | dsimp only
    | apply regJournal_keeps | apply raise_keeps | apply fset_keeps | apply Keeps.ite1 | intro _ _ _ _ | intro _ _ _
    | intro _ _ | split

theorem execRegHiccupCountReset_keeps (x_r : Fin 8) (s : State) : KeepsO s (execRegHiccupCountReset x_r s) := by
  unfold execRegHiccupCountReset; try dsimp only
  with_reducible repeat' first
    | exact Keeps.refl s | assumption | apply KeepsO.next | apply KeepsO.ite | apply Keeps.ite | dsimp only
    | simp only [keeps_mk] | simp only [keepsP_iff] | apply fset_keeps | apply setRegX_keeps | apply Keeps.ite1
    | intro _ _ _ _ | intro _ _ _ | intro _ _ | split

/-! ### Sequence -/

theorem seqPfLast_keeps (x_q : Nat) (h : Keeps s t) : Keeps s (seqPfLast t x_q) := by
  unfold seqPfLast; try dsimp only
  with_reducible repeat' first
    | exact h | apply Keeps.ite | dsimp only | apply fset_keeps | apply Keeps.ite1 | split | assumption

theorem seqNext_keeps (x_q : Nat) (h : Keeps s t) : Keeps s (seqNext t x_q) := by
  unfold seqNext; try dsimp only
  with_reducible repeat' first
    | exact h | apply Keeps.ite | dsimp only | simp only [keeps_mk] | simp only [keepsP_iff] | apply setSeqX_keeps
    | apply fset_keeps | apply seqJournal_keeps | apply Keeps.ite1 | split | assumption

theorem seqDone_keeps (x_q : Nat) (h : Keeps s t) : Keeps s (seqDone t x_q) := by
  unfold seqDone; try dsimp only
  with_reducible repeat' first
    | exact h | dsimp only | apply seqNext_keeps | apply seqPfLast_keeps | split | assumption

theorem seqFailed_keeps (x_q : Nat) (h : Keeps s t) : Keeps s (seqFailed t x_q) := by
  unfold seqFailed; try dsimp only
  with_reducible repeat' first
    | exact h | apply Keeps.ite | dsimp only | simp only [keeps_mk] | simp only [keepsP_iff] | apply fset_keeps
    | apply seqJournal_keeps | apply setSeqX_keeps | apply fltUpdate_keeps | apply raise_keeps | apply seqStart_keeps
    | apply Keeps.ite1 | split | assumption

theorem seqFail_keeps (x_q : Nat) (x_code : Nat) (h : Keeps s t) : Keeps s (seqFail t x_q x_code) := by
  unfold seqFail; try dsimp only
  with_reducible repeat' first
    | exact h | apply Keeps.ite | dsimp only | apply monUnarm_keeps | apply seqJournal_keeps | apply fset_keeps
    | apply seqPfLast_keeps | apply seqNext_keeps | apply seqFailed_keeps | apply Keeps.ite1 | split | assumption

theorem seqIssue_keeps (x_q : Nat) (h : Keeps s t) : Keeps s (seqIssue t x_q) := by
  unfold seqIssue; try dsimp only
  with_reducible repeat' first
    | exact h | dsimp only | simp only [keeps_mk] | simp only [keepsP_iff] | apply setSeqX_keeps | split | assumption

theorem seqCoach_keeps (x_q : Nat) (x_k : Nat) (x_f : State → State × Nat)
    (hf_f : ∀ y0, Keeps s y0 → Keeps s ((x_f y0).1)) (h : Keeps s t) : Keeps s (seqCoach t x_q x_k x_f) := by
  unfold seqCoach; try dsimp only
  with_reducible repeat' first
    | exact h | apply Keeps.ite | dsimp only | apply asCoach_keeps | apply seqIssue_keeps | apply seqFail_keeps
    | apply hf_f | apply Keeps.ite1 | intro _ _ _ h | intro _ _ h | intro _ h | split | assumption

theorem railCmd_keeps (x_tgt : Nat) (x_on : Bool) (h : Keeps s t) : Keeps s ((railCmd t x_tgt x_on).1) := by
  unfold railCmd; try dsimp only
  with_reducible repeat' first
    | exact h | apply Keeps.ite | dsimp only | apply chMode_keeps | apply regEnable_keeps | apply regDisable_keeps
    | apply loopEnable_keeps | apply loopDisable_keeps | apply Keeps.ite1 | split | assumption

theorem offWaitRecord_keeps (x_q : Nat) (x_st : Step) (h : Keeps s t) : Keeps s (offWaitRecord t x_q x_st) := by
  unfold offWaitRecord; try dsimp only
  with_reducible repeat' first
    | exact h | apply Keeps.ite | dsimp only | apply seqRecord_keeps | apply Keeps.ite1 | split | assumption

theorem stepComplete_keeps (x_q : Nat) (h : Keeps s t) : Keeps s (stepComplete t x_q) := by
  unfold stepComplete; try dsimp only
  with_reducible repeat' first
    | exact h | apply Keeps.ite | dsimp only | apply offWaitRecord_keeps | apply fset_keeps | apply monUnarm_keeps
    | apply seqDone_keeps | apply Keeps.ite1 | split | assumption

theorem seqSettle_keeps (x_q : Nat) (x_op : Nat) (h : Keeps s t) : Keeps s (seqSettle t x_q x_op) := by
  unfold seqSettle; try dsimp only
  with_reducible repeat' first
    | exact h | apply Keeps.ite | dsimp only | apply stepComplete_keeps | apply Keeps.ite1 | split | assumption

theorem seqRefused_keeps (x_tgt : Nat) (h : Keeps s t) : Keeps s (seqRefused t x_tgt) := by
  unfold seqRefused; try dsimp only
  with_reducible repeat' first
    | exact h | apply Keeps.ite | dsimp only | apply seqFail_keeps | apply Keeps.ite1 | apply Keeps.foldl
    | apply Keeps.foldl1 | intro _ _ _ h | intro _ _ h | intro _ h | split | assumption

theorem seqTargetLost_keeps (x_tgt : Nat) (h : Keeps s t) : Keeps s (seqTargetLost t x_tgt) := by
  unfold seqTargetLost; try dsimp only
  with_reducible repeat' first
    | exact h | apply Keeps.ite | dsimp only | apply seqFail_keeps | apply Keeps.ite1 | apply Keeps.foldl
    | apply Keeps.foldl1 | intro _ _ _ h | intro _ _ h | intro _ h | split | assumption

theorem monDischarge_keeps (x_m : Nat) (h : Keeps s t) : Keeps s (monDischarge t x_m) := by
  unfold monDischarge; try dsimp only
  with_reducible repeat' first | exact h | dsimp only | apply fset_keeps | split | assumption

theorem monArm_keeps (x_m : Nat) (x_arm : Bool) (h : Keeps s t) : Keeps s ((monArm t x_m x_arm).1) := by
  unfold monArm; try dsimp only
  with_reducible repeat' first
    | exact h | apply Keeps.ite | dsimp only | apply fsetB_keeps | apply Keeps.ite1 | split | assumption

theorem monEvent_keeps (x_m : Nat) (x_isOver : Bool) (h : Keeps s t) : Keeps s (monEvent t x_m x_isOver) := by
  unfold monEvent; try dsimp only
  with_reducible repeat' first
    | exact h | apply Keeps.ite | dsimp only | apply seqRecord_keeps | apply fset_keeps | apply fltUpdate_keeps
    | apply raise_keeps | apply seqStart_keeps | apply Keeps.ite1 | split | assumption

theorem execSeqCmdStart_keeps (x_q : Fin 16) (s : State) : KeepsO s (execSeqCmdStart x_q s) := by
  unfold execSeqCmdStart; try dsimp only
  with_reducible repeat' first
    | exact Keeps.refl s | assumption | apply KeepsO.next | dsimp only | apply atTarget_keeps
    | apply seqHostStart_keeps | intro _ _ _ _ | intro _ _ _ | intro _ _ | split

theorem execSeqCmdAbort_keeps (x_q : Fin 16) (s : State) : KeepsO s (execSeqCmdAbort x_q s) := by
  unfold execSeqCmdAbort; try dsimp only
  with_reducible repeat' first
    | exact Keeps.refl s | assumption | apply KeepsO.next | dsimp only | apply atTarget_keeps | apply seqAbort_keeps
    | intro _ _ _ _ | intro _ _ _ | intro _ _ | split

theorem execSeqOpOn_keeps (x_q : Fin 16) (s : State) : KeepsO s (execSeqOpOn x_q s) := by
  unfold execSeqOpOn; try dsimp only
  with_reducible repeat' first
    | exact Keeps.refl s | assumption | apply KeepsO.next | apply KeepsO.ite | apply Keeps.ite | dsimp only
    | apply seqSettle_keeps | apply seqCoach_keeps | apply railCmd_keeps | apply Keeps.ite1 | intro _ _ _ _
    | intro _ _ _ | intro _ _ | split

theorem execSeqOpOff_keeps (x_q : Fin 16) (s : State) : KeepsO s (execSeqOpOff x_q s) := by
  unfold execSeqOpOff; try dsimp only
  with_reducible repeat' first
    | exact Keeps.refl s | assumption | apply KeepsO.next | apply KeepsO.ite | apply Keeps.ite | dsimp only
    | apply seqCoach_keeps | apply railCmd_keeps | apply seqDone_keeps | apply Keeps.ite1 | intro _ _ _ _
    | intro _ _ _ | intro _ _ | split

theorem execSeqOpWaitPg_keeps (x_q : Fin 16) (s : State) : KeepsO s (execSeqOpWaitPg x_q s) := by
  unfold execSeqOpWaitPg; try dsimp only
  with_reducible repeat' first
    | exact Keeps.refl s | assumption | apply KeepsO.next | apply KeepsO.ite | apply Keeps.ite | dsimp only
    | apply seqSettle_keeps | apply seqCoach_keeps | apply Keeps.ite1 | intro _ _ _ _ | intro _ _ _ | intro _ _
    | split

theorem execSeqOpWaitTime_keeps (x_q : Fin 16) (s : State) : KeepsO s (execSeqOpWaitTime x_q s) := by
  unfold execSeqOpWaitTime; try dsimp only
  with_reducible repeat' first
    | exact Keeps.refl s | assumption | apply KeepsO.next | apply KeepsO.ite | apply Keeps.ite | dsimp only
    | apply seqIssue_keeps | apply Keeps.ite1 | intro _ _ _ _ | intro _ _ _ | intro _ _ | split

theorem execSeqOpWaitCt_keeps (x_q : Fin 16) (s : State) : KeepsO s (execSeqOpWaitCt x_q s) := by
  unfold execSeqOpWaitCt; try dsimp only
  with_reducible repeat' first
    | exact Keeps.refl s | assumption | apply KeepsO.next | apply KeepsO.ite | apply Keeps.ite | dsimp only
    | apply seqDone_keeps | apply seqIssue_keeps | apply Keeps.ite1 | intro _ _ _ _ | intro _ _ _ | intro _ _ | split

theorem execSeqOpOffWait_keeps (x_q : Fin 16) (s : State) : KeepsO s (execSeqOpOffWait x_q s) := by
  unfold execSeqOpOffWait; try dsimp only
  with_reducible repeat' first
    | exact Keeps.refl s | assumption | apply KeepsO.next | apply KeepsO.ite | apply Keeps.ite | dsimp only
    | apply seqCoach_keeps | apply railCmd_keeps | apply monDischarge_keeps | apply Keeps.ite1 | intro _ _ _ _
    | intro _ _ _ | intro _ _ | split

theorem execSeqOpArm_keeps (x_q : Fin 16) (s : State) : KeepsO s (execSeqOpArm x_q s) := by
  unfold execSeqOpArm; try dsimp only
  with_reducible repeat' first
    | exact Keeps.refl s | assumption | apply KeepsO.next | apply KeepsO.ite | apply Keeps.ite | dsimp only
    | apply seqCoach_keeps | apply monArm_keeps | apply seqDone_keeps | apply Keeps.ite1 | intro _ _ _ _ | intro _ _ _
    | intro _ _ | split

theorem execSeqOpSetV_keeps (x_q : Fin 16) (s : State) : KeepsO s (execSeqOpSetV x_q s) := by
  unfold execSeqOpSetV; try dsimp only
  with_reducible repeat' first
    | exact Keeps.refl s | assumption | apply KeepsO.next | apply KeepsO.ite | apply Keeps.ite | dsimp only
    | apply seqSettle_keeps | apply seqCoach_keeps | apply regVset_keeps | apply loopVset_keeps | apply Keeps.ite1
    | intro _ _ _ _ | intro _ _ _ | intro _ _ | split

theorem execSeqOpFlt_keeps (x_q : Fin 16) (s : State) : KeepsO s (execSeqOpFlt x_q s) := by
  unfold execSeqOpFlt; try dsimp only
  with_reducible repeat' first
    | exact Keeps.refl s | assumption | apply KeepsO.next | apply KeepsO.ite | apply Keeps.ite | dsimp only
    | apply seqDone_keeps | apply fltUpdate_keeps | apply fsetB_keeps | apply Keeps.ite1 | intro _ _ _ _ | intro _ _ _
    | intro _ _ | split

theorem execSeqStepComplete_keeps (x_q : Fin 16) (s : State) : KeepsO s (execSeqStepComplete x_q s) := by
  unfold execSeqStepComplete; try dsimp only
  with_reducible repeat' first
    | exact Keeps.refl s | assumption | apply KeepsO.next | dsimp only | apply stepComplete_keeps | intro _ _ _ _
    | intro _ _ _ | intro _ _ | split

theorem execSeqStepTimeout_keeps (x_q : Fin 16) (s : State) : KeepsO s (execSeqStepTimeout x_q s) := by
  unfold execSeqStepTimeout; try dsimp only
  with_reducible repeat' first
    | exact Keeps.refl s | assumption | apply KeepsO.next | apply KeepsO.ite | apply Keeps.ite | dsimp only
    | apply passLoc_keeps | apply raise_keeps | apply seqFail_keeps | apply Keeps.ite1 | intro _ _ _ _ | intro _ _ _
    | intro _ _ | split

theorem execSeqWaitExpiry_keeps (x_q : Fin 16) (s : State) : KeepsO s (execSeqWaitExpiry x_q s) := by
  unfold execSeqWaitExpiry; try dsimp only
  with_reducible repeat' first
    | exact Keeps.refl s | assumption | apply KeepsO.next | apply KeepsO.ite | apply Keeps.ite | dsimp only
    | apply seqDone_keeps | apply passLoc_keeps | apply passTo_keeps | apply Keeps.ite1 | intro _ _ _ _ | intro _ _ _
    | intro _ _ | split

theorem execMonArmWrite_keeps (x_m : Fin 48) (x_arm : Bool) (s : State) : KeepsO s (execMonArmWrite x_m x_arm s) := by
  unfold execMonArmWrite; try dsimp only
  with_reducible repeat' first
    | exact Keeps.refl s | assumption | apply KeepsO.next | dsimp only | apply atTarget_keeps | apply monArm_keeps
    | intro _ _ _ _ | intro _ _ _ | intro _ _ | split

theorem monBits_keeps (x_m : Nat) (x_above : Bool) (x_below : Bool) (h : Keeps s t) : Keeps s (monBits t x_m x_above x_below) := by
  unfold monBits; try dsimp only
  with_reducible repeat' first
    | exact h | apply Keeps.ite | dsimp only | apply fsetB_keeps | apply fset_keeps | apply Keeps.ite1 | split
    | assumption

theorem execMonCondition_keeps (x_m : Fin 48) (x_isOver : Bool) (s : State) : KeepsO s (execMonCondition x_m x_isOver s) := by
  unfold execMonCondition; try dsimp only
  with_reducible repeat' first
    | exact Keeps.refl s | assumption | apply KeepsO.next | apply KeepsO.ite | apply Keeps.ite | dsimp only
    | simp only [keeps_mk] | simp only [keepsP_iff] | apply KeepsP.filter | apply monBits_keeps | apply monEvent_keeps
    | apply Keeps.ite1 | intro _ _ _ _ | intro _ _ _ | intro _ _ | split

theorem execMonConditionClear_keeps (x_m : Fin 48) (s : State) : KeepsO s (execMonConditionClear x_m s) := by
  unfold execMonConditionClear; try dsimp only
  with_reducible repeat' first
    | exact Keeps.refl s | assumption | apply KeepsO.next | dsimp only | simp only [keeps_mk] | simp only [keepsP_iff]
    | apply KeepsP.filter | apply monBits_keeps | apply fltUpdate_keeps | intro _ _ _ _ | intro _ _ _ | intro _ _
    | split

theorem execSeqFltExternal_keeps (s : State) : KeepsO s (execSeqFltExternal s) := by
  unfold execSeqFltExternal; try dsimp only
  with_reducible repeat' first
    | exact Keeps.refl s | assumption | apply KeepsO.next | apply KeepsO.ite | apply Keeps.ite | dsimp only
    | apply fltLine_keeps | apply fset_keeps | apply seqTrigger_keeps | apply raise_keeps | apply Keeps.ite1
    | intro _ _ _ _ | intro _ _ _ | intro _ _ | split

theorem execSeqFltExternalRelease_keeps (s : State) : KeepsO s (execSeqFltExternalRelease s) := by
  unfold execSeqFltExternalRelease; try dsimp only
  with_reducible repeat' first
    | exact Keeps.refl s | assumption | apply KeepsO.next | apply KeepsO.ite | apply Keeps.ite | dsimp only
    | apply fltLine_keeps | apply fset_keeps | apply Keeps.ite1 | intro _ _ _ _ | intro _ _ _ | intro _ _ | split

theorem execSeqFltMinExpiry_keeps (s : State) : KeepsO s (execSeqFltMinExpiry s) := by
  unfold execSeqFltMinExpiry; try dsimp only
  with_reducible repeat' first
    | exact Keeps.refl s | assumption | apply KeepsO.next | dsimp only | simp only [keeps_mk] | simp only [keepsP_iff]
    | apply fltUpdate_keeps | intro _ _ _ _ | intro _ _ _ | intro _ _ | split

end Sys2Proof.Machine
end

