-- ==== Sys2Proof/Laws/KeepsChain.lean ====
section
/-!
SUPPORT. Laws/KeepsChain.lean: the itinerary, convoys, the ledger, time and the chain keep what `Keeps` says, operation by operation.
-/
namespace Sys2Proof.Machine

variable {s t : State}

/-! ### Itin -/

theorem entShow_keeps (x_i : Nat) (x_st : Nat) (x_result : Nat) (x_reason : Nat) (h : Keeps s t) : Keeps s (entShow t x_i x_st x_result x_reason) := by
  unfold entShow; try dsimp only
  with_reducible repeat' first | exact h | dsimp only | apply fset_keeps | split | assumption

theorem entRelease_keeps (x_i : Nat) (h : Keeps s t) : Keeps s (entRelease t x_i) := by
  unfold entRelease; try dsimp only
  with_reducible repeat' first
    | exact h | dsimp only | simp only [keeps_mk] | simp only [keepsP_iff] | apply release_keeps | apply setEnt_keeps
    | split | assumption

theorem entWithdraw_keeps (x_i : Nat) (h : Keeps s t) : Keeps s (entWithdraw t x_i) := by
  unfold entWithdraw; try dsimp only
  with_reducible repeat' first
    | exact h | apply Keeps.ite | dsimp only | simp only [keeps_mk] | simp only [keepsP_iff] | apply KeepsP.filter
    | apply withdraw_keeps | apply Keeps.ite1 | intro _ _ _ h | intro _ _ h | intro _ h | split | assumption

theorem entFree_keeps (x_i : Nat) (h : Keeps s t) : Keeps s (entFree t x_i) := by
  unfold entFree; try dsimp only
  with_reducible repeat' first
    | exact h | dsimp only | simp only [keeps_mk] | simp only [keepsP_iff] | apply KeepsP.filter | apply setEnt_keeps
    | intro _ _ _ h | intro _ _ h | intro _ h | split | assumption

theorem entJournal_keeps (x_i : Nat) (x_result : Nat) (x_reason : Nat) (h : Keeps s t) : Keeps s (entJournal t x_i x_result x_reason) := by
  unfold entJournal; try dsimp only
  with_reducible repeat' first | exact h | dsimp only | apply journal_keeps | split | assumption

theorem gaugeJudge_keeps (x_i : Nat) (x_result : Nat) (h : Keeps s t) : Keeps s (gaugeJudge t x_i x_result) := by
  unfold gaugeJudge; try dsimp only
  with_reducible repeat' first
    | exact h | apply Keeps.ite | dsimp only | simp only [keeps_mk] | simp only [keepsP_iff] | apply raise_keeps
    | apply fset_keeps | apply Keeps.ite1 | split | assumption

theorem entDone_keeps (x_i : Nat) (x_result : Nat) (x_reason : Nat) (x_keep : Bool) (x_fired : Option Nat) (h : Keeps s t) : Keeps s (entDone t x_i x_result x_reason x_keep x_fired) := by
  unfold entDone; try dsimp only
  with_reducible repeat' first
    | exact h | apply Keeps.ite | dsimp only | simp only [keeps_mk] | simp only [keepsP_iff] | apply entFree_keeps
    | apply setEnt_keeps | apply entRelease_keeps | apply fset_keeps | apply entShow_keeps | apply gaugeJudge_keeps
    | apply entJournal_keeps | apply Keeps.ite1 | split | assumption

theorem entEnd_keeps (x_i : Nat) (x_result : Nat) (x_reason : Nat) (h : Keeps s t) : Keeps s (entEnd t x_i x_result x_reason) := by
  unfold entEnd; try dsimp only
  with_reducible repeat' first | exact h | dsimp only | apply entDone_keeps | apply fset_keeps | split | assumption

theorem entMissed_keeps (x_i : Nat) (h : Keeps s t) : Keeps s (entMissed t x_i) := by
  unfold entMissed; try dsimp only
  with_reducible repeat' first
    | exact h | apply Keeps.ite | dsimp only | apply finc_keeps | apply fset_keeps | apply raise_keeps
    | apply entEnd_keeps | apply Keeps.ite1 | split | assumption

theorem entLoad_keeps (x_i : Nat) (h : Keeps s t) : Keeps s (entLoad t x_i) := by
  unfold entLoad; try dsimp only
  with_reducible repeat' first
    | exact h | apply Keeps.ite | dsimp only | simp only [keeps_mk] | simp only [keepsP_iff] | apply fset_keeps
    | apply setEnt_keeps | apply entMissed_keeps | apply entEnd_keeps | apply Keeps.ite1 | split | assumption

theorem locShow_keeps (x_c : Nat) (x_st : Nat) (x_reason : Nat) (h : Keeps s t) : Keeps s (locShow t x_c x_st x_reason) := by
  unfold locShow; try dsimp only
  with_reducible repeat' first
    | exact h | apply Keeps.ite | dsimp only | simp only [keeps_mk] | simp only [keepsP_iff] | apply KeepsP.filter
    | apply Keeps.ite1 | intro _ _ _ h | intro _ _ h | intro _ h | split | assumption

theorem entAdmitted_keeps (x_l : List Nat) (h : Keeps s t) : Keeps s (entAdmitted t x_l) := by
  unfold entAdmitted; try dsimp only
  with_reducible repeat' first
    | exact h | apply Keeps.ite | dsimp only | simp only [keeps_mk] | simp only [keepsP_iff] | apply setEnt_keeps
    | apply locShow_keeps | apply fset_keeps | apply entLoad_keeps | apply Keeps.ite1 | apply Keeps.foldl
    | apply Keeps.foldl1 | intro _ _ _ h | intro _ _ h | intro _ h | split | assumption

theorem entRefused_keeps (x_l : List Nat) (x_code : Nat) (h : Keeps s t) : Keeps s (entRefused t x_l x_code) := by
  unfold entRefused; try dsimp only
  with_reducible repeat' first
    | exact h | dsimp only | apply entEnd_keeps | apply locShow_keeps | apply Keeps.foldl | apply Keeps.foldl1
    | intro _ _ _ h | intro _ _ h | intro _ h | split | assumption

theorem entPrepare_keeps (x_l : List Nat) (h : Keeps s t) : Keeps s (entPrepare t x_l) := by
  unfold entPrepare; try dsimp only
  with_reducible repeat' first
    | exact h | dsimp only | simp only [keeps_mk] | simp only [keepsP_iff] | apply fset_keeps | apply setEnt_keeps
    | apply request_keeps | apply locShow_keeps | apply entAdmitted_keeps | apply Keeps.foldl | apply Keeps.foldl1
    | intro _ _ _ h | intro _ _ h | intro _ h | split | assumption

theorem entActivate_keeps (x_i : Nat) (h : Keeps s t) : Keeps s (entActivate t x_i) := by
  unfold entActivate; try dsimp only
  with_reducible repeat' first
    | exact h | apply Keeps.ite | dsimp only | apply fset_keeps | apply setEnt_keeps | apply entFree_keeps
    | apply entShow_keeps | apply Keeps.ite1 | split | assumption

theorem entWithdrawn_keeps (x_i : Nat) (h : Keeps s t) : Keeps s (entWithdrawn t x_i) := by
  unfold entWithdrawn; try dsimp only
  with_reducible repeat' first
    | exact h | apply Keeps.ite | dsimp only | simp only [keeps_mk] | simp only [keepsP_iff] | apply drawBool_keeps
    | apply setEnt_keeps | apply entEnd_keeps | apply entWithdraw_keeps | apply Keeps.ite1 | split | assumption

theorem entW3_keeps (x_i : Nat) (x_w : Nat) (h : Keeps s t) : Keeps s (entW3 t x_i x_w) := by
  unfold entW3; try dsimp only
  with_reducible repeat' first | exact h | dsimp only | apply fset_keeps | split | assumption

theorem itinWriteW3_keeps (x_i : Nat) (x_w : Nat) (h : Keeps s t) : Keeps s ((itinWriteW3 t x_i x_w).1) := by
  unfold itinWriteW3; try dsimp only
  with_reducible repeat' first
    | exact h | apply Keeps.ite | dsimp only | apply entWithdrawn_keeps | apply entW3_keeps | apply entActivate_keeps
    | apply Keeps.ite1 | split | assumption

theorem itinStart_keeps (h : Keeps s t) : Keeps s (itinStart t) := by
  unfold itinStart; try dsimp only
  with_reducible repeat' first
    | exact h | dsimp only | apply entActivate_keeps | apply Keeps.foldl | apply Keeps.foldl1 | intro _ _ _ h
    | intro _ _ h | intro _ h | split | assumption

theorem entLag_keeps (x_i : Nat) (x_lag : Nat) (h : Keeps s t) : Keeps s ((entLag t x_i x_lag).1) := by
  unfold entLag; try dsimp only
  with_reducible repeat' first
    | exact h | apply Keeps.ite | dsimp only | apply fset_keeps | apply finc_keeps | apply Keeps.ite1 | split
    | assumption

theorem entFire_keeps (x_i : Nat) (x_act : Nat) (x_f : State → State × Nat)
    (hf_f : ∀ y0, Keeps s y0 → Keeps s ((x_f y0).1)) (h : Keeps s t) : Keeps s (entFire t x_i x_act x_f) := by
  unfold entFire; try dsimp only
  with_reducible repeat' first
    | exact h | apply Keeps.ite | dsimp only | apply passTo_keeps | apply entEnd_keeps | apply entMissed_keeps
    | apply entLag_keeps | apply entDone_keeps | apply raise_keeps | apply hf_f | apply Keeps.ite1 | intro _ _ _ h
    | intro _ _ h | intro _ h | split | assumption

theorem strobeMode_keeps (x_i : Nat) (h : Keeps s t) : Keeps s ((strobeMode x_i t).1) := by
  unfold strobeMode; try dsimp only
  with_reducible repeat' first | exact h | dsimp only | apply chCommand_keeps | split | assumption

theorem strobeDuty_keeps (x_i : Nat) (h : Keeps s t) : Keeps s ((strobeDuty x_i t).1) := by
  unfold strobeDuty; try dsimp only
  with_reducible repeat' first | exact h | dsimp only | apply fset_keeps | split | assumption

theorem strobeCreg_keeps (x_i : Nat) (h : Keeps s t) : Keeps s ((strobeCreg x_i t).1) := by
  unfold strobeCreg; try dsimp only
  with_reducible repeat' first | exact h | dsimp only | apply fset_keeps | split | assumption

theorem strobeEnable_keeps (x_i : Nat) (h : Keeps s t) : Keeps s ((strobeEnable x_i t).1) := by
  unfold strobeEnable; try dsimp only
  with_reducible repeat' first
    | exact h | apply Keeps.ite | dsimp only | apply regStrobeEn_keeps | apply loopStrobeEn_keeps | apply Keeps.ite1
    | split | assumption

theorem strobeVset_keeps (x_i : Nat) (h : Keeps s t) : Keeps s ((strobeVset x_i t).1) := by
  unfold strobeVset; try dsimp only
  with_reducible repeat' first
    | exact h | apply Keeps.ite | dsimp only | apply regStrobeV_keeps | apply loopStrobeV_keeps | apply Keeps.ite1
    | split | assumption

theorem strobeSeq_keeps (x_i : Nat) (h : Keeps s t) : Keeps s ((strobeSeq x_i t).1) := by
  unfold strobeSeq; try dsimp only
  with_reducible repeat' first | exact h | dsimp only | apply seqStart_keeps | split | assumption

theorem strobeAdc_keeps (x_i : Nat) (h : Keeps s t) : Keeps s ((strobeAdc x_i t).1) := by
  unfold strobeAdc; try dsimp only
  with_reducible repeat' first
    | exact h | apply Keeps.ite | dsimp only | apply adcCommon_keeps | apply Keeps.ite1 | split | assumption

theorem strobeChg_keeps (x_i : Nat) (h : Keeps s t) : Keeps s ((strobeChg x_i t).1) := by
  unfold strobeChg; try dsimp only
  with_reducible repeat' first | exact h | dsimp only | apply chgCommand_keeps | split | assumption

theorem strobePort_keeps (x_i : Nat) (h : Keeps s t) : Keeps s ((strobePort x_i t).1) := by
  unfold strobePort; try dsimp only
  with_reducible repeat' first | exact h | dsimp only | apply pdCommand_keeps | split | assumption

theorem entReload_keeps (x_i : Nat) (h : Keeps s t) : Keeps s (entReload t x_i) := by
  unfold entReload; try dsimp only
  with_reducible repeat' first
    | exact h | apply Keeps.ite | dsimp only | apply entLoad_keeps | apply entFree_keeps | apply Keeps.ite1 | split
    | assumption

theorem itinStep_keeps (x_d : Int) (h : Keeps s t) : Keeps s (itinStep t x_d) := by
  unfold itinStep; try dsimp only
  with_reducible repeat' first
    | exact h | apply Keeps.ite | dsimp only | simp only [keeps_mk] | simp only [keepsP_iff] | apply entReload_keeps
    | apply setEnt_keeps | apply Keeps.ite1 | apply Keeps.foldl | apply Keeps.foldl1 | intro _ _ _ h | intro _ _ h
    | intro _ h | split | assumption

theorem itinAcquire_keeps (x_l : Nat) (h : Keeps s t) : Keeps s (itinAcquire t x_l) := by
  unfold itinAcquire; try dsimp only
  with_reducible repeat' first
    | exact h | apply Keeps.ite | dsimp only | simp only [keeps_mk] | simp only [keepsP_iff] | apply entReload_keeps
    | apply setEnt_keeps | apply Keeps.ite1 | apply Keeps.foldl | apply Keeps.foldl1 | intro _ _ _ h | intro _ _ h
    | intro _ h | split | assumption

theorem itinShed_keeps (x_hit : Nat → Bool) (h : Keeps s t) : Keeps s (itinShed t x_hit) := by
  unfold itinShed; try dsimp only
  with_reducible repeat' first
    | exact h | apply Keeps.ite | dsimp only | simp only [keeps_mk] | simp only [keepsP_iff] | apply entEnd_keeps
    | apply setEnt_keeps | apply Keeps.ite1 | apply Keeps.foldl | apply Keeps.foldl1 | intro _ _ _ h | intro _ _ h
    | intro _ h | split | assumption

theorem execItinActivate_keeps (x_i : Fin 8192) (x_w3 : Word) (s : State) : KeepsO s (execItinActivate x_i x_w3 s) := by
  unfold execItinActivate; try dsimp only
  with_reducible repeat' first
    | exact Keeps.refl s | assumption | apply KeepsO.next | dsimp only | apply itinWriteW3_keeps
    | apply complete_keeps | intro _ _ _ _ | intro _ _ _ | intro _ _ | split

theorem execItinWithdraw_keeps (x_i : Fin 8192) (s : State) : KeepsO s (execItinWithdraw x_i s) := by
  unfold execItinWithdraw; try dsimp only
  with_reducible repeat' first
    | exact Keeps.refl s | assumption | apply KeepsO.next | dsimp only | apply itinWriteW3_keeps
    | apply complete_keeps | intro _ _ _ _ | intro _ _ _ | intro _ _ | split

theorem execItinPrepare_keeps (x_i : Fin 8192) (s : State) : KeepsO s (execItinPrepare x_i s) := by
  unfold execItinPrepare; try dsimp only
  with_reducible repeat' first
    | exact Keeps.refl s | assumption | apply KeepsO.next | apply KeepsO.ite | apply Keeps.ite | dsimp only
    | apply byEngine_keeps | apply passTo_keeps | apply fset_keeps | apply entPrepare_keeps | apply Keeps.ite1
    | intro _ _ _ _ | intro _ _ _ | intro _ _ | split

theorem execItinSlotLoad_keeps (x_i : Fin 8192) (s : State) : KeepsO s (execItinSlotLoad x_i s) := by
  unfold execItinSlotLoad; try dsimp only
  with_reducible repeat' first
    | exact Keeps.refl s | assumption | apply KeepsO.next | apply KeepsO.ite | apply Keeps.ite | dsimp only
    | apply byEngine_keeps | apply entLoad_keeps | apply Keeps.ite1 | intro _ _ _ _ | intro _ _ _ | intro _ _ | split

theorem execItinLaunchMissed_keeps (x_i : Fin 8192) (s : State) : KeepsO s (execItinLaunchMissed x_i s) := by
  unfold execItinLaunchMissed; try dsimp only
  with_reducible repeat' first
    | exact Keeps.refl s | assumption | apply KeepsO.next | apply KeepsO.ite | apply Keeps.ite | dsimp only
    | apply byEngine_keeps | apply entMissed_keeps | apply entWithdraw_keeps | apply passTo_keeps | apply Keeps.ite1
    | intro _ _ _ _ | intro _ _ _ | intro _ _ | split

theorem execLocalConvoyNoCommit_keeps (x_c : BitVec 8) (s : State) : KeepsO s (execLocalConvoyNoCommit x_c s) := by
  unfold execLocalConvoyNoCommit; try dsimp only
  with_reducible repeat' first
    | exact Keeps.refl s | assumption | apply KeepsO.next | dsimp only | simp only [keeps_mk] | simp only [keepsP_iff]
    | apply KeepsP.filter | apply byEngine_keeps | apply passTo_keeps | apply entEnd_keeps | apply locShow_keeps
    | apply Keeps.foldl | apply Keeps.foldl1 | intro _ _ _ _ | intro _ _ _ | intro _ _ | split

theorem execItinActMode_keeps (x_i : Fin 8192) (s : State) : KeepsO s (execItinActMode x_i s) := by
  unfold execItinActMode; try dsimp only
  with_reducible repeat' first
    | exact Keeps.refl s | assumption | apply KeepsO.next | dsimp only | apply wireNightStop_keeps
    | apply entFire_keeps | apply strobeMode_keeps | intro _ _ _ _ | intro _ _ _ | intro _ _ | split

theorem execItinActDuty_keeps (x_i : Fin 8192) (s : State) : KeepsO s (execItinActDuty x_i s) := by
  unfold execItinActDuty; try dsimp only
  with_reducible repeat' first
    | exact Keeps.refl s | assumption | apply KeepsO.next | dsimp only | apply entFire_keeps | apply strobeDuty_keeps
    | intro _ _ _ _ | intro _ _ _ | intro _ _ | split

theorem execItinActCreg_keeps (x_i : Fin 8192) (s : State) : KeepsO s (execItinActCreg x_i s) := by
  unfold execItinActCreg; try dsimp only
  with_reducible repeat' first
    | exact Keeps.refl s | assumption | apply KeepsO.next | dsimp only | apply entFire_keeps | apply strobeCreg_keeps
    | intro _ _ _ _ | intro _ _ _ | intro _ _ | split

theorem execItinActEnable_keeps (x_i : Fin 8192) (s : State) : KeepsO s (execItinActEnable x_i s) := by
  unfold execItinActEnable; try dsimp only
  with_reducible repeat' first
    | exact Keeps.refl s | assumption | apply KeepsO.next | dsimp only | apply entFire_keeps
    | apply strobeEnable_keeps | intro _ _ _ _ | intro _ _ _ | intro _ _ | split

theorem execItinActVset_keeps (x_i : Fin 8192) (s : State) : KeepsO s (execItinActVset x_i s) := by
  unfold execItinActVset; try dsimp only
  with_reducible repeat' first
    | exact Keeps.refl s | assumption | apply KeepsO.next | dsimp only | apply entFire_keeps | apply strobeVset_keeps
    | intro _ _ _ _ | intro _ _ _ | intro _ _ | split

theorem execItinActSeq_keeps (x_i : Fin 8192) (s : State) : KeepsO s (execItinActSeq x_i s) := by
  unfold execItinActSeq; try dsimp only
  with_reducible repeat' first
    | exact Keeps.refl s | assumption | apply KeepsO.next | dsimp only | apply entFire_keeps | apply strobeSeq_keeps
    | intro _ _ _ _ | intro _ _ _ | intro _ _ | split

theorem execItinActAdcTrig_keeps (x_i : Fin 8192) (s : State) : KeepsO s (execItinActAdcTrig x_i s) := by
  unfold execItinActAdcTrig; try dsimp only
  with_reducible repeat' first
    | exact Keeps.refl s | assumption | apply KeepsO.next | dsimp only | apply entFire_keeps | apply strobeAdc_keeps
    | intro _ _ _ _ | intro _ _ _ | intro _ _ | split

theorem execItinActChg_keeps (x_i : Fin 8192) (s : State) : KeepsO s (execItinActChg x_i s) := by
  unfold execItinActChg; try dsimp only
  with_reducible repeat' first
    | exact Keeps.refl s | assumption | apply KeepsO.next | dsimp only | apply entFire_keeps | apply strobeChg_keeps
    | intro _ _ _ _ | intro _ _ _ | intro _ _ | split

theorem execItinActPort_keeps (x_i : Fin 8192) (s : State) : KeepsO s (execItinActPort x_i s) := by
  unfold execItinActPort; try dsimp only
  with_reducible repeat' first
    | exact Keeps.refl s | assumption | apply KeepsO.next | dsimp only | apply entFire_keeps | apply strobePort_keeps
    | intro _ _ _ _ | intro _ _ _ | intro _ _ | split

theorem execItinActShed_keeps (x_i : Fin 8192) (s : State) : KeepsO s (execItinActShed x_i s) := by
  unfold execItinActShed; try dsimp only
  with_reducible repeat' first
    | exact Keeps.refl s | assumption | apply KeepsO.next | dsimp only | apply entFire_keeps
    | apply setShedLevel_keeps | intro _ _ _ _ | intro _ _ _ | intro _ _ | split

theorem execItinActMark_keeps (x_i : Fin 8192) (s : State) : KeepsO s (execItinActMark x_i s) := by
  unfold execItinActMark; try dsimp only
  with_reducible repeat' first
    | exact Keeps.refl s | assumption | apply KeepsO.next | dsimp only | apply entFire_keeps | apply journal_keeps
    | intro _ _ _ _ | intro _ _ _ | intro _ _ | split

/-! ### Convoy -/

theorem headPut_keeps (x_x : Cvy) (h : Keeps s t) : Keeps s (headPut t x_x) := by
  unfold headPut; try dsimp only
  with_reducible repeat' first
    | exact h | dsimp only | simp only [keeps_mk] | simp only [keepsP_iff] | split | assumption

theorem memberPut_keeps (x_x : Cvy) (h : Keeps s t) : Keeps s (memberPut t x_x) := by
  unfold memberPut; try dsimp only
  with_reducible repeat' first
    | exact h | dsimp only | simp only [keeps_mk] | simp only [keepsP_iff] | split | assumption

theorem cvyRun_keeps (x_c : Nat) (h : Keeps s t) : Keeps s (cvyRun t x_c) := by
  unfold cvyRun; try dsimp only
  with_reducible repeat' first
    | exact h | apply Keeps.ite | dsimp only | apply chEnter_keeps | apply fset_keeps | apply Keeps.ite1
    | apply Keeps.foldl | apply Keeps.foldl1 | intro _ _ _ h | intro _ _ h | intro _ h | split | assumption

theorem cvyStop_keeps (x_c : Nat) (h : Keeps s t) : Keeps s (cvyStop t x_c) := by
  unfold cvyStop; try dsimp only
  with_reducible repeat' first
    | exact h | apply Keeps.ite | dsimp only | apply chPreEnd_keeps | apply Keeps.ite1 | apply Keeps.foldl
    | apply Keeps.foldl1 | intro _ _ _ h | intro _ _ h | intro _ h | split | assumption

theorem memberRelease_keeps (x_c : Nat) (x_result : Nat) (x_reason : Nat) (h : Keeps s t) : Keeps s (memberRelease t x_c x_result x_reason) := by
  unfold memberRelease; try dsimp only
  with_reducible repeat' first
    | exact h | dsimp only | simp only [keeps_mk] | simp only [keepsP_iff] | apply KeepsP.filter
    | apply withdraw_keeps | apply entFree_keeps | apply entRelease_keeps | apply entEnd_keeps | apply cvyStop_keeps
    | apply Keeps.foldl | apply Keeps.foldl1 | intro _ _ _ h | intro _ _ h | intro _ h | split | assumption

theorem memberAct_keeps (x_m : Cvy) (x_reason : Nat) (h : Keeps s t) : Keeps s (memberAct t x_m x_reason) := by
  unfold memberAct; try dsimp only
  with_reducible repeat' first
    | exact h | dsimp only | simp only [keeps_mk] | simp only [keepsP_iff] | apply memberRelease_keeps
    | apply memberPut_keeps | apply fset_keeps | split | assumption

theorem memberCancel_keeps (x_c : Nat) (x_armId : Nat) (x_reason : Nat) (h : Keeps s t) : Keeps s ((memberCancel t x_c x_armId x_reason).1) := by
  unfold memberCancel; try dsimp only
  with_reducible repeat' first
    | exact h | apply Keeps.ite | dsimp only | simp only [keeps_mk] | simp only [keepsP_iff] | apply fset_keeps
    | apply memberAct_keeps | apply Keeps.ite1 | intro _ _ _ h | intro _ _ h | intro _ h | split | assumption

theorem memberCommit_keeps (x_c : Nat) (x_armId : Nat) (x_launch : Nat) (h : Keeps s t) : Keeps s (memberCommit t x_c x_armId x_launch) := by
  unfold memberCommit; try dsimp only
  with_reducible repeat' first
    | exact h | apply Keeps.ite | dsimp only | simp only [keeps_mk] | simp only [keepsP_iff] | apply KeepsP.filter
    | apply fset_keeps | apply memberPut_keeps | apply entLoad_keeps | apply setEnt_keeps | apply Keeps.ite1
    | apply Keeps.foldl | apply Keeps.foldl1 | intro _ _ _ h | intro _ _ h | intro _ h | split | assumption

theorem cvyCancel_keeps (x_x : Cvy) (x_reason : Nat) (h : Keeps s t) : Keeps s (cvyCancel t x_x x_reason) := by
  unfold cvyCancel; try dsimp only
  with_reducible repeat' first
    | exact h | apply Keeps.ite | dsimp only | simp only [keeps_mk] | simp only [keepsP_iff] | apply headPut_keeps
    | apply fset_keeps | apply send_keeps | apply memberCancel_keeps | apply raise_keeps | apply Keeps.ite1 | split
    | assumption

theorem cvyCommit_keeps (x_x : Cvy) (x_launch : Nat) (h : Keeps s t) : Keeps s (cvyCommit t x_x x_launch) := by
  unfold cvyCommit; try dsimp only
  with_reducible repeat' first
    | exact h | apply Keeps.ite | dsimp only | simp only [keeps_mk] | simp only [keepsP_iff] | apply headPut_keeps
    | apply send_keeps | apply memberCommit_keeps | apply Keeps.ite1 | split | assumption

theorem cvyAck_keeps (x_src : Nat) (x_c : Nat) (x_result : Nat) (x_armId : Nat) (h : Keeps s t) : Keeps s (cvyAck t x_src x_c x_result x_armId) := by
  unfold cvyAck; try dsimp only
  with_reducible repeat' first
    | exact h | apply Keeps.ite | dsimp only | simp only [keeps_mk] | simp only [keepsP_iff] | apply cvyCancel_keeps
    | apply headPut_keeps | apply cvyCommit_keeps | apply Keeps.ite1 | intro _ _ _ h | intro _ _ h | intro _ h | split
    | assumption

theorem memberAck_keeps (x_c : Nat) (x_result : Nat) (x_mw : Nat) (h : Keeps s t) : Keeps s (memberAck t x_c x_result x_mw) := by
  unfold memberAck; try dsimp only
  with_reducible repeat' first
    | exact h | apply Keeps.ite | dsimp only | simp only [keeps_mk] | simp only [keepsP_iff] | apply cvyRun_keeps
    | apply cvyAck_keeps | apply send_keeps | apply Keeps.ite1 | split | assumption

theorem memberAnswer_keeps (x_c : Nat) (x_code : Nat) (h : Keeps s t) : Keeps s (memberAnswer t x_c x_code) := by
  unfold memberAnswer; try dsimp only
  with_reducible repeat' first
    | exact h | apply Keeps.ite | dsimp only | simp only [keeps_mk] | simp only [keepsP_iff] | apply setEnt_keeps
    | apply memberAck_keeps | apply Keeps.ite1 | apply Keeps.foldl | apply Keeps.foldl1 | intro _ _ _ h | intro _ _ h
    | intro _ h | split | assumption

theorem memberReplace_keeps (x_c : Nat) (x_armId : Nat) (h : Keeps s t) : Keeps s ((memberReplace t x_c x_armId).1) := by
  unfold memberReplace; try dsimp only
  with_reducible repeat' first
    | exact h | apply Keeps.ite | dsimp only | simp only [keeps_mk] | simp only [keepsP_iff] | apply memberAct_keeps
    | apply Keeps.ite1 | split | assumption

theorem memberTake_keeps (x_c : Nat) (x_armId : Nat) (x_launch : Nat) (x_members : Nat) (h : Keeps s t) : Keeps s (memberTake t x_c x_armId x_launch x_members) := by
  unfold memberTake; try dsimp only
  with_reducible repeat' first
    | exact h | apply Keeps.ite | dsimp only | simp only [keeps_mk] | simp only [keepsP_iff] | apply memberPut_keeps
    | apply setEnt_keeps | apply memberAck_keeps | apply request_keeps | apply Keeps.ite1 | apply Keeps.foldl
    | apply Keeps.foldl1 | intro _ _ _ h | intro _ _ h | intro _ h | split | assumption

theorem memberArm_keeps (x_c : Nat) (x_armId : Nat) (x_launch : Nat) (x_members : Nat) (h : Keeps s t) : Keeps s (memberArm t x_c x_armId x_launch x_members) := by
  unfold memberArm; try dsimp only
  with_reducible repeat' first
    | exact h | apply Keeps.ite | dsimp only | apply memberReplace_keeps | apply memberTake_keeps | apply raise_keeps
    | apply Keeps.ite1 | intro _ _ _ h | intro _ _ h | intro _ h | split | assumption

theorem cvyArm_keeps (x_c : Nat) (x_tent : Bool) (x_launch : Nat) (x_members : Nat) (x_at_ : Nat) (h : Keeps s t) : Keeps s ((cvyArm t x_c x_tent x_launch x_members x_at_).1) := by
  unfold cvyArm; try dsimp only
  with_reducible repeat' first
    | exact h | apply Keeps.ite | dsimp only | simp only [keeps_mk] | simp only [keepsP_iff] | apply KeepsP.filter
    | apply headPut_keeps | apply memberArm_keeps | apply send_keeps | apply Keeps.ite1 | intro _ _ _ h | intro _ _ h
    | intro _ h | split | assumption

theorem cvyCommitCmd_keeps (x_c : Nat) (x_launch : Nat) (h : Keeps s t) : Keeps s ((cvyCommitCmd t x_c x_launch).1) := by
  unfold cvyCommitCmd; try dsimp only
  with_reducible repeat' first
    | exact h | apply Keeps.ite | dsimp only | simp only [keeps_mk] | simp only [keepsP_iff] | apply cvyCommit_keeps
    | apply Keeps.ite1 | split | assumption

theorem cvyCancelCmd_keeps (x_c : Nat) (h : Keeps s t) : Keeps s ((cvyCancelCmd t x_c).1) := by
  unfold cvyCancelCmd; try dsimp only
  with_reducible repeat' first
    | exact h | apply Keeps.ite | dsimp only | simp only [keeps_mk] | simp only [keepsP_iff] | apply cvyCancel_keeps
    | apply Keeps.ite1 | split | assumption

theorem cvyLost_keeps (x_mask : Nat) (x_left : Bool) (h : Keeps s t) : Keeps s (cvyLost t x_mask x_left) := by
  unfold cvyLost; try dsimp only
  with_reducible repeat' first
    | exact h | apply Keeps.ite | dsimp only | apply cvyCancel_keeps | apply raise_keeps | apply fset_keeps
    | apply Keeps.ite1 | apply Keeps.foldl | apply Keeps.foldl1 | intro _ _ _ h | intro _ _ h | intro _ h | split
    | assumption

theorem cvyDetach_keeps (h : Keeps s t) : Keeps s (cvyDetach t) := by
  unfold cvyDetach; try dsimp only
  with_reducible repeat' first
    | exact h | apply Keeps.ite | dsimp only | simp only [keeps_mk] | simp only [keepsP_iff] | apply KeepsP.filter
    | apply memberRelease_keeps | apply Keeps.ite1 | apply Keeps.foldl | apply Keeps.foldl1 | intro _ _ _ h
    | intro _ _ h | intro _ h | split | assumption

theorem locCommit_keeps (x_c : Nat) (h : Keeps s t) : Keeps s ((locCommit t x_c).1) := by
  unfold locCommit; try dsimp only
  with_reducible repeat' first
    | exact h | apply Keeps.ite | dsimp only | simp only [keeps_mk] | simp only [keepsP_iff] | apply entLoad_keeps
    | apply setEnt_keeps | apply locShow_keeps | apply Keeps.ite1 | apply Keeps.foldl | apply Keeps.foldl1
    | intro _ _ _ h | intro _ _ h | intro _ h | split | assumption

theorem locCancel_keeps (x_c : Nat) (h : Keeps s t) : Keeps s ((locCancel t x_c).1) := by
  unfold locCancel; try dsimp only
  with_reducible repeat' first
    | exact h | apply Keeps.ite | dsimp only | apply entEnd_keeps | apply entWithdraw_keeps | apply locShow_keeps
    | apply Keeps.ite1 | apply Keeps.foldl | apply Keeps.foldl1 | intro _ _ _ h | intro _ _ h | intro _ h | split
    | assumption

theorem execItinActArm_keeps (x_i : Fin 8192) (s : State) : KeepsO s (execItinActArm x_i s) := by
  unfold execItinActArm; try dsimp only
  with_reducible repeat' first
    | exact Keeps.refl s | assumption | apply KeepsO.next | dsimp only | apply entFire_keeps | apply cvyArm_keeps
    | intro _ _ _ _ | intro _ _ _ | intro _ _ | split

theorem execItinActCommit_keeps (x_i : Fin 8192) (s : State) : KeepsO s (execItinActCommit x_i s) := by
  unfold execItinActCommit; try dsimp only
  with_reducible repeat' first
    | exact Keeps.refl s | assumption | apply KeepsO.next | dsimp only | apply entFire_keeps
    | apply cvyCommitCmd_keeps | intro _ _ _ _ | intro _ _ _ | intro _ _ | split

theorem execItinActCancel_keeps (x_i : Fin 8192) (s : State) : KeepsO s (execItinActCancel x_i s) := by
  unfold execItinActCancel; try dsimp only
  with_reducible repeat' first
    | exact Keeps.refl s | assumption | apply KeepsO.next | dsimp only | apply entFire_keeps
    | apply cvyCancelCmd_keeps | intro _ _ _ _ | intro _ _ _ | intro _ _ | split

theorem cvyCmd_keeps (x_cmd : Nat) (x_c : Nat) (x_tent : Bool) (x_loc : Bool) (h : Keeps s t) : Keeps s ((cvyCmd t x_cmd x_c x_tent x_loc).1) := by
  unfold cvyCmd; try dsimp only
  with_reducible repeat' first
    | exact h | apply Keeps.ite | dsimp only | apply cvyArm_keeps | apply locCommit_keeps | apply cvyCommitCmd_keeps
    | apply locCancel_keeps | apply cvyCancelCmd_keeps | apply Keeps.ite1 | split | assumption

theorem execCvyCmdArm_keeps (x_rq : Fin 24) (x_c : BitVec 8) (x_tent : Bool) (x_loc : Bool) (s : State) : KeepsO s (execCvyCmdArm x_rq x_c x_tent x_loc s) := by
  unfold execCvyCmdArm; try dsimp only
  with_reducible repeat' first
    | exact Keeps.refl s | assumption | apply KeepsO.next | dsimp only | apply asCoach_keeps | apply cvyCmd_keeps
    | intro _ _ _ _ | intro _ _ _ | intro _ _ | split

theorem execCvyCmdCommit_keeps (x_rq : Fin 24) (x_c : BitVec 8) (x_loc : Bool) (s : State) : KeepsO s (execCvyCmdCommit x_rq x_c x_loc s) := by
  unfold execCvyCmdCommit; try dsimp only
  with_reducible repeat' first
    | exact Keeps.refl s | assumption | apply KeepsO.next | dsimp only | apply asCoach_keeps | apply cvyCmd_keeps
    | intro _ _ _ _ | intro _ _ _ | intro _ _ | split

theorem execCvyCmdCancel_keeps (x_rq : Fin 24) (x_c : BitVec 8) (x_loc : Bool) (s : State) : KeepsO s (execCvyCmdCancel x_rq x_c x_loc s) := by
  unfold execCvyCmdCancel; try dsimp only
  with_reducible repeat' first
    | exact Keeps.refl s | assumption | apply KeepsO.next | dsimp only | apply asCoach_keeps | apply cvyCmd_keeps
    | intro _ _ _ _ | intro _ _ _ | intro _ _ | split

theorem execConvoyArmRx_keeps (x_c : BitVec 8) (x__tent : Bool) (x_armId : BitVec 16) (x_launch : BitVec 64) (x_members : Word) (s : State) : KeepsO s (execConvoyArmRx x_c x__tent x_armId x_launch x_members s) := by
  unfold execConvoyArmRx; try dsimp only
  with_reducible repeat' first
    | exact Keeps.refl s | assumption | apply KeepsO.next | apply KeepsO.ite | apply Keeps.ite | dsimp only
    | apply byEngine_keeps | apply memberArm_keeps | apply Keeps.ite1 | intro _ _ _ _ | intro _ _ _ | intro _ _
    | split

theorem execConvoyAckRx_keeps (x_src : Fin 32) (x_c : BitVec 8) (x_result : BitVec 8) (x_armId : BitVec 16) (x__resv : Word) (s : State) : KeepsO s (execConvoyAckRx x_src x_c x_result x_armId x__resv s) := by
  unfold execConvoyAckRx; try dsimp only
  with_reducible repeat' first
    | exact Keeps.refl s | assumption | apply KeepsO.next | apply KeepsO.ite | apply Keeps.ite | dsimp only
    | apply byEngine_keeps | apply cvyAck_keeps | apply Keeps.ite1 | intro _ _ _ _ | intro _ _ _ | intro _ _ | split

theorem execConvoyAckDeadline_keeps (x_c : BitVec 8) (s : State) : KeepsO s (execConvoyAckDeadline x_c s) := by
  unfold execConvoyAckDeadline; try dsimp only
  with_reducible repeat' first
    | exact Keeps.refl s | assumption | apply KeepsO.next | apply KeepsO.ite | apply Keeps.ite | dsimp only
    | simp only [keeps_mk] | simp only [keepsP_iff] | apply byEngine_keeps | apply cvyCancel_keeps
    | apply passTo_keeps | apply Keeps.ite1 | intro _ _ _ _ | intro _ _ _ | intro _ _ | split

theorem execConvoyHeldExpiry_keeps (x_c : BitVec 8) (s : State) : KeepsO s (execConvoyHeldExpiry x_c s) := by
  unfold execConvoyHeldExpiry; try dsimp only
  with_reducible repeat' first
    | exact Keeps.refl s | assumption | apply KeepsO.next | apply KeepsO.ite | apply Keeps.ite | dsimp only
    | simp only [keeps_mk] | simp only [keepsP_iff] | apply byEngine_keeps | apply cvyCancel_keeps
    | apply passTo_keeps | apply Keeps.ite1 | intro _ _ _ _ | intro _ _ _ | intro _ _ | split

theorem execConvoyCommitRx_keeps (x_c : BitVec 8) (x_armId : BitVec 16) (x_launch : BitVec 64) (s : State) : KeepsO s (execConvoyCommitRx x_c x_armId x_launch s) := by
  unfold execConvoyCommitRx; try dsimp only
  with_reducible repeat' first
    | exact Keeps.refl s | assumption | apply KeepsO.next | apply KeepsO.ite | apply Keeps.ite | dsimp only
    | apply byEngine_keeps | apply memberCommit_keeps | apply Keeps.ite1 | intro _ _ _ _ | intro _ _ _ | intro _ _
    | split

theorem execConvoyCancelRx_keeps (x_c : BitVec 8) (x_reason : BitVec 8) (x_armId : BitVec 16) (s : State) : KeepsO s (execConvoyCancelRx x_c x_reason x_armId s) := by
  unfold execConvoyCancelRx; try dsimp only
  with_reducible repeat' first
    | exact Keeps.refl s | assumption | apply KeepsO.next | apply KeepsO.ite | apply Keeps.ite | dsimp only
    | apply byEngine_keeps | apply memberCancel_keeps | apply raise_keeps | apply Keeps.ite1 | intro _ _ _ _
    | intro _ _ _ | intro _ _ | split

/-! ### Admit -/

theorem unlistedPut_keeps (x_u : Unlisted) (h : Keeps s t) : Keeps s (unlistedPut t x_u) := by
  unfold unlistedPut; try dsimp only
  with_reducible repeat' first
    | exact h | apply Keeps.ite | dsimp only | simp only [keeps_mk] | simp only [keepsP_iff] | apply KeepsP.filter
    | apply Keeps.ite1 | intro _ _ _ h | intro _ _ h | intro _ h | split | assumption

theorem consPut_keeps (x_c : Nat) (x_st : Nat) (x_rsv : Int) (h : Keeps s t) : Keeps s (consPut t x_c x_st x_rsv) := by
  unfold consPut; try dsimp only
  with_reducible repeat' first
    | exact h | apply Keeps.ite | dsimp only | simp only [keeps_mk] | simp only [keepsP_iff] | apply fsetI_keeps
    | apply fset_keeps | apply unlistedPut_keeps | apply Keeps.ite1 | split | assumption

theorem consPutDraw_keeps (x_c : Nat) (x_d : Nat) (h : Keeps s t) : Keeps s (consPutDraw t x_c x_d) := by
  unfold consPutDraw; try dsimp only
  with_reducible repeat' first
    | exact h | apply Keeps.ite | dsimp only | simp only [keeps_mk] | simp only [keepsP_iff] | apply fset_keeps
    | apply unlistedPut_keeps | apply Keeps.ite1 | split | assumption

theorem updateAvail_keeps (h : Keeps s t) : Keeps s (updateAvail t) := by
  unfold updateAvail; try dsimp only
  with_reducible repeat' first
    | exact h | dsimp only | apply fsetI_keeps | apply Keeps.foldl | apply Keeps.foldl1 | intro _ _ _ h | intro _ _ h
    | intro _ h | split | assumption

theorem takeRelease_keeps (x_e : Nat × Nat) (h : Keeps s t) : Keeps s (takeRelease t x_e) := by
  unfold takeRelease; try dsimp only
  with_reducible repeat' first
    | exact h | apply Keeps.ite | dsimp only | apply consPut_keeps | apply Keeps.ite1 | split | assumption

theorem settleRsv_keeps (x_c : Nat) (x_tgt : Nat) (h : Keeps s t) : Keeps s (settleRsv t x_c x_tgt) := by
  unfold settleRsv; try dsimp only
  with_reducible repeat' first
    | exact h | apply Keeps.ite | dsimp only | apply consPut_keeps | apply Keeps.ite1 | split | assumption

theorem consFollow_keeps (x_c : Nat) (h : Keeps s t) : Keeps s (consFollow t x_c) := by
  unfold consFollow; try dsimp only
  with_reducible repeat' first
    | exact h | apply Keeps.ite | dsimp only | simp only [keeps_mk] | simp only [keepsP_iff] | apply settleRsv_keeps
    | apply consPut_keeps | apply consPutDraw_keeps | apply Keeps.ite1 | split | assumption

theorem consMeasure_keeps (x_c : Nat) (h : Keeps s t) : Keeps s (consMeasure t x_c) := by
  unfold consMeasure; try dsimp only
  with_reducible repeat' first
    | exact h | apply Keeps.ite | dsimp only | apply consPutDraw_keeps | apply Keeps.ite1 | intro _ _ _ h
    | intro _ _ h | intro _ h | split | assumption

theorem regMeasured_keeps (x_e : (Nat × Nat) × Nat) (h : Keeps s t) : Keeps s (regMeasured t x_e) := by
  unfold regMeasured; try dsimp only
  with_reducible repeat' first | exact h | dsimp only | apply measure_keeps | apply fset_keeps | split | assumption

theorem portMeasured_keeps (x_e : (Nat × Nat × Nat) × Nat) (h : Keeps s t) : Keeps s (portMeasured t x_e) := by
  unfold portMeasured; try dsimp only
  with_reducible repeat' first | exact h | dsimp only | apply measure_keeps | apply fset_keeps | split | assumption

theorem updateClaims_keeps (x_regMeas : List (Nat × Nat)) (x_portMeas : List (Nat × Nat × Nat)) (h : Keeps s t) : Keeps s (updateClaims t x_regMeas x_portMeas) := by
  unfold updateClaims; try dsimp only
  with_reducible repeat' first
    | exact h | apply Keeps.ite | dsimp only | simp only [keeps_mk] | simp only [keepsP_iff]
    | apply portMeasured_keeps | apply regMeasured_keeps | apply measure_keeps | apply takeRelease_keeps
    | apply consFollow_keeps | apply consMeasure_keeps | apply Keeps.ite1 | apply Keeps.foldl | apply Keeps.foldl1
    | intro _ _ _ h | intro _ _ h | intro _ h | split | assumption

theorem ledgJournal_keeps (x_c : Nat) (x_event : Nat) (x_code : Nat) (x_mw : Int) (x_f : Nat) (h : Keeps s t) : Keeps s (ledgJournal t x_c x_event x_code x_mw x_f) := by
  unfold ledgJournal; try dsimp only
  with_reducible repeat' first
    | exact h | apply Keeps.ite | dsimp only | apply journal_keeps | apply Keeps.ite1 | split | assumption

theorem reqDrop_keeps (x_r : Req) (h : Keeps s t) : Keeps s (reqDrop t x_r) := by
  unfold reqDrop; try dsimp only
  with_reducible repeat' first
    | exact h | dsimp only | simp only [keeps_mk] | simp only [keepsP_iff] | split | assumption

theorem reqAdmitted_keeps (x_r : Req) (h : Keeps s t) : Keeps s (reqAdmitted t x_r) := by
  unfold reqAdmitted; try dsimp only
  with_reducible repeat' first
    | exact h | dsimp only | simp only [keeps_mk] | simp only [keepsP_iff] | apply chAdmitted_keeps
    | apply loopAdmitted_keeps | apply loopRaised_keeps | apply regAdmitted_keeps | apply regRaised_keeps
    | apply chgAdmitted_keeps | apply pdAdmitted_keeps | apply entAdmitted_keeps | apply memberAnswer_keeps | split
    | assumption

theorem reqRefused_keeps (x_r : Req) (x_code : Nat) (h : Keeps s t) : Keeps s (reqRefused t x_r x_code) := by
  unfold reqRefused; try dsimp only
  with_reducible repeat' first
    | exact h | dsimp only | simp only [keeps_mk] | simp only [keepsP_iff] | apply seqRefused_keeps
    | apply chRefused_keeps | apply loopRefused_keeps | apply loopRaiseRefused_keeps | apply regRefused_keeps
    | apply regRaiseRefused_keeps | apply chgRefused_keeps | apply pdRefused_keeps | apply entRefused_keeps
    | apply memberAnswer_keeps | split | assumption

theorem consAdmit_keeps (x_zero : Bool) (x_e : Nat × Nat) (h : Keeps s t) : Keeps s (consAdmit x_zero t x_e) := by
  unfold consAdmit; try dsimp only
  with_reducible repeat' first
    | exact h | apply Keeps.ite | dsimp only | apply consPut_keeps | apply Keeps.ite1 | split | assumption

theorem admitReq_keeps (x_r : Req) (h : Keeps s t) : Keeps s (admitReq t x_r) := by
  unfold admitReq; try dsimp only
  with_reducible repeat' first
    | exact h | apply Keeps.ite | dsimp only | apply reqDrop_keeps | apply finc_keeps | apply consAdmit_keeps
    | apply reqAdmitted_keeps | apply Keeps.ite1 | apply Keeps.foldl | apply Keeps.foldl1 | intro _ _ _ h
    | intro _ _ h | intro _ h | split | assumption

theorem refuse_keeps (x_r : Req) (x_code : Nat) (h : Keeps s t) : Keeps s (refuse t x_r x_code) := by
  unfold refuse; try dsimp only
  with_reducible repeat' first
    | exact h | dsimp only | apply finc_keeps | apply fset_keeps | apply reqDrop_keeps | apply reqRefused_keeps
    | apply ledgJournal_keeps | split | assumption

theorem setFeedX_keeps (x_f : Nat) (x_x : FeedX) (h : Keeps s t) : Keeps s (setFeedX t x_f x_x) := by
  unfold setFeedX; try dsimp only
  with_reducible repeat' first
    | exact h | dsimp only | simp only [keeps_mk] | simp only [keepsP_iff] | intro _ _ _ h | intro _ _ h | intro _ h
    | split | assumption

theorem setShare_keeps (x_f : Nat) (x_mw : Int) (h : Keeps s t) : Keeps s (setShare t x_f x_mw) := by
  unfold setShare; try dsimp only
  with_reducible repeat' first
    | exact h | apply Keeps.ite | dsimp only | apply fsetI_keeps | apply fset_keeps | apply Keeps.ite1 | split
    | assumption

theorem setGrant_keeps (x_f : Nat) (x_u : Nat) (x_mw : Int) (h : Keeps s t) : Keeps s (setGrant t x_f x_u x_mw) := by
  unfold setGrant; try dsimp only
  with_reducible repeat' first
    | exact h | apply Keeps.ite | dsimp only | simp only [keeps_mk] | simp only [keepsP_iff] | apply fsetI_keeps
    | apply fset_keeps | apply setShare_keeps | apply Keeps.ite1 | intro _ _ _ h | intro _ _ h | intro _ h | split
    | assumption

theorem sendShare_keeps (x_f : Nat) (x_u : Nat) (h : Keeps s t) : Keeps s (sendShare t x_f x_u) := by
  unfold sendShare; try dsimp only
  with_reducible repeat' first
    | exact h | apply Keeps.ite | dsimp only | apply send_keeps | apply Keeps.ite1 | split | assumption

theorem syncShow_keeps (h : Keeps s t) : Keeps s (syncShow t) := by
  unfold syncShow; try dsimp only
  with_reducible repeat' first | exact h | dsimp only | apply fsetB_keeps | split | assumption

theorem resyncBegin_keeps (x_us : List Nat) (x_bc : Bool) (h : Keeps s t) : Keeps s (resyncBegin t x_us x_bc) := by
  unfold resyncBegin; try dsimp only
  with_reducible repeat' first
    | exact h | apply Keeps.ite | dsimp only | simp only [keeps_mk] | simp only [keepsP_iff] | apply KeepsP.filter
    | apply send_keeps | apply syncShow_keeps | apply Keeps.ite1 | apply Keeps.foldl | apply Keeps.foldl1
    | intro _ _ _ h | intro _ _ h | intro _ h | split | assumption

theorem resyncEnd_keeps (x_f : Nat) (x_u : Nat) (x_mw : Int) (h : Keeps s t) : Keeps s (resyncEnd t x_f x_u x_mw) := by
  unfold resyncEnd; try dsimp only
  with_reducible repeat' first
    | exact h | apply Keeps.ite | dsimp only | simp only [keeps_mk] | simp only [keepsP_iff] | apply KeepsP.filter
    | apply sendShare_keeps | apply setGrant_keeps | apply syncShow_keeps | apply raise_keeps | apply fset_keeps
    | apply Keeps.ite1 | split | assumption

theorem ledgReach_keeps (x_entered : List Nat) (h : Keeps s t) : Keeps s (ledgReach t x_entered) := by
  unfold ledgReach; try dsimp only
  with_reducible repeat' first
    | exact h | apply Keeps.ite | dsimp only | simp only [keeps_mk] | simp only [keepsP_iff] | apply KeepsP.filter
    | apply sendShare_keeps | apply resyncBegin_keeps | apply Keeps.ite1 | apply Keeps.foldl | apply Keeps.foldl1
    | intro _ _ _ h | intro _ _ h | intro _ h | split | assumption

theorem ledgJoined_keeps (x_u : Nat) (h : Keeps s t) : Keeps s (ledgJoined t x_u) := by
  unfold ledgJoined; try dsimp only
  with_reducible repeat' first
    | exact h | dsimp only | simp only [keeps_mk] | simp only [keepsP_iff] | apply KeepsP.filter
    | apply resyncBegin_keeps | split | assumption

theorem ledgHeadStart_keeps (h : Keeps s t) : Keeps s (ledgHeadStart t) := by
  unfold ledgHeadStart; try dsimp only
  with_reducible repeat' first
    | exact h | apply Keeps.ite | dsimp only | apply fsetI_keeps | apply setShare_keeps | apply Keeps.ite1
    | apply Keeps.foldl | apply Keeps.foldl1 | intro _ _ _ h | intro _ _ h | intro _ h | split | assumption

theorem takeReqId_keeps (h : Keeps s t) : Keeps s ((takeReqId t).2) := by
  unfold takeReqId; try dsimp only
  with_reducible repeat' first
    | exact h | dsimp only | simp only [keeps_mk] | simp only [keepsP_iff] | split | assumption

theorem sendResv_keeps (x_f : Nat) (x_mw : Nat) (x_rel : Bool) (h : Keeps s t) : Keeps s ((sendResv t x_f x_mw x_rel).1) := by
  unfold sendResv; try dsimp only
  with_reducible repeat' first
    | exact h | dsimp only | simp only [keeps_mk] | simp only [keepsP_iff] | apply takeReqId_keeps | apply fset_keeps
    | apply setFeedX_keeps | apply send_keeps | split | assumption

theorem addGrant_keeps (x_f : Nat) (x_mw : Int) (h : Keeps s t) : Keeps s (addGrant t x_f x_mw) := by
  unfold addGrant; try dsimp only
  with_reducible repeat' first
    | exact h | dsimp only | apply ledgJournal_keeps | apply setShare_keeps | split | assumption

theorem headBorrow_keeps (x_r : Req) (h : Keeps s t) : Keeps s (headBorrow t x_r) := by
  unfold headBorrow; try dsimp only
  with_reducible repeat' first
    | exact h | apply Keeps.ite | dsimp only | apply admitReq_keeps | apply ledgJournal_keeps | apply setGrant_keeps
    | apply refuse_keeps | apply Keeps.ite1 | apply Keeps.foldl | apply Keeps.foldl1 | intro _ _ _ h | intro _ _ h
    | intro _ h | split | assumption

theorem waitHead_keeps (x_r : Req) (h : Keeps s t) : Keeps s (waitHead t x_r) := by
  unfold waitHead; try dsimp only
  with_reducible repeat' first
    | exact h | apply Keeps.ite | dsimp only | simp only [keeps_mk] | simp only [keepsP_iff] | apply KeepsP.filter
    | apply sendResv_keeps | apply reqDrop_keeps | apply Keeps.ite1 | apply Keeps.foldl | apply Keeps.foldl1
    | intro _ _ _ h | intro _ _ h | intro _ h | split | assumption

theorem decideReq_keeps (x_r : Req) (h : Keeps s t) : Keeps s (decideReq t x_r) := by
  unfold decideReq; try dsimp only
  with_reducible repeat' first
    | exact h | apply Keeps.ite | dsimp only | simp only [keeps_mk] | simp only [keepsP_iff] | apply KeepsP.filter
    | apply admitReq_keeps | apply refuse_keeps | apply headBorrow_keeps | apply waitHead_keeps | apply Keeps.ite1
    | intro _ _ _ h | intro _ _ h | intro _ h | split | assumption

theorem forReqs_keeps (x_f : State → Req → State) (x_l : List Req)
    (hf_f : ∀ y0 y1, Keeps s y0 → Keeps s (x_f y0 y1)) (h : Keeps s t) : Keeps s (forReqs x_f x_l t) := by
  unfold forReqs; try dsimp only
  with_reducible repeat' first
    | exact h | apply Keeps.ite | dsimp only | apply hf_f | apply Keeps.ite1 | apply Keeps.foldl | apply Keeps.foldl1
    | intro _ _ _ h | intro _ _ h | intro _ h | split | assumption

theorem answered_keeps (x_r : Req) (h : Keeps s t) : Keeps s (answered t x_r) := by
  unfold answered; try dsimp only
  with_reducible repeat' first
    | exact h | apply Keeps.ite | dsimp only | simp only [keeps_mk] | simp only [keepsP_iff] | apply refuse_keeps
    | apply admitReq_keeps | apply Keeps.ite1 | split | assumption

theorem tgtShed_keeps (x_tgt : Nat) (h : Keeps s t) : Keeps s (tgtShed t x_tgt) := by
  unfold tgtShed; try dsimp only
  with_reducible repeat' first
    | exact h | apply Keeps.ite | dsimp only | apply chShed_keeps | apply regShed_keeps | apply loopShed_keeps
    | apply chgShed_keeps | apply supDisarm_keeps | apply pdShed_keeps | apply Keeps.ite1 | split | assumption

theorem shedCons_keeps (x_c : Nat) (h : Keeps s t) : Keeps s (shedCons t x_c) := by
  unfold shedCons; try dsimp only
  with_reducible repeat' first
    | exact h | dsimp only | apply KeepsP.filter | apply itinShed_keeps | apply tgtShed_keeps | apply forReqs_keeps
    | apply refuse_keeps | apply finc_keeps | apply fset_keeps | apply consPut_keeps | apply consPutDraw_keeps
    | apply raise_keeps | apply ledgJournal_keeps | intro _ _ _ h | intro _ _ h | intro _ h | split | assumption

theorem shedOne_keeps (x_c : Nat) (h : Keeps s t) : Keeps s (shedOne t x_c) := by
  unfold shedOne; try dsimp only
  with_reducible repeat' first
    | exact h | dsimp only | apply KeepsP.filter | apply shedCons_keeps | apply Keeps.foldl | apply Keeps.foldl1
    | intro _ _ _ h | intro _ _ h | intro _ h | split | assumption

theorem applyShed_keeps (h : Keeps s t) : Keeps s (applyShed t) := by
  unfold applyShed; try dsimp only
  with_reducible repeat' first
    | exact h | apply Keeps.ite | dsimp only | simp only [keeps_mk] | simp only [keepsP_iff] | apply KeepsP.filter
    | apply shedOne_keeps | apply itinShed_keeps | apply forReqs_keeps | apply refuse_keeps | apply Keeps.ite1
    | apply Keeps.foldl | apply Keeps.foldl1 | intro _ _ _ h | intro _ _ h | intro _ h | split | assumption

theorem setOver_keeps (x_i : Nat) (x_n : Nat) (h : Keeps s t) : Keeps s (setOver t x_i x_n) := by
  unfold setOver; try dsimp only
  with_reducible repeat' first
    | exact h | dsimp only | simp only [keeps_mk] | simp only [keepsP_iff] | intro _ _ _ h | intro _ _ h | intro _ h
    | split | assumption

theorem shedOver_keeps (x_i : Nat) (h : Keeps s t) : Keeps s (shedOver t x_i) := by
  unfold shedOver; try dsimp only
  with_reducible repeat' first
    | exact h | apply Keeps.ite | dsimp only | apply setOver_keeps | apply fset_keeps | apply shedOne_keeps
    | apply raise_keeps | apply Keeps.ite1 | apply Keeps.foldl | apply Keeps.foldl1 | intro _ _ _ h | intro _ _ h
    | intro _ h | split | assumption

theorem autoRelease_keeps (x_f : Nat) (h : Keeps s t) : Keeps s (autoRelease t x_f) := by
  unfold autoRelease; try dsimp only
  with_reducible repeat' first
    | exact h | apply Keeps.ite | dsimp only | simp only [keeps_mk] | simp only [keepsP_iff] | apply setFeedX_keeps
    | apply ledgJournal_keeps | apply setGrant_keeps | apply setShare_keeps | apply sendResv_keeps | apply Keeps.ite1
    | split | assumption

theorem headDecide_keeps (x_r : ResvIn) (h : Keeps s t) : Keeps s (headDecide t x_r) := by
  unfold headDecide; try dsimp only
  with_reducible repeat' first
    | exact h | apply Keeps.ite | dsimp only | apply send_keeps | apply setGrant_keeps | apply ledgJournal_keeps
    | apply sendShare_keeps | apply Keeps.ite1 | split | assumption

theorem headDecides_keeps (h : Keeps s t) : Keeps s (headDecides t) := by
  unfold headDecides; try dsimp only
  with_reducible repeat' first
    | exact h | dsimp only | simp only [keeps_mk] | simp only [keepsP_iff] | apply KeepsP.filter
    | apply headDecide_keeps | apply Keeps.foldl | apply Keeps.foldl1 | intro _ _ _ h | intro _ _ h | intro _ h
    | split | assumption

theorem ledgShow_keeps (h : Keeps s t) : Keeps s (ledgShow t) := by
  unfold ledgShow; try dsimp only
  with_reducible repeat' first
    | exact h | apply Keeps.ite | dsimp only | simp only [keeps_mk] | simp only [keepsP_iff] | apply fset_keeps
    | apply fsetI_keeps | apply Keeps.ite1 | apply Keeps.foldl | apply Keeps.foldl1 | intro _ _ _ h | intro _ _ h
    | intro _ h | split | assumption

theorem ledgerFrame_keeps (x_regMeas : List (Nat × Nat)) (x_portMeas : List (Nat × Nat × Nat)) (h : Keeps s t) : Keeps s (ledgerFrame t x_regMeas x_portMeas) := by
  unfold ledgerFrame; try dsimp only
  with_reducible repeat' first
    | exact h | apply Keeps.ite | dsimp only | simp only [keeps_mk] | simp only [keepsP_iff] | apply KeepsP.filter
    | apply updateClaims_keeps | apply updateAvail_keeps | apply applyShed_keeps | apply shedOver_keeps
    | apply forReqs_keeps | apply answered_keeps | apply decideReq_keeps | apply autoRelease_keeps
    | apply ledgShow_keeps | apply headDecides_keeps | apply Keeps.ite1 | apply Keeps.foldl | apply Keeps.foldl1
    | intro _ _ _ h | intro _ _ h | intro _ h | split | assumption

theorem ledgStart_keeps (h : Keeps s t) : Keeps s (ledgStart t) := by
  unfold ledgStart; try dsimp only
  with_reducible repeat' first
    | exact h | apply Keeps.ite | dsimp only | apply consPut_keeps | apply ledgShow_keeps | apply raise_keeps
    | apply Keeps.ite1 | apply Keeps.foldl | apply Keeps.foldl1 | intro _ _ _ h | intro _ _ h | intro _ h | split
    | assumption

theorem execLedgerFrame_keeps (x_work : Nat) (x_regMeas : List (Nat × Nat)) (x_portMeas : List (Nat × Nat × Nat)) (s : State) : KeepsO s (execLedgerFrame x_work x_regMeas x_portMeas s) := by
  unfold execLedgerFrame; try dsimp only
  with_reducible repeat' first
    | exact Keeps.refl s | assumption | apply KeepsO.next | apply KeepsO.ite | apply Keeps.ite | dsimp only
    | apply ledgerFrame_keeps | apply frameBegin_keeps | apply Keeps.ite1 | intro _ _ _ _ | intro _ _ _ | intro _ _
    | split

theorem execLedgShedLevelWrite_keeps (x_rq : Fin 24) (x_lvl : Fin 16) (s : State) : KeepsO s (execLedgShedLevelWrite x_rq x_lvl s) := by
  unfold execLedgShedLevelWrite; try dsimp only
  with_reducible repeat' first
    | exact Keeps.refl s | assumption | apply KeepsO.next | dsimp only | apply asCoach_keeps
    | apply setShedLevel_keeps | intro _ _ _ _ | intro _ _ _ | intro _ _ | split

theorem feedClear_keeps (x_f : Nat) (x_id : Nat) (x_late : Bool) (h : Keeps s t) : Keeps s (feedClear t x_f x_id x_late) := by
  unfold feedClear; try dsimp only
  with_reducible repeat' first
    | exact h | apply Keeps.ite | dsimp only | simp only [keeps_mk] | simp only [keepsP_iff] | apply fset_keeps
    | apply setFeedX_keeps | apply Keeps.ite1 | split | assumption

theorem answerReq_keeps (x_f : Nat) (x_id : Nat) (x_code : Nat) (h : Keeps s t) : Keeps s (answerReq t x_f x_id x_code) := by
  unfold answerReq; try dsimp only
  with_reducible repeat' first
    | exact h | apply Keeps.ite | dsimp only | simp only [keeps_mk] | simp only [keepsP_iff] | apply KeepsP.filter
    | apply Keeps.ite1 | intro _ _ _ h | intro _ _ h | intro _ h | split | assumption

theorem execLedgResvTimeout_keeps (x_f : Fin 16) (s : State) : KeepsO s (execLedgResvTimeout x_f s) := by
  unfold execLedgResvTimeout; try dsimp only
  with_reducible repeat' first
    | exact Keeps.refl s | assumption | apply KeepsO.next | apply KeepsO.ite | apply Keeps.ite | dsimp only
    | simp only [keeps_mk] | simp only [keepsP_iff] | apply byEngine_keeps | apply feedClear_keeps | apply raise_keeps
    | apply fset_keeps | apply answerReq_keeps | apply Keeps.ite1 | intro _ _ _ _ | intro _ _ _ | intro _ _ | split

theorem execLedgResvRspRx_keeps (x_reqId : BitVec 16) (x_result : BitVec 8) (x_mw : Word) (s : State) : KeepsO s (execLedgResvRspRx x_reqId x_result x_mw s) := by
  unfold execLedgResvRspRx; try dsimp only
  with_reducible repeat' first
    | exact Keeps.refl s | assumption | apply KeepsO.next | apply KeepsO.ite | apply Keeps.ite | dsimp only
    | simp only [keeps_mk] | simp only [keepsP_iff] | apply KeepsP.filter | apply byEngine_keeps
    | apply feedClear_keeps | apply answerReq_keeps | apply addGrant_keeps | apply setFeedX_keeps | apply Keeps.ite1
    | intro _ _ _ _ | intro _ _ _ | intro _ _ | split

theorem execLedgResvRx_keeps (x_src : Fin 32) (x_release : Bool) (x_f : Fin 16) (x_reqId : BitVec 16) (x_mw : Word) (s : State) : KeepsO s (execLedgResvRx x_src x_release x_f x_reqId x_mw s) := by
  unfold execLedgResvRx; try dsimp only
  with_reducible repeat' first
    | exact Keeps.refl s | assumption | apply KeepsO.next | apply KeepsO.ite | apply Keeps.ite | dsimp only
    | simp only [keeps_mk] | simp only [keepsP_iff] | apply byEngine_keeps | apply release_keeps | apply Keeps.ite1
    | intro _ _ _ _ | intro _ _ _ | intro _ _ | split

theorem sendReport_keeps (x_f : Nat) (h : Keeps s t) : Keeps s (sendReport t x_f) := by
  unfold sendReport; try dsimp only
  with_reducible repeat' first
    | exact h | dsimp only | apply send_keeps | apply Keeps.foldl | apply Keeps.foldl1 | intro _ _ _ h | intro _ _ h
    | intro _ h | split | assumption

theorem execLedgShareRx_keeps (x_gen : BitVec 16) (x_f : Fin 16) (x_mw : Word) (s : State) : KeepsO s (execLedgShareRx x_gen x_f x_mw s) := by
  unfold execLedgShareRx; try dsimp only
  with_reducible repeat' first
    | exact Keeps.refl s | assumption | apply KeepsO.next | apply KeepsO.ite | apply Keeps.ite | dsimp only
    | simp only [keeps_mk] | simp only [keepsP_iff] | apply byEngine_keeps | apply sendReport_keeps | apply fset_keeps
    | apply setFeedX_keeps | apply setShare_keeps | apply Keeps.ite1 | intro _ _ _ _ | intro _ _ _ | intro _ _ | split

theorem execLedgShareSend_keeps (s : State) : KeepsO s (execLedgShareSend s) := by
  unfold execLedgShareSend; try dsimp only
  with_reducible repeat' first
    | exact Keeps.refl s | assumption | apply KeepsO.next | apply KeepsO.ite | apply Keeps.ite | dsimp only
    | apply byEngine_keeps | apply sendShare_keeps | apply Keeps.ite1 | apply Keeps.foldl | apply Keeps.foldl1
    | intro _ _ _ _ | intro _ _ _ | intro _ _ | split

theorem execLedgReportSend_keeps (s : State) : KeepsO s (execLedgReportSend s) := by
  unfold execLedgReportSend; try dsimp only
  with_reducible repeat' first
    | exact Keeps.refl s | assumption | apply KeepsO.next | apply KeepsO.ite | apply Keeps.ite | dsimp only
    | apply byEngine_keeps | apply sendReport_keeps | apply Keeps.ite1 | apply Keeps.foldl | apply Keeps.foldl1
    | intro _ _ _ _ | intro _ _ _ | intro _ _ | split

theorem execLedgReportRx_keeps (x_src : Fin 32) (x__seq : BitVec 16) (x_f : Fin 16) (x__draw : Word) (x_resv : Word) (s : State) : KeepsO s (execLedgReportRx x_src x__seq x_f x__draw x_resv s) := by
  unfold execLedgReportRx; try dsimp only
  with_reducible repeat' first
    | exact Keeps.refl s | assumption | apply KeepsO.next | apply KeepsO.ite | apply Keeps.ite | dsimp only
    | apply byEngine_keeps | apply resyncEnd_keeps | apply Keeps.ite1 | intro _ _ _ _ | intro _ _ _ | intro _ _
    | split

theorem execLedgResyncTimeout_keeps (x_f : Fin 16) (x_u : Fin 32) (s : State) : KeepsO s (execLedgResyncTimeout x_f x_u s) := by
  unfold execLedgResyncTimeout; try dsimp only
  with_reducible repeat' first
    | exact Keeps.refl s | assumption | apply KeepsO.next | apply KeepsO.ite | apply Keeps.ite | dsimp only
    | apply byEngine_keeps | apply resyncEnd_keeps | apply Keeps.ite1 | intro _ _ _ _ | intro _ _ _ | intro _ _
    | split

theorem ledgDetach_keeps (h : Keeps s t) : Keeps s (ledgDetach t) := by
  unfold ledgDetach; try dsimp only
  with_reducible repeat' first
    | exact h | dsimp only | simp only [keeps_mk] | simp only [keepsP_iff] | apply answerReq_keeps
    | apply feedClear_keeps | apply Keeps.foldl | apply Keeps.foldl1 | intro _ _ _ h | intro _ _ h | intro _ h | split
    | assumption

/-! ### Sync -/

theorem timeAcquire_keeps (h : Keeps s t) : Keeps s (timeAcquire t) := by
  unfold timeAcquire; try dsimp only
  with_reducible repeat' first
    | exact h | dsimp only | apply itinAcquire_keeps | apply anchorAll_keeps | split | assumption

theorem soloEnd_keeps (h : Keeps s t) : Keeps s (soloEnd t) := by
  unfold soloEnd; try dsimp only
  with_reducible repeat' first
    | exact h | apply Keeps.ite | dsimp only | apply fset_keeps | apply Keeps.ite1 | split | assumption

theorem timeEnter_keeps (x_st : Nat) (h : Keeps s t) : Keeps s (timeEnter t x_st) := by
  unfold timeEnter; try dsimp only
  with_reducible repeat' first
    | exact h | apply Keeps.ite | dsimp only | simp only [keeps_mk] | simp only [keepsP_iff] | apply fset_keeps
    | apply fsetI_keeps | apply journal_keeps | apply soloEnd_keeps | apply timeAcquire_keeps | apply raise_keeps
    | apply Keeps.ite1 | split | assumption

theorem timeDetach_keeps (h : Keeps s t) : Keeps s (timeDetach t) := by
  unfold timeDetach; try dsimp only
  with_reducible repeat' first
    | exact h | apply Keeps.ite | dsimp only | apply timeEnter_keeps | apply Keeps.ite1 | split | assumption

theorem hopLost_keeps (x_p : Nat) (h : Keeps s t) : Keeps s (hopLost t x_p) := by
  unfold hopLost; try dsimp only
  with_reducible repeat' first
    | exact h | apply Keeps.ite | dsimp only | simp only [keeps_mk] | simp only [keepsP_iff] | apply fset_keeps
    | apply Keeps.ite1 | split | assumption

theorem timeStep_keeps (x_d : Int) (h : Keeps s t) : Keeps s (timeStep t x_d) := by
  unfold timeStep; try dsimp only
  with_reducible repeat' first
    | exact h | dsimp only | apply itinStep_keeps | apply anchorAll_keeps | apply fset_keeps | split | assumption

theorem ctLess_keeps (x_off16 : Int) (h : Keeps s t) : Keeps s (ctLess t x_off16) := by
  unfold ctLess; try dsimp only
  with_reducible repeat' first
    | exact h | dsimp only | simp only [keeps_mk] | simp only [keepsP_iff] | split | assumption

theorem syncMeasure_keeps (x_ctTx : Nat) (h : Keeps s t) : Keeps s (syncMeasure t x_ctTx) := by
  unfold syncMeasure; try dsimp only
  with_reducible repeat' first
    | exact h | apply Keeps.ite | dsimp only | simp only [keeps_mk] | simp only [keepsP_iff] | apply Keeps.ite1
    | split | assumption

theorem servoStep_keeps (x_off16 : Int) (h : Keeps s t) : Keeps s (servoStep t x_off16) := by
  unfold servoStep; try dsimp only
  with_reducible repeat' first
    | exact h | apply Keeps.ite | dsimp only | simp only [keeps_mk] | simp only [keepsP_iff] | apply ctLess_keeps
    | apply timeEnter_keeps | apply timeStep_keeps | apply Keeps.ite1 | split | assumption

theorem servoRate_keeps (x_off16 : Int) (h : Keeps s t) : Keeps s (servoRate t x_off16) := by
  unfold servoRate; try dsimp only
  with_reducible repeat' first
    | exact h | dsimp only | simp only [keeps_mk] | simp only [keepsP_iff] | apply fsetI_keeps | split | assumption

theorem servoCount_keeps (x_off16 : Int) (h : Keeps s t) : Keeps s (servoCount t x_off16) := by
  unfold servoCount; try dsimp only
  with_reducible repeat' first
    | exact h | apply Keeps.ite | dsimp only | simp only [keeps_mk] | simp only [keepsP_iff] | apply timeEnter_keeps
    | apply Keeps.ite1 | split | assumption

theorem servo_keeps (x_off16 : Int) (h : Keeps s t) : Keeps s (servo t x_off16) := by
  unfold servo; try dsimp only
  with_reducible repeat' first
    | exact h | apply Keeps.ite | dsimp only | apply fsetI_keeps | apply timeEnter_keeps | apply servoStep_keeps
    | apply servoCount_keeps | apply servoRate_keeps | apply Keeps.ite1 | split | assumption

theorem execTimeSyncSend_keeps (s : State) : KeepsO s (execTimeSyncSend s) := by
  unfold execTimeSyncSend; try dsimp only
  with_reducible repeat' first
    | exact Keeps.refl s | assumption | apply KeepsO.next | apply KeepsO.ite | apply Keeps.ite | dsimp only
    | simp only [keeps_mk] | simp only [keepsP_iff] | apply byEngine_keeps | apply send_keeps | apply Keeps.ite1
    | intro _ _ _ _ | intro _ _ _ | intro _ _ | split

theorem execTimeSyncRx_keeps (x_p : Fin 2) (x_seq : BitVec 16) (x_ctTx : BitVec 64) (x_corr : BitVec 32) (x_tRx : BitVec 64) (s : State) : KeepsO s (execTimeSyncRx x_p x_seq x_ctTx x_corr x_tRx s) := by
  unfold execTimeSyncRx; try dsimp only
  with_reducible repeat' first
    | exact Keeps.refl s | assumption | apply KeepsO.next | apply KeepsO.ite | apply Keeps.ite | dsimp only
    | apply byEngine_keeps | apply servo_keeps | apply syncMeasure_keeps | apply fset_keeps | apply Keeps.ite1
    | intro _ _ _ _ | intro _ _ _ | intro _ _ | split

theorem execTimeHoldoverEntry_keeps (s : State) : KeepsO s (execTimeHoldoverEntry s) := by
  unfold execTimeHoldoverEntry; try dsimp only
  with_reducible repeat' first
    | exact Keeps.refl s | assumption | apply KeepsO.next | apply KeepsO.ite | apply Keeps.ite | dsimp only
    | apply timeEnter_keeps | apply Keeps.ite1 | intro _ _ _ _ | intro _ _ _ | intro _ _ | split

theorem execDelayReqSend_keeps (x_p : Fin 2) (s : State) : KeepsO s (execDelayReqSend x_p s) := by
  unfold execDelayReqSend; try dsimp only
  with_reducible repeat' first
    | exact Keeps.refl s | assumption | apply KeepsO.next | apply KeepsO.ite | apply Keeps.ite | dsimp only
    | simp only [keeps_mk] | simp only [keepsP_iff] | apply byEngine_keeps | apply send_keeps | apply Keeps.ite1
    | intro _ _ _ _ | intro _ _ _ | intro _ _ | split

theorem execDelayReqRx_keeps (x_p : Fin 2) (x_dseq : BitVec 16) (x__t1 : BitVec 64) (x_t2 : BitVec 64) (x_t3 : BitVec 64) (s : State) : KeepsO s (execDelayReqRx x_p x_dseq x__t1 x_t2 x_t3 s) := by
  unfold execDelayReqRx; try dsimp only
  with_reducible repeat' first
    | exact Keeps.refl s | assumption | apply KeepsO.next | dsimp only | apply byEngine_keeps | apply send_keeps
    | intro _ _ _ _ | intro _ _ _ | intro _ _ | split

theorem hopMeasured_keeps (x_p : Nat) (x_d2 : Int) (h : Keeps s t) : Keeps s (hopMeasured t x_p x_d2) := by
  unfold hopMeasured; try dsimp only
  with_reducible repeat' first
    | exact h | apply Keeps.ite | dsimp only | simp only [keeps_mk] | simp only [keepsP_iff] | apply fset_keeps
    | apply Keeps.ite1 | apply Keeps.foldl | apply Keeps.foldl1 | intro _ _ _ h | intro _ _ h | intro _ h | split
    | assumption

theorem execDelayRspRx_keeps (x_p : Fin 2) (x_dseq : BitVec 16) (x_t2 : BitVec 64) (x_t3 : BitVec 64) (x_t4 : BitVec 64) (s : State) : KeepsO s (execDelayRspRx x_p x_dseq x_t2 x_t3 x_t4 s) := by
  unfold execDelayRspRx; try dsimp only
  with_reducible repeat' first
    | exact Keeps.refl s | assumption | apply KeepsO.next | apply KeepsO.ite | apply Keeps.ite | dsimp only
    | simp only [keeps_mk] | simp only [keepsP_iff] | apply byEngine_keeps | apply hopMeasured_keeps
    | apply Keeps.ite1 | intro _ _ _ _ | intro _ _ _ | intro _ _ | split

/-! ### Link -/

theorem routeShow_keeps (h : Keeps s t) : Keeps s (routeShow t) := by
  unfold routeShow; try dsimp only
  with_reducible repeat' first
    | exact h | apply Keeps.ite | dsimp only | apply fsetB_keeps | apply Keeps.ite1 | apply Keeps.foldl
    | apply Keeps.foldl1 | intro _ _ _ h | intro _ _ h | intro _ h | split | assumption

theorem linkDetach_keeps (h : Keeps s t) : Keeps s (linkDetach t) := by
  unfold linkDetach; try dsimp only
  with_reducible repeat' first
    | exact h | dsimp only | apply raise_keeps | apply timeDetach_keeps | apply ledgDetach_keeps
    | apply cvyDetach_keeps | apply fset_keeps | split | assumption

theorem linkRoutes_keeps (h : Keeps s t) : Keeps s (linkRoutes t) := by
  unfold linkRoutes; try dsimp only
  with_reducible repeat' first
    | exact h | apply Keeps.ite | dsimp only | apply KeepsP.filter | apply routeShow_keeps | apply fset_keeps
    | apply fsetB_keeps | apply cvyLost_keeps | apply ledgReach_keeps | apply linkDetach_keeps | apply Keeps.ite1
    | apply Keeps.foldl | apply Keeps.foldl1 | intro _ _ _ h | intro _ _ h | intro _ h | split | assumption

theorem linkBreak_keeps (x_h : Nat) (h : Keeps s t) : Keeps s (linkBreak t x_h) := by
  unfold linkBreak; try dsimp only
  with_reducible repeat' first
    | exact h | apply Keeps.ite | dsimp only | simp only [keeps_mk] | simp only [keepsP_iff] | apply KeepsP.filter
    | apply raise_keeps | apply linkRoutes_keeps | apply fset_keeps | apply Keeps.ite1 | split | assumption

theorem linkMend_keeps (x_h : Nat) (h : Keeps s t) : Keeps s (linkMend t x_h) := by
  unfold linkMend; try dsimp only
  with_reducible repeat' first
    | exact h | apply Keeps.ite | dsimp only | simp only [keeps_mk] | simp only [keepsP_iff] | apply Keeps.ite1
    | split | assumption

theorem tryUp_keeps (x_p : Nat) (h : Keeps s t) : Keeps s (tryUp t x_p) := by
  unfold tryUp; try dsimp only
  with_reducible repeat' first
    | exact h | apply Keeps.ite | dsimp only | simp only [keeps_mk] | simp only [keepsP_iff] | apply KeepsP.filter
    | apply send_keeps | apply linkMend_keeps | apply Keeps.ite1 | split | assumption

theorem sendEnum_keeps (x_p : Nat) (x_gen : Nat) (x_single : Nat) (x_next : Nat) (h : Keeps s t) : Keeps s (sendEnum t x_p x_gen x_single x_next) := by
  unfold sendEnum; try dsimp only
  with_reducible repeat' first | exact h | dsimp only | apply send_keeps | split | assumption

theorem tryEnum_keeps (h : Keeps s t) : Keeps s (tryEnum t) := by
  unfold tryEnum; try dsimp only
  with_reducible repeat' first
    | exact h | apply Keeps.ite | dsimp only | simp only [keeps_mk] | simp only [keepsP_iff] | apply sendEnum_keeps
    | apply Keeps.ite1 | split | assumption

theorem portTrain_keeps (x_p : Nat) (h : Keeps s t) : Keeps s (portTrain t x_p) := by
  unfold portTrain; try dsimp only
  with_reducible repeat' first
    | exact h | apply Keeps.ite | dsimp only | apply fset_keeps | apply hopLost_keeps | apply tryUp_keeps
    | apply tryEnum_keeps | apply Keeps.ite1 | split | assumption

theorem portDown_keeps (x_p : Nat) (h : Keeps s t) : Keeps s (portDown t x_p) := by
  unfold portDown; try dsimp only
  with_reducible repeat' first
    | exact h | dsimp only | apply fset_keeps | apply hopLost_keeps | apply finc_keeps | split | assumption

theorem execPortTrained_keeps (x_p : Fin 2) (s : State) : KeepsO s (execPortTrained x_p s) := by
  unfold execPortTrained; try dsimp only
  with_reducible repeat' first
    | exact Keeps.refl s | assumption | apply KeepsO.next | apply KeepsO.ite | apply Keeps.ite | dsimp only
    | apply wakeCause_keeps | apply portTrain_keeps | apply Keeps.ite1 | intro _ _ _ _ | intro _ _ _ | intro _ _
    | split

theorem execPortLinkLoss_keeps (x_p : Fin 2) (s : State) : KeepsO s (execPortLinkLoss x_p s) := by
  unfold execPortLinkLoss; try dsimp only
  with_reducible repeat' first
    | exact Keeps.refl s | assumption | apply KeepsO.next | apply KeepsO.ite | apply Keeps.ite | dsimp only
    | simp only [keeps_mk] | simp only [keepsP_iff] | apply KeepsP.filter | apply portDown_keeps | apply send_keeps
    | apply linkBreak_keeps | apply raise_keeps | apply Keeps.ite1 | intro _ _ _ _ | intro _ _ _ | intro _ _ | split

theorem execNightLinkLoss_keeps (x_p : Fin 2) (s : State) : KeepsO s (execNightLinkLoss x_p s) := by
  unfold execNightLinkLoss; try dsimp only
  with_reducible repeat' first
    | exact Keeps.refl s | assumption | apply KeepsO.next | apply KeepsO.ite | apply Keeps.ite | dsimp only
    | apply portDown_keeps | apply Keeps.ite1 | intro _ _ _ _ | intro _ _ _ | intro _ _ | split

theorem countErr_keeps (x_p : Nat) (h : Keeps s t) : Keeps s (countErr t x_p) := by
  unfold countErr; try dsimp only
  with_reducible repeat' first
    | exact h | apply Keeps.ite | dsimp only | simp only [keeps_mk] | simp only [keepsP_iff] | apply KeepsP.filter
    | apply raise_keeps | apply setPortQ_keeps | apply Keeps.ite1 | intro _ _ _ h | intro _ _ h | intro _ h | split
    | assumption

theorem seePut_keeps (x_u : Nat) (x_q : Nat) (h : Keeps s t) : Keeps s (seePut t x_u x_q) := by
  unfold seePut; try dsimp only
  with_reducible repeat' first
    | exact h | apply Keeps.ite | dsimp only | simp only [keeps_mk] | simp only [keepsP_iff] | apply Keeps.ite1
    | intro _ _ _ h | intro _ _ h | intro _ h | split | assumption

theorem corrForward_keeps (x_p : Nat) (x_f : Frame) (h : Keeps s t) : Keeps s ((corrForward t x_p x_f).1) := by
  unfold corrForward; try dsimp only
  with_reducible repeat' first
    | exact h | apply Keeps.ite | dsimp only | simp only [keeps_mk] | simp only [keepsP_iff] | apply drawNat_keeps
    | apply Keeps.ite1 | split | assumption

theorem forwardFrame_keeps (x_p : Nat) (x_f : Frame) (h : Keeps s t) : Keeps s (forwardFrame t x_p x_f) := by
  unfold forwardFrame; try dsimp only
  with_reducible repeat' first
    | exact h | apply Keeps.ite | dsimp only | simp only [keeps_mk] | simp only [keepsP_iff] | apply finc_keeps
    | apply corrForward_keeps | apply pushPort_keeps | apply raise_keeps | apply Keeps.ite1 | split | assumption

theorem deliver_keeps (x_f : Frame) (h : Keeps s t) : Keeps s (deliver t x_f) := by
  unfold deliver; try dsimp only
  with_reducible repeat' first
    | exact h | dsimp only | simp only [keeps_mk] | simp only [keepsP_iff] | split | assumption

theorem frameSeen_keeps (x_f : Frame) (h : Keeps s t) : Keeps s (frameSeen t x_f) := by
  unfold frameSeen; try dsimp only
  with_reducible repeat' first
    | exact h | apply Keeps.ite | dsimp only | apply seePut_keeps | apply Keeps.ite1 | split | assumption

theorem frameRoute_keeps (x_p : Nat) (x_f : Frame) (h : Keeps s t) : Keeps s (frameRoute t x_p x_f) := by
  unfold frameRoute; try dsimp only
  with_reducible repeat' first
    | exact h | apply Keeps.ite | dsimp only | apply frameSeen_keeps | apply deliver_keeps | apply forwardFrame_keeps
    | apply Keeps.ite1 | split | assumption

theorem execFrameForward_keeps (x_p : Fin 2) (x_f : Frame) (x_bad : Bool) (s : State) : KeepsO s (execFrameForward x_p x_f x_bad s) := by
  unfold execFrameForward; try dsimp only
  with_reducible repeat' first
    | exact Keeps.refl s | assumption | apply KeepsO.next | apply KeepsO.ite | apply Keeps.ite | dsimp only
    | apply countErr_keeps | apply finc_keeps | apply frameRoute_keeps | apply deliver_keeps | apply frameSeen_keeps
    | apply Keeps.ite1 | intro _ _ _ _ | intro _ _ _ | intro _ _ | split

theorem stampFrame_keeps (x_p : Nat) (x_f : Frame) (h : Keeps s t) : Keeps s ((stampFrame t x_p x_f).1) := by
  unfold stampFrame; try dsimp only
  with_reducible repeat' first
    | exact h | apply Keeps.ite | dsimp only | simp only [keeps_mk] | simp only [keepsP_iff] | apply Keeps.ite1
    | split | assumption

theorem sendFront_keeps (x_p : Nat) (x_c : Nat) (x_f : Frame) (x_rest : List Frame) (h : Keeps s t) : Keeps s (sendFront t x_p x_c x_f x_rest) := by
  unfold sendFront; try dsimp only
  with_reducible repeat' first
    | exact h | dsimp only | simp only [keeps_mk] | simp only [keepsP_iff] | apply stampFrame_keeps
    | apply setPortQ_keeps | split | assumption

theorem execFrameTransmit_keeps (x_p : Fin 2) (s : State) : KeepsO s (execFrameTransmit x_p s) := by
  unfold execFrameTransmit; try dsimp only
  with_reducible repeat' first
    | exact Keeps.refl s | assumption | apply KeepsO.next | apply KeepsO.ite | apply Keeps.ite | dsimp only
    | simp only [keeps_mk] | simp only [keepsP_iff] | apply sendFront_keeps | apply setPortQ_keeps
    | apply portWake_keeps | apply Keeps.ite1 | intro _ _ _ _ | intro _ _ _ | intro _ _ | split

theorem raccEnd_keeps (x_status : Nat) (x_done : Nat) (x_data : List Nat) (h : Keeps s t) : Keeps s (raccEnd t x_status x_done x_data) := by
  unfold raccEnd; try dsimp only
  with_reducible repeat' first
    | exact h | dsimp only | simp only [keeps_mk] | simp only [keepsP_iff] | apply fset_keeps | apply Keeps.foldl
    | apply Keeps.foldl1 | intro _ _ _ h | intro _ _ h | intro _ h | split | assumption

theorem addrCheck_keeps (h : Keeps s t) : Keeps s (addrCheck t) := by
  unfold addrCheck; try dsimp only
  with_reducible repeat' first
    | exact h | apply Keeps.ite | dsimp only | apply raise_keeps | apply fset_keeps | apply Keeps.ite1 | split
    | assumption

theorem takeAddr_keeps (x_a : Nat) (h : Keeps s t) : Keeps s (takeAddr t x_a) := by
  unfold takeAddr; try dsimp only
  with_reducible repeat' first
    | exact h | apply Keeps.ite | dsimp only | apply fset_keeps | apply raccEnd_keeps | apply soloEnd_keeps
    | apply tryUp_keeps | apply linkRoutes_keeps | apply Keeps.ite1 | split | assumption

theorem enumBegins_keeps (h : Keeps s t) : Keeps s (enumBegins t) := by
  unfold enumBegins; try dsimp only
  with_reducible repeat' first
    | exact h | dsimp only | simp only [keeps_mk] | simp only [keepsP_iff] | split | assumption

theorem reenumerate_keeps (h : Keeps s t) : Keeps s (reenumerate t) := by
  unfold reenumerate; try dsimp only
  with_reducible repeat' first
    | exact h | apply Keeps.ite | dsimp only | simp only [keeps_mk] | simp only [keepsP_iff] | apply enumBegins_keeps
    | apply tryEnum_keeps | apply Keeps.ite1 | split | assumption

theorem setEnum_keeps (x_n : Nat) (x_topo : Nat) (x_gen : Nat) (h : Keeps s t) : Keeps s (setEnum t x_n x_topo x_gen) := by
  unfold setEnum; try dsimp only
  with_reducible repeat' first
    | exact h | apply Keeps.ite | dsimp only | simp only [keeps_mk] | simp only [keepsP_iff] | apply KeepsP.filter
    | apply fset_keeps | apply linkRoutes_keeps | apply Keeps.ite1 | split | assumption

theorem enumDone_keeps (x_n : Nat) (x_topo : Nat) (h : Keeps s t) : Keeps s (enumDone t x_n x_topo) := by
  unfold enumDone; try dsimp only
  with_reducible repeat' first | exact h | dsimp only | apply setEnum_keeps | apply send_keeps | split | assumption

theorem judgeJoined_keeps (x_a : Nat) (h : Keeps s t) : Keeps s (judgeJoined t x_a) := by
  unfold judgeJoined; try dsimp only
  with_reducible repeat' first
    | exact h | apply Keeps.ite | dsimp only | simp only [keeps_mk] | simp only [keepsP_iff] | apply reenumerate_keeps
    | apply ledgJoined_keeps | apply enumDone_keeps | apply Keeps.ite1 | split | assumption

theorem enumFinish_keeps (x_n : Nat) (x_topo : Nat) (h : Keeps s t) : Keeps s (enumFinish t x_n x_topo) := by
  unfold enumFinish; try dsimp only
  with_reducible repeat' first
    | exact h | dsimp only | simp only [keeps_mk] | simp only [keepsP_iff] | apply enumDone_keeps
    | apply judgeJoined_keeps | apply Keeps.foldl | apply Keeps.foldl1 | intro _ _ _ h | intro _ _ h | intro _ h
    | split | assumption

theorem enumConclude_keeps (x_n : Nat) (x_topo : Nat) (h : Keeps s t) : Keeps s (enumConclude t x_n x_topo) := by
  unfold enumConclude; try dsimp only
  with_reducible repeat' first
    | exact h | apply Keeps.ite | dsimp only | apply raise_keeps | apply enumFinish_keeps | apply fset_keeps
    | apply Keeps.ite1 | split | assumption

theorem enumAtHead_keeps (x_p : Nat) (x_gen : Nat) (x_single : Bool) (x_next : Nat) (h : Keeps s t) : Keeps s (enumAtHead t x_p x_gen x_single x_next) := by
  unfold enumAtHead; try dsimp only
  with_reducible repeat' first
    | exact h | apply Keeps.ite | dsimp only | apply enumConclude_keeps | apply fset_keeps | apply raise_keeps
    | apply Keeps.ite1 | split | assumption

theorem enumOffer_keeps (x_p : Nat) (x_gen : Nat) (x_next : Nat) (h : Keeps s t) : Keeps s (enumOffer t x_p x_gen x_next) := by
  unfold enumOffer; try dsimp only
  with_reducible repeat' first
    | exact h | apply Keeps.ite | dsimp only | apply raise_keeps | apply fset_keeps | apply takeAddr_keeps
    | apply addrCheck_keeps | apply send_keeps | apply Keeps.ite1 | split | assumption

theorem enumOver_keeps (x_gen : Nat) (h : Keeps s t) : Keeps s (enumOver t x_gen) := by
  unfold enumOver; try dsimp only
  with_reducible repeat' first
    | exact h | dsimp only | apply linkRoutes_keeps | apply fset_keeps | apply raise_keeps | apply send_keeps | split
    | assumption

theorem enumTake_keeps (x_gen : Nat) (x_next : Nat) (h : Keeps s t) : Keeps s (enumTake t x_gen x_next) := by
  unfold enumTake; try dsimp only
  with_reducible repeat' first
    | exact h | apply Keeps.ite | dsimp only | simp only [keeps_mk] | simp only [keepsP_iff] | apply takeAddr_keeps
    | apply enumBegins_keeps | apply tryEnum_keeps | apply addrCheck_keeps | apply Keeps.ite1 | split | assumption

theorem execEnumRx_keeps (x_p : Fin 2) (x_gen : BitVec 8) (x_single : Bool) (x_next : Nat) (s : State) : KeepsO s (execEnumRx x_p x_gen x_single x_next s) := by
  unfold execEnumRx; try dsimp only
  with_reducible repeat' first
    | exact Keeps.refl s | assumption | apply KeepsO.next | apply KeepsO.ite | apply Keeps.ite | dsimp only
    | apply byEngine_keeps | apply enumAtHead_keeps | apply enumOffer_keeps | apply fset_keeps | apply enumOver_keeps
    | apply enumTake_keeps | apply Keeps.ite1 | intro _ _ _ _ | intro _ _ _ | intro _ _ | split

theorem execEnumEndRx_keeps (x_gen : BitVec 8) (x__over : Bool) (x_n : Nat) (s : State) : KeepsO s (execEnumEndRx x_gen x__over x_n s) := by
  unfold execEnumEndRx; try dsimp only
  with_reducible repeat' first
    | exact Keeps.refl s | assumption | apply KeepsO.next | apply KeepsO.ite | apply Keeps.ite | dsimp only
    | apply byEngine_keeps | apply enumConclude_keeps | apply Keeps.ite1 | intro _ _ _ _ | intro _ _ _ | intro _ _
    | split

theorem execEnumDoneRx_keeps (x_gen : BitVec 8) (x_ring : Bool) (x_n : Nat) (s : State) : KeepsO s (execEnumDoneRx x_gen x_ring x_n s) := by
  unfold execEnumDoneRx; try dsimp only
  with_reducible repeat' first
    | exact Keeps.refl s | assumption | apply KeepsO.next | apply KeepsO.ite | apply Keeps.ite | dsimp only
    | apply byEngine_keeps | apply setEnum_keeps | apply Keeps.ite1 | intro _ _ _ _ | intro _ _ _ | intro _ _ | split

theorem execEnumWaitExpiry_keeps (s : State) : KeepsO s (execEnumWaitExpiry s) := by
  unfold execEnumWaitExpiry; try dsimp only
  with_reducible repeat' first
    | exact Keeps.refl s | assumption | apply KeepsO.next | apply KeepsO.ite | apply Keeps.ite | dsimp only
    | simp only [keeps_mk] | simp only [keepsP_iff] | apply byEngine_keeps | apply enumFinish_keeps | apply send_keeps
    | apply Keeps.ite1 | intro _ _ _ _ | intro _ _ _ | intro _ _ | split

theorem execLnkCmdReenumerate_keeps (x_rq : Fin 24) (s : State) : KeepsO s (execLnkCmdReenumerate x_rq s) := by
  unfold execLnkCmdReenumerate; try dsimp only
  with_reducible repeat' first
    | exact Keeps.refl s | assumption | apply KeepsO.next | apply KeepsO.ite | apply Keeps.ite | dsimp only
    | apply asCoach_keeps | apply reenumerate_keeps | apply Keeps.ite1 | intro _ _ _ _ | intro _ _ _ | intro _ _
    | split

theorem execHelloSend_keeps (x_p : Fin 2) (s : State) : KeepsO s (execHelloSend x_p s) := by
  unfold execHelloSend; try dsimp only
  with_reducible repeat' first
    | exact Keeps.refl s | assumption | apply KeepsO.next | apply KeepsO.ite | apply Keeps.ite | dsimp only
    | apply byEngine_keeps | apply send_keeps | apply Keeps.ite1 | intro _ _ _ _ | intro _ _ _ | intro _ _ | split

theorem offerAddr_keeps (x_p : Nat) (h : Keeps s t) : Keeps s (offerAddr t x_p) := by
  unfold offerAddr; try dsimp only
  with_reducible repeat' first
    | exact h | apply Keeps.ite | dsimp only | apply sendEnum_keeps | apply Keeps.ite1 | split | assumption

theorem execLinkStateHelloRx_keeps (x_p : Fin 2) (x__gen : BitVec 8) (x_valid : Bool) (x_addr : Fin 32) (s : State) : KeepsO s (execLinkStateHelloRx x_p x__gen x_valid x_addr s) := by
  unfold execLinkStateHelloRx; try dsimp only
  with_reducible repeat' first
    | exact Keeps.refl s | assumption | apply KeepsO.next | apply KeepsO.ite | apply Keeps.ite | dsimp only
    | apply byEngine_keeps | apply fset_keeps | apply fsetB_keeps | apply tryUp_keeps | apply offerAddr_keeps
    | apply Keeps.ite1 | intro _ _ _ _ | intro _ _ _ | intro _ _ | split

theorem execLinkStateDownRx_keeps (x_addr : Fin 32) (x_port : Fin 2) (s : State) : KeepsO s (execLinkStateDownRx x_addr x_port s) := by
  unfold execLinkStateDownRx; try dsimp only
  with_reducible repeat' first
    | exact Keeps.refl s | assumption | apply KeepsO.next | apply KeepsO.ite | apply Keeps.ite | dsimp only
    | simp only [keeps_mk] | simp only [keepsP_iff] | apply byEngine_keeps | apply linkBreak_keeps | apply Keeps.ite1
    | intro _ _ _ _ | intro _ _ _ | intro _ _ | split

theorem execLinkStateUpRx_keeps (x_addr : Fin 32) (x_port : Fin 2) (s : State) : KeepsO s (execLinkStateUpRx x_addr x_port s) := by
  unfold execLinkStateUpRx; try dsimp only
  with_reducible repeat' first
    | exact Keeps.refl s | assumption | apply KeepsO.next | apply KeepsO.ite | apply Keeps.ite | dsimp only
    | simp only [keeps_mk] | simp only [keepsP_iff] | apply byEngine_keeps | apply linkMend_keeps | apply Keeps.ite1
    | intro _ _ _ _ | intro _ _ _ | intro _ _ | split

theorem execLinkStateJoinedRx_keeps (x_addr : Fin 32) (s : State) : KeepsO s (execLinkStateJoinedRx x_addr s) := by
  unfold execLinkStateJoinedRx; try dsimp only
  with_reducible repeat' first
    | exact Keeps.refl s | assumption | apply KeepsO.next | apply KeepsO.ite | apply Keeps.ite | dsimp only
    | apply byEngine_keeps | apply judgeJoined_keeps | apply cvyLost_keeps | apply Keeps.ite1 | intro _ _ _ _
    | intro _ _ _ | intro _ _ | split

theorem execRepairHoldExpiry_keeps (x_hop : Fin 32) (s : State) : KeepsO s (execRepairHoldExpiry x_hop s) := by
  unfold execRepairHoldExpiry; try dsimp only
  with_reducible repeat' first
    | exact Keeps.refl s | assumption | apply KeepsO.next | apply KeepsO.ite | apply Keeps.ite | dsimp only
    | simp only [keeps_mk] | simp only [keepsP_iff] | apply KeepsP.filter | apply byEngine_keeps | apply fset_keeps
    | apply linkRoutes_keeps | apply Keeps.ite1 | intro _ _ _ _ | intro _ _ _ | intro _ _ | split

theorem raccCmd_keeps (x_write : Bool) (x_count : Nat) (h : Keeps s t) : Keeps s ((raccCmd t x_write x_count).1) := by
  unfold raccCmd; try dsimp only
  with_reducible repeat' first
    | exact h | apply Keeps.ite | dsimp only | simp only [keeps_mk] | simp only [keepsP_iff] | apply send_keeps
    | apply fset_keeps | apply Keeps.ite1 | intro _ _ _ h | intro _ _ h | intro _ h | split | assumption

theorem execRaccRead_keeps (x_rq : Fin 24) (x_count : Fin 16) (s : State) : KeepsO s (execRaccRead x_rq x_count s) := by
  unfold execRaccRead; try dsimp only
  with_reducible repeat' first
    | exact Keeps.refl s | assumption | apply KeepsO.next | dsimp only | apply asCoach_keeps | apply raccCmd_keeps
    | intro _ _ _ _ | intro _ _ _ | intro _ _ | split

theorem execRaccWrite_keeps (x_rq : Fin 24) (x_count : Fin 16) (s : State) : KeepsO s (execRaccWrite x_rq x_count s) := by
  unfold execRaccWrite; try dsimp only
  with_reducible repeat' first
    | exact Keeps.refl s | assumption | apply KeepsO.next | dsimp only | apply asCoach_keeps | apply raccCmd_keeps
    | intro _ _ _ _ | intro _ _ _ | intro _ _ | split

theorem execRaccTimeout_keeps (s : State) : KeepsO s (execRaccTimeout s) := by
  unfold execRaccTimeout; try dsimp only
  with_reducible repeat' first
    | exact Keeps.refl s | assumption | apply KeepsO.next | apply KeepsO.ite | apply Keeps.ite | dsimp only
    | apply byEngine_keeps | apply raccEnd_keeps | apply Keeps.ite1 | intro _ _ _ _ | intro _ _ _ | intro _ _ | split

theorem execRegRspRx_keeps (x_tag : BitVec 16) (x_status : BitVec 8) (x_done : Fin 16) (x_data : List Word) (s : State) : KeepsO s (execRegRspRx x_tag x_status x_done x_data s) := by
  unfold execRegRspRx; try dsimp only
  with_reducible repeat' first
    | exact Keeps.refl s | assumption | apply KeepsO.next | apply KeepsO.ite | apply Keeps.ite | dsimp only
    | simp only [keeps_mk] | simp only [keepsP_iff] | apply byEngine_keeps | apply raccEnd_keeps | apply fset_keeps
    | apply Keeps.ite1 | intro _ _ _ _ | intro _ _ _ | intro _ _ | split

end Sys2Proof.Machine
end

