-- ==== Sys2Proof/Laws/KeepsBlocks.lean ====
section
/-!
SUPPORT. Laws/KeepsBlocks.lean: the gauge, faults, comparators, Night and the journal ring keep what `Keeps` says, operation by operation.
-/
namespace Sys2Proof.Machine

variable {s t : State}

/-! ### Gauge -/

theorem setGau_keeps (x_g : GaugeX) (h : Keeps s t) : Keeps s (setGau t x_g) := by
  unfold setGau; try dsimp only
  with_reducible repeat' first
    | exact h | dsimp only | simp only [keeps_mk] | simp only [keepsP_iff] | split | assumption

theorem gaugeFlag_keeps (x_f : Fld) (h : Keeps s t) : Keeps s (gaugeFlag t x_f) := by
  unfold gaugeFlag; try dsimp only
  with_reducible repeat' first | exact h | dsimp only | apply fset_keeps | apply journal_keeps | split | assumption

theorem execGaugeAccUpdate_keeps (x_shuntNv : Int) (s : State) : KeepsO s (execGaugeAccUpdate x_shuntNv s) := by
  unfold execGaugeAccUpdate; try dsimp only
  with_reducible repeat' first
    | exact Keeps.refl s | assumption | apply KeepsO.next | apply KeepsO.ite | apply Keeps.ite | dsimp only
    | simp only [keeps_mk] | simp only [keepsP_iff] | apply fset64_keeps | apply setGau_keeps | apply Keeps.ite1
    | intro _ _ _ _ | intro _ _ _ | intro _ _ | split

theorem gaugeRestore_keeps (h : Keeps s t) : Keeps s (gaugeRestore t) := by
  unfold gaugeRestore; try dsimp only
  with_reducible repeat' first
    | exact h | apply Keeps.ite | dsimp only | simp only [keeps_mk] | simp only [keepsP_iff] | apply fset_keeps
    | apply setGau_keeps | apply Keeps.ite1 | split | assumption

theorem gaugeTabCheck_keeps (h : Keeps s t) : Keeps s (gaugeTabCheck t) := by
  unfold gaugeTabCheck; try dsimp only
  with_reducible repeat' first
    | exact h | apply Keeps.ite | dsimp only | apply raise_keeps | apply fset_keeps | apply Keeps.ite1 | split
    | assumption

theorem gaugeStart_keeps (h : Keeps s t) : Keeps s (gaugeStart t) := by
  unfold gaugeStart; try dsimp only
  with_reducible repeat' first
    | exact h | apply Keeps.ite | dsimp only | simp only [keeps_mk] | simp only [keepsP_iff] | apply fset_keeps
    | apply setGau_keeps | apply gaugeRestore_keeps | apply Keeps.ite1 | split | assumption

theorem gaugeKeep_keeps (h : Keeps s t) : Keeps s (gaugeKeep t) := by
  unfold gaugeKeep; try dsimp only
  with_reducible repeat' first
    | exact h | apply Keeps.ite | dsimp only | simp only [keeps_mk] | simp only [keepsP_iff] | apply setGau_keeps
    | apply Keeps.ite1 | split | assumption

theorem execGaugeRetentionWrite_keeps (s : State) : KeepsO s (execGaugeRetentionWrite s) := by
  unfold execGaugeRetentionWrite; try dsimp only
  with_reducible repeat' first
    | exact Keeps.refl s | assumption | apply KeepsO.next | dsimp only | apply byEngine_keeps | apply gaugeKeep_keeps
    | intro _ _ _ _ | intro _ _ _ | intro _ _ | split

theorem recDue_keeps (h : Keeps s t) : Keeps s (recDue t) := by
  unfold recDue; try dsimp only
  with_reducible repeat' first
    | exact h | dsimp only | simp only [keeps_mk] | simp only [keepsP_iff] | apply fset_keeps | apply setGau_keeps
    | split | assumption

theorem setSlot_keeps (x_k : Nat) (x_r : Option GRec) (h : Keeps s t) : Keeps s (setSlot t x_k x_r) := by
  unfold setSlot; try dsimp only
  with_reducible repeat' first
    | exact h | apply Keeps.ite | dsimp only | simp only [keeps_mk] | simp only [keepsP_iff] | apply setGau_keeps
    | apply Keeps.ite1 | split | assumption

theorem recStart_keeps (x_supplyMv : Nat) (h : Keeps s t) : Keeps s (recStart t x_supplyMv) := by
  unfold recStart; try dsimp only
  with_reducible repeat' first
    | exact h | apply Keeps.ite | dsimp only | simp only [keeps_mk] | simp only [keepsP_iff] | apply setSlot_keeps
    | apply fset_keeps | apply setGau_keeps | apply Keeps.ite1 | split | assumption

theorem execGaugeRecordWriteDone_keeps (x_ok : Bool) (s : State) : KeepsO s (execGaugeRecordWriteDone x_ok s) := by
  unfold execGaugeRecordWriteDone; try dsimp only
  with_reducible repeat' first
    | exact Keeps.refl s | assumption | apply KeepsO.next | apply KeepsO.ite | apply Keeps.ite | dsimp only
    | simp only [keeps_mk] | simp only [keepsP_iff] | apply byEngine_keeps | apply setGau_keeps | apply setSlot_keeps
    | apply fset_keeps | apply drawNat_keeps | apply journal_keeps | apply raise_keeps | apply gaugeFlag_keeps
    | apply Keeps.ite1 | intro _ _ _ _ | intro _ _ _ | intro _ _ | split

theorem gaugeTemp_keeps (x_ntcUv : Nat) (h : Keeps s t) : Keeps s (gaugeTemp t x_ntcUv) := by
  unfold gaugeTemp; try dsimp only
  with_reducible repeat' first
    | exact h | apply Keeps.ite | dsimp only | simp only [keeps_mk] | simp only [keepsP_iff] | apply fsetI_keeps
    | apply fset_keeps | apply setGau_keeps | apply raise_keeps | apply gaugeFlag_keeps | apply Keeps.ite1 | split
    | assumption

theorem gaugeCount_keeps (x_dq : Int) (h : Keeps s t) : Keeps s (gaugeCount t x_dq) := by
  unfold gaugeCount; try dsimp only
  with_reducible repeat' first
    | exact h | dsimp only | simp only [keeps_mk] | simp only [keepsP_iff] | apply setGau_keeps | split | assumption

theorem gaugeGrow_keeps (x_dq : Int) (x_dt : Nat) (h : Keeps s t) : Keeps s (gaugeGrow t x_dq x_dt) := by
  unfold gaugeGrow; try dsimp only
  with_reducible repeat' first
    | exact h | apply Keeps.ite | dsimp only | simp only [keeps_mk] | simp only [keepsP_iff] | apply setGau_keeps
    | apply Keeps.ite1 | split | assumption

theorem gaugeCycles_keeps (x_dq : Int) (h : Keeps s t) : Keeps s (gaugeCycles t x_dq) := by
  unfold gaugeCycles; try dsimp only
  with_reducible repeat' first
    | exact h | apply Keeps.ite | dsimp only | simp only [keeps_mk] | simp only [keepsP_iff] | apply setGau_keeps
    | apply recDue_keeps | apply fset_keeps | apply Keeps.ite1 | split | assumption

theorem gaugeLearn_keeps (h : Keeps s t) : Keeps s (gaugeLearn t) := by
  unfold gaugeLearn; try dsimp only
  with_reducible repeat' first
    | exact h | dsimp only | simp only [keeps_mk] | simp only [keepsP_iff] | apply setGau_keeps | apply recDue_keeps
    | apply gaugeFlag_keeps | apply finc_keeps | split | assumption

theorem gaugeRef_keeps (x_soc : Nat) (x_unc : Nat) (x_f : Fld) (h : Keeps s t) : Keeps s (gaugeRef t x_soc x_unc x_f) := by
  unfold gaugeRef; try dsimp only
  with_reducible repeat' first
    | exact h | dsimp only | simp only [keeps_mk] | simp only [keepsP_iff] | apply gaugeLearn_keeps
    | apply gaugeFlag_keeps | apply finc_keeps | apply setGau_keeps | split | assumption

theorem gaugeRestShow_keeps (x_iMa : Int) (x_since : Nat) (h : Keeps s t) : Keeps s (gaugeRestShow t x_iMa x_since) := by
  unfold gaugeRestShow; try dsimp only
  with_reducible repeat' first
    | exact h | apply Keeps.ite | dsimp only | simp only [keeps_mk] | simp only [keepsP_iff] | apply setGau_keeps
    | apply fsetB_keeps | apply Keeps.ite1 | split | assumption

theorem gaugeRefs_keeps (x_vpackMv : Nat) (h : Keeps s t) : Keeps s (gaugeRefs t x_vpackMv) := by
  unfold gaugeRefs; try dsimp only
  with_reducible repeat' first
    | exact h | apply Keeps.ite | dsimp only | simp only [keeps_mk] | simp only [keepsP_iff] | apply setGau_keeps
    | apply gaugeRef_keeps | apply fset_keeps | apply Keeps.ite1 | split | assumption

theorem gaugeShow_keeps (h : Keeps s t) : Keeps s (gaugeShow t) := by
  unfold gaugeShow; try dsimp only
  with_reducible repeat' first
    | exact h | apply Keeps.ite | dsimp only | apply fset_keeps | apply Keeps.ite1 | split | assumption

theorem gaugeAsk_keeps (h : Keeps s t) : Keeps s (gaugeAsk t) := by
  unfold gaugeAsk; try dsimp only
  with_reducible repeat' first
    | exact h | apply Keeps.ite | dsimp only | simp only [keeps_mk] | simp only [keepsP_iff] | apply setGau_keeps
    | apply finc_keeps | apply fset_keeps | apply gaugeFlag_keeps | apply itinWriteW3_keeps | apply raise_keeps
    | apply Keeps.ite1 | split | assumption

theorem gaugeWork_keeps (x_dq : Int) (x_iMa : Int) (x_dt : Nat) (x_vpackMv : Nat) (h : Keeps s t) : Keeps s (gaugeWork t x_dq x_iMa x_dt x_vpackMv) := by
  unfold gaugeWork; try dsimp only
  with_reducible repeat' first
    | exact h | apply Keeps.ite | dsimp only | apply gaugeCycles_keeps | apply gaugeGrow_keeps
    | apply gaugeCount_keeps | apply gaugeShow_keeps | apply gaugeRefs_keeps | apply gaugeRestShow_keeps
    | apply gaugeAsk_keeps | apply Keeps.ite1 | split | assumption

theorem gaugeFrame_keeps (x_dt : Nat) (x_ntcUv : Nat) (x_vpackMv : Nat) (x_supplyMv : Nat) (h : Keeps s t) : Keeps s (gaugeFrame t x_dt x_ntcUv x_vpackMv x_supplyMv) := by
  unfold gaugeFrame; try dsimp only
  with_reducible repeat' first
    | exact h | apply Keeps.ite | dsimp only | simp only [keeps_mk] | simp only [keepsP_iff] | apply KeepsP.filter
    | apply setGau_keeps | apply gaugeTemp_keeps | apply fsetI_keeps | apply recStart_keeps | apply gaugeWork_keeps
    | apply Keeps.ite1 | intro _ _ _ h | intro _ _ h | intro _ h | split | assumption

theorem execGaugeFrame_keeps (x_work : Nat) (x_ntcUv : Nat) (x_vpackMv : Nat) (x_supplyMv : Nat) (s : State) : KeepsO s (execGaugeFrame x_work x_ntcUv x_vpackMv x_supplyMv s) := by
  unfold execGaugeFrame; try dsimp only
  with_reducible repeat' first
    | exact Keeps.refl s | assumption | apply KeepsO.next | apply KeepsO.ite | apply Keeps.ite | dsimp only
    | apply frameBegin_keeps | apply gaugeFrame_keeps | apply Keeps.ite1 | intro _ _ _ _ | intro _ _ _ | intro _ _
    | split

theorem storageCmd_keeps (x_key : Nat) (h : Keeps s t) : Keeps s ((storageCmd t x_key).1) := by
  unfold storageCmd; try dsimp only
  with_reducible repeat' first
    | exact h | apply Keeps.ite | dsimp only | apply fset_keeps | apply storageEnter_keeps | apply gaugeKeep_keeps
    | apply wireKeep_keeps | apply Keeps.ite1 | split | assumption

theorem execStorageEntry_keeps (x_rq : Fin 24) (x_key : BitVec 16) (s : State) : KeepsO s (execStorageEntry x_rq x_key s) := by
  unfold execStorageEntry; try dsimp only
  with_reducible repeat' first
    | exact Keeps.refl s | assumption | apply KeepsO.next | dsimp only | apply asCoach_keeps | apply storageCmd_keeps
    | intro _ _ _ _ | intro _ _ _ | intro _ _ | split

/-! ### Fault -/

theorem pairBroken_keeps (x_i : Nat) (x_inj : Bool) (h : Keeps s t) : Keeps s (pairBroken t x_i x_inj) := by
  unfold pairBroken; try dsimp only
  with_reducible repeat' first
    | exact h | dsimp only | apply finc_keeps | apply fset_keeps | apply raiseEvent_keeps | apply raiseWith_keeps
    | split | assumption

theorem selfFault_keeps (x_inj : Bool) (h : Keeps s t) : Keeps s (selfFault t x_inj) := by
  unfold selfFault; try dsimp only
  with_reducible repeat' first | exact h | dsimp only | apply raiseEvent_keeps | apply fset_keeps | split | assumption

theorem lockstepHalt_keeps (x_e : Nat) (x_inj : Bool) (h : Keeps s t) : Keeps s (lockstepHalt t x_e x_inj) := by
  unfold lockstepHalt; try dsimp only
  with_reducible repeat' first
    | exact h | apply Keeps.ite | dsimp only | apply raiseEvent_keeps | apply targetReset_keeps | apply fset_keeps
    | apply Keeps.ite1 | split | assumption

theorem clockLost_keeps (x_d : ClockDomain) (h : Keeps s t) : Keeps s (clockLost t x_d) := by
  unfold clockLost; try dsimp only
  with_reducible repeat' first
    | exact h | dsimp only | simp only [keeps_mk] | simp only [keepsP_iff] | apply adcDown_keeps | apply fset_keeps
    | split | assumption

theorem injRecord_keeps (x_tgt : Nat) (x_sel : Nat) (x_w : Nat) (h : Keeps s t) : Keeps s (injRecord t x_tgt x_sel x_w) := by
  unfold injRecord; try dsimp only
  with_reducible repeat' first | exact h | dsimp only | apply journal_keeps | apply fset_keeps | split | assumption

theorem injCore_keeps (x_key : Nat) (x_tgt : Nat) (x_sel : Nat) (x_n : Nat) (x_f : State → State)
    (hf_f : ∀ y0, Keeps s y0 → Keeps s (x_f y0)) (h : Keeps s t) : Keeps s ((injCore t x_key x_tgt x_sel x_n x_f).1) := by
  unfold injCore; try dsimp only
  with_reducible repeat' first
    | exact h | apply Keeps.ite | dsimp only | apply injRecord_keeps | apply hf_f | apply Keeps.ite1 | intro _ _ _ h
    | intro _ _ h | intro _ h | split | assumption

theorem injWrite_keeps (x_rq : Nat) (x_key : Nat) (x_tgt : Nat) (x_sel : Nat) (x_n : Nat) (x_f : State → State)
    (hf_f : ∀ y0, Keeps s y0 → Keeps s (x_f y0)) (h : Keeps s t) : Keeps s (injWrite t x_rq x_key x_tgt x_sel x_n x_f) := by
  unfold injWrite; try dsimp only
  with_reducible repeat' first
    | exact h | dsimp only | apply asCoach_keeps | apply injCore_keeps | apply hf_f | intro _ _ _ h | intro _ _ h
    | intro _ h | split | assumption

theorem forceCore_keeps (x_key : Nat) (x_sel : Nat) (h : Keeps s t) : Keeps s ((forceCore t x_key x_sel).1) := by
  unfold forceCore; try dsimp only
  with_reducible repeat' first
    | exact h | apply Keeps.ite | dsimp only | apply raiseEvent_keeps | apply injRecord_keeps | apply Keeps.ite1
    | split | assumption

theorem injFab_keeps (x_p : Nat) (h : Keeps s t) : Keeps s (injFab t x_p) := by
  unfold injFab; try dsimp only
  with_reducible repeat' first
    | exact h | dsimp only | simp only [keeps_mk] | simp only [keepsP_iff] | apply KeepsP.filter | split | assumption

theorem injPair_keeps (x_i : Nat) (h : Keeps s t) : Keeps s (injPair t x_i) := by
  unfold injPair; try dsimp only
  with_reducible repeat' first
    | exact h | apply Keeps.ite | dsimp only | apply pairBroken_keeps | apply lower_keeps | apply Keeps.ite1 | split
    | assumption

theorem injSev_keeps (x_w : Nat) (h : Keeps s t) : Keeps s (injSev t x_w) := by
  unfold injSev; try dsimp only
  with_reducible repeat' first
    | exact h | dsimp only | simp only [keeps_mk] | simp only [keepsP_iff] | apply KeepsP.filter | split | assumption

theorem execFaultRaise_keeps (x_src : Fin 640) (s : State) : KeepsO s (execFaultRaise x_src s) := by
  unfold execFaultRaise; try dsimp only
  with_reducible repeat' first
    | exact Keeps.refl s | assumption | apply KeepsO.next | dsimp only | apply raiseLevel_keeps | intro _ _ _ _
    | intro _ _ _ | intro _ _ | split

theorem execFaultReportFall_keeps (x_src : Fin 640) (s : State) : KeepsO s (execFaultReportFall x_src s) := by
  unfold execFaultReportFall; try dsimp only
  with_reducible repeat' first
    | exact Keeps.refl s | assumption | apply KeepsO.next | dsimp only | simp only [keeps_mk] | simp only [keepsP_iff]
    | apply KeepsP.filter | apply lower_keeps | intro _ _ _ _ | intro _ _ _ | intro _ _ | split

theorem execBrokenPair_keeps (x_src : Fin 640) (s : State) : KeepsO s (execBrokenPair x_src s) := by
  unfold execBrokenPair; try dsimp only
  with_reducible repeat' first
    | exact Keeps.refl s | assumption | apply KeepsO.next | apply KeepsO.ite | apply Keeps.ite | dsimp only
    | simp only [keeps_mk] | simp only [keepsP_iff] | apply pairBroken_keeps | apply Keeps.ite1 | intro _ _ _ _
    | intro _ _ _ | intro _ _ | split

theorem execRstsClear_keeps (s : State) : KeepsO s (execRstsClear s) := by
  unfold execRstsClear; try dsimp only
  with_reducible repeat' first
    | exact Keeps.refl s | assumption | apply KeepsO.next | apply KeepsO.ite | apply Keeps.ite | dsimp only
    | apply fset_keeps | apply Keeps.ite1 | intro _ _ _ _ | intro _ _ _ | intro _ _ | split

theorem execCollectorScrub_keeps (s : State) : KeepsO s (execCollectorScrub s) := by
  unfold execCollectorScrub; try dsimp only
  with_reducible repeat' first
    | exact Keeps.refl s | assumption | apply KeepsO.next | apply KeepsO.ite | apply Keeps.ite | dsimp only
    | simp only [keeps_mk] | simp only [keepsP_iff] | apply selfFault_keeps | apply Keeps.ite1 | intro _ _ _ _
    | intro _ _ _ | intro _ _ | split

theorem execCollectorSelfFault_keeps (s : State) : KeepsO s (execCollectorSelfFault s) := by
  unfold execCollectorSelfFault; try dsimp only
  with_reducible repeat' first
    | exact Keeps.refl s | assumption | apply KeepsO.next | dsimp only | apply selfFault_keeps | intro _ _ _ _
    | intro _ _ _ | intro _ _ | split

theorem execRcOscillatorLoss_keeps (s : State) : KeepsO s (execRcOscillatorLoss s) := by
  unfold execRcOscillatorLoss; try dsimp only
  with_reducible repeat' first
    | exact Keeps.refl s | assumption | apply KeepsO.next | apply KeepsO.ite | apply Keeps.ite | dsimp only
    | simp only [keeps_mk] | simp only [keepsP_iff] | apply raiseLevel_keeps | apply fset_keeps | apply Keeps.ite1
    | intro _ _ _ _ | intro _ _ _ | intro _ _ | split

theorem execHeartbeatLoss_keeps (s : State) : KeepsO s (execHeartbeatLoss s) := by
  unfold execHeartbeatLoss; try dsimp only
  with_reducible repeat' first
    | exact Keeps.refl s | assumption | apply KeepsO.next | apply KeepsO.ite | apply Keeps.ite | dsimp only
    | simp only [keeps_mk] | simp only [keepsP_iff] | apply summarise_keeps | apply enterSafe_keeps
    | apply recordFirst_keeps | apply Keeps.ite1 | intro _ _ _ _ | intro _ _ _ | intro _ _ | split

theorem execErrorPairToggle_keeps (s : State) : KeepsO s (execErrorPairToggle s) := by
  unfold execErrorPairToggle; try dsimp only
  with_reducible repeat' first
    | exact Keeps.refl s | assumption | apply KeepsO.next | dsimp only | simp only [keeps_mk] | simp only [keepsP_iff]
    | intro _ _ _ _ | intro _ _ _ | intro _ _ | split

theorem execFaultSumSend_keeps (s : State) : KeepsO s (execFaultSumSend s) := by
  unfold execFaultSumSend; try dsimp only
  with_reducible repeat' first
    | exact Keeps.refl s | assumption | apply KeepsO.next | dsimp only | apply send_keeps | intro _ _ _ _
    | intro _ _ _ | intro _ _ | split

theorem remoteSafe_keeps (x_u : Nat) (x_b : Bool) (h : Keeps s t) : Keeps s (remoteSafe t x_u x_b) := by
  unfold remoteSafe; try dsimp only
  with_reducible repeat' first
    | exact h | apply Keeps.ite | dsimp only | apply fsetB_keeps | apply raise_keeps | apply fset_keeps
    | apply Keeps.ite1 | split | assumption

theorem stageNoted_keeps (x_u : Nat) (x_g : Nat) (h : Keeps s t) : Keeps s (stageNoted t x_u x_g) := by
  unfold stageNoted; try dsimp only
  with_reducible repeat' first
    | exact h | dsimp only | simp only [keeps_mk] | simp only [keepsP_iff] | intro _ _ _ h | intro _ _ h | intro _ h
    | split | assumption

theorem execFaultSumRx_keeps (x_src : Fin 32) (x_w0 : Word) (x__w1 : Word) (s : State) : KeepsO s (execFaultSumRx x_src x_w0 x__w1 s) := by
  unfold execFaultSumRx; try dsimp only
  with_reducible repeat' first
    | exact Keeps.refl s | assumption | apply KeepsO.next | dsimp only | apply remoteSafe_keeps
    | apply stageNoted_keeps | intro _ _ _ _ | intro _ _ _ | intro _ _ | split

theorem execInjFabric_keeps (x_rq : Fin 24) (x_key : BitVec 16) (x_sel : Fin 1024) (s : State) : KeepsO s (execInjFabric x_rq x_key x_sel s) := by
  unfold execInjFabric; try dsimp only
  with_reducible repeat' first
    | exact Keeps.refl s | assumption | apply KeepsO.next | dsimp only | apply injWrite_keeps | apply injFab_keeps
    | intro _ _ _ _ | intro _ _ _ | intro _ _ | split

theorem execInjPair_keeps (x_rq : Fin 24) (x_key : BitVec 16) (x_sel : Fin 1024) (s : State) : KeepsO s (execInjPair x_rq x_key x_sel s) := by
  unfold execInjPair; try dsimp only
  with_reducible repeat' first
    | exact Keeps.refl s | assumption | apply KeepsO.next | dsimp only | apply injWrite_keeps | apply injPair_keeps
    | intro _ _ _ _ | intro _ _ _ | intro _ _ | split

theorem execInjCollectorReg_keeps (x_rq : Fin 24) (x_key : BitVec 16) (x_sel : Fin 1024) (s : State) : KeepsO s (execInjCollectorReg x_rq x_key x_sel s) := by
  unfold execInjCollectorReg; try dsimp only
  with_reducible repeat' first
    | exact Keeps.refl s | assumption | apply KeepsO.next | dsimp only | apply injWrite_keeps | apply injSev_keeps
    | intro _ _ _ _ | intro _ _ _ | intro _ _ | split

theorem execInjLockstep_keeps (x_rq : Fin 24) (x_key : BitVec 16) (x_sel : Fin 1024) (s : State) : KeepsO s (execInjLockstep x_rq x_key x_sel s) := by
  unfold execInjLockstep; try dsimp only
  with_reducible repeat' first
    | exact Keeps.refl s | assumption | apply KeepsO.next | dsimp only | apply injWrite_keeps
    | apply lockstepHalt_keeps | intro _ _ _ _ | intro _ _ _ | intro _ _ | split

theorem execInjHeartbeat_keeps (x_rq : Fin 24) (x_key : BitVec 16) (x_sel : Fin 1024) (s : State) : KeepsO s (execInjHeartbeat x_rq x_key x_sel s) := by
  unfold execInjHeartbeat; try dsimp only
  with_reducible repeat' first
    | exact Keeps.refl s | assumption | apply KeepsO.next | dsimp only | simp only [keeps_mk] | simp only [keepsP_iff]
    | apply injWrite_keeps | intro _ _ _ _ | intro _ _ _ | intro _ _ | split

theorem execFaultForce_keeps (x_rq : Fin 24) (x_key : BitVec 16) (x_sel : Fin 1024) (s : State) : KeepsO s (execFaultForce x_rq x_key x_sel s) := by
  unfold execFaultForce; try dsimp only
  with_reducible repeat' first
    | exact Keeps.refl s | assumption | apply KeepsO.next | dsimp only | apply asCoach_keeps | apply forceCore_keeps
    | intro _ _ _ _ | intro _ _ _ | intro _ _ | split

theorem execLockstepMismatch_keeps (x_e : Fin 4) (s : State) : KeepsO s (execLockstepMismatch x_e s) := by
  unfold execLockstepMismatch; try dsimp only
  with_reducible repeat' first
    | exact Keeps.refl s | assumption | apply KeepsO.next | dsimp only | apply lockstepHalt_keeps | intro _ _ _ _
    | intro _ _ _ | intro _ _ | split

theorem clockMissing_keeps (x_d : ClockDomain) (h : Keeps s t) : Keeps s (clockMissing t x_d) := by
  unfold clockMissing; try dsimp only
  with_reducible repeat' first
    | exact h | dsimp only | simp only [keeps_mk] | simp only [keepsP_iff] | apply raise_keeps | apply clockLost_keeps
    | apply raiseLevel_keeps | split | assumption

theorem execMissingClock_keeps (x_d : ClockDomain) (s : State) : KeepsO s (execMissingClock x_d s) := by
  unfold execMissingClock; try dsimp only
  with_reducible repeat' first
    | exact Keeps.refl s | assumption | apply KeepsO.next | apply KeepsO.ite | apply Keeps.ite | dsimp only
    | apply clockMissing_keeps | apply Keeps.ite1 | intro _ _ _ _ | intro _ _ _ | intro _ _ | split

theorem execLoadWindowEnd_keeps (x_loads : List Nat) (s : State) : KeepsO s (execLoadWindowEnd x_loads s) := by
  unfold execLoadWindowEnd; try dsimp only
  with_reducible repeat' first
    | exact Keeps.refl s | assumption | apply KeepsO.next | dsimp only | apply fmax_keeps | apply fset_keeps
    | apply Keeps.foldl | apply Keeps.foldl1 | intro _ _ _ _ | intro _ _ _ | intro _ _ | split

/-! ### Cmp -/

theorem cmpSetMode_keeps (x_k : Nat) (x_m : Nat) (h : Keeps s t) : Keeps s (cmpSetMode t x_k x_m) := by
  unfold cmpSetMode; try dsimp only
  with_reducible repeat' first
    | exact h | apply Keeps.ite | dsimp only | simp only [keeps_mk] | simp only [keepsP_iff] | apply KeepsP.filter
    | apply Keeps.ite1 | intro _ _ _ h | intro _ _ h | intro _ h | split | assumption

theorem cmpCfgWritten_keeps (x_k : Nat) (h : Keeps s t) : Keeps s (cmpCfgWritten t x_k) := by
  unfold cmpCfgWritten; try dsimp only
  with_reducible repeat' first
    | exact h | apply Keeps.ite | dsimp only | apply cmpSetMode_keeps | apply Keeps.ite1 | split | assumption

theorem cmpCapture_keeps (x_k : Nat) (x_ct : Nat) (h : Keeps s t) : Keeps s (cmpCapture t x_k x_ct) := by
  unfold cmpCapture; try dsimp only
  with_reducible repeat' first
    | exact h | apply Keeps.ite | dsimp only | apply fset_keeps | apply fset64_keeps | apply Keeps.ite1 | split
    | assumption

theorem cmpEvent_keeps (x_k : Nat) (x_ct : Nat) (h : Keeps s t) : Keeps s (cmpEvent t x_k x_ct) := by
  unfold cmpEvent; try dsimp only
  with_reducible repeat' first
    | exact h | apply Keeps.ite | dsimp only | simp only [keeps_mk] | simp only [keepsP_iff] | apply KeepsP.filter
    | apply finc_keeps | apply fset_keeps | apply cmpCapture_keeps | apply trgEvent_keeps | apply raise_keeps
    | apply wakeCause_keeps | apply Keeps.ite1 | split | assumption

theorem cmpQuiet_keeps (x_k : Nat) (h : Keeps s t) : Keeps s (cmpQuiet t x_k) := by
  unfold cmpQuiet; try dsimp only
  with_reducible repeat' first
    | exact h | apply Keeps.ite | dsimp only | apply fset_keeps | apply Keeps.ite1 | split | assumption

theorem cmpSample_keeps (x_k : Nat) (x_ct : Nat) (x_level : Bool) (h : Keeps s t) : Keeps s (cmpSample t x_k x_ct x_level) := by
  unfold cmpSample; try dsimp only
  with_reducible repeat' first
    | exact h | apply Keeps.ite | dsimp only | simp only [keeps_mk] | simp only [keepsP_iff] | apply KeepsP.filter
    | apply fsetB_keeps | apply cmpEvent_keeps | apply cmpQuiet_keeps | apply Keeps.ite1 | split | assumption

theorem cmpTickOne_keeps (x_ct : Nat) (x_levels : Nat) (x_k : Nat) (h : Keeps s t) : Keeps s (cmpTickOne x_ct x_levels t x_k) := by
  unfold cmpTickOne; try dsimp only
  with_reducible repeat' first
    | exact h | apply Keeps.ite | dsimp only | simp only [keeps_mk] | simp only [keepsP_iff] | apply KeepsP.filter
    | apply cmpSetMode_keeps | apply cmpSample_keeps | apply cmpQuiet_keeps | apply Keeps.ite1 | split | assumption

theorem cmpFail_keeps (x_c : Nat) (h : Keeps s t) : Keeps s (cmpFail t x_c) := by
  unfold cmpFail; try dsimp only
  with_reducible repeat' first | exact h | dsimp only | apply raise_keeps | apply fset_keeps | split | assumption

theorem cmpMismatch_keeps (x_c : Nat) (h : Keeps s t) : Keeps s (cmpMismatch t x_c) := by
  unfold cmpMismatch; try dsimp only
  with_reducible repeat' first
    | exact h | apply Keeps.ite | dsimp only | simp only [keeps_mk] | simp only [keepsP_iff] | apply cmpFail_keeps
    | apply Keeps.ite1 | split | assumption

theorem cmpMissClear_keeps (x_c : Nat) (h : Keeps s t) : Keeps s (cmpMissClear t x_c) := by
  unfold cmpMissClear; try dsimp only
  with_reducible repeat' first
    | exact h | dsimp only | simp only [keeps_mk] | simp only [keepsP_iff] | apply KeepsP.filter | split | assumption

theorem execCmpOutputEdge_keeps (x_k : Fin 16) (x_level : Bool) (s : State) : KeepsO s (execCmpOutputEdge x_k x_level s) := by
  unfold execCmpOutputEdge; try dsimp only
  with_reducible repeat' first
    | exact Keeps.refl s | assumption | apply KeepsO.next | apply KeepsO.ite | apply Keeps.ite | dsimp only
    | apply fsetB_keeps | apply cmpEvent_keeps | apply Keeps.ite1 | intro _ _ _ _ | intro _ _ _ | intro _ _ | split

theorem execCmpTick_keeps (x_work : Nat) (x_levels : BitVec 16) (s : State) : KeepsO s (execCmpTick x_work x_levels s) := by
  unfold execCmpTick; try dsimp only
  with_reducible repeat' first
    | exact Keeps.refl s | assumption | apply KeepsO.next | apply KeepsO.ite | apply Keeps.ite | dsimp only
    | apply frameBegin_keeps | apply cmpTickOne_keeps | apply Keeps.ite1 | apply Keeps.foldl | apply Keeps.foldl1
    | intro _ _ _ _ | intro _ _ _ | intro _ _ | split

theorem execCmpCapRead_keeps (x_rq : Fin 24) (x_k : Fin 16) (s : State) : KeepsO s (execCmpCapRead x_rq x_k s) := by
  unfold execCmpCapRead; try dsimp only
  with_reducible repeat' first
    | exact Keeps.refl s | assumption | apply KeepsO.next | dsimp only | apply asCoach_keeps | apply fset_keeps
    | apply snapPut_keeps | intro _ _ _ _ | intro _ _ _ | intro _ _ | split

theorem execCmpSwapCheck_keeps (x_cmp : Fin 128) (x_differs : Bool) (s : State) : KeepsO s (execCmpSwapCheck x_cmp x_differs s) := by
  unfold execCmpSwapCheck; try dsimp only
  with_reducible repeat' first
    | exact Keeps.refl s | assumption | apply KeepsO.next | apply KeepsO.ite | apply Keeps.ite | dsimp only
    | apply cmpFail_keeps | apply cmpMismatch_keeps | apply cmpMissClear_keeps | apply Keeps.ite1 | intro _ _ _ _
    | intro _ _ _ | intro _ _ | split

theorem execCmpTieCheck_keeps (x_cmp : Fin 128) (x_wrong : Bool) (s : State) : KeepsO s (execCmpTieCheck x_cmp x_wrong s) := by
  unfold execCmpTieCheck; try dsimp only
  with_reducible repeat' first
    | exact Keeps.refl s | assumption | apply KeepsO.next | apply KeepsO.ite | apply Keeps.ite | dsimp only
    | apply cmpFail_keeps | apply Keeps.ite1 | intro _ _ _ _ | intro _ _ _ | intro _ _ | split

theorem dacReadback_keeps (x_dac : Nat) (x_code : Nat) (x_expected : Nat) (h : Keeps s t) : Keeps s (dacReadback t x_dac x_code x_expected) := by
  unfold dacReadback; try dsimp only
  with_reducible repeat' first
    | exact h | apply Keeps.ite | dsimp only | simp only [keeps_mk] | simp only [keepsP_iff] | apply KeepsP.filter
    | apply raise_keeps | apply fset_keeps | apply Keeps.ite1 | split | assumption

theorem execCmpReadback_keeps (x_dac : Fin 176) (x_code : Nat) (x_expected : Nat) (s : State) : KeepsO s (execCmpReadback x_dac x_code x_expected s) := by
  unfold execCmpReadback; try dsimp only
  with_reducible repeat' first
    | exact Keeps.refl s | assumption | apply KeepsO.next | apply KeepsO.ite | apply Keeps.ite | dsimp only
    | apply dacReadback_keeps | apply Keeps.ite1 | intro _ _ _ _ | intro _ _ _ | intro _ _ | split

theorem execCmpRbStall_keeps (s : State) : KeepsO s (execCmpRbStall s) := by
  unfold execCmpRbStall; try dsimp only
  with_reducible repeat' first
    | exact Keeps.refl s | assumption | apply KeepsO.next | apply KeepsO.ite | apply Keeps.ite | dsimp only
    | apply raise_keeps | apply Keeps.ite1 | intro _ _ _ _ | intro _ _ _ | intro _ _ | split

/-! ### Night -/

theorem toEvening_keeps (h : Keeps s t) : Keeps s (toEvening t) := by
  unfold toEvening; try dsimp only
  with_reducible repeat' first
    | exact h | apply Keeps.ite | dsimp only | simp only [keeps_mk] | simp only [keepsP_iff] | apply setStage_keeps
    | apply seqTrigger_keeps | apply setShedLevel_keeps | apply Keeps.ite1 | split | assumption

theorem reqEvening_keeps (h : Keeps s t) : Keeps s ((reqEvening t).1) := by
  unfold reqEvening; try dsimp only
  with_reducible repeat' first
    | exact h | apply Keeps.ite | dsimp only | apply toEvening_keeps | apply Keeps.ite1 | split | assumption

theorem setRate_keeps (x_ct : Nat) (h : Keeps s t) : Keeps s (setRate t x_ct) := by
  unfold setRate; try dsimp only
  with_reducible repeat' first
    | exact h | dsimp only | simp only [keeps_mk] | simp only [keepsP_iff] | split | assumption

theorem reqNight_keeps (h : Keeps s t) : Keeps s ((reqNight t).1) := by
  unfold reqNight; try dsimp only
  with_reducible repeat' first
    | exact h | apply Keeps.ite | dsimp only | apply send_keeps | apply setRate_keeps | apply Keeps.ite1 | split
    | assumption

theorem reqNoon_keeps (h : Keeps s t) : Keeps s ((reqNoon t).1) := by
  unfold reqNoon; try dsimp only
  with_reducible repeat' first
    | exact h | apply Keeps.ite | dsimp only | apply eveningToNoon_keeps | apply wakeCause_keeps | apply Keeps.ite1
    | split | assumption

theorem byPort_keeps (x_rq : Nat) (x_a : Nat) (x_f : State → State × Nat)
    (hf_f : ∀ y0, Keeps s y0 → Keeps s ((x_f y0).1)) (h : Keeps s t) : Keeps s (byPort t x_rq x_a x_f) := by
  unfold byPort; try dsimp only
  with_reducible repeat' first
    | exact h | dsimp only | apply asCoach_keeps | apply hf_f | intro _ _ _ h | intro _ _ h | intro _ h | split
    | assumption

theorem nightEngines_keeps (h : Keeps s t) : Keeps s (nightEngines t) := by
  unfold nightEngines; try dsimp only
  with_reducible repeat' first
    | exact h | apply Keeps.ite | dsimp only | apply fset_keeps | apply Keeps.ite1 | split | assumption

theorem portNight_keeps (x_p : Nat) (h : Keeps s t) : Keeps s (portNight t x_p) := by
  unfold portNight; try dsimp only
  with_reducible repeat' first
    | exact h | apply Keeps.ite | dsimp only | apply fset_keeps | apply Keeps.ite1 | split | assumption

theorem loopNight_keeps (x_n : Nat) (h : Keeps s t) : Keeps s (loopNight t x_n) := by
  unfold loopNight; try dsimp only
  with_reducible repeat' first
    | exact h | apply Keeps.ite | dsimp only | apply loopOff_keeps | apply fset_keeps | apply Keeps.ite1 | split
    | assumption

theorem enterNight_keeps (h : Keeps s t) : Keeps s (enterNight t) := by
  unfold enterNight; try dsimp only
  with_reducible repeat' first
    | exact h | apply Keeps.ite | dsimp only | simp only [keeps_mk] | simp only [keepsP_iff] | apply portNight_keeps
    | apply fset_keeps | apply setStage_keeps | apply setShedLevel_keeps | apply loopNight_keeps
    | apply pdDisable_keeps | apply adcDown_keeps | apply seqTrigger_keeps | apply nightEngines_keeps
    | apply wireNightStop_keeps | apply Keeps.ite1 | apply Keeps.foldl | apply Keeps.foldl1 | intro _ _ _ h
    | intro _ _ h | intro _ h | split | assumption

theorem wakeHeld_keeps (h : Keeps s t) : Keeps s (wakeHeld t) := by
  unfold wakeHeld; try dsimp only
  with_reducible repeat' first
    | exact h | dsimp only | simp only [keeps_mk] | simp only [keepsP_iff] | apply wakeNight_keeps | split
    | assumption

theorem scanChannel_keeps (x_e : Fin 64 × Int × Int) (h : Keeps s t) : Keeps s (scanChannel t x_e) := by
  unfold scanChannel; try dsimp only
  with_reducible repeat' first
    | exact h | apply Keeps.ite | dsimp only | apply adcForward_keeps | apply Keeps.ite1 | split | assumption

theorem scanAmbient_keeps (x_e : Fin 256 × Int) (h : Keeps s t) : Keeps s (scanAmbient t x_e) := by
  unfold scanAmbient; try dsimp only
  with_reducible repeat' first
    | exact h | apply Keeps.ite | dsimp only | apply adcAmbients_keeps | apply adcPut_keeps | apply Keeps.ite1 | split
    | assumption

theorem beaconNote_keeps (x_src : Nat) (x_bseq : Nat) (h : Keeps s t) : Keeps s (beaconNote t x_src x_bseq) := by
  unfold beaconNote; try dsimp only
  with_reducible repeat' first
    | exact h | dsimp only | simp only [keeps_mk] | simp only [keepsP_iff] | intro _ _ _ h | intro _ _ h | intro _ h
    | split | assumption

theorem beaconRx_keeps (x_p : Nat) (x_b : Beacon) (x_f : State → State)
    (hf_f : ∀ y0, Keeps s y0 → Keeps s (x_f y0)) (h : Keeps s t) : Keeps s (beaconRx t x_p x_b x_f) := by
  unfold beaconRx; try dsimp only
  with_reducible repeat' first
    | exact h | apply Keeps.ite | dsimp only | simp only [keeps_mk] | simp only [keepsP_iff] | apply beaconNote_keeps
    | apply setPortQ_keeps | apply hf_f | apply Keeps.ite1 | intro _ _ _ h | intro _ _ h | intro _ h | split
    | assumption

theorem beaconTime_keeps (x_p : Nat) (x_ct : Nat) (h : Keeps s t) : Keeps s (beaconTime t x_p x_ct) := by
  unfold beaconTime; try dsimp only
  with_reducible repeat' first
    | exact h | apply Keeps.ite | dsimp only | simp only [keeps_mk] | simp only [keepsP_iff] | apply fset_keeps
    | apply timeStep_keeps | apply Keeps.ite1 | split | assumption

theorem wakeUp_keeps (h : Keeps s t) : Keeps s (wakeUp t) := by
  unfold wakeUp; try dsimp only
  with_reducible repeat' first
    | exact h | apply Keeps.ite | dsimp only | simp only [keeps_mk] | simp only [keepsP_iff] | apply portWake_keeps
    | apply fset_keeps | apply adcUp_keeps | apply pdEnable_keeps | apply seqTrigger_keeps | apply setShedLevel_keeps
    | apply setStage_keeps | apply Keeps.ite1 | apply Keeps.foldl | apply Keeps.foldl1 | intro _ _ _ h | intro _ _ h
    | intro _ h | split | assumption

theorem almFire_keeps (x_k : Nat) (h : Keeps s t) : Keeps s (almFire t x_k) := by
  unfold almFire; try dsimp only
  with_reducible repeat' first
    | exact h | apply Keeps.ite | dsimp only | apply fset_keeps | apply ponAssert_keeps | apply wakeCause_keeps
    | apply Keeps.ite1 | split | assumption

theorem almCheck_keeps (x_k : Nat) (h : Keeps s t) : Keeps s (almCheck t x_k) := by
  unfold almCheck; try dsimp only
  with_reducible repeat' first
    | exact h | apply Keeps.ite | dsimp only | apply almFire_keeps | apply Keeps.ite1 | split | assumption

theorem rtcTick_keeps (h : Keeps s t) : Keeps s (rtcTick t) := by
  unfold rtcTick; try dsimp only
  with_reducible repeat' first
    | exact h | apply Keeps.ite | dsimp only | simp only [keeps_mk] | simp only [keepsP_iff] | apply fset_keeps
    | apply almCheck_keeps | apply rtcPut_keeps | apply Keeps.ite1 | split | assumption

theorem rtcTimeSet_keeps (x_w : Nat) (h : Keeps s t) : Keeps s ((rtcTimeSet t x_w).1) := by
  unfold rtcTimeSet; try dsimp only
  with_reducible repeat' first
    | exact h | apply Keeps.ite | dsimp only | simp only [keeps_mk] | simp only [keepsP_iff] | apply fset_keeps
    | apply rtcPut_keeps | apply Keeps.ite1 | split | assumption

theorem almSkip_keeps (x_old : Nat) (x_k : Nat) (h : Keeps s t) : Keeps s (almSkip t x_old x_k) := by
  unfold almSkip; try dsimp only
  with_reducible repeat' first
    | exact h | apply Keeps.ite | dsimp only | apply almFire_keeps | apply Keeps.ite1 | intro _ _ _ h | intro _ _ h
    | intro _ h | split | assumption

theorem rtcAddHour_keeps (h : Keeps s t) : Keeps s ((rtcAddHour t).1) := by
  unfold rtcAddHour; try dsimp only
  with_reducible repeat' first
    | exact h | apply Keeps.ite | dsimp only | apply almSkip_keeps | apply fset_keeps | apply rtcPut_keeps
    | apply Keeps.ite1 | split | assumption

theorem rtcSubHour_keeps (h : Keeps s t) : Keeps s ((rtcSubHour t).1) := by
  unfold rtcSubHour; try dsimp only
  with_reducible repeat' first
    | exact h | apply Keeps.ite | dsimp only | apply fset_keeps | apply rtcPut_keeps | apply Keeps.ite1 | split
    | assumption

theorem almWrite_keeps (x_k : Nat) (x_w : Nat) (h : Keeps s t) : Keeps s ((almWrite t x_k x_w).1) := by
  unfold almWrite; try dsimp only
  with_reducible repeat' first
    | exact h | apply Keeps.ite | dsimp only | apply fset_keeps | apply Keeps.ite1 | split | assumption

theorem execPwrReqEvening_keeps (x_rq : Fin 24) (s : State) : KeepsO s (execPwrReqEvening x_rq s) := by
  unfold execPwrReqEvening; try dsimp only
  with_reducible repeat' first
    | exact Keeps.refl s | assumption | apply KeepsO.next | dsimp only | apply byPort_keeps | apply reqEvening_keeps
    | intro _ _ _ _ | intro _ _ _ | intro _ _ | split

theorem execPwrReqNight_keeps (x_rq : Fin 24) (s : State) : KeepsO s (execPwrReqNight x_rq s) := by
  unfold execPwrReqNight; try dsimp only
  with_reducible repeat' first
    | exact Keeps.refl s | assumption | apply KeepsO.next | dsimp only | apply byPort_keeps | apply reqNight_keeps
    | intro _ _ _ _ | intro _ _ _ | intro _ _ | split

theorem execPwrReqNoon_keeps (x_rq : Fin 24) (s : State) : KeepsO s (execPwrReqNoon x_rq s) := by
  unfold execPwrReqNoon; try dsimp only
  with_reducible repeat' first
    | exact Keeps.refl s | assumption | apply KeepsO.next | dsimp only | apply byPort_keeps | apply reqNoon_keeps
    | intro _ _ _ _ | intro _ _ _ | intro _ _ | split

theorem execRateRx_keeps (x_night : Bool) (x_ct : BitVec 64) (s : State) : KeepsO s (execRateRx x_night x_ct s) := by
  unfold execRateRx; try dsimp only
  with_reducible repeat' first
    | exact Keeps.refl s | assumption | apply KeepsO.next | apply KeepsO.ite | apply Keeps.ite | dsimp only
    | apply byEngine_keeps | apply setRate_keeps | apply Keeps.ite1 | intro _ _ _ _ | intro _ _ _ | intro _ _ | split

theorem execNightEntry_keeps (s : State) : KeepsO s (execNightEntry s) := by
  unfold execNightEntry; try dsimp only
  with_reducible repeat' first
    | exact Keeps.refl s | assumption | apply KeepsO.next | apply KeepsO.ite | apply Keeps.ite | dsimp only
    | simp only [keeps_mk] | simp only [keepsP_iff] | apply wakeHeld_keeps | apply enterNight_keeps
    | apply passTo_keeps | apply Keeps.ite1 | intro _ _ _ _ | intro _ _ _ | intro _ _ | split

theorem execNightScan_keeps (x_chans : List (Fin 64 × Int × Int)) (x_ambs : List (Fin 256 × Int)) (x_dac : Fin 176) (x_code : Nat) (x_expected : Nat) (s : State) : KeepsO s (execNightScan x_chans x_ambs x_dac x_code x_expected s) := by
  unfold execNightScan; try dsimp only
  with_reducible repeat' first
    | exact Keeps.refl s | assumption | apply KeepsO.next | apply KeepsO.ite | apply Keeps.ite | dsimp only
    | apply dacReadback_keeps | apply scanAmbient_keeps | apply scanChannel_keeps | apply Keeps.ite1
    | apply Keeps.foldl | apply Keeps.foldl1 | intro _ _ _ _ | intro _ _ _ | intro _ _ | split

theorem execItinWake_keeps (s : State) : KeepsO s (execItinWake s) := by
  unfold execItinWake; try dsimp only
  with_reducible repeat' first
    | exact Keeps.refl s | assumption | apply KeepsO.next | apply KeepsO.ite | apply Keeps.ite | dsimp only
    | simp only [keeps_mk] | simp only [keepsP_iff] | apply passTo_keeps | apply wakeCause_keeps | apply Keeps.ite1
    | apply Keeps.foldl | apply Keeps.foldl1 | intro _ _ _ _ | intro _ _ _ | intro _ _ | split

theorem execBeaconHelloSend_keeps (s : State) : KeepsO s (execBeaconHelloSend s) := by
  unfold execBeaconHelloSend; try dsimp only
  with_reducible repeat' first
    | exact Keeps.refl s | assumption | apply KeepsO.next | apply KeepsO.ite | apply Keeps.ite | dsimp only
    | apply byEngine_keeps | apply sendBeacon_keeps | apply Keeps.ite1 | intro _ _ _ _ | intro _ _ _ | intro _ _
    | split

theorem execBeaconTimeSend_keeps (s : State) : KeepsO s (execBeaconTimeSend s) := by
  unfold execBeaconTimeSend; try dsimp only
  with_reducible repeat' first
    | exact Keeps.refl s | assumption | apply KeepsO.next | apply KeepsO.ite | apply Keeps.ite | dsimp only
    | apply byEngine_keeps | apply sendBeacon_keeps | apply Keeps.ite1 | intro _ _ _ _ | intro _ _ _ | intro _ _
    | split

theorem execBeaconFaultSend_keeps (s : State) : KeepsO s (execBeaconFaultSend s) := by
  unfold execBeaconFaultSend; try dsimp only
  with_reducible repeat' first
    | exact Keeps.refl s | assumption | apply KeepsO.next | apply KeepsO.ite | apply Keeps.ite | dsimp only
    | apply sendBeacon_keeps | apply Keeps.ite1 | intro _ _ _ _ | intro _ _ _ | intro _ _ | split

theorem execBeaconRxWake_keeps (x_p : Fin 2) (x_src : Fin 32) (x_bseq : BitVec 8) (x_cause : BitVec 8) (s : State) : KeepsO s (execBeaconRxWake x_p x_src x_bseq x_cause s) := by
  unfold execBeaconRxWake; try dsimp only
  with_reducible repeat' first
    | exact Keeps.refl s | assumption | apply KeepsO.next | apply KeepsO.ite | apply Keeps.ite | dsimp only
    | apply beaconRx_keeps | apply wakeNight_keeps | apply Keeps.ite1 | intro _ _ _ _ | intro _ _ _ | intro _ _
    | split

theorem execBeaconRxFault_keeps (x_p : Fin 2) (x_src : Fin 32) (x_bseq : BitVec 8) (x_w0 : Word) (x_w1 : Word) (s : State) : KeepsO s (execBeaconRxFault x_p x_src x_bseq x_w0 x_w1 s) := by
  unfold execBeaconRxFault; try dsimp only
  with_reducible repeat' first
    | exact Keeps.refl s | assumption | apply KeepsO.next | dsimp only | apply beaconRx_keeps | apply remoteSafe_keeps
    | intro _ _ _ _ | intro _ _ _ | intro _ _ | split

theorem execBeaconRxTime_keeps (x_p : Fin 2) (x_src : Fin 32) (x_bseq : BitVec 8) (x_ct : BitVec 64) (s : State) : KeepsO s (execBeaconRxTime x_p x_src x_bseq x_ct s) := by
  unfold execBeaconRxTime; try dsimp only
  with_reducible repeat' first
    | exact Keeps.refl s | assumption | apply KeepsO.next | dsimp only | apply byEngine_keeps | apply beaconRx_keeps
    | apply beaconTime_keeps | intro _ _ _ _ | intro _ _ _ | intro _ _ | split

theorem execBeaconRxHello_keeps (x_p : Fin 2) (x__src : Fin 32) (x_addr : Fin 32) (x__gen : BitVec 8) (s : State) : KeepsO s (execBeaconRxHello x_p x__src x_addr x__gen s) := by
  unfold execBeaconRxHello; try dsimp only
  with_reducible repeat' first
    | exact Keeps.refl s | assumption | apply KeepsO.next | apply KeepsO.ite | apply Keeps.ite | dsimp only
    | apply byEngine_keeps | apply fset_keeps | apply Keeps.ite1 | intro _ _ _ _ | intro _ _ _ | intro _ _ | split

theorem execWakeToNoon_keeps (s : State) : KeepsO s (execWakeToNoon s) := by
  unfold execWakeToNoon; try dsimp only
  with_reducible repeat' first
    | exact Keeps.refl s | assumption | apply KeepsO.next | apply KeepsO.ite | apply Keeps.ite | dsimp only
    | apply wakeUp_keeps | apply Keeps.ite1 | intro _ _ _ _ | intro _ _ _ | intro _ _ | split

theorem execRtcSecond_keeps (s : State) : KeepsO s (execRtcSecond s) := by
  unfold execRtcSecond; try dsimp only
  with_reducible repeat' first
    | exact Keeps.refl s | assumption | apply KeepsO.next | apply KeepsO.ite | apply Keeps.ite | dsimp only
    | apply rtcTick_keeps | apply Keeps.ite1 | intro _ _ _ _ | intro _ _ _ | intro _ _ | split

theorem execRtcTimeWrite_keeps (x_rq : Fin 24) (x_w : Word) (s : State) : KeepsO s (execRtcTimeWrite x_rq x_w s) := by
  unfold execRtcTimeWrite; try dsimp only
  with_reducible repeat' first
    | exact Keeps.refl s | assumption | apply KeepsO.next | dsimp only | apply byPort_keeps | apply rtcTimeSet_keeps
    | intro _ _ _ _ | intro _ _ _ | intro _ _ | split

theorem execRtcDateWrite_keeps (x_rq : Fin 24) (x_w : Word) (s : State) : KeepsO s (execRtcDateWrite x_rq x_w s) := by
  unfold execRtcDateWrite; try dsimp only
  with_reducible repeat' first
    | exact Keeps.refl s | assumption | apply KeepsO.next | dsimp only | simp only [keeps_mk] | simp only [keepsP_iff]
    | apply byPort_keeps | intro _ _ _ _ | intro _ _ _ | intro _ _ | split

theorem rtcSnap_keeps (x_rq : Nat) (h : Keeps s t) : Keeps s (rtcSnap t x_rq) := by
  unfold rtcSnap; try dsimp only
  with_reducible repeat' first | exact h | dsimp only | apply snapPut_keeps | split | assumption

theorem execRtcTimeRead_keeps (x_rq : Fin 24) (s : State) : KeepsO s (execRtcTimeRead x_rq s) := by
  unfold execRtcTimeRead; try dsimp only
  with_reducible repeat' first
    | exact Keeps.refl s | assumption | apply KeepsO.next | dsimp only | apply asCoach_keeps | apply rtcSnap_keeps
    | intro _ _ _ _ | intro _ _ _ | intro _ _ | split

theorem execRtcAddHour_keeps (x_rq : Fin 24) (s : State) : KeepsO s (execRtcAddHour x_rq s) := by
  unfold execRtcAddHour; try dsimp only
  with_reducible repeat' first
    | exact Keeps.refl s | assumption | apply KeepsO.next | dsimp only | apply byPort_keeps | apply rtcAddHour_keeps
    | intro _ _ _ _ | intro _ _ _ | intro _ _ | split

theorem execRtcSubtractHour_keeps (x_rq : Fin 24) (s : State) : KeepsO s (execRtcSubtractHour x_rq s) := by
  unfold execRtcSubtractHour; try dsimp only
  with_reducible repeat' first
    | exact Keeps.refl s | assumption | apply KeepsO.next | dsimp only | apply byPort_keeps | apply rtcSubHour_keeps
    | intro _ _ _ _ | intro _ _ _ | intro _ _ | split

theorem execRtcAlmWrite_keeps (x_rq : Fin 24) (x_k : Fin 2) (x_w : Word) (s : State) : KeepsO s (execRtcAlmWrite x_rq x_k x_w s) := by
  unfold execRtcAlmWrite; try dsimp only
  with_reducible repeat' first
    | exact Keeps.refl s | assumption | apply KeepsO.next | dsimp only | apply byPort_keeps | apply almWrite_keeps
    | intro _ _ _ _ | intro _ _ _ | intro _ _ | split

theorem execPonAssert_keeps (x_rq : Fin 24) (s : State) : KeepsO s (execPonAssert x_rq s) := by
  unfold execPonAssert; try dsimp only
  with_reducible repeat' first
    | exact Keeps.refl s | assumption | apply KeepsO.next | dsimp only | apply byPort_keeps | apply ponAssert_keeps
    | intro _ _ _ _ | intro _ _ _ | intro _ _ | split

theorem execPonRelease_keeps (x_rq : Fin 24) (s : State) : KeepsO s (execPonRelease x_rq s) := by
  unfold execPonRelease; try dsimp only
  with_reducible repeat' first
    | exact Keeps.refl s | assumption | apply KeepsO.next | dsimp only | apply byPort_keeps | apply fset_keeps
    | intro _ _ _ _ | intro _ _ _ | intro _ _ | split

theorem execPonPulseExpiry_keeps (s : State) : KeepsO s (execPonPulseExpiry s) := by
  unfold execPonPulseExpiry; try dsimp only
  with_reducible repeat' first
    | exact Keeps.refl s | assumption | apply KeepsO.next | apply KeepsO.ite | apply Keeps.ite | dsimp only
    | apply fset_keeps | apply Keeps.ite1 | intro _ _ _ _ | intro _ _ _ | intro _ _ | split

/-! ### JournalRing -/

theorem jrnlOldest_keeps (h : Keeps s t) : Keeps s (jrnlOldest t) := by
  unfold jrnlOldest; try dsimp only
  with_reducible repeat' first
    | exact h | dsimp only | simp only [keeps_mk] | simp only [keepsP_iff] | apply KeepsP.filter | apply fset64_keeps
    | apply Keeps.foldl | apply Keeps.foldl1 | intro _ _ _ h | intro _ _ h | intro _ h | split | assumption

theorem jrnlStart_keeps (h : Keeps s t) : Keeps s (jrnlStart t) := by
  unfold jrnlStart; try dsimp only
  with_reducible repeat' first
    | exact h | apply Keeps.ite | dsimp only | simp only [keeps_mk] | simp only [keepsP_iff] | apply fset_keeps
    | apply Keeps.ite1 | split | assumption

theorem jrnlNoDev_keeps (h : Keeps s t) : Keeps s (jrnlNoDev t) := by
  unfold jrnlNoDev; try dsimp only
  with_reducible repeat' first
    | exact h | dsimp only | simp only [keeps_mk] | simp only [keepsP_iff] | apply fset_keeps | split | assumption

theorem eraseAhead_keeps (h : Keeps s t) : Keeps s (eraseAhead t) := by
  unfold eraseAhead; try dsimp only
  with_reducible repeat' first
    | exact h | apply Keeps.ite | dsimp only | simp only [keeps_mk] | simp only [keepsP_iff] | apply Keeps.ite1
    | split | assumption

theorem ringAdvance_keeps (h : Keeps s t) : Keeps s (ringAdvance t) := by
  unfold ringAdvance; try dsimp only
  with_reducible repeat' first
    | exact h | apply Keeps.ite | dsimp only | simp only [keeps_mk] | simp only [keepsP_iff] | apply Keeps.ite1
    | split | assumption

theorem jrnlReady_keeps (h : Keeps s t) : Keeps s (jrnlReady t) := by
  unfold jrnlReady; try dsimp only
  with_reducible repeat' first
    | exact h | dsimp only | simp only [keeps_mk] | simp only [keepsP_iff] | apply ringAdvance_keeps
    | apply fset64_keeps | apply jrnlFill_keeps | apply eraseAhead_keeps | apply jrnlOldest_keeps | apply fset_keeps
    | split | assumption

theorem jrnlScanned_keeps (x_answers : Bool) (x_page4k : Bool) (x_ppb128 : Bool) (x_blocks : Nat) (x_bad : List Nat) (h : Keeps s t) : Keeps s (jrnlScanned t x_answers x_page4k x_ppb128 x_blocks x_bad) := by
  unfold jrnlScanned; try dsimp only
  with_reducible repeat' first
    | exact h | apply Keeps.ite | dsimp only | simp only [keeps_mk] | simp only [keepsP_iff] | apply KeepsP.filter
    | apply fset_keeps | apply fsetB_keeps | apply jrnlNoDev_keeps | apply jrnlReady_keeps | apply Keeps.ite1
    | intro _ _ _ h | intro _ _ h | intro _ h | split | assumption

theorem pageTear_keeps (h : Keeps s t) : Keeps s (pageTear t) := by
  unfold pageTear; try dsimp only
  with_reducible repeat' first
    | exact h | apply Keeps.ite | dsimp only | simp only [keeps_mk] | simp only [keepsP_iff] | apply Keeps.ite1
    | intro _ _ _ h | intro _ _ h | intro _ h | split | assumption

theorem jrnlReinit_keeps (h : Keeps s t) : Keeps s (jrnlReinit t) := by
  unfold jrnlReinit; try dsimp only
  with_reducible repeat' first
    | exact h | apply Keeps.ite | dsimp only | simp only [keeps_mk] | simp only [keepsP_iff] | apply targetReset_keeps
    | apply pageTear_keeps | apply fset_keeps | apply complete_keeps | apply Keeps.ite1 | split | assumption

theorem markBad_keeps (x_b : Nat) (h : Keeps s t) : Keeps s (markBad t x_b) := by
  unfold markBad; try dsimp only
  with_reducible repeat' first
    | exact h | apply Keeps.ite | dsimp only | simp only [keeps_mk] | simp only [keepsP_iff] | apply fset_keeps
    | apply jrnlNoDev_keeps | apply jrnlOldest_keeps | apply ringAdvance_keeps | apply Keeps.ite1 | split | assumption

theorem jrnlFail_keeps (x_b : Nat) (h : Keeps s t) : Keeps s (jrnlFail t x_b) := by
  unfold jrnlFail; try dsimp only
  with_reducible repeat' first
    | exact h | apply Keeps.ite | dsimp only | simp only [keeps_mk] | simp only [keepsP_iff] | apply markBad_keeps
    | apply jrnlReinit_keeps | apply eraseAhead_keeps | apply Keeps.ite1 | split | assumption

theorem pageStored_keeps (h : Keeps s t) : Keeps s (pageStored t) := by
  unfold pageStored; try dsimp only
  with_reducible repeat' first
    | exact h | apply Keeps.ite | dsimp only | simp only [keeps_mk] | simp only [keepsP_iff] | apply ringAdvance_keeps
    | apply fset64_keeps | apply jrnlOldest_keeps | apply eraseAhead_keeps | apply Keeps.ite1 | intro _ _ _ h
    | intro _ _ h | intro _ h | split | assumption

theorem pageProgram_keeps (h : Keeps s t) : Keeps s (pageProgram t) := by
  unfold pageProgram; try dsimp only
  with_reducible repeat' first
    | exact h | apply Keeps.ite | dsimp only | simp only [keeps_mk] | simp only [keepsP_iff] | apply jrnlFill_keeps
    | apply Keeps.ite1 | split | assumption

theorem skipAdd_keeps (x_n : Nat) (h : Keeps s t) : Keeps s (skipAdd t x_n) := by
  unfold skipAdd; try dsimp only
  with_reducible repeat' first | exact h | dsimp only | apply fset_keeps | split | assumption

theorem ringRead_keeps (x_q : Nat) (h : Keeps s t) : Keeps s (ringRead t x_q) := by
  unfold ringRead; try dsimp only
  with_reducible repeat' first
    | exact h | apply Keeps.ite | dsimp only | simp only [keeps_mk] | simp only [keepsP_iff] | apply fset_keeps
    | apply skipAdd_keeps | apply fset64_keeps | apply Keeps.ite1 | apply Keeps.foldl | apply Keeps.foldl1
    | intro _ _ _ h | intro _ _ h | intro _ h | split | assumption

theorem blockDone_keeps (h : Keeps s t) : Keeps s (blockDone t) := by
  unfold blockDone; try dsimp only
  with_reducible repeat' first
    | exact h | dsimp only | simp only [keeps_mk] | simp only [keepsP_iff] | apply KeepsP.filter
    | apply jrnlOldest_keeps | intro _ _ _ h | intro _ _ h | intro _ h | split | assumption

theorem jrnlCtl_keeps (x_rq : Nat) (x_key : Nat) (x_f : State → State × Nat)
    (hf_f : ∀ y0, Keeps s y0 → Keeps s ((x_f y0).1)) (h : Keeps s t) : Keeps s (jrnlCtl t x_rq x_key x_f) := by
  unfold jrnlCtl; try dsimp only
  with_reducible repeat' first
    | exact h | apply Keeps.ite | dsimp only | apply asCoach_keeps | apply hf_f | apply Keeps.ite1 | intro _ _ _ h
    | intro _ _ h | intro _ h | split | assumption

theorem jrnlFlush_keeps (h : Keeps s t) : Keeps s ((jrnlFlush t).1) := by
  unfold jrnlFlush; try dsimp only
  with_reducible repeat' first
    | exact h | apply Keeps.ite | dsimp only | simp only [keeps_mk] | simp only [keepsP_iff] | apply Keeps.ite1
    | split | assumption

theorem jrnlReinitCmd_keeps (h : Keeps s t) : Keeps s ((jrnlReinitCmd t).1) := by
  unfold jrnlReinitCmd; try dsimp only
  with_reducible repeat' first
    | exact h | apply Keeps.ite | dsimp only | apply jrnlReinit_keeps | apply Keeps.ite1 | split | assumption

theorem jrnlReadCmd_keeps (h : Keeps s t) : Keeps s ((jrnlReadCmd t).1) := by
  unfold jrnlReadCmd; try dsimp only
  with_reducible repeat' first
    | exact h | apply Keeps.ite | dsimp only | simp only [keeps_mk] | simp only [keepsP_iff] | apply fset_keeps
    | apply Keeps.ite1 | split | assumption

theorem execJournalScanDone_keeps (x_answers : Bool) (x_page4k : Bool) (x_ppb128 : Bool) (x_blocks : Nat) (x_bad : List Nat) (s : State) : KeepsO s (execJournalScanDone x_answers x_page4k x_ppb128 x_blocks x_bad s) := by
  unfold execJournalScanDone; try dsimp only
  with_reducible repeat' first
    | exact Keeps.refl s | assumption | apply KeepsO.next | apply KeepsO.ite | apply Keeps.ite | dsimp only
    | apply jrnlScanned_keeps | apply targetBack_keeps | apply Keeps.ite1 | intro _ _ _ _ | intro _ _ _ | intro _ _
    | split

theorem execJournalRepeatWindowClose_keeps (s : State) : KeepsO s (execJournalRepeatWindowClose s) := by
  unfold execJournalRepeatWindowClose; try dsimp only
  with_reducible repeat' first
    | exact Keeps.refl s | assumption | apply KeepsO.next | dsimp only | simp only [keeps_mk] | simp only [keepsP_iff]
    | apply jrnlFill_keeps | intro _ _ _ _ | intro _ _ _ | intro _ _ | split

theorem execJournalFlushTimer_keeps (s : State) : KeepsO s (execJournalFlushTimer s) := by
  unfold execJournalFlushTimer; try dsimp only
  with_reducible repeat' first
    | exact Keeps.refl s | assumption | apply KeepsO.next | dsimp only | apply jrnlFlush_keeps | intro _ _ _ _
    | intro _ _ _ | intro _ _ | split

theorem execJournalPageProgram_keeps (s : State) : KeepsO s (execJournalPageProgram s) := by
  unfold execJournalPageProgram; try dsimp only
  with_reducible repeat' first
    | exact Keeps.refl s | assumption | apply KeepsO.next | apply KeepsO.ite | apply Keeps.ite | dsimp only
    | apply pageProgram_keeps | apply Keeps.ite1 | intro _ _ _ _ | intro _ _ _ | intro _ _ | split

theorem execJournalProgramDone_keeps (x_ok : Bool) (s : State) : KeepsO s (execJournalProgramDone x_ok s) := by
  unfold execJournalProgramDone; try dsimp only
  with_reducible repeat' first
    | exact Keeps.refl s | assumption | apply KeepsO.next | apply KeepsO.ite | apply Keeps.ite | dsimp only
    | apply pageStored_keeps | apply jrnlFail_keeps | apply pageTear_keeps | apply Keeps.ite1 | intro _ _ _ _
    | intro _ _ _ | intro _ _ | split

theorem eraseFailed_keeps (h : Keeps s t) : Keeps s (eraseFailed t) := by
  unfold eraseFailed; try dsimp only
  with_reducible repeat' first
    | exact h | apply Keeps.ite | dsimp only | simp only [keeps_mk] | simp only [keepsP_iff] | apply jrnlFail_keeps
    | apply Keeps.ite1 | split | assumption

theorem execJournalEraseDone_keeps (x_ok : Bool) (s : State) : KeepsO s (execJournalEraseDone x_ok s) := by
  unfold execJournalEraseDone; try dsimp only
  with_reducible repeat' first
    | exact Keeps.refl s | assumption | apply KeepsO.next | apply KeepsO.ite | apply Keeps.ite | dsimp only
    | apply blockDone_keeps | apply eraseFailed_keeps | apply Keeps.ite1 | intro _ _ _ _ | intro _ _ _ | intro _ _
    | split

theorem execJournalOpTimeout_keeps (s : State) : KeepsO s (execJournalOpTimeout s) := by
  unfold execJournalOpTimeout; try dsimp only
  with_reducible repeat' first
    | exact Keeps.refl s | assumption | apply KeepsO.next | apply KeepsO.ite | apply Keeps.ite | dsimp only
    | apply jrnlReinit_keeps | apply Keeps.ite1 | intro _ _ _ _ | intro _ _ _ | intro _ _ | split

theorem execJrnlCmdFlush_keeps (x_rq : Fin 24) (x_key : BitVec 16) (s : State) : KeepsO s (execJrnlCmdFlush x_rq x_key s) := by
  unfold execJrnlCmdFlush; try dsimp only
  with_reducible repeat' first
    | exact Keeps.refl s | assumption | apply KeepsO.next | dsimp only | apply jrnlCtl_keeps | apply jrnlFlush_keeps
    | intro _ _ _ _ | intro _ _ _ | intro _ _ | split

theorem execJrnlCmdReinit_keeps (x_rq : Fin 24) (x_key : BitVec 16) (s : State) : KeepsO s (execJrnlCmdReinit x_rq x_key s) := by
  unfold execJrnlCmdReinit; try dsimp only
  with_reducible repeat' first
    | exact Keeps.refl s | assumption | apply KeepsO.next | dsimp only | apply jrnlCtl_keeps
    | apply jrnlReinitCmd_keeps | intro _ _ _ _ | intro _ _ _ | intro _ _ | split

theorem execJrnlRead_keeps (x_rq : Fin 24) (s : State) : KeepsO s (execJrnlRead x_rq s) := by
  unfold execJrnlRead; try dsimp only
  with_reducible repeat' first
    | exact Keeps.refl s | assumption | apply KeepsO.next | dsimp only | apply asCoach_keeps | apply jrnlReadCmd_keeps
    | intro _ _ _ _ | intro _ _ _ | intro _ _ | split

theorem execJrnlReadDone_keeps (s : State) : KeepsO s (execJrnlReadDone s) := by
  unfold execJrnlReadDone; try dsimp only
  with_reducible repeat' first
    | exact Keeps.refl s | assumption | apply KeepsO.next | dsimp only | simp only [keeps_mk] | simp only [keepsP_iff]
    | apply ringRead_keeps | intro _ _ _ _ | intro _ _ _ | intro _ _ | split

theorem execJrnlFwdRx_keeps (x_words : List Word) (s : State) : KeepsO s (execJrnlFwdRx x_words s) := by
  unfold execJrnlFwdRx; try dsimp only
  with_reducible repeat' first
    | exact Keeps.refl s | assumption | apply KeepsO.next | apply KeepsO.ite | apply Keeps.ite | dsimp only
    | apply finc_keeps | apply jrnlQueue_keeps | apply Keeps.ite1 | intro _ _ _ _ | intro _ _ _ | intro _ _ | split

end Sys2Proof.Machine
end

