-- ==== Sys2Proof/Laws/KeepsStart.lean ====
section
/-!
SUPPORT. Laws/KeepsStart.lean: register access, the image, reset, start, update and the bus keep what `Keeps` says, operation by operation.
-/
namespace Sys2Proof.Machine

variable {s t : State}

/-! ### Regs -/

theorem storeField_keeps (x_a : Nat) (x_w : Nat) (x_f : FieldSpec) (h : Keeps s t) : Keeps s (storeField x_a x_w t x_f) := by
  unfold storeField; try dsimp only
  with_reducible repeat' first
    | exact h | apply Keeps.ite | dsimp only | simp only [keeps_mk] | simp only [keepsP_iff] | apply fset_keeps
    | apply Keeps.ite1 | split | assumption

theorem storeWord_keeps (x_a : Nat) (x_w : Nat) (h : Keeps s t) : Keeps s (storeWord t x_a x_w) := by
  unfold storeWord; try dsimp only
  with_reducible repeat' first
    | exact h | dsimp only | apply storeField_keeps | apply Keeps.foldl | apply Keeps.foldl1 | intro _ _ _ h
    | intro _ _ h | intro _ h | split | assumption

theorem plainWrite_keeps (x_a : Nat) (x_w : Nat) (h : Keeps s t) : Keeps s ((plainWrite t x_a x_w).1) := by
  unfold plainWrite; try dsimp only
  with_reducible repeat' first | exact h | dsimp only | apply storeWord_keeps | split | assumption

theorem chnCtlWrite_keeps (x_n : Nat) (x_w : Nat) (h : Keeps s t) : Keeps s ((chnCtlWrite t x_n x_w).1) := by
  unfold chnCtlWrite; try dsimp only
  with_reducible repeat' first
    | exact h | dsimp only | apply chCtl_keeps | apply wireNightStop_keeps | split | assumption

theorem loopCtlWrite_keeps (x_n : Nat) (x_w : Nat) (h : Keeps s t) : Keeps s ((loopCtlWrite t x_n x_w).1) := by
  unfold loopCtlWrite; try dsimp only
  with_reducible repeat' first
    | exact h | apply Keeps.ite | dsimp only | apply fset_keeps | apply fsetIf_keeps | apply loopClrLatch_keeps
    | apply loopEnable_keeps | apply loopDisable_keeps | apply Keeps.ite1 | split | assumption

theorem annCtlWrite_keeps (x_n : Nat) (x_w : Nat) (h : Keeps s t) : Keeps s ((annCtlWrite t x_n x_w).1) := by
  unfold annCtlWrite; try dsimp only
  with_reducible repeat' first
    | exact h | apply Keeps.ite | dsimp only | apply annJudge_keeps | apply annCancel_keeps | apply Keeps.ite1 | split
    | assumption

theorem loopWrite_keeps (x_n : Nat) (x_o : Nat) (x_a : Nat) (x_w : Nat) (h : Keeps s t) : Keeps s ((loopWrite t x_n x_o x_a x_w).1) := by
  unfold loopWrite; try dsimp only
  with_reducible repeat' first
    | exact h | apply Keeps.ite | dsimp only | apply loopCtlWrite_keeps | apply loopVset_keeps | apply storeWord_keeps
    | apply balClear_keeps | apply annCtlWrite_keeps | apply plainWrite_keeps | apply Keeps.ite1 | split | assumption

theorem regulWrite_keeps (x_r : Nat) (x_o : Nat) (x_a : Nat) (x_w : Nat) (h : Keeps s t) : Keeps s ((regulWrite t x_r x_o x_a x_w).1) := by
  unfold regulWrite; try dsimp only
  with_reducible repeat' first
    | exact h | apply Keeps.ite | dsimp only | apply regClrLatch_keeps | apply regEnable_keeps
    | apply regDisable_keeps | apply regVset_keeps | apply plainWrite_keeps | apply Keeps.ite1 | split | assumption

theorem seqCmdWrite_keeps (x_w : Nat) (h : Keeps s t) : Keeps s ((seqCmdWrite t x_w).1) := by
  unfold seqCmdWrite; try dsimp only
  with_reducible repeat' first
    | exact h | apply Keeps.ite | dsimp only | apply seqHostStart_keeps | apply seqAbort_keeps | apply Keeps.ite1
    | split | assumption

theorem monCfgWrite_keeps (x_m : Nat) (x_a : Nat) (x_w : Nat) (h : Keeps s t) : Keeps s ((monCfgWrite t x_m x_a x_w).1) := by
  unfold monCfgWrite; try dsimp only
  with_reducible repeat' first
    | exact h | apply Keeps.ite | dsimp only | apply monArm_keeps | apply storeWord_keeps | apply Keeps.ite1 | split
    | assumption

theorem seqBlockWrite_keeps (x_a : Nat) (x_w : Nat) (h : Keeps s t) : Keeps s ((seqBlockWrite t x_a x_w).1) := by
  unfold seqBlockWrite; try dsimp only
  with_reducible repeat' first
    | exact h | apply Keeps.ite | dsimp only | apply seqCmdWrite_keeps | apply monCfgWrite_keeps
    | apply plainWrite_keeps | apply fltUpdate_keeps | apply Keeps.ite1 | split | assumption

theorem lnkWrite_keeps (x_a : Nat) (x_w : Nat) (h : Keeps s t) : Keeps s ((lnkWrite t x_a x_w).1) := by
  unfold lnkWrite; try dsimp only
  with_reducible repeat' first
    | exact h | apply Keeps.ite | dsimp only | apply raccCmd_keeps | apply plainWrite_keeps | apply Keeps.ite1 | split
    | assumption

theorem timeWrite_keeps (x_a : Nat) (x_w : Nat) (h : Keeps s t) : Keeps s ((timeWrite t x_a x_w).1) := by
  unfold timeWrite; try dsimp only
  with_reducible repeat' first
    | exact h | apply Keeps.ite | dsimp only | apply cvyCmd_keeps | apply plainWrite_keeps | apply Keeps.ite1 | split
    | assumption

theorem itinWrite_keeps (x_a : Nat) (x_w : Nat) (h : Keeps s t) : Keeps s ((itinWrite t x_a x_w).1) := by
  unfold itinWrite; try dsimp only
  with_reducible repeat' first
    | exact h | apply Keeps.ite | dsimp only | apply itinWriteW3_keeps | apply plainWrite_keeps | apply Keeps.ite1
    | split | assumption

theorem adcWrite_keeps (x_a : Nat) (x_w : Nat) (h : Keeps s t) : Keeps s ((adcWrite t x_a x_w).1) := by
  unfold adcWrite; try dsimp only
  with_reducible repeat' first
    | exact h | apply Keeps.ite | dsimp only | apply adcEnable_keeps | apply adcCommon_keeps | apply adcCfgWrite_keeps
    | apply plainWrite_keeps | apply Keeps.ite1 | split | assumption

theorem cmpWrite_keeps (x_a : Nat) (x_w : Nat) (h : Keeps s t) : Keeps s ((cmpWrite t x_a x_w).1) := by
  unfold cmpWrite; try dsimp only
  with_reducible repeat' first
    | exact h | apply Keeps.ite | dsimp only | apply plainWrite_keeps | apply cmpCfgWritten_keeps | apply Keeps.ite1
    | split | assumption

theorem chgWrite_keeps (x_a : Nat) (x_w : Nat) (h : Keeps s t) : Keeps s ((chgWrite t x_a x_w).1) := by
  unfold chgWrite; try dsimp only
  with_reducible repeat' first
    | exact h | apply Keeps.ite | dsimp only | apply chgCommand_keeps | apply storageCmd_keeps | apply storeWord_keeps
    | apply plainWrite_keeps | apply Keeps.ite1 | split | assumption

theorem pdWrite_keeps (x_a : Nat) (x_w : Nat) (h : Keeps s t) : Keeps s ((pdWrite t x_a x_w).1) := by
  unfold pdWrite; try dsimp only
  with_reducible repeat' first
    | exact h | apply Keeps.ite | dsimp only | apply pdCommand_keeps | apply pdCapWrite_keeps | apply storeWord_keeps
    | apply plainWrite_keeps | apply Keeps.ite1 | split | assumption

theorem injSelect_keeps (x_w : Nat) (h : Keeps s t) : Keeps s ((injSelect t x_w).1) := by
  unfold injSelect; try dsimp only
  with_reducible repeat' first
    | exact h | apply Keeps.ite | dsimp only | simp only [keeps_mk] | simp only [keepsP_iff] | apply injCore_keeps
    | apply injFab_keeps | apply injPair_keeps | apply injSev_keeps | apply lockstepHalt_keeps | apply Keeps.ite1
    | intro _ _ _ h | intro _ _ h | intro _ h | split | assumption

theorem latClear_keeps (x_base : Nat) (x_w : Nat) (h : Keeps s t) : Keeps s (latClear t x_base x_w) := by
  unfold latClear; try dsimp only
  with_reducible repeat' first
    | exact h | apply Keeps.ite | dsimp only | apply fset_keeps | apply Keeps.ite1 | apply Keeps.foldl
    | apply Keeps.foldl1 | intro _ _ _ h | intro _ _ h | intro _ h | split | assumption

theorem fltWrite_keeps (x_a : Nat) (x_w : Nat) (h : Keeps s t) : Keeps s ((fltWrite t x_a x_w).1) := by
  unfold fltWrite; try dsimp only
  with_reducible repeat' first
    | exact h | apply Keeps.ite | dsimp only | apply injSelect_keeps | apply forceCore_keeps | apply latClear_keeps
    | apply plainWrite_keeps | apply Keeps.ite1 | split | assumption

theorem ponWrite_keeps (x_a : Nat) (x_w : Nat) (h : Keeps s t) : Keeps s ((ponWrite t x_a x_w).1) := by
  unfold ponWrite; try dsimp only
  with_reducible repeat' first
    | exact h | apply Keeps.ite | dsimp only | apply storeWord_keeps | apply fset_keeps | apply ponAssert_keeps
    | apply Keeps.ite1 | split | assumption

theorem rtcWrite_keeps (x_a : Nat) (x_w : Nat) (h : Keeps s t) : Keeps s ((rtcWrite t x_a x_w).1) := by
  unfold rtcWrite; try dsimp only
  with_reducible repeat' first
    | exact h | apply Keeps.ite | dsimp only | simp only [keeps_mk] | simp only [keepsP_iff] | apply rtcTimeSet_keeps
    | apply rtcAddHour_keeps | apply rtcSubHour_keeps | apply almWrite_keeps | apply ponWrite_keeps
    | apply reqEvening_keeps | apply reqNight_keeps | apply reqNoon_keeps | apply plainWrite_keeps | apply Keeps.ite1
    | split | assumption

theorem busWrite_keeps (x_a : Nat) (x_w : Nat) (h : Keeps s t) : Keeps s ((busWrite t x_a x_w).1) := by
  unfold busWrite; try dsimp only
  with_reducible repeat' first
    | exact h | apply Keeps.ite | dsimp only | apply fset_keeps | apply plainWrite_keeps | apply Keeps.ite1 | split
    | assumption

theorem jrnlWrite_keeps (x_a : Nat) (x_w : Nat) (h : Keeps s t) : Keeps s ((jrnlWrite t x_a x_w).1) := by
  unfold jrnlWrite; try dsimp only
  with_reducible repeat' first
    | exact h | apply Keeps.ite | dsimp only | apply jrnlFlush_keeps | apply jrnlReinitCmd_keeps
    | apply jrnlReadCmd_keeps | apply plainWrite_keeps | apply Keeps.ite1 | split | assumption

theorem blockWrite_keeps (x_a : Nat) (x_w : Nat) (h : Keeps s t) : Keeps s ((blockWrite t x_a x_w).1) := by
  unfold blockWrite; try dsimp only
  with_reducible repeat' first
    | exact h | apply Keeps.ite | dsimp only | apply chnCtlWrite_keeps | apply chUnused_keeps | apply storeWord_keeps
    | apply plainWrite_keeps | apply loopWrite_keeps | apply regulWrite_keeps | apply seqBlockWrite_keeps
    | apply lnkWrite_keeps | apply timeWrite_keeps | apply setShedLevel_keeps | apply adcWrite_keeps
    | apply cmpWrite_keeps | apply chgWrite_keeps | apply pdWrite_keeps | apply itinWrite_keeps | apply fltWrite_keeps
    | apply rtcWrite_keeps | apply busWrite_keeps | apply jrnlWrite_keeps | apply Keeps.ite1 | split | assumption

theorem readClears_keeps (x_a : Nat) (h : Keeps s t) : Keeps s (readClears t x_a) := by
  unfold readClears; try dsimp only
  with_reducible repeat' first
    | exact h | apply Keeps.ite | dsimp only | apply fset_keeps | apply Keeps.ite1 | apply Keeps.foldl
    | apply Keeps.foldl1 | intro _ _ _ h | intro _ _ h | intro _ h | split | assumption

theorem readSnaps_keeps (x_rq : Nat) (x_a : Nat) (h : Keeps s t) : Keeps s (readSnaps t x_rq x_a) := by
  unfold readSnaps; try dsimp only
  with_reducible repeat' first
    | exact h | apply Keeps.ite | dsimp only | apply snapPut_keeps | apply fset_keeps | apply rtcSnap_keeps
    | apply regStatDrawn_keeps | apply Keeps.ite1 | split | assumption

theorem regRead_keeps (x_rq : Nat) (x_a : Nat) (h : Keeps s t) : Keeps s ((regRead t x_rq x_a).1) := by
  unfold regRead; try dsimp only
  with_reducible repeat' first
    | exact h | apply Keeps.ite | dsimp only | simp only [keeps_mk] | simp only [keepsP_iff] | apply readClears_keeps
    | apply readSnaps_keeps | apply Keeps.ite1 | intro _ _ _ h | intro _ _ h | intro _ h | split | assumption

/-! ### Image -/

theorem imgSet_keeps (x_a : Nat) (x_w : Nat) (h : Keeps s t) : Keeps s (imgSet t x_a x_w) := by
  unfold imgSet; try dsimp only
  with_reducible repeat' first
    | exact h | apply Keeps.ite | dsimp only | apply storeWord_keeps | apply fset_keeps | apply blockWrite_keeps
    | apply Keeps.ite1 | split | assumption

theorem regEntApply_keeps (x_e : List Nat) (h : Keeps s t) : Keeps s (regEntApply t x_e) := by
  unfold regEntApply; try dsimp only
  with_reducible repeat' first
    | exact h | apply Keeps.ite | dsimp only | apply imgSet_keeps | apply Keeps.ite1 | split | assumption

theorem wordsApply_keeps (x_as : List Nat) (x_p : List Nat) (h : Keeps s t) : Keeps s (wordsApply t x_as x_p) := by
  unfold wordsApply; try dsimp only
  with_reducible repeat' first
    | exact h | dsimp only | apply imgSet_keeps | apply Keeps.foldl | apply Keeps.foldl1 | intro _ _ _ h | intro _ _ h
    | intro _ h | split | assumption

theorem itinApply_keeps (x_es : List (List Nat)) (h : Keeps s t) : Keeps s (itinApply t x_es) := by
  unfold itinApply; try dsimp only
  with_reducible repeat' first
    | exact h | dsimp only | simp only [keeps_mk] | simp only [keepsP_iff] | apply KeepsP.filter
    | apply storeWord_keeps | apply Keeps.foldl | apply Keeps.foldl1 | intro _ _ _ h | intro _ _ h | intro _ h | split
    | assumption

theorem consApply_keeps (x_x : ConsE × Nat) (h : Keeps s t) : Keeps s (consApply t x_x) := by
  unfold consApply; try dsimp only
  with_reducible repeat' first
    | exact h | apply Keeps.ite | dsimp only | apply fset_keeps | apply Keeps.ite1 | split | assumption

theorem srcApply_keeps (x_x : SrcE × Nat) (h : Keeps s t) : Keeps s (srcApply t x_x) := by
  unfold srcApply; try dsimp only
  with_reducible repeat' first
    | exact h | apply Keeps.ite | dsimp only | apply fset_keeps | apply fsetB_keeps | apply Keeps.ite1 | split
    | assumption

theorem ledgApply_keeps (x_l : LedgSect) (h : Keeps s t) : Keeps s (ledgApply t x_l) := by
  unfold ledgApply; try dsimp only
  with_reducible repeat' first
    | exact h | dsimp only | simp only [keeps_mk] | simp only [keepsP_iff] | apply fset_keeps | apply consApply_keeps
    | apply srcApply_keeps | apply Keeps.foldl | apply Keeps.foldl1 | intro _ _ _ h | intro _ _ h | intro _ h | split
    | assumption

theorem pdApply_keeps (x_p : List Nat) (h : Keeps s t) : Keeps s (pdApply t x_p) := by
  unfold pdApply; try dsimp only
  with_reducible repeat' first
    | exact h | dsimp only | simp only [keeps_mk] | simp only [keepsP_iff] | apply imgSet_keeps | apply Keeps.foldl
    | apply Keeps.foldl1 | intro _ _ _ h | intro _ _ h | intro _ h | split | assumption

theorem sectApply_keeps (x_x : Sect) (h : Keeps s t) : Keeps s (sectApply t x_x) := by
  unfold sectApply; try dsimp only
  with_reducible repeat' first
    | exact h | dsimp only | simp only [keeps_mk] | simp only [keepsP_iff] | apply regEntApply_keeps
    | apply itinApply_keeps | apply ledgApply_keeps | apply wordsApply_keeps | apply pdApply_keeps | apply Keeps.foldl
    | apply Keeps.foldl1 | intro _ _ _ h | intro _ _ h | intro _ h | split | assumption

theorem coefsApply_keeps (x_xs : List Sect) (h : Keeps s t) : Keeps s (coefsApply t x_xs) := by
  unfold coefsApply; try dsimp only
  with_reducible repeat' first
    | exact h | dsimp only | simp only [keeps_mk] | simp only [keepsP_iff] | intro _ _ _ h | intro _ _ h | intro _ h
    | split | assumption

theorem grantPriv_keeps (h : Keeps s t) : Keeps s (grantPriv t) := by
  unfold grantPriv; try dsimp only
  with_reducible repeat' first
    | exact h | apply Keeps.ite | dsimp only | apply KeepsP.filter | apply fset_keeps | apply raise_keeps
    | apply Keeps.ite1 | apply Keeps.foldl | apply Keeps.foldl1 | intro _ _ _ h | intro _ _ h | intro _ h | split
    | assumption

theorem wireTypesCheck_keeps (h : Keeps s t) : Keeps s (wireTypesCheck t) := by
  unfold wireTypesCheck; try dsimp only
  with_reducible repeat' first
    | exact h | apply Keeps.ite | dsimp only | apply KeepsP.filter | apply fset_keeps | apply raise_keeps
    | apply Keeps.ite1 | apply Keeps.foldl | apply Keeps.foldl1 | intro _ _ _ h | intro _ _ h | intro _ h | split
    | assumption

theorem fabMinCheck_keeps (h : Keeps s t) : Keeps s (fabMinCheck t) := by
  unfold fabMinCheck; try dsimp only
  with_reducible repeat' first
    | exact h | apply Keeps.ite | dsimp only | apply fset_keeps | apply raise_keeps | apply Keeps.ite1
    | apply Keeps.foldl | apply Keeps.foldl1 | intro _ _ _ h | intro _ _ h | intro _ h | split | assumption

theorem dawnRelease_keeps (x_n : Nat) (h : Keeps s t) : Keeps s (dawnRelease t x_n) := by
  unfold dawnRelease; try dsimp only
  with_reducible repeat' first
    | exact h | apply Keeps.ite | dsimp only | simp only [keeps_mk] | simp only [keepsP_iff] | apply fset_keeps
    | apply setChan_keeps | apply chLatch_keeps | apply Keeps.ite1 | split | assumption

theorem protectStart_keeps (x_n : Nat) (h : Keeps s t) : Keeps s (protectStart t x_n) := by
  unfold protectStart; try dsimp only
  with_reducible repeat' first
    | exact h | dsimp only | simp only [keeps_mk] | simp only [keepsP_iff] | apply fset_keeps | apply setChan_keeps
    | split | assumption

theorem monSettle_keeps (x_m : Nat) (h : Keeps s t) : Keeps s (monSettle t x_m) := by
  unfold monSettle; try dsimp only
  with_reducible repeat' first | exact h | dsimp only | apply fsetB_keeps | split | assumption

theorem settle_keeps (h : Keeps s t) : Keeps s (settle t) := by
  unfold settle; try dsimp only
  with_reducible repeat' first
    | exact h | dsimp only | simp only [keeps_mk] | simp only [keepsP_iff] | apply dawnRelease_keeps
    | apply protectStart_keeps | apply monSettle_keeps | apply chUnused_keeps | apply chgSetIt_keeps
    | apply fltUpdate_keeps | apply gaugeTabCheck_keeps | apply fabMinCheck_keeps | apply wireTypesCheck_keeps
    | apply grantPriv_keeps | apply Keeps.foldl | apply Keeps.foldl1 | intro _ _ _ h | intro _ _ h | intro _ h | split
    | assumption

theorem imageApply_keeps (x_slot : Bool) (x_v : Verdict) (h : Keeps s t) : Keeps s (imageApply t x_slot x_v) := by
  unfold imageApply; try dsimp only
  with_reducible repeat' first
    | exact h | apply Keeps.ite | dsimp only | simp only [keeps_mk] | simp only [keepsP_iff] | apply sectApply_keeps
    | apply coefsApply_keeps | apply fset_keeps | apply fsetB_keeps | apply settle_keeps | apply Keeps.ite1
    | apply Keeps.foldl | apply Keeps.foldl1 | intro _ _ _ h | intro _ _ h | intro _ h | split | assumption

/-! ### Reset -/

theorem bkpLost_keeps (h : Keeps s t) : Keeps s (bkpLost t) := by
  unfold bkpLost; try dsimp only
  with_reducible repeat' first
    | exact h | dsimp only | simp only [keeps_mk] | simp only [keepsP_iff] | apply KeepsP.filter | intro _ _ _ h
    | intro _ _ h | intro _ h | split | assumption

theorem flashTear_keeps (h : Keeps s t) : Keeps s (flashTear t) := by
  unfold flashTear; try dsimp only
  with_reducible repeat' first
    | exact h | apply Keeps.ite | dsimp only | simp only [keeps_mk] | simp only [keepsP_iff] | apply Keeps.ite1
    | split | assumption

theorem otpTear_keeps (h : Keeps s t) : Keeps s (otpTear t) := by
  unfold otpTear; try dsimp only
  with_reducible repeat' first
    | exact h | dsimp only | simp only [keeps_mk] | simp only [keepsP_iff]
    | refine KeepsP.program _ _ ?_ (by rw [← Nat.or_assoc, Nat.or_self]) | intro _ _ _ h | intro _ _ h | intro _ h
    | split | assumption

theorem keepChan_keeps (x_n : Nat) (h : Keeps s t) : Keeps s (keepChan t x_n) := by
  unfold keepChan; try dsimp only
  with_reducible repeat' first | exact h | dsimp only | apply fset_keeps | split | assumption

theorem bareReset_keeps (h : Keeps s t) : Keeps s (bareReset t) := by
  unfold bareReset; try dsimp only
  with_reducible repeat' first
    | exact h | dsimp only | simp only [keeps_mk] | simp only [keepsP_iff] | apply KeepsP.filter | intro _ _ _ h
    | intro _ _ h | intro _ h | split | assumption

theorem partReset_keeps (x_c : Nat) (h : Keeps s t) : Keeps s (partReset t x_c) := by
  unfold partReset; try dsimp only
  with_reducible repeat' first
    | exact h | apply Keeps.ite | dsimp only | simp only [keeps_mk] | simp only [keepsP_iff] | apply KeepsP.filter
    | apply otpTear_keeps | apply flashTear_keeps | apply pageTear_keeps | apply bkpLost_keeps | apply bareReset_keeps
    | apply fset_keeps | apply keepChan_keeps | apply Keeps.ite1 | apply Keeps.foldl | apply Keeps.foldl1
    | intro _ _ _ h | intro _ _ h | intro _ h | split | assumption

theorem execBrownOut_keeps (s : State) : KeepsO s (execBrownOut s) := by
  unfold execBrownOut; try dsimp only
  with_reducible repeat' first
    | exact Keeps.refl s | assumption | apply KeepsO.next | dsimp only | apply partReset_keeps | intro _ _ _ _
    | intro _ _ _ | intro _ _ | split

theorem execRstNReset_keeps (x_lowNs : Nat) (s : State) : KeepsO s (execRstNReset x_lowNs s) := by
  unfold execRstNReset; try dsimp only
  with_reducible repeat' first
    | exact Keeps.refl s | assumption | apply KeepsO.next | apply KeepsO.ite | apply Keeps.ite | dsimp only
    | apply partReset_keeps | apply drawBool_keeps | apply Keeps.ite1 | intro _ _ _ _ | intro _ _ _ | intro _ _
    | split

theorem topCtl_keeps (x_rq : Nat) (x_key : Nat) (x_swrst : Bool) (h : Keeps s t) : Keeps s ((topCtl t x_rq x_key x_swrst).1) := by
  unfold topCtl; try dsimp only
  with_reducible repeat' first
    | exact h | apply Keeps.ite | dsimp only | apply partReset_keeps | apply Keeps.ite1 | split | assumption

theorem execSoftwareReset_keeps (x_rq : Fin 24) (x_key : BitVec 16) (x_swrst : Bool) (s : State) : KeepsO s (execSoftwareReset x_rq x_key x_swrst s) := by
  unfold execSoftwareReset; try dsimp only
  with_reducible repeat' first
    | exact Keeps.refl s | assumption | apply KeepsO.next | dsimp only | apply asCoach_keeps | apply topCtl_keeps
    | intro _ _ _ _ | intro _ _ _ | intro _ _ | split

theorem execFaultCollectorReset_keeps (s : State) : KeepsO s (execFaultCollectorReset s) := by
  unfold execFaultCollectorReset; try dsimp only
  with_reducible repeat' first
    | exact Keeps.refl s | assumption | apply KeepsO.next | apply KeepsO.ite | apply Keeps.ite | dsimp only
    | apply finc_keeps | apply partReset_keeps | apply Keeps.ite1 | intro _ _ _ _ | intro _ _ _ | intro _ _ | split

theorem execStorageExitReset_keeps (s : State) : KeepsO s (execStorageExitReset s) := by
  unfold execStorageExitReset; try dsimp only
  with_reducible repeat' first
    | exact Keeps.refl s | assumption | apply KeepsO.next | apply KeepsO.ite | apply Keeps.ite | dsimp only
    | apply partReset_keeps | apply Keeps.ite1 | intro _ _ _ _ | intro _ _ _ | intro _ _ | split

theorem sendReset_keeps (x_key : Nat) (x_unit : Option Nat) (h : Keeps s t) : Keeps s ((sendReset t x_key x_unit).1) := by
  unfold sendReset; try dsimp only
  with_reducible repeat' first
    | exact h | apply Keeps.ite | dsimp only | apply send_keeps | apply Keeps.ite1 | split | assumption

theorem execLnkCmdResetUnit_keeps (x_rq : Fin 24) (x_key : BitVec 16) (x_unit : Fin 32) (s : State) : KeepsO s (execLnkCmdResetUnit x_rq x_key x_unit s) := by
  unfold execLnkCmdResetUnit; try dsimp only
  with_reducible repeat' first
    | exact Keeps.refl s | assumption | apply KeepsO.next | dsimp only | apply asCoach_keeps | apply sendReset_keeps
    | intro _ _ _ _ | intro _ _ _ | intro _ _ | split

theorem execLnkCmdBroadcastReset_keeps (x_rq : Fin 24) (x_key : BitVec 16) (s : State) : KeepsO s (execLnkCmdBroadcastReset x_rq x_key s) := by
  unfold execLnkCmdBroadcastReset; try dsimp only
  with_reducible repeat' first
    | exact Keeps.refl s | assumption | apply KeepsO.next | dsimp only | apply asCoach_keeps | apply sendReset_keeps
    | intro _ _ _ _ | intro _ _ _ | intro _ _ | split

theorem execResetRx_keeps (x_p : Fin 2) (x_key : BitVec 16) (x__bc : Bool) (s : State) : KeepsO s (execResetRx x_p x_key x__bc s) := by
  unfold execResetRx; try dsimp only
  with_reducible repeat' first
    | exact Keeps.refl s | assumption | apply KeepsO.next | apply KeepsO.ite | apply Keeps.ite | dsimp only
    | apply partReset_keeps | apply countErr_keeps | apply finc_keeps | apply Keeps.ite1 | intro _ _ _ _ | intro _ _ _
    | intro _ _ | split

/-! ### Start -/

theorem setBank_keeps (x_b : Nat) (x_on : Bool) (h : Keeps s t) : Keeps s (setBank t x_b x_on) := by
  unfold setBank; try dsimp only
  with_reducible repeat' first
    | exact h | apply Keeps.ite | dsimp only | apply fsetB_keeps | apply fset_keeps | apply Keeps.ite1
    | apply Keeps.foldl | apply Keeps.foldl1 | intro _ _ _ h | intro _ _ h | intro _ h | split | assumption

theorem setSupply_keeps (x_p : SupplyPin) (x_on : Bool) (h : Keeps s t) : Keeps s (setSupply t x_p x_on) := by
  unfold setSupply; try dsimp only
  with_reducible repeat' first
    | exact h | dsimp only | simp only [keeps_mk] | simp only [keepsP_iff] | apply setBank_keeps | apply fsetB_keeps
    | split | assumption

theorem orSelect_keeps (h : Keeps s t) : Keeps s (orSelect t) := by
  unfold orSelect; try dsimp only
  with_reducible repeat' first
    | exact h | apply Keeps.ite | dsimp only | simp only [keeps_mk] | simp only [keepsP_iff] | apply fset_keeps
    | apply drawNat_keeps | apply Keeps.ite1 | split | assumption

theorem startRise_keeps (h : Keeps s t) : Keeps s (startRise t) := by
  unfold startRise; try dsimp only
  with_reducible repeat' first
    | exact h | apply Keeps.ite | dsimp only | simp only [keeps_mk] | simp only [keepsP_iff] | apply orSelect_keeps
    | apply Keeps.ite1 | split | assumption

theorem supplyWake_keeps (h : Keeps s t) : Keeps s (supplyWake t) := by
  unfold supplyWake; try dsimp only
  with_reducible repeat' first
    | exact h | apply Keeps.ite | dsimp only | apply wakeCause_keeps | apply Keeps.ite1 | split | assumption

theorem buckInputs_keeps (x_on : Bool) (h : Keeps s t) : Keeps s (buckInputs t x_on) := by
  unfold buckInputs; try dsimp only
  with_reducible repeat' first
    | exact h | apply Keeps.ite | dsimp only | apply regInputReturn_keeps | apply regInputLoss_keeps
    | apply Keeps.ite1 | apply Keeps.foldl | apply Keeps.foldl1 | intro _ _ _ h | intro _ _ h | intro _ h | split
    | assumption

theorem bkpFeed_keeps (x_on : Bool) (h : Keeps s t) : Keeps s (bkpFeed t x_on) := by
  unfold bkpFeed; try dsimp only
  with_reducible repeat' first
    | exact h | apply Keeps.ite | dsimp only | simp only [keeps_mk] | simp only [keepsP_iff] | apply bkpLost_keeps
    | apply fset_keeps | apply Keeps.ite1 | split | assumption

theorem supplyRose_keeps (x_a0 : SupplyPin) (h : Keeps s t) : Keeps s (supplyRose t x_a0) := by
  unfold supplyRose; try dsimp only
  with_reducible repeat' first
    | exact h | dsimp only | apply supplyWake_keeps | apply startRise_keeps | apply buckInputs_keeps
    | apply chgSupply_keeps | apply bkpFeed_keeps | split | assumption

theorem supplyFell_keeps (x_a0 : SupplyPin) (h : Keeps s t) : Keeps s (supplyFell t x_a0) := by
  unfold supplyFell; try dsimp only
  with_reducible repeat' first
    | exact h | dsimp only | simp only [keeps_mk] | simp only [keepsP_iff] | apply orSelect_keeps
    | apply buckInputs_keeps | apply chgSupply_keeps | apply bkpFeed_keeps | split | assumption

theorem execSupplyRise_keeps (x_pin : SupplyPin) (x_mv : Nat) (s : State) : KeepsO s (execSupplyRise x_pin x_mv s) := by
  unfold execSupplyRise; try dsimp only
  with_reducible repeat' first
    | exact Keeps.refl s | assumption | apply KeepsO.next | apply KeepsO.ite | apply Keeps.ite | dsimp only
    | apply supplyRose_keeps | apply setSupply_keeps | apply Keeps.ite1 | intro _ _ _ _ | intro _ _ _ | intro _ _
    | split

theorem execSupplyFall_keeps (x_pin : SupplyPin) (x_mv : Nat) (s : State) : KeepsO s (execSupplyFall x_pin x_mv s) := by
  unfold execSupplyFall; try dsimp only
  with_reducible repeat' first
    | exact Keeps.refl s | assumption | apply KeepsO.next | apply KeepsO.ite | apply Keeps.ite | dsimp only
    | apply supplyFell_keeps | apply setSupply_keeps | apply Keeps.ite1 | intro _ _ _ _ | intro _ _ _ | intro _ _
    | split

theorem execSupplyLow_keeps (x_hkMv : Nat) (s : State) : KeepsO s (execSupplyLow x_hkMv s) := by
  unfold execSupplyLow; try dsimp only
  with_reducible repeat' first
    | exact Keeps.refl s | assumption | apply KeepsO.next | apply KeepsO.ite | apply Keeps.ite | dsimp only
    | apply raise_keeps | apply seqTrigger_keeps | apply journal_keeps | apply Keeps.ite1 | intro _ _ _ _
    | intro _ _ _ | intro _ _ | split

theorem dawnFuses_keeps (h : Keeps s t) : Keeps s (dawnFuses t) := by
  unfold dawnFuses; try dsimp only
  with_reducible repeat' first
    | exact h | apply Keeps.ite | dsimp only | simp only [keeps_mk] | simp only [keepsP_iff] | apply fsetB_keeps
    | apply Keeps.ite1 | split | assumption

theorem dawnStraps_keeps (x_head : Bool) (x_twa : Nat) (x_vddioMv : Nat) (h : Keeps s t) : Keeps s (dawnStraps t x_head x_twa x_vddioMv) := by
  unfold dawnStraps; try dsimp only
  with_reducible repeat' first
    | exact h | apply Keeps.ite | dsimp only | apply fsetB_keeps | apply fset_keeps | apply Keeps.ite1 | split
    | assumption

theorem dawnChan_keeps (x_n : Nat) (h : Keeps s t) : Keeps s (dawnChan t x_n) := by
  unfold dawnChan; try dsimp only
  with_reducible repeat' first
    | exact h | apply Keeps.ite | dsimp only | apply fset_keeps | apply fsetB_keeps | apply Keeps.ite1 | split
    | assumption

theorem dawnLoop_keeps (x_n : Nat) (h : Keeps s t) : Keeps s (dawnLoop t x_n) := by
  unfold dawnLoop; try dsimp only
  with_reducible repeat' first
    | exact h | apply Keeps.ite | dsimp only | apply fset_keeps | apply Keeps.ite1 | split | assumption

theorem dawnPhase_keeps (x_k : Nat) (h : Keeps s t) : Keeps s (dawnPhase t x_k) := by
  unfold dawnPhase; try dsimp only
  with_reducible repeat' first | exact h | dsimp only | apply fset_keeps | split | assumption

theorem dawnReg_keeps (x_r : Nat) (h : Keeps s t) : Keeps s (dawnReg t x_r) := by
  unfold dawnReg; try dsimp only
  with_reducible repeat' first | exact h | dsimp only | apply fset_keeps | split | assumption

theorem dawnMon_keeps (x_m : Nat) (h : Keeps s t) : Keeps s (dawnMon t x_m) := by
  unfold dawnMon; try dsimp only
  with_reducible repeat' first
    | exact h | dsimp only | apply fset_keeps | intro _ _ _ h | intro _ _ h | intro _ h | split | assumption

theorem dawnEnter_keeps (x_head : Bool) (x_twa : Nat) (x_vddioMv : Nat) (h : Keeps s t) : Keeps s (dawnEnter t x_head x_twa x_vddioMv) := by
  unfold dawnEnter; try dsimp only
  with_reducible repeat' first
    | exact h | apply Keeps.ite | dsimp only | simp only [keeps_mk] | simp only [keepsP_iff] | apply dawnStraps_keeps
    | apply dawnFuses_keeps | apply dawnLoop_keeps | apply dawnChan_keeps | apply dawnReg_keeps
    | apply dawnPhase_keeps | apply fset_keeps | apply dawnMon_keeps | apply setStage_keeps | apply fltUpdate_keeps
    | apply Keeps.ite1 | apply Keeps.foldl | apply Keeps.foldl1 | intro _ _ _ h | intro _ _ h | intro _ h | split
    | assumption

theorem execDawnEntry_keeps (x_head : Bool) (x_twa : Fin 8) (x_vddioMv : Nat) (s : State) : KeepsO s (execDawnEntry x_head x_twa x_vddioMv s) := by
  unfold execDawnEntry; try dsimp only
  with_reducible repeat' first
    | exact Keeps.refl s | assumption | apply KeepsO.next | apply KeepsO.ite | apply Keeps.ite | dsimp only
    | apply dawnEnter_keeps | apply raise_keeps | apply Keeps.ite1 | intro _ _ _ _ | intro _ _ _ | intro _ _ | split

theorem execDawnScTrip_keeps (x_ch : Fin 64) (s : State) : KeepsO s (execDawnScTrip x_ch s) := by
  unfold execDawnScTrip; try dsimp only
  with_reducible repeat' first
    | exact Keeps.refl s | assumption | apply KeepsO.next | apply KeepsO.ite | apply Keeps.ite | dsimp only
    | simp only [keeps_mk] | simp only [keepsP_iff] | apply setChan_keeps | apply edgeCt_keeps | apply fset_keeps
    | apply chJournal_keeps | apply raise_keeps | apply finc_keeps | apply Keeps.ite1 | intro _ _ _ _ | intro _ _ _
    | intro _ _ | split

theorem execPllLockTimeout_keeps (s : State) : KeepsO s (execPllLockTimeout s) := by
  unfold execPllLockTimeout; try dsimp only
  with_reducible repeat' first
    | exact Keeps.refl s | assumption | apply KeepsO.next | apply KeepsO.ite | apply Keeps.ite | dsimp only
    | simp only [keeps_mk] | simp only [keepsP_iff] | apply raise_keeps | apply Keeps.ite1 | intro _ _ _ _
    | intro _ _ _ | intro _ _ | split

theorem execPllLockRetry_keeps (s : State) : KeepsO s (execPllLockRetry s) := by
  unfold execPllLockRetry; try dsimp only
  with_reducible repeat' first
    | exact Keeps.refl s | assumption | apply KeepsO.next | apply KeepsO.ite | apply Keeps.ite | dsimp only
    | simp only [keeps_mk] | simp only [keepsP_iff] | apply Keeps.ite1 | intro _ _ _ _ | intro _ _ _ | intro _ _
    | split

theorem slotResult_keeps (x_slot : Bool) (x_v : Nat) (h : Keeps s t) : Keeps s (slotResult t x_slot x_v) := by
  unfold slotResult; try dsimp only
  with_reducible repeat' first
    | exact h | apply Keeps.ite | dsimp only | apply fset_keeps | apply Keeps.ite1 | split | assumption

theorem slotFails_keeps (x_slot : Bool) (x_v : Nat) (x_index : Nat) (x_typ : Nat) (h : Keeps s t) : Keeps s (slotFails t x_slot x_v x_index x_typ) := by
  unfold slotFails; try dsimp only
  with_reducible repeat' first
    | exact h | dsimp only | apply fset_keeps | apply fsetB_keeps | apply slotResult_keeps | split | assumption

theorem slotRaise_keeps (h : Keeps s t) : Keeps s (slotRaise t) := by
  unfold slotRaise; try dsimp only
  with_reducible repeat' first
    | exact h | apply Keeps.ite | dsimp only | simp only [keeps_mk] | simp only [keepsP_iff] | apply raise_keeps
    | apply Keeps.ite1 | split | assumption

theorem applyDefaults_keeps (h : Keeps s t) : Keeps s (applyDefaults t) := by
  unfold applyDefaults; try dsimp only
  with_reducible repeat' first
    | exact h | dsimp only | apply fset_keeps | apply raise_keeps | apply settle_keeps | split | assumption

theorem headerRead_keeps (x_slot : Bool) (h : Keeps s t) : Keeps s (headerRead t x_slot) := by
  unfold headerRead; try dsimp only
  with_reducible repeat' first
    | exact h | apply Keeps.ite | dsimp only | apply fset_keeps | apply slotResult_keeps | apply slotFails_keeps
    | apply Keeps.ite1 | split | assumption

theorem headersRead_keeps (h : Keeps s t) : Keeps s (headersRead t) := by
  unfold headersRead; try dsimp only
  with_reducible repeat' first
    | exact h | apply Keeps.ite | dsimp only | simp only [keeps_mk] | simp only [keepsP_iff] | apply headerRead_keeps
    | apply slotRaise_keeps | apply applyDefaults_keeps | apply Keeps.ite1 | intro _ _ _ h | intro _ _ h | intro _ h
    | split | assumption

theorem flashMissing_keeps (h : Keeps s t) : Keeps s (flashMissing t) := by
  unfold flashMissing; try dsimp only
  with_reducible repeat' first
    | exact h | dsimp only | apply slotFails_keeps | apply fset_keeps | apply applyDefaults_keeps
    | apply slotRaise_keeps | apply raise_keeps | split | assumption

theorem execMorningEntry_keeps (x_density : Option (Fin 3)) (s : State) : KeepsO s (execMorningEntry x_density s) := by
  unfold execMorningEntry; try dsimp only
  with_reducible repeat' first
    | exact Keeps.refl s | assumption | apply KeepsO.next | apply KeepsO.ite | apply Keeps.ite | dsimp only
    | simp only [keeps_mk] | simp only [keepsP_iff] | apply setStage_keeps | apply headersRead_keeps
    | apply fset_keeps | apply flashMissing_keeps | apply Keeps.ite1 | intro _ _ _ _ | intro _ _ _ | intro _ _ | split

theorem slotChecked_keeps (x_slot : Bool) (x_readErr : Bool) (h : Keeps s t) : Keeps s (slotChecked t x_slot x_readErr) := by
  unfold slotChecked; try dsimp only
  with_reducible repeat' first
    | exact h | apply Keeps.ite | dsimp only | simp only [keeps_mk] | simp only [keepsP_iff] | apply imageApply_keeps
    | apply slotRaise_keeps | apply slotFails_keeps | apply applyDefaults_keeps | apply Keeps.ite1 | split
    | assumption

theorem execSlotCheckDone_keeps (x_slot : Bool) (x_readErr : Bool) (s : State) : KeepsO s (execSlotCheckDone x_slot x_readErr s) := by
  unfold execSlotCheckDone; try dsimp only
  with_reducible repeat' first
    | exact Keeps.refl s | assumption | apply KeepsO.next | apply KeepsO.ite | apply Keeps.ite | dsimp only
    | apply slotChecked_keeps | apply Keeps.ite1 | intro _ _ _ _ | intro _ _ _ | intro _ _ | split

theorem enginesStart_keeps (h : Keeps s t) : Keeps s (enginesStart t) := by
  unfold enginesStart; try dsimp only
  with_reducible repeat' first
    | exact h | dsimp only | simp only [keeps_mk] | simp only [keepsP_iff] | apply anchorAll_keeps | apply fset_keeps
    | apply jrnlStart_keeps | apply gaugeStart_keeps | apply wireStart_keeps | apply Keeps.foldl | apply Keeps.foldl1
    | intro _ _ _ h | intro _ _ h | intro _ h | split | assumption

theorem railsStart_keeps (h : Keeps s t) : Keeps s (railsStart t) := by
  unfold railsStart; try dsimp only
  with_reducible repeat' first
    | exact h | apply Keeps.ite | dsimp only | apply loopEnable_keeps | apply regEnable_keeps | apply Keeps.ite1
    | apply Keeps.foldl | apply Keeps.foldl1 | intro _ _ _ h | intro _ _ h | intro _ h | split | assumption

theorem admissionStart_keeps (h : Keeps s t) : Keeps s (admissionStart t) := by
  unfold admissionStart; try dsimp only
  with_reducible repeat' first
    | exact h | apply Keeps.ite | dsimp only | apply chStored_keeps | apply seqTrigger_keeps | apply ledgStart_keeps
    | apply chgStart_keeps | apply railsStart_keeps | apply pdUnattached_keeps | apply adcAuto_keeps
    | apply itinStart_keeps | apply Keeps.ite1 | apply Keeps.foldl | apply Keeps.foldl1 | intro _ _ _ h | intro _ _ h
    | intro _ h | split | assumption

theorem headTime_keeps (h : Keeps s t) : Keeps s (headTime t) := by
  unfold headTime; try dsimp only
  with_reducible repeat' first
    | exact h | apply Keeps.ite | dsimp only | simp only [keeps_mk] | simp only [keepsP_iff] | apply timeEnter_keeps
    | apply Keeps.ite1 | split | assumption

theorem chainStart_keeps (h : Keeps s t) : Keeps s (chainStart t) := by
  unfold chainStart; try dsimp only
  with_reducible repeat' first
    | exact h | apply Keeps.ite | dsimp only | apply fset_keeps | apply addrCheck_keeps | apply headTime_keeps
    | apply ledgHeadStart_keeps | apply reenumerate_keeps | apply takeAddr_keeps | apply Keeps.ite1 | split
    | assumption

theorem execEnginesStart_keeps (s : State) : KeepsO s (execEnginesStart s) := by
  unfold execEnginesStart; try dsimp only
  with_reducible repeat' first
    | exact Keeps.refl s | assumption | apply KeepsO.next | apply KeepsO.ite | apply Keeps.ite | dsimp only
    | apply chainStart_keeps | apply admissionStart_keeps | apply enginesStart_keeps | apply Keeps.ite1
    | intro _ _ _ _ | intro _ _ _ | intro _ _ | split

theorem noonEnter_keeps (h : Keeps s t) : Keeps s (noonEnter t) := by
  unfold noonEnter; try dsimp only
  with_reducible repeat' first
    | exact h | dsimp only | apply ledgShow_keeps | apply setStage_keeps | apply fset_keeps | split | assumption

theorem execNoonEntry_keeps (s : State) : KeepsO s (execNoonEntry s) := by
  unfold execNoonEntry; try dsimp only
  with_reducible repeat' first
    | exact Keeps.refl s | assumption | apply KeepsO.next | apply KeepsO.ite | apply Keeps.ite | dsimp only
    | apply noonEnter_keeps | apply Keeps.ite1 | intro _ _ _ _ | intro _ _ _ | intro _ _ | split

theorem execNoonTimeout_keeps (s : State) : KeepsO s (execNoonTimeout s) := by
  unfold execNoonTimeout; try dsimp only
  with_reducible repeat' first
    | exact Keeps.refl s | assumption | apply KeepsO.next | apply KeepsO.ite | apply Keeps.ite | dsimp only
    | apply noonEnter_keeps | apply fset_keeps | apply raise_keeps | apply Keeps.ite1 | intro _ _ _ _ | intro _ _ _
    | intro _ _ | split

/-! ### Update -/

theorem updOpen_keeps (x_rq : Nat) (x_slot : Bool) (h : Keeps s t) : Keeps s ((updOpen t x_rq x_slot).1) := by
  unfold updOpen; try dsimp only
  with_reducible repeat' first
    | exact h | apply Keeps.ite | dsimp only | apply fsetB_keeps | apply fset_keeps | apply Keeps.ite1 | split
    | assumption

theorem updError_keeps (x_e : Nat) (h : Keeps s t) : Keeps s ((updError t x_e).1) := by
  unfold updError; try dsimp only
  with_reducible repeat' first | exact h | dsimp only | apply fset_keeps | split | assumption

theorem updBegin_keeps (x_cmd : Nat) (x_key : Nat) (h : Keeps s t) : Keeps s ((updBegin t x_cmd x_key).1) := by
  unfold updBegin; try dsimp only
  with_reducible repeat' first
    | exact h | apply Keeps.ite | dsimp only | simp only [keeps_mk] | simp only [keepsP_iff] | apply updError_keeps
    | apply fset_keeps | apply Keeps.ite1 | intro _ _ _ h | intro _ _ h | intro _ h | split | assumption

theorem updCommand_keeps (x_rq : Nat) (x_cmd : Nat) (x_slot : Bool) (x_key : Nat) (h : Keeps s t) : Keeps s ((updCommand t x_rq x_cmd x_slot x_key).1) := by
  unfold updCommand; try dsimp only
  with_reducible repeat' first
    | exact h | apply Keeps.ite | dsimp only | apply updOpen_keeps | apply updClose_keeps | apply updBegin_keeps
    | apply Keeps.ite1 | split | assumption

theorem updBufWrite_keeps (x_rq : Nat) (x_a : Nat) (x_w : Nat) (h : Keeps s t) : Keeps s ((updBufWrite t x_rq x_a x_w).1) := by
  unfold updBufWrite; try dsimp only
  with_reducible repeat' first
    | exact h | apply Keeps.ite | dsimp only | apply plainWrite_keeps | apply Keeps.ite1 | split | assumption

theorem updCoach_keeps (x_rq : Nat) (x_cmd : Nat) (x_slot : Bool) (x_key : Nat) (h : Keeps s t) : Keeps s (updCoach t x_rq x_cmd x_slot x_key) := by
  unfold updCoach; try dsimp only
  with_reducible repeat' first
    | exact h | dsimp only | apply asCoach_keeps | apply updCommand_keeps | intro _ _ _ h | intro _ _ h | intro _ h
    | split | assumption

theorem flashStore_keeps (x_a : Nat) (x_b : List Nat) (h : Keeps s t) : Keeps s (flashStore t x_a x_b) := by
  unfold flashStore; try dsimp only
  with_reducible repeat' first
    | exact h | dsimp only | simp only [keeps_mk] | simp only [keepsP_iff] | apply KeepsP.filter | intro _ _ _ h
    | intro _ _ h | intro _ h | split | assumption

theorem updEffect_keeps (x_u : Upd) (h : Keeps s t) : Keeps s (updEffect t x_u) := by
  unfold updEffect; try dsimp only
  with_reducible repeat' first
    | exact h | apply Keeps.ite | dsimp only | simp only [keeps_mk] | simp only [keepsP_iff] | apply flashStore_keeps
    | apply fset_keeps | apply Keeps.ite1 | apply Keeps.foldl | apply Keeps.foldl1 | intro _ _ _ h | intro _ _ h
    | intro _ h | split | assumption

theorem updFails_keeps (x_u : Upd) (h : Keeps s t) : Keeps s (updFails t x_u) := by
  unfold updFails; try dsimp only
  with_reducible repeat' first
    | exact h | apply Keeps.ite | dsimp only | apply fset_keeps | apply Keeps.ite1 | split | assumption

theorem updDone_keeps (x_u : Upd) (x_devErr : Bool) (h : Keeps s t) : Keeps s (updDone t x_u x_devErr) := by
  unfold updDone; try dsimp only
  with_reducible repeat' first
    | exact h | apply Keeps.ite | dsimp only | simp only [keeps_mk] | simp only [keepsP_iff] | apply fset_keeps
    | apply updFails_keeps | apply updEffect_keeps | apply Keeps.ite1 | split | assumption

theorem execUpdOpen_keeps (x_rq : Fin 24) (x_slot : Bool) (s : State) : KeepsO s (execUpdOpen x_rq x_slot s) := by
  unfold execUpdOpen; try dsimp only
  with_reducible repeat' first
    | exact Keeps.refl s | assumption | apply KeepsO.next | dsimp only | apply updCoach_keeps | intro _ _ _ _
    | intro _ _ _ | intro _ _ | split

theorem execUpdClose_keeps (x_rq : Fin 24) (s : State) : KeepsO s (execUpdClose x_rq s) := by
  unfold execUpdClose; try dsimp only
  with_reducible repeat' first
    | exact Keeps.refl s | assumption | apply KeepsO.next | dsimp only | apply updCoach_keeps | intro _ _ _ _
    | intro _ _ _ | intro _ _ | split

theorem execUpdErase_keeps (x_rq : Fin 24) (x_key : BitVec 16) (s : State) : KeepsO s (execUpdErase x_rq x_key s) := by
  unfold execUpdErase; try dsimp only
  with_reducible repeat' first
    | exact Keeps.refl s | assumption | apply KeepsO.next | dsimp only | apply updCoach_keeps | intro _ _ _ _
    | intro _ _ _ | intro _ _ | split

theorem execUpdProgram_keeps (x_rq : Fin 24) (x_key : BitVec 16) (s : State) : KeepsO s (execUpdProgram x_rq x_key s) := by
  unfold execUpdProgram; try dsimp only
  with_reducible repeat' first
    | exact Keeps.refl s | assumption | apply KeepsO.next | dsimp only | apply updCoach_keeps | intro _ _ _ _
    | intro _ _ _ | intro _ _ | split

theorem execUpdRead_keeps (x_rq : Fin 24) (s : State) : KeepsO s (execUpdRead x_rq s) := by
  unfold execUpdRead; try dsimp only
  with_reducible repeat' first
    | exact Keeps.refl s | assumption | apply KeepsO.next | dsimp only | apply updCoach_keeps | intro _ _ _ _
    | intro _ _ _ | intro _ _ | split

theorem execUpdVerify_keeps (x_rq : Fin 24) (s : State) : KeepsO s (execUpdVerify x_rq s) := by
  unfold execUpdVerify; try dsimp only
  with_reducible repeat' first
    | exact Keeps.refl s | assumption | apply KeepsO.next | dsimp only | apply updCoach_keeps | intro _ _ _ _
    | intro _ _ _ | intro _ _ | split

theorem execUpdCommandDone_keeps (x_devErr : Bool) (s : State) : KeepsO s (execUpdCommandDone x_devErr s) := by
  unfold execUpdCommandDone; try dsimp only
  with_reducible repeat' first
    | exact Keeps.refl s | assumption | apply KeepsO.next | dsimp only | simp only [keeps_mk] | simp only [keepsP_iff]
    | apply updDone_keeps | intro _ _ _ _ | intro _ _ _ | intro _ _ | split

theorem execUpdSessionTimeout_keeps (s : State) : KeepsO s (execUpdSessionTimeout s) := by
  unfold execUpdSessionTimeout; try dsimp only
  with_reducible repeat' first
    | exact Keeps.refl s | assumption | apply KeepsO.next | apply KeepsO.ite | apply Keeps.ite | dsimp only
    | apply updClose_keeps | apply Keeps.ite1 | intro _ _ _ _ | intro _ _ _ | intro _ _ | split

theorem otpGo_keeps (x_rq : Nat) (x_key : Nat) (x_offset : Nat) (h : Keeps s t) : Keeps s ((otpGo t x_rq x_key x_offset).1) := by
  unfold otpGo; try dsimp only
  with_reducible repeat' first
    | exact h | apply Keeps.ite | dsimp only | simp only [keeps_mk] | simp only [keepsP_iff] | apply fset_keeps
    | apply Keeps.ite1 | split | assumption

theorem otpCtlWrite_keeps (x_rq : Nat) (x_w : Nat) (h : Keeps s t) : Keeps s ((otpCtlWrite t x_rq x_w).1) := by
  unfold otpCtlWrite; try dsimp only
  with_reducible repeat' first
    | exact h | apply Keeps.ite | dsimp only | apply otpGo_keeps | apply storeWord_keeps | apply Keeps.ite1 | split
    | assumption

theorem execOtpProgram_keeps (x_rq : Fin 24) (x_key : BitVec 16) (x_offset : Fin 128) (s : State) : KeepsO s (execOtpProgram x_rq x_key x_offset s) := by
  unfold execOtpProgram; try dsimp only
  with_reducible repeat' first
    | exact Keeps.refl s | assumption | apply KeepsO.next | dsimp only | apply asCoach_keeps | apply otpGo_keeps
    | intro _ _ _ _ | intro _ _ _ | intro _ _ | split

theorem otpDone_keeps (x_b : Nat × Nat) (x_bits : Nat) (h : Keeps s t) : Keeps s (otpDone t x_b x_bits) := by
  unfold otpDone; try dsimp only
  with_reducible repeat' first
    | exact h | apply Keeps.ite | dsimp only | simp only [keeps_mk] | simp only [keepsP_iff]
    | refine KeepsP.program _ _ ?_ (by rw [← Nat.or_assoc, Nat.or_self]) | apply fset_keeps | apply Keeps.ite1
    | intro _ _ _ h | intro _ _ h | intro _ h | split | assumption

theorem execOtpProgramDone_keeps (x_bits : Word) (s : State) : KeepsO s (execOtpProgramDone x_bits s) := by
  unfold execOtpProgramDone; try dsimp only
  with_reducible repeat' first
    | exact Keeps.refl s | assumption | apply KeepsO.next | dsimp only | simp only [keeps_mk] | simp only [keepsP_iff]
    | apply otpDone_keeps | intro _ _ _ _ | intro _ _ _ | intro _ _ | split

/-! ### Access -/

theorem lnkCmdWrite_keeps (x_w : Nat) (h : Keeps s t) : Keeps s ((lnkCmdWrite t x_w).1) := by
  unfold lnkCmdWrite; try dsimp only
  with_reducible repeat' first
    | exact h | apply Keeps.ite | dsimp only | simp only [keeps_mk] | simp only [keepsP_iff] | apply reenumerate_keeps
    | apply sendReset_keeps | apply Keeps.ite1 | split | assumption

theorem regWrite_keeps (x_rq : Nat) (x_a : Nat) (x_w : Nat) (h : Keeps s t) : Keeps s ((regWrite t x_rq x_a x_w).1) := by
  unfold regWrite; try dsimp only
  with_reducible repeat' first
    | exact h | apply Keeps.ite | dsimp only | simp only [keeps_mk] | simp only [keepsP_iff] | apply topCtl_keeps
    | apply updCommand_keeps | apply updBufWrite_keeps | apply lnkCmdWrite_keeps | apply otpCtlWrite_keeps
    | apply blockWrite_keeps | apply Keeps.ite1 | split | assumption

theorem coachWrite_keeps (x_rq : Nat) (x_a : Nat) (x_w : Nat) (h : Keeps s t) : Keeps s (coachWrite t x_rq x_a x_w) := by
  unfold coachWrite; try dsimp only
  with_reducible repeat' first
    | exact h | dsimp only | apply asCoach_keeps | apply regWrite_keeps | intro _ _ _ h | intro _ _ h | intro _ h
    | split | assumption

theorem coachRead_keeps (x_rq : Nat) (x_a : Nat) (h : Keeps s t) : Keeps s (coachRead t x_rq x_a) := by
  unfold coachRead; try dsimp only
  with_reducible repeat' first
    | exact h | dsimp only | apply asCoach_keeps | apply regRead_keeps | intro _ _ _ h | intro _ _ h | intro _ h
    | split | assumption

theorem execRegisterWrite_keeps (x_rq : Fin 24) (x_addr : Nat) (x_data : Word) (s : State) : KeepsO s (execRegisterWrite x_rq x_addr x_data s) := by
  unfold execRegisterWrite; try dsimp only
  with_reducible repeat' first
    | exact Keeps.refl s | assumption | apply KeepsO.next | dsimp only | apply coachWrite_keeps | intro _ _ _ _
    | intro _ _ _ | intro _ _ | split

theorem execReadClear_keeps (x_rq : Fin 24) (x_addr : Nat) (s : State) : KeepsO s (execReadClear x_rq x_addr s) := by
  unfold execReadClear; try dsimp only
  with_reducible repeat' first
    | exact Keeps.refl s | assumption | apply KeepsO.next | dsimp only | apply coachRead_keeps | intro _ _ _ _
    | intro _ _ _ | intro _ _ | split

theorem execSnapshotRead_keeps (x_rq : Fin 24) (x_addr : Nat) (s : State) : KeepsO s (execSnapshotRead x_rq x_addr s) := by
  unfold execSnapshotRead; try dsimp only
  with_reducible repeat' first
    | exact Keeps.refl s | assumption | apply KeepsO.next | dsimp only | apply coachRead_keeps | intro _ _ _ _
    | intro _ _ _ | intro _ _ | split

theorem chainReads_keeps (n a : Nat) (h : Keeps s t) : Keeps s (chainReads n a t).1 := by
  induction n generalizing t a with
  | zero => exact h
  | succ n ih =>
    unfold chainReads; dsimp only
    repeat' first | with_reducible exact h | (refine ih _ ?_) | with_reducible apply coachRead_keeps | with_reducible apply Keeps.ite1 | split

theorem chainWrites_keeps (n : Nat) (l : List Nat) (h : Keeps s t) : Keeps s (chainWrites n l t).1 := by
  induction l generalizing t n with
  | nil => exact h
  | cons d l ih =>
    unfold chainWrites; dsimp only
    repeat' first | with_reducible exact h | (refine ih _ ?_) | with_reducible apply coachWrite_keeps | with_reducible apply Keeps.ite1 | split

theorem chainAnswer_keeps (x_src : Nat) (x_tag : Nat) (x_status : Nat) (x_done : Nat) (x_data : List Nat) (h : Keeps s t) : Keeps s (chainAnswer t x_src x_tag x_status x_done x_data) := by
  unfold chainAnswer; try dsimp only
  with_reducible repeat' first | exact h | dsimp only | apply send_keeps | split | assumption

theorem execRegRdRx_keeps (x_src : Fin 32) (x_tag : BitVec 16) (x_count : Fin 32) (x_addr : Nat) (s : State) : KeepsO s (execRegRdRx x_src x_tag x_count x_addr s) := by
  unfold execRegRdRx; try dsimp only
  with_reducible repeat' first
    | exact Keeps.refl s | assumption | apply KeepsO.next | apply KeepsO.ite | apply Keeps.ite | dsimp only
    | apply byEngine_keeps | apply chainReads_keeps | apply chainAnswer_keeps | apply Keeps.ite1 | intro _ _ _ _
    | intro _ _ _ | intro _ _ | split

theorem execRegWrRx_keeps (x_src : Fin 32) (x_tag : BitVec 16) (x_count : Fin 32) (x_addr : Nat) (x_data : List Word) (s : State) : KeepsO s (execRegWrRx x_src x_tag x_count x_addr x_data s) := by
  unfold execRegWrRx; try dsimp only
  with_reducible repeat' first
    | exact Keeps.refl s | assumption | apply KeepsO.next | apply KeepsO.ite | apply Keeps.ite | dsimp only
    | apply byEngine_keeps | apply chainWrites_keeps | apply chainAnswer_keeps | apply Keeps.ite1 | intro _ _ _ _
    | intro _ _ _ | intro _ _ | split

theorem execCoachIssue_keeps (x_rq : Fin 24) (x_kind : CoachKind) (x_addr : Nat) (x_data : Word) (s : State) : KeepsO s (execCoachIssue x_rq x_kind x_addr x_data s) := by
  unfold execCoachIssue; try dsimp only
  with_reducible repeat' first
    | exact Keeps.refl s | assumption | apply KeepsO.next | apply KeepsO.ite | apply Keeps.ite | dsimp only
    | simp only [keeps_mk] | simp only [keepsP_iff] | apply coachGo_keeps | apply fset_keeps | apply Keeps.ite1
    | intro _ _ _ _ | intro _ _ _ | intro _ _ | split

theorem coachEffect_keeps (x_c : Coach) (h : Keeps s t) : Keeps s ((coachEffect t x_c).1) := by
  unfold coachEffect; try dsimp only
  with_reducible repeat' first
    | exact h | dsimp only | simp only [keeps_mk] | simp only [keepsP_iff] | apply regRead_keeps
    | apply regWrite_keeps | apply drawNat_keeps | split | assumption

theorem coachRun_keeps (x_c : Coach) (h : Keeps s t) : Keeps s (coachRun t x_c) := by
  unfold coachRun; try dsimp only
  with_reducible repeat' first
    | exact h | apply Keeps.ite | dsimp only | simp only [keeps_mk] | simp only [keepsP_iff] | apply coachEffect_keeps
    | apply fabFreed_keeps | apply fabComplete_keeps | apply Keeps.ite1 | split | assumption

theorem execCoachExecute_keeps (x_t : Fin 32) (s : State) : KeepsO s (execCoachExecute x_t s) := by
  unfold execCoachExecute; try dsimp only
  with_reducible repeat' first
    | exact Keeps.refl s | assumption | apply KeepsO.next | dsimp only | simp only [keeps_mk] | simp only [keepsP_iff]
    | apply coachRun_keeps | intro _ _ _ _ | intro _ _ _ | intro _ _ | split

theorem coachHung_keeps (x_c : Coach) (h : Keeps s t) : Keeps s (coachHung t x_c) := by
  unfold coachHung; try dsimp only
  with_reducible repeat' first
    | exact h | apply Keeps.ite | dsimp only | apply fset_keeps | apply fabLose_keeps | apply seqTargetLost_keeps
    | apply targetReset_keeps | apply raise_keeps | apply Keeps.ite1 | intro _ _ _ h | intro _ _ h | intro _ h | split
    | assumption

theorem execCoachTimeout_keeps (x_tag : Fin 1024) (s : State) : KeepsO s (execCoachTimeout x_tag s) := by
  unfold execCoachTimeout; try dsimp only
  with_reducible repeat' first
    | exact Keeps.refl s | assumption | apply KeepsO.next | apply KeepsO.ite | apply Keeps.ite | dsimp only
    | simp only [keeps_mk] | simp only [keepsP_iff] | apply coachHung_keeps | apply Keeps.ite1 | intro _ _ _ _
    | intro _ _ _ | intro _ _ | split

theorem execTargetReturn_keeps (x_k : Fin 128) (s : State) : KeepsO s (execTargetReturn x_k s) := by
  unfold execTargetReturn; try dsimp only
  with_reducible repeat' first
    | exact Keeps.refl s | assumption | apply KeepsO.next | dsimp only | apply targetBack_keeps | intro _ _ _ _
    | intro _ _ _ | intro _ _ | split

/-! ### Bus -/

theorem busBegin_keeps (x_code : Nat) (x_f : State → State)
    (hf_f : ∀ y0, Keeps s y0 → Keeps s (x_f y0)) (h : Keeps s t) : Keeps s (busBegin t x_code x_f) := by
  unfold busBegin; try dsimp only
  with_reducible repeat' first
    | exact h | apply Keeps.ite | dsimp only | simp only [keeps_mk] | simp only [keepsP_iff] | apply finc_keeps
    | apply fset_keeps | apply hf_f | apply Keeps.ite1 | intro _ _ _ h | intro _ _ h | intro _ h | split | assumption

theorem busReply_keeps (x_pre : List Nat) (x_data : List Nat) (x_pec : Bool) (h : Keeps s t) : Keeps s (busReply t x_pre x_data x_pec) := by
  unfold busReply; try dsimp only
  with_reducible repeat' first
    | exact h | apply Keeps.ite | dsimp only | simp only [keeps_mk] | simp only [keepsP_iff] | apply Keeps.ite1
    | split | assumption

theorem busIllegal_keeps (h : Keeps s t) : Keeps s (busIllegal t) := by
  unfold busIllegal; try dsimp only
  with_reducible repeat' first | exact h | dsimp only | apply busRecord_keeps | split | assumption

theorem busAdvance_keeps (x_n : Nat) (x_inc : Bool) (h : Keeps s t) : Keeps s (busAdvance t x_n x_inc) := by
  unfold busAdvance; try dsimp only
  with_reducible repeat' first
    | exact h | apply Keeps.ite | dsimp only | apply fset_keeps | apply Keeps.ite1 | split | assumption

theorem busReads_keeps (n a : Nat) (h : Keeps s t) : Keeps s (busReads n a t).1 := by
  induction n generalizing t a with
  | zero => exact h
  | succ n ih =>
    unfold busReads; dsimp only
    repeat' first | with_reducible exact h | (refine ih _ ?_) | with_reducible apply busNote_keeps | with_reducible apply coachRead_keeps | with_reducible apply Keeps.ite1 | split

theorem busWrites_keeps (n : Nat) (l : List Nat) (h : Keeps s t) : Keeps s (busWrites n l t).1 := by
  induction l generalizing t n with
  | nil => exact h
  | cons d l ih =>
    unfold busWrites; dsimp only
    repeat' first | with_reducible exact h | (refine ih _ ?_) | with_reducible apply busNote_keeps | with_reducible apply coachWrite_keeps | with_reducible apply Keeps.ite1 | split

theorem busRead_keeps (x_n : Nat) (x_pre : List Nat) (x_head : List Nat) (x_pec : Bool) (h : Keeps s t) : Keeps s (busRead t x_n x_pre x_head x_pec) := by
  unfold busRead; try dsimp only
  with_reducible repeat' first
    | exact h | apply Keeps.ite | dsimp only | apply busReply_keeps | apply busIllegal_keeps | apply busReads_keeps
    | apply busAdvance_keeps | apply Keeps.ite1 | split | assumption

theorem busWritten_keeps (x_sent : List Nat) (x_pec : Option Byte) (x_f : State → State)
    (hf_f : ∀ y0, Keeps s y0 → Keeps s (x_f y0)) (h : Keeps s t) : Keeps s (busWritten t x_sent x_pec x_f) := by
  unfold busWritten; try dsimp only
  with_reducible repeat' first
    | exact h | apply Keeps.ite | dsimp only | simp only [keeps_mk] | simp only [keepsP_iff] | apply busIllegal_keeps
    | apply finc_keeps | apply fset_keeps | apply hf_f | apply Keeps.ite1 | intro _ _ _ h | intro _ _ h | intro _ h
    | split | assumption

theorem busStore_keeps (x_ws : List Nat) (h : Keeps s t) : Keeps s (busStore x_ws t) := by
  unfold busStore; try dsimp only
  with_reducible repeat' first
    | exact h | apply Keeps.ite | dsimp only | apply busWrites_keeps | apply busAdvance_keeps | apply Keeps.ite1
    | split | assumption

theorem execBusIdent_keeps (x_pec : Bool) (s : State) : KeepsO s (execBusIdent x_pec s) := by
  unfold execBusIdent; try dsimp only
  with_reducible repeat' first
    | exact Keeps.refl s | assumption | apply KeepsO.next | dsimp only | apply busBegin_keeps | apply busReply_keeps
    | intro _ _ _ _ | intro _ _ _ | intro _ _ | split

theorem execBusStage_keeps (x_pec : Bool) (s : State) : KeepsO s (execBusStage x_pec s) := by
  unfold execBusStage; try dsimp only
  with_reducible repeat' first
    | exact Keeps.refl s | assumption | apply KeepsO.next | dsimp only | apply busBegin_keeps | apply busReply_keeps
    | intro _ _ _ _ | intro _ _ _ | intro _ _ | split

theorem execBusFault_keeps (x_pec : Bool) (s : State) : KeepsO s (execBusFault x_pec s) := by
  unfold execBusFault; try dsimp only
  with_reducible repeat' first
    | exact Keeps.refl s | assumption | apply KeepsO.next | dsimp only | apply busBegin_keeps | apply busReply_keeps
    | intro _ _ _ _ | intro _ _ _ | intro _ _ | split

theorem execBusWindow_keeps (x_ptr : BitVec 24) (x_pec : Option Byte) (s : State) : KeepsO s (execBusWindow x_ptr x_pec s) := by
  unfold execBusWindow; try dsimp only
  with_reducible repeat' first
    | exact Keeps.refl s | assumption | apply KeepsO.next | apply KeepsO.ite | apply Keeps.ite | dsimp only
    | apply busBegin_keeps | apply busWritten_keeps | apply fset_keeps | apply Keeps.ite1 | intro _ _ _ _
    | intro _ _ _ | intro _ _ | split

theorem execBusRdWord_keeps (x_pec : Bool) (s : State) : KeepsO s (execBusRdWord x_pec s) := by
  unfold execBusRdWord; try dsimp only
  with_reducible repeat' first
    | exact Keeps.refl s | assumption | apply KeepsO.next | dsimp only | apply busBegin_keeps | apply busRead_keeps
    | intro _ _ _ _ | intro _ _ _ | intro _ _ | split

theorem execBusWrWord_keeps (x_data : Word) (x_pec : Option Byte) (s : State) : KeepsO s (execBusWrWord x_data x_pec s) := by
  unfold execBusWrWord; try dsimp only
  with_reducible repeat' first
    | exact Keeps.refl s | assumption | apply KeepsO.next | dsimp only | apply busBegin_keeps | apply busWritten_keeps
    | apply busStore_keeps | intro _ _ _ _ | intro _ _ _ | intro _ _ | split

theorem execBusRdBlock_keeps (x_n : Nat) (x_pec : Bool) (s : State) : KeepsO s (execBusRdBlock x_n x_pec s) := by
  unfold execBusRdBlock; try dsimp only
  with_reducible repeat' first
    | exact Keeps.refl s | assumption | apply KeepsO.next | apply KeepsO.ite | apply Keeps.ite | dsimp only
    | apply busBegin_keeps | apply busRead_keeps | apply Keeps.ite1 | intro _ _ _ _ | intro _ _ _ | intro _ _ | split

theorem execBusWrBlock_keeps (x_n : Nat) (x_data : List Word) (x_pec : Option Byte) (s : State) : KeepsO s (execBusWrBlock x_n x_data x_pec s) := by
  unfold execBusWrBlock; try dsimp only
  with_reducible repeat' first
    | exact Keeps.refl s | assumption | apply KeepsO.next | apply KeepsO.ite | apply Keeps.ite | dsimp only
    | apply busBegin_keeps | apply busWritten_keeps | apply busStore_keeps | apply Keeps.ite1 | intro _ _ _ _
    | intro _ _ _ | intro _ _ | split

theorem execBusReadAbandon_keeps (s : State) : KeepsO s (execBusReadAbandon s) := by
  unfold execBusReadAbandon; try dsimp only
  with_reducible repeat' first
    | exact Keeps.refl s | assumption | apply KeepsO.next | dsimp only | simp only [keeps_mk] | simp only [keepsP_iff]
    | intro _ _ _ _ | intro _ _ _ | intro _ _ | split

theorem execBusAttentionPulse_keeps (x_collided : Bool) (s : State) : KeepsO s (execBusAttentionPulse x_collided s) := by
  unfold execBusAttentionPulse; try dsimp only
  with_reducible repeat' first
    | exact Keeps.refl s | assumption | apply KeepsO.next | apply KeepsO.ite | apply Keeps.ite | dsimp only
    | apply fset_keeps | apply Keeps.ite1 | intro _ _ _ _ | intro _ _ _ | intro _ _ | split

theorem execBusAttnSet_keeps (x_rq : Fin 24) (x_soft : Bool) (s : State) : KeepsO s (execBusAttnSet x_rq x_soft s) := by
  unfold execBusAttnSet; try dsimp only
  with_reducible repeat' first
    | exact Keeps.refl s | assumption | apply KeepsO.next | apply KeepsO.ite | apply Keeps.ite | dsimp only
    | apply asCoach_keeps | apply fset_keeps | apply Keeps.ite1 | intro _ _ _ _ | intro _ _ _ | intro _ _ | split

theorem execBusSclTimeout_keeps (s : State) : KeepsO s (execBusSclTimeout s) := by
  unfold execBusSclTimeout; try dsimp only
  with_reducible repeat' first
    | exact Keeps.refl s | assumption | apply KeepsO.next | apply KeepsO.ite | apply Keeps.ite | dsimp only
    | simp only [keeps_mk] | simp only [keepsP_iff] | apply fset_keeps | apply Keeps.ite1 | intro _ _ _ _
    | intro _ _ _ | intro _ _ | split

end Sys2Proof.Machine
end

