-- ==== Sys2Proof/Tests/Slice0.lean ====
section
/-!
SUPPORT. Tests/Slice0.lean: small checks of single steps, ill-formed operands, and states that meet the hypotheses of the
statements.
-/
namespace Sys2Proof.Tests

open Sys2Proof Sys2Proof.Machine

set_option Elab.async false

/-- A state after power-on with the register fields given. -/
def put (l : List (Fld × Nat)) : State := l.foldl (fun s e => fset s e.1 e.2) State.reset

/-- A sealed unit in Noon with the register fields given. -/
def sealedSt (l : List (Fld × Nat)) : State := put ([(CFG.STATUS.SEALED, 1), (TOP.STAGE.STAGE, 2)] ++ l)

/-- Fed from VIN48 with VDDIO, before Dawn. -/
def fedSt (l : List (Fld × Nat)) : State :=
  { put ([(TOP.SUPPLY.VIN48, 1), (TOP.SUPPLY.VDDIO, 1)] ++ l) with start := { t0 := true, rcRuns := true, bkp := true } }

/-- In stage `g`, image applied and engines running as told. -/
def stageSt (g : Nat) (run : Bool) (l : List (Fld × Nat)) : State :=
  { fedSt ([(TOP.STAGE.STAGE, g)] ++ l) with
    start := { t0 := true, rcRuns := true, bkp := true, dawn := true, pll := true, nvm := true, applied := true, running := run } }

/-- An image of 0x50 bytes, laid out by R74, R75 and R78, with GEN 7. -/
def imgWords : List Nat :=
  [0x31524c4b, 0x400001, 0x7, 0x50, 0x1, 0xff006480, 0x0, 0x0, 0x0, 0x0, 0x0, 0x0, 0x0, 0x0, 0x0, 0x32e2ba61, 0x1, 0x0, 0xc514cfad, 0x21776470]

/-- The bytes of a number of 32-bit words, as cells from address 0 that are not erased. -/
def cellsOf (ws : List Nat) : List Host.Cell :=
  ((ws.flatMap (leBytes 4)).zipIdx.map fun x => (x.2, BitVec.ofNat 8 x.1)).filter fun c => c.2 != 0xFF#8

/-- Morning with an image of one register-write section without entries in slot A. -/
def imgSt : State :=
  { put [(TOP.STAGE.STAGE, 1), (CFG.STATUS.DENSITY, 1)] with
    start := { t0 := true, dawn := true, pll := true, nvm := true, cands := [false] }
    flash := cellsOf imgWords }

/-- Morning with everything that Noon needs. -/
def noonSt : State :=
  let s := stageSt 1 true [(LNK.STAT.ADDR_VALID, 1), (TIME.STAT.STATE, 4), (LNK.STAT.ATTACHED, 1), (LEDG.FEED.STAT.VALID 0, 1)]
  { s with ldg := { s.ldg with srcs := [⟨1, true, true, 0, 1000, 0⟩] } }

/-- Noon, with a session of port 9 open on slot B of an 8 MiB device, and the command given in progress. -/
def updSt (u : Option Upd) (l : List (Fld × Nat)) : State :=
  let s := stageSt 2 true ([(CFG.UPD_STAT.OPEN, 1), (CFG.UPD_STAT.OWNER, 9), (CFG.UPD_STAT.TARGET, 1), (CFG.STATUS.DENSITY, 2),
    (CFG.UPD_STAT.BUSY, if u.isSome then 1 else 0)] ++ l)
  { s with img := { s.img with upd := u }, flash := [(0x400010, 0x5A#8), (0x400011, 0x0F#8)] }

/-- Channel 3 of a running part at Noon, used, in state `st`, with more fields as given. -/
def chSt (st : Nat) (l : List (Fld × Nat)) : State :=
  let s := put ([(TOP.STAGE.STAGE, 2), (CHN.CFG.EN 3, 1), (CHN.STAT.STATE 3, st), (CHN.LEDG.RESV_MW 3, 900)] ++ l)
  { s with start := { s.start with dawn := true, applied := true, running := true } }

/-- The chapter's example: RES20 0.0371, ALPHA 0.00393, RTH 0.40 and 3.6, CTH 1.72 and 2.61, T_LIM 105 degrees. -/
def exType : WType :=
  ⟨f32OfRat 371 10000, f32OfRat 393 100000, f32OfRat 40 100, f32OfRat 36 10, f32OfRat 172 100, f32OfRat 261 100, 0x690⟩

/-- Severities that make no source but FLT_SELF fatal. -/
def calmSev : List (Fld × Nat) := [0x242, 0x243, 0x244, 0x245, 0x24B, 0x24C].map fun i => (FLT.SEV i, 2)

/-- Noon with the wire model of channel 3 running on a wire of 0.5 mm2 (the chapter's example) at Tc = Ti = `t` degrees. -/
def wireSt (t : Int) (l : List (Fld × Nat)) : State :=
  let s := stageSt 2 true (calmSev ++ [(WIRE.CFG.EN 3, 1), (WIRE.CFG.TYPE 3, 12), (WIRE.CFG.RIA_SCALE 3, 0x80), (WIRE.STAT.RUN 3, 1), (CHN.CFG.EN 3, 1)] ++ l)
  let x : WireX := { tc := f32OfRat t 1, ti := f32OfRat t 1 }
  { s with wire := { s.wire with types := [(12, exType)], chans := [(3, x)] } }

/-- Loop 0 with phases 0-3, of which the first `m` are active, in state `st`, on the chapter's example. -/
def loopSt (st m : Nat) (l : List (Fld × Nat)) : State :=
  let ph := (List.range 4).flatMap fun k => [(LOOP.PHS.CFG.LOOP k, 0), (LOOP.PHS.CFG.ACT k, if k < m then 1 else 0)]
  let ot := (List.range 12).map fun k => (LOOP.PHS.CFG.LOOP (k + 4), 7)
  let s := stageSt 2 true (calmSev ++ ph ++ ot ++ [(LOOP.STAT.STATE 0, st), (LOOP.STAT.NPH_ACT 0, m), (LOOP.VSET.VSET 0, 420), (LOOP.VREF.VTGT 0, 420),
    (LOOP.LEDG.RESV_MW 0, 500000), (LOOP.LEDG_V.VNOM 0, 420), (LOOP.CTL.CSEL 0, 0x25)] ++ l)
  setLoopX s 0 { vref := 775000 }

/-- Regulator `r` in state `st`, with the chapter's example entry and more fields as given. -/
def regSt (r st : Nat) (l : List (Fld × Nat)) : State :=
  stageSt 2 true (calmSev ++ [(REG.STAT.STATE r, st), (REG.VSET.VSET r, 540), (REG.VSET.VTGT r, 540), (REG.LEDG.RESV_MW r, 11000),
    (REG.LEDG_V.VNOM r, 540), (REG.CTL.EN r, 1)] ++ l)

/-- Sequence 2, running its step `i` of those given, with regulator 0 and loop 0 set up and more fields as given. -/
def seqSt (i : Nat) (hd : SeqH) (steps : List Step) (issued : Bool) (l : List (Fld × Nat)) : State :=
  let s := stageSt 2 true (calmSev ++ [(SEQ.STAT.STATE 2, 1), (SEQ.STAT.STEP 2, i), (REG.VSET.VSET 0, 540), (REG.LEDG.RESV_MW 0, 11000),
    (REG.LEDG_V.VNOM 0, 540), (CHN.CFG.EN 3, 1), (LOOP.PHS.CFG.LOOP 0, 0), (LOOP.VSET.VSET 0, 420)] ++ l)
  { s with sqs := { s.sqs with heads := [{}, {}, hd], steps := steps, seqs := [(2, { issued := issued, powerFail := i == 1 })] } }

/-- Noon with both ports at full rate; the head, or the unit with address 2, on a line or ring of five. -/
def lnkSt (head : Bool) (topo : Nat) (l : List (Fld × Nat)) : State :=
  let reach := (List.range 5).map fun u => (LNK.REACH u, 1)
  stageSt 2 true (calmSev ++ reach ++ [(TOP.STATUS.HEAD, b2n head), (LNK.STAT.HEAD, b2n head), (LNK.STAT.ADDR_VALID, 1), (LNK.STAT.ADDR, if head then 0 else 2), (LNK.STAT.N, 5),
    (LNK.STAT.TOPO, topo), (LNK.STAT.ATTACHED, 1), (LNK.STAT.RATE, 1), (LNK.STAT.CHAIN_GEN, 1), (LNK.PORT.STAT.STATE 0, 2), (LNK.PORT.STAT.STATE 1, 2),
    (LNK.ROUTE 0, b2n (!head)), (LNK.ROUTE 1, b2n (!head))] ++ l)

/-- The state with its link data replaced. -/
def withLnk (s : State) (f : LnkX → LnkX) : State := { s with lnk := f s.lnk }

/-- A head whose enumeration of generation 1 is running. -/
def enumSt (l : List (Fld × Nat)) : State := withLnk (lnkSt true 1 l) fun x => { x with gen := 1, enumRuns := true }

/-- Unit 2 of a ring with D of UP known, in time state `st`, its CT at `ct`. -/
def timeSt (st ct : Nat) (l : List (Fld × Nat)) : State :=
  let s := lnkSt false 2 ([(TIME.STAT.STATE, st), (TIME.HOP.VALID 0, 1), (TIME.HOP.D 0, 320), (TIME.STAT.SYNC_SEQ, 7)] ++ l)
  { s with time := { s.time with ct := ct, loc := 500, lastTx := some 1000000, good := 15, bad := 3, freq := 40 } }

/-- Entry 5 in state `st` with action word `w2` and word W3 of `w3`, enabled, its launch at 9 ms and CT at 5 ms. -/
def itinSt (st w2 w3 : Nat) (l : List (Fld × Nat)) (e : EntX) : State :=
  let s := stageSt 2 true (calmSev ++ [(TIME.STAT.STATE, 4), (ITIN.W1.WIN 5, 3), (ITIN.W2.ACT 5, w2 / 2 ^ 24), (ITIN.W2.TGT 5, w2 / 2 ^ 16 % 256),
    (ITIN.W2.ARG 5, w2 % 2 ^ 16), (ITIN.W3.EN 5, 1), (ITIN.W3.PER 5, w3 / 2 ^ 11 % 2 ^ 16), (ITIN.W3.REPEAT 5, w3 % 2 ^ 11), (TIME.ITIN_ST.STATE 5, st),
    (CHN.CFG.EN 3, 1), (CHN.LEDG.RESV_MW 3, 900), (REG.VSET.VSET 0, 540), (REG.LEDG.RESV_MW 0, 11000), (REG.LEDG_V.VNOM 0, 540)] ++ l)
  { setEnt s 5 e with time := { s.time with ct := 5000000, loc := 5000000 }, slots := if st = 4 then [⟨w2 / 2 ^ 16 % 256, 5, 9000000⟩] else [] }

/-- An entry whose launch is at 9 ms. -/
def nineMs : EntX := { nominal := 9000000, placed := 9000000 }

/-- A chain of five at Noon with CT locked, convoy records as given, and entry 5 of convoy 3 in state `st`. -/
def cvySt' (head : Bool) (x : CvyX) (st : Nat) (chain : Nat) (l : List (Fld × Nat)) (e : EntX) : State :=
  let s := lnkSt head 2 ([(TIME.STAT.STATE, if head then 4 else 2), (ITIN.W1.CONVOY 5, 3), (ITIN.W1.WIN 5, 3), (ITIN.W0.LAUNCH_LO 5, 100), (ITIN.W2.ACT 5, 1), (ITIN.W2.TGT 5, 3), (ITIN.W2.ARG 5, 1),
    (ITIN.W3.EN 5, 1), (ITIN.W3.CHAIN 5, chain), (TIME.ITIN_ST.STATE 5, st), (CHN.CFG.EN 3, 1), (CHN.LEDG.RESV_MW 3, 900),
    (TIME.CVY_LAUNCH_LO.CT, 9000000)] ++ l)
  { setEnt s 5 e with time := { s.time with ct := 5000000, loc := 5000000 }, cvy := x }

/-- A convoy record of convoy 3 with ARM_ID 7 and launch CT at 9 ms. -/
def cvy3 (st : Nat) (f : Cvy → Cvy) : Cvy := f { conv := 3, armId := 7, launch := 9000000, members := 6, st := st }

/-- The state with its ledger data replaced. -/
def withLdg (s : State) (f : LedgX → LedgX) : State := { s with ldg := f s.ldg }

/-- A unit whose ledger has one source and, as consumers 0 and 1, channels 3 and 4 of classes 4 and 6, channel 3 in state `st`. -/
def ledgSt (head : Bool) (st : Nat) (src : SrcE) (l : List (Fld × Nat)) : State :=
  let s := lnkSt head 2 ([(TIME.STAT.STATE, if head then 4 else 2), (CHN.STAT.STATE 3, st), (CHN.CFG.EN 3, 1), (CHN.CTL.MODE 3, 2), (CHN.LEDG.RESV_MW 3, 62100), (TOP.SUPPLY.VIN48, 1),
    (LEDG.CLASS.KEEP_MW 4, 5000), (LEDG.FEED.STAT.VALID 0, 1), (LEDG.FEED.SHARE.MW 0, 40000), (LEDG.CONS.CFG.STATE 1, 4), (LEDG.CONS.RSV.MW 1, 30000), (CHN.STAT.STATE 4, 5), (CHN.CFG.EN 4, 1)] ++ l)
  let t := { s with time := { s.time with ct := 5000000, loc := 5000000 } }
  withLdg t fun x => { x with srcs := [src], cons := [⟨1, 3, 0, 4, 62100, 0, 255, 100, 1000⟩, ⟨1, 4, 0, 6, 30000, 0, 255, 100, 1000⟩] }

/-- The state with a request of channel 3 for 62.1 W before E0. -/
def asks3 (s : State) : State :=
  withLdg s fun x => { x with reqs := [{ kind := .chan 3 false, mw := 62100, arrival := 4000000 }] }

/-- The ledger unit with a LEDG_RESV of 30 W, REQ_ID 5, outstanding on feed 0, for a request of channel 3 or a release. -/
def resvSt (rel : Bool) (l : List (Fld × Nat)) : State :=
  withLdg (ledgSt false 3 ⟨1, true, true, 0, 600000, 250000⟩ ([(LEDG.FEED.STAT.WAIT 0, 1)] ++ l)) fun x => { x with
    reqs := [{ kind := .chan 3 false, mw := 62100, arrival := 4000000, wait := true, held := [(0, 33000)], out := [(0, 5)] }],
    feeds := [(0, { base := some 40000, out := some (5, 30000, rel), late := [9] })] }

/-- The head of the ledger unit with feed 0 of 3 kW. -/
def feedHead (l : List (Fld × Nat)) (f : LedgX → LedgX) : State :=
  withLdg (ledgSt true 0 ⟨1, true, true, 0, 600000, 250000⟩ ([(LEDG.GRANT.MW 0 2, 250)] ++ l)) fun x =>
    f { x with feedsE := [⟨0, 3000, [100, 100, 200]⟩] }

/-- A part at Noon with coaches outstanding: tag 4 at target port 24 for address `a`, and tag 5 at the same port. -/
def fabSt (kind : CoachKind) (a w : Nat) (l : List (Fld × Nat)) : State :=
  let s := stageSt 2 true (calmSev ++ l)
  { s with fab := { coaches := [⟨4, 6, kind, a, w, coachTarget kind a, coachPort kind a⟩, ⟨5, 9, .read, 0xE0004, 0, 0x51, 24⟩] } }

/-- Converter 0 READY at Noon with sequence 1 enabled on three entries, in state `st`, and more fields as given. -/
def adcSt' (st : Nat) (x : AdcSeqX) (l : List (Fld × Nat)) : State :=
  let s := stageSt 2 true (calmSev ++ [(ADC.CTL.EN, 1), (ADC.STAT.C0, if st = 2 then 13 else 8), (ADC.SEQ.CFG.EN 1, 1), (ADC.SEQ.CFG.LEN 1, 3), (ADC.SEQ.STAT.STATE 1, st),
    (ADC.SEQ.ENT.INPUT 1 0, 0xC1), (ADC.SEQ.ENT.INPUT 1 1, 0x43), (ADC.SEQ.ENT.INPUT 1 2, 0x90)] ++ l)
  { s with adc := { s.adc with seqs := [(1, x)] } }

/-- General comparator 2 in mode `m`, its output low. -/
def cmpSt (m : Nat) (l : List (Fld × Nat)) : State :=
  let s := stageSt 2 true (calmSev ++ [(CMP.GEN.CFG.MODE 2, m), (CMP.GEN.CFG.CAPEN 2, 1), (CMP.GEN.CFG.ATTN 2, 1), (ADC.STAT.C3, 8), (CHN.CFG.EN 3, 1), (CHN.STAT.STATE 3, 5), (CHN.SC.THR 3, 100)] ++ l)
  { s with cmp := { s.cmp with mode := [(2, m)], ref := if m = 2 then [2] else [] } }

/-- The chapter's pack on CHG_IN at Noon, the charger in state `st` at 10 A, and more fields as given. -/
def chgSt (st : Nat) (l : List (Fld × Nat)) : State :=
  let s := stageSt 2 true (calmSev ++ [(CHG.CFG.EN, 1), (CHG.PACK.CELLS, 4), (CHG.PACK.ID_EXP, 7), (CHG.VCELL.CV_MV, 0xE10), (CHG.VCELL2.RECH_MV, 0xD16),
    (CHG.ICHG.ICC_MA, 10000), (CHG.ICHG.IPRE_MA, 2000), (CHG.LEDG.RESV_MW, 160000), (CHG.STAT.INSEL, 1), (CHG.STAT.STATE, st), (TOP.SUPPLY.CHG_IN, 1),
    (CHG.SUP2.SUP_W, 120), (CHG.CFG.HOLD_EN, 1), (CHG.CFG.SEL, 1), (CHG.TERM.TIMER_H, 4)] ++ l)
  { s with chg := { s.chg with it := 10000 } }

/-- A state with its charger's own data as given. -/
def withChg (s : State) (x : ChgX) : State := { s with chg := x }

/-- The chapter's gauge: 20 Ah by design, Q_max 19.6 Ah, SoC 60 % and UNC 2 %. -/
def gauX : GaugeX :=
  { tab := some ⟨20000, (List.range 16).map fun (k : Nat) => (k : Int) * 5 - 20, (List.range 8).map fun k => 10 + 20 * k, List.replicate 128 920, (List.range 21).map fun k => 3000 + 20 * k⟩,
    acc := 7200000, soc := 0x42700000, unc := 0x40000000, qmax := 0x46992000 }

/-- The gauge running on it beside a charger in state `st`, with more fields as given. -/
def gauSt (st : Nat) (x : GaugeX) (l : List (Fld × Nat)) : State :=
  let s := chgSt st ([(GAUGE.CFG.EN, 1), (GAUGE.STAT.RUN, 1), (GAUGE.REF.REFENT, 5), (ITIN.W2.ACT 5, 0x20), (ITIN.W2.TGT 5, 0x98), (ITIN.W2.ARG 5, 0x4000)] ++ l)
  { s with gau := x, jrn := { s.jrn with present := true } }

/-- The chapter's port `n` in state `st`, and more fields as given. -/
def pdSt (n st : Nat) (x : PdX) (l : List (Fld × Nat)) : State :=
  let s := stageSt 2 true (calmSev ++ [(PD.STAT.STATE n, st), (PD.CFG.EN n, 1), (PD.CFG.EFF n, 940), (PD.CAP.PORT_W n, 100), (PD.CAP.CAP_W n, 100),
    (PD.PDO.PDO n 1, 0x0002D12C), (PD.PDO.PDO n 2, 0x000641F4), (PD.PDO.PDO n 3, 0xC0DC2164), (PD.CFG.ROLE 1, 2)] ++ l)
  setPdX s n x

/-- Running at Noon with channel 5 kept on by privilege, loop 0 and port 0 at work, and more fields as given. -/
def fltSt (l : List (Fld × Nat)) : State :=
  stageSt 2 true (calmSev ++ [(CHN.CFG.PRIV_ACT 5, 1), (FLT.SAFE_KEEP 5, 1), (CHN.STAT.STATE 5, 5), (CHN.STAT.STATE 6, 5), (LOOP.STAT.STATE 0, 4),
    (PD.STAT.STATE 0, 4), (CHG.STAT.STATE, 5), (FLT.CFG.INJ_EN, 1)] ++ l)

/-- A state with the collector's own data as given. -/
def withFlt (s : State) (x : FltX) : State := { s with flt := x }

/-- Unit 2 of a chain of five (or its head) in stage `g`, its ports in state `ps`, and more fields as given. -/
def pwrSt (g : Nat) (head : Bool) (ps : Nat) (l : List (Fld × Nat)) : State :=
  lnkSt head 2 ([(TOP.STAGE.STAGE, g), (LNK.PORT.STAT.STATE 0, ps), (LNK.PORT.STAT.STATE 1, ps), (LEDG.STAT.MODE, 1), (LEDG.SHED.LEVEL, 6), (TIME.STAT.STATE, 3),
    (RTC.PWR_CFG.NIGHT_LEAD, 10), (RTC.WAKE.EN_ITIN, 1)] ++ l)

/-- A state with its stage data as given. -/
def withPwr (s : State) (x : PwrX) : State := { s with pwr := x }

/-- A calendar at 2100-02-28 23:59:59, and more fields as given. -/
def calSt (l : List (Fld × Nat)) : State :=
  pwrSt 4 true 3 ([(RTC.DATE.YEAR, 2100), (RTC.DATE.MONTH, 2), (RTC.DATE.DAY, 28), (RTC.TIME.HOUR, 23), (RTC.TIME.MIN, 59), (RTC.TIME.SEC, 59)] ++ l)

/-- A part with straps 3 on a bus that runs, in stage `g`, with more fields as given. -/
def busSt (g : Nat) (l : List (Fld × Nat)) : State :=
  stageSt g true ([(TOP.SUPPLY.VDDIO, 1), (BUS.STAT.ADDR, 0x5B), (BUS.PTR.PTR, 0x30300), (LNK.STAT.ADDR, 3), (LNK.STAT.ADDR_VALID, 1)] ++ l)

/-- Port 9 holds four tags. -/
def withTags (s : State) : State := { s with fab := { coaches := (List.range 4).map fun n => ⟨n, 9, .read, 0, 0, 0x7F, 0⟩ } }

/-- The bytes of a read phase stand ready. -/
def withReply (s : State) : State := { s with bus := { reply := [1, 2, 3] } }

/-- A record of this TYPE and EVENT. -/
def jr (typ event : Nat) (held : Bool) : JRec :=
  { typ := typ, flags := 4, ct := 0x123456789A, unit := 3, rep := 1, sub := 7, event := event, code := 2, vals := [5, 6], held := held }

/-- A ready journal on 1,024 blocks of 64 pages of 32 records. -/
def jrnSt (st : Nat) (x : JrnlX) (l : List (Fld × Nat)) : State :=
  { stageSt 2 true ([(JRNL.STAT.STATE, st), (JRNL.GEOM.BLOCKS, 1024), (JRNL.HEAD_LO.SEQ, 40), (JRNL.OLDEST_LO.SEQ, 38)] ++ l) with jrn := x }

/-- Records 38 and 39 stand in page 4 of block 9, the next page is the fifth, and the head record says so. -/
def jrnX : JrnlX :=
  { nand := [(9 * 64 + 4, [.record 38 [3, 1], .record 39 [4, 1]])], blk := 9, pg := 5, head := some (9, 5, 40) }

/-- A slot of a page 0 and one of a page 1. -/
def jrnTwo : List (Nat × List JSlot) := [(8 * 64, [.record 7 []]), (12 * 64, [.record 38 []]), (12 * 64 + 1, [.torn, .torn])]

/-- Frame 0 from the start of its frame k, with the works given in nanoseconds (the worked example after R21). -/
def frameRun (ws : List Nat) : State := ws.foldl (fun s w => (frameBegin s 0 w).1) (stageSt 2 true [])

/-- CH17 of the worked example of chapter 14: 5 milliohm, converter 1's entry 1, AVG 2. -/
def scanSt : State :=
  put [(CHN.SHUNT.MICRO_OHM 17, 5000), (ADC.SEQ.CFG.AVG 4, 2), (ADC.SEQ.ENT.INPUT 4 1, 17), (ADC.SEQ.ENT.GAIN 4 1, 2),
    (ADC.SEQ.CFG.AVG 5, 2), (ADC.SEQ.ENT.INPUT 5 1, 0x51), (ADC.SEQ.ENT.INPUT 14 2, 0x82)]

/-- A frame that lies within its bits. -/
def okFrame : Frame := { typ := 0x30, bc := false, dst := 3, noaddr := false, src := 1, ttl := 5, seq := 9, hop := false, path := false, pay := [1, 2] }

theorem test_step_front : step { State.reset with pending := [.pllLockRetry] } = exec .pllLockRetry State.reset := by rfl

theorem test_idle_hypothesis : State.reset.pending = [] := by decide

theorem test_canonical_hypothesis : (put [(CHN.STAT.STATE 3, 5)]).regsWf = true := by decide +kernel

theorem test_fuse_hypothesis :
    (fuse { State.reset with otp := { fuses := [(4, 6)] } } 4).testBit 1 = true := by decide +kernel

theorem test_flash_hypothesis : Memory.wf (updSt none []).flash = true := by decide +kernel

theorem test_crc8_check_value : crc8 [0x31, 0x32, 0x33, 0x34, 0x35, 0x36, 0x37, 0x38, 0x39] = 0xF4 := by decide +kernel

theorem test_bus_pointer_wraps :
    (match execBusRdWord false (busSt 2 [(BUS.PTR.PTR, 0xFFFFFC)]) with | .next t => fget t BUS.PTR.PTR | _ => 1) = 0 := by decide +kernel

/-- The worked example after R21: the frame after one of 34 us starts at its end, the next 7.5 us after it. -/
theorem test_frame_late : (frame (frameRun [34000, 4000]) 0).start = 34000 ∧ fget (frameRun [34000, 4000]) (FRM.LAG.LAG 0) = 2400 := by
  decide +kernel

theorem test_frame_catches_up :
    (frame (frameRun [34000, 4000, 4000]) 0).start = 41500 ∧ fget (frameRun [34000, 4000, 4000]) (FRM.CNT.LIMIT_EXC 0) = 2 := by
  decide +kernel

/-- Chapter 6, the worked example: R(460) and R(420) of L0, and the feed-forward duty at 0.775 V from 12 V. -/
theorem test_loop_reservation :
    loopR (put [(LOOP.LEDG.RESV_MW 0, 500000), (LOOP.LEDG_V.VNOM 0, 420)]) 0 460 = 532258 ∧ codeUv 420 * 16777216 / 12000000 = 1083528 := by
  decide +kernel

/-- Chapter 8, the worked example: the raise of BUCK_C from code 40 to 50. -/
theorem test_regulator_reservation :
    regR (put [(REG.LEDG.RESV_MW 2, 4000), (REG.LEDG_V.VNOM 2, 40)]) 2 50 - regR (put [(REG.LEDG.RESV_MW 2, 4000), (REG.LEDG_V.VNOM 2, 40)]) 2 40 =
      250 := by decide +kernel

/-- Chapter 17, the worked example: the reservations of the laptop port. -/
theorem test_port_reservation :
    pdR (put [(PD.CFG.EFF 0, 940)]) 0 5000 3000 = 15958 ∧ pdR (put [(PD.CFG.EFF 0, 940)]) 0 20000 4750 = 101064 := by decide +kernel

/-- Chapter 14, the worked example: the results of CH17. -/
theorem test_channel_scan :
    let u := adcPublish (adcPublish (adcPublish scanSt 14 [(0, false), (0, false), (6900, false)]) 4 [(0, false), (36000, false)]) 5
      [(0, false), (27536, false)]
    fget u (CHN.MEAS_I.I_MA 17) = 4500 ∧ fget u (CHN.MEAS_V.OUT_MV 17) = 13768 ∧ fget u (CHN.MEAS_V.VDS_MV 17) = 9 := by decide +kernel

/-- Chapter 20, the worked example: STAT and EVT of CH17 read as a block with the pointer at 0x02_1104. -/
theorem test_bus_block :
    (match execBusRdBlock 2 false (busSt 2 [(BUS.PTR.PTR, 0x21104), (CHN.STAT.STATE 17, 5), (CHN.STAT.BANK 17, 1)]) with
      | .next t => (t.bus.reply, fget t BUS.PTR.PTR)
      | _ => ([], 0)) = ([2, 0, 0, 1, 0x50, 0, 0, 0, 0], 0x2110C) := by decide +kernel

/-- The check value of CRC-32C (iSCSI) over the digits 1 to 9. -/
theorem test_crc32c_check_value : crc32c [0x31, 0x32, 0x33, 0x34, 0x35, 0x36, 0x37, 0x38, 0x39] = 0xE3069283 := by decide +kernel

/-! ### Ill-formed operands: one term for each check of WellFormed -/

theorem test_wf_frame : okFrame.wellFormed = true := by decide
theorem test_wf_frame_type : { okFrame with typ := 256 }.wellFormed = false := by decide
theorem test_wf_frame_dst : { okFrame with dst := 32 }.wellFormed = false := by decide
theorem test_wf_frame_src : { okFrame with src := 32 }.wellFormed = false := by decide
theorem test_wf_frame_ttl : { okFrame with ttl := 256 }.wellFormed = false := by decide
theorem test_wf_frame_seq : { okFrame with seq := 65536 }.wellFormed = false := by decide
theorem test_wf_frame_length : { okFrame with pay := List.replicate 17 0 }.wellFormed = false := by decide
theorem test_wf_frame_word : { okFrame with pay := [2 ^ 32] }.wellFormed = false := by decide
theorem test_wf_forward : (Instr.frameForward 0 { okFrame with typ := 256 } false).wellFormed = false := by decide
theorem test_wf_register_write : (Instr.registerWrite 9 (2 ^ 24) 0).wellFormed = false := by decide
theorem test_wf_read_clear : (Instr.readClear 9 (2 ^ 24)).wellFormed = false := by decide
theorem test_wf_snapshot_read : (Instr.snapshotRead 9 (2 ^ 24)).wellFormed = false := by decide
theorem test_wf_coach_issue : (Instr.coachIssue 9 .read (2 ^ 24) 0).wellFormed = false := by decide
theorem test_wf_reg_rd : (Instr.regRdRx 1 7 1 (2 ^ 24)).wellFormed = false := by decide
theorem test_wf_reg_wr_address : (Instr.regWrRx 1 7 1 (2 ^ 24) [0]).wellFormed = false := by decide
theorem test_wf_reg_wr_length : (Instr.regWrRx 1 7 15 0 (List.replicate 15 0)).wellFormed = false := by decide
theorem test_wf_reg_wr_count : (Instr.regWrRx 1 7 2 0 [0]).wellFormed = false := by decide
theorem test_wf_reg_rsp : (Instr.regRspRx 7 0 16 (List.replicate 16 0)).wellFormed = false := by decide
theorem test_wf_enum : (Instr.enumRx 0 1 false 33).wellFormed = false := by decide
theorem test_wf_enum_end : (Instr.enumEndRx 1 false 0).wellFormed = false := by decide
theorem test_wf_enum_done : (Instr.enumDoneRx 1 false 64).wellFormed = false := by decide
theorem test_wf_ledger_regulators : (Instr.ledgerFrame 0 (List.replicate 9 (0, 0)) []).wellFormed = false := by decide
theorem test_wf_ledger_ports : (Instr.ledgerFrame 0 [] (List.replicate 3 (0, 0, 0))).wellFormed = false := by decide
theorem test_wf_journal_frame : (Instr.jrnlFwdRx (List.replicate 15 0)).wellFormed = false := by decide
theorem test_wf_source_caps : (Instr.pdSourceCapsRx 0 []).wellFormed = false := by decide
theorem test_wf_read_block : (Instr.busRdBlock 256 false).wellFormed = false := by decide
theorem test_wf_write_block : (Instr.busWrBlock 2 [0] none).wellFormed = false := by decide
theorem test_wf_load_window : (Instr.loadWindowEnd (List.replicate 9 0)).wellFormed = false := by decide

/-- No row of the opcode table has bits, so no word spells a command. -/
theorem test_no_word_decodes (nbits w : Nat) : decodeTableWord nbits w = none := rfl

theorem witness_WriteActsByAccessCode_1a :
    (fun (rq : Fin 24) (a : Nat) (_ : Word) (s : State) =>
    storesOnly a = true ∧ reachable s rq a) (3) (0x20310) (0x12345678) (put [(CHN.EVT.SC 3, 1)]) := by
  decide +kernel

theorem witness_WriteActsByAccessCode_1b :
    (fun (rq : Fin 24) (a : Nat) (_ : Word) (s : State) =>
    storesOnly a = true ∧ reachable s rq a) (9) (0x18) (0x10005) (sealedSt []) := by
  decide +kernel

theorem witness_WriteActsByAccessCode_1c :
    (fun (rq : Fin 24) (a : Nat) (_ : Word) (s : State) =>
    storesOnly a = true ∧ reachable s rq a) (10) (0x10) (0x3F) (put [(TOP.RST_CAUSE.PIN, 1)]) := by
  decide +kernel

theorem witness_WriteActsByAccessCode_1d :
    (fun (rq : Fin 24) (a : Nat) (_ : Word) (s : State) =>
    storesOnly a = true ∧ reachable s rq a) (9) (0x20324) (0xFFFFFFFF) (put []) := by
  decide +kernel

theorem witness_WriteActsByAccessCode_1e :
    (fun (rq : Fin 24) (a : Nat) (_ : Word) (s : State) =>
    storesOnly a = true ∧ reachable s rq a) (9) (0x30000) (0x7FF) (put []) := by
  decide +kernel

theorem witness_WriteActsByAccessCode_1f :
    (fun (rq : Fin 24) (a : Nat) (_ : Word) (s : State) =>
    storesOnly a = true ∧ reachable s rq a) (2) (0x50050) (0x1F) (put []) := by
  decide +kernel

theorem witness_WriteActsByAccessCode_1g :
    (fun (rq : Fin 24) (a : Nat) (_ : Word) (s : State) =>
    storesOnly a = true ∧ reachable s rq a) (2) (0xE0004) (0x1F) (put []) := by
  decide +kernel

theorem witness_WriteActsByAccessCode_1h :
    (fun (rq : Fin 24) (a : Nat) (_ : Word) (s : State) =>
    storesOnly a = true ∧ reachable s rq a) (2) (0x160404) (77) (sealedSt []) := by
  decide +kernel

theorem witness_WriteActsByAccessCode_1i :
    (fun (rq : Fin 24) (a : Nat) (_ : Word) (s : State) =>
    storesOnly a = true ∧ reachable s rq a) (2) (0x160410) (77) (sealedSt [(FRM.CNT.LATE 0, 9)]) := by
  decide +kernel

theorem witness_ReadReturnsFieldsAndClearsRC_1a :
    (fun (rq : Fin 24) (a : Nat) (s : State) =>
    storesOnly a = true ∧ reachable s rq a) (3) (0x160410) (put [(FRM.CNT.LATE 0, 9), (FRM.CNT.LIMIT_EXC 0, 3)]) := by
  decide +kernel

theorem witness_ReadReturnsFieldsAndClearsRC_1b :
    (fun (rq : Fin 24) (a : Nat) (s : State) =>
    storesOnly a = true ∧ reachable s rq a) (9) (0x30004) (put []) := by
  decide +kernel

theorem witness_ReadReturnsFieldsAndClearsRC_1c :
    (fun (rq : Fin 24) (a : Nat) (s : State) =>
    storesOnly a = true ∧ reachable s rq a) (9) (0x20310) (put [(CHN.EVT.SC 3, 1)]) := by
  decide +kernel

theorem witness_ReadReturnsFieldsAndClearsRC_1d :
    (fun (rq : Fin 24) (a : Nat) (s : State) =>
    storesOnly a = true ∧ reachable s rq a) (9) (0xC) (put [(TOP.SUPPLY.VBANK, 255)]) := by
  decide +kernel

theorem witness_ReadReturnsFieldsAndClearsRC_2a :
    (fun (rq : Fin 24) (a : Nat) (b : Nat) (s : State) =>
    (specAt a).isSome = true ∧ reachable s rq a ∧ bitKept a b = false) (3) (0x4) (31) (put []) := by
  decide +kernel

theorem witness_ReadReturnsFieldsAndClearsRC_2b :
    (fun (rq : Fin 24) (a : Nat) (b : Nat) (s : State) =>
    (specAt a).isSome = true ∧ reachable s rq a ∧ bitKept a b = false) (3) (0x120004) (27) (put []) := by
  decide +kernel

theorem witness_ReadReturnsFieldsAndClearsRC_2c :
    (fun (rq : Fin 24) (a : Nat) (b : Nat) (s : State) =>
    (specAt a).isSome = true ∧ reachable s rq a ∧ bitKept a b = false) (9) (0x140004) (7) (put []) := by
  decide +kernel

theorem witness_ReadReturnsFieldsAndClearsRC_2d :
    (fun (rq : Fin 24) (a : Nat) (b : Nat) (s : State) =>
    (specAt a).isSome = true ∧ reachable s rq a ∧ bitKept a b = false) (9) (0x14) (1) (put []) := by
  decide +kernel

theorem witness_ReservedBitsOfAWriteAreIgnored_1a :
    (fun (rq : Fin 24) (a : Nat) (b : Nat) (s : State) =>
    (specAt a).isSome = true ∧ reachable s rq a ∧ bitKept a b = false) (3) (0x4) (31) (put []) := by
  decide +kernel

theorem witness_ReservedBitsOfAWriteAreIgnored_1b :
    (fun (rq : Fin 24) (a : Nat) (b : Nat) (s : State) =>
    (specAt a).isSome = true ∧ reachable s rq a ∧ bitKept a b = false) (9) (0x14) (1) (put []) := by
  decide +kernel

theorem witness_ReservedBitsOfAWriteAreIgnored_2a :
    (fun (_ : Fin 24) (a : Nat) (w : Word) (v : Word) (_ : State) =>
    (∀ b < 32, bitKept a b = true → w.toNat.testBit b = v.toNat.testBit b)) (9) (0x14) (0xA5C30003) (0xA5C3FFFF) (put [(TOP.STAGE.STAGE, 2)]) := by
  decide +kernel

theorem witness_ReservedBitsOfAWriteAreIgnored_2b :
    (fun (_ : Fin 24) (a : Nat) (w : Word) (v : Word) (_ : State) =>
    (∀ b < 32, bitKept a b = true → w.toNat.testBit b = v.toNat.testBit b)) (3) (0x20300) (0xFFFFFEFA) (2) (put []) := by
  decide +kernel

theorem witness_ReservedBitsOfAWriteAreIgnored_2c :
    (fun (_ : Fin 24) (a : Nat) (w : Word) (v : Word) (_ : State) =>
    (∀ b < 32, bitKept a b = true → w.toNat.testBit b = v.toNat.testBit b)) (9) (0x120020) (0x7E57E401) (0x7E57E001) (put []) := by
  decide +kernel

theorem witness_ReservedBitsOfAWriteAreIgnored_2d :
    (fun (_ : Fin 24) (a : Nat) (w : Word) (v : Word) (_ : State) =>
    (∀ b < 32, bitKept a b = true → w.toNat.testBit b = v.toNat.testBit b)) (9) (0x130020) (0xC0000000) (0xC0100000) (put []) := by
  decide +kernel

theorem witness_ReservedBitsOfAWriteAreIgnored_2e :
    (fun (_ : Fin 24) (a : Nat) (w : Word) (v : Word) (_ : State) =>
    (∀ b < 32, bitKept a b = true → w.toNat.testBit b = v.toNat.testBit b)) (9) (0x100030) (0xFFFFFFFF) (0xFFFFFFFF) (put []) := by
  decide +kernel

theorem witness_ReservedBitsOfAWriteAreIgnored_2f :
    (fun (_ : Fin 24) (a : Nat) (w : Word) (v : Word) (_ : State) =>
    (∀ b < 32, bitKept a b = true → w.toNat.testBit b = v.toNat.testBit b)) (9) (0xF0000) (0xF0000000) (0xF0000001) (put []) := by
  decide +kernel

theorem witness_SealedFieldsKeepTheirValue_1a :
    (fun (_ : Fin 24) (a : Nat) (_ : Word) (s : State) =>
    (specAt a).isSome = true ∧ a ≠ 0x14 ∧ a ≠ 0x7000C ∧ a ≠ 0x120020 ∧ a ≠ 0x120024 ∧ sealedNow s = true) (9) (0x18) (0x10005) (sealedSt []) := by
  decide +kernel

theorem witness_SealedFieldsKeepTheirValue_1b :
    (fun (_ : Fin 24) (a : Nat) (_ : Word) (s : State) =>
    (specAt a).isSome = true ∧ a ≠ 0x14 ∧ a ≠ 0x7000C ∧ a ≠ 0x120020 ∧ a ≠ 0x120024 ∧ sealedNow s = true) (3) (0x2030C) (0xFFFFFFFF) (sealedSt []) := by
  decide +kernel

theorem witness_SealedFieldsKeepTheirValue_1c :
    (fun (_ : Fin 24) (a : Nat) (_ : Word) (s : State) =>
    (specAt a).isSome = true ∧ a ≠ 0x14 ∧ a ≠ 0x7000C ∧ a ≠ 0x120020 ∧ a ≠ 0x120024 ∧ sealedNow s = true) (3) (0x40004) (0xFFFFFFFF) (sealedSt []) := by
  decide +kernel

theorem witness_SealedFieldsKeepTheirValue_1d :
    (fun (_ : Fin 24) (a : Nat) (_ : Word) (s : State) =>
    (specAt a).isSome = true ∧ a ≠ 0x14 ∧ a ≠ 0x7000C ∧ a ≠ 0x120020 ∧ a ≠ 0x120024 ∧ sealedNow s = true) (3) (0xD0010) (0xFFFFFFFF) (sealedSt []) := by
  decide +kernel

theorem witness_SealedFieldsKeepTheirValue_1e :
    (fun (_ : Fin 24) (a : Nat) (_ : Word) (s : State) =>
    (specAt a).isSome = true ∧ a ≠ 0x14 ∧ a ≠ 0x7000C ∧ a ≠ 0x120020 ∧ a ≠ 0x120024 ∧ sealedNow s = true) (3) (0xF0010) (0xFFFFFFFF) (sealedSt []) := by
  decide +kernel

theorem witness_SealedFieldsKeepTheirValue_1f :
    (fun (_ : Fin 24) (a : Nat) (_ : Word) (s : State) =>
    (specAt a).isSome = true ∧ a ≠ 0x14 ∧ a ≠ 0x7000C ∧ a ≠ 0x120020 ∧ a ≠ 0x120024 ∧ sealedNow s = true) (3) (0x60400) (0xFFFFFFFF) (sealedSt []) := by
  decide +kernel

theorem witness_SealedFieldsKeepTheirValue_1g :
    (fun (_ : Fin 24) (a : Nat) (_ : Word) (s : State) =>
    (specAt a).isSome = true ∧ a ≠ 0x14 ∧ a ≠ 0x7000C ∧ a ≠ 0x120020 ∧ a ≠ 0x120024 ∧ sealedNow s = true) (3) (0x12019C) (0xFFFFFFFF) (sealedSt []) := by
  decide +kernel

theorem witness_SealedFieldsKeepTheirValue_1h :
    (fun (_ : Fin 24) (a : Nat) (_ : Word) (s : State) =>
    (specAt a).isSome = true ∧ a ≠ 0x14 ∧ a ≠ 0x7000C ∧ a ≠ 0x120020 ∧ a ≠ 0x120024 ∧ sealedNow s = true) (3) (0x80054) (0xFFFFFFFF) (sealedSt []) := by
  decide +kernel

theorem witness_SealedFieldsKeepTheirValue_1i :
    (fun (_ : Fin 24) (a : Nat) (_ : Word) (s : State) =>
    (specAt a).isSome = true ∧ a ≠ 0x14 ∧ a ≠ 0x7000C ∧ a ≠ 0x120020 ∧ a ≠ 0x120024 ∧ sealedNow s = true) (3) (0xC0100) (0xFFFFFFFF) (sealedSt []) := by
  decide +kernel

theorem witness_SealedFieldsKeepTheirValue_1j :
    (fun (_ : Fin 24) (a : Nat) (_ : Word) (s : State) =>
    (specAt a).isSome = true ∧ a ≠ 0x14 ∧ a ≠ 0x7000C ∧ a ≠ 0x120020 ∧ a ≠ 0x120024 ∧ sealedNow s = true) (3) (0xB0100) (0xFFFFFFFF) (sealedSt []) := by
  decide +kernel

theorem witness_SnapshotOfA64BitPair_1a :
    (fun (rq : Fin 24) (a : Nat) (s : State) =>
    snapLo a = true ∧ (specAt a).isSome = true ∧ reachable s rq a) (9) (0x20364) (put [(CHN.EDGE_CT_LO.CT 3, 5), (CHN.EDGE_CT_HI.CT 3, 6)]) := by
  decide +kernel

theorem witness_SnapshotOfA64BitPair_1b :
    (fun (rq : Fin 24) (a : Nat) (s : State) =>
    snapLo a = true ∧ (specAt a).isSome = true ∧ reachable s rq a) (9) (0x8000C) ({ put [(TIME.STAT.STATE, 4)] with time := { ct := 0x123456789A } }) := by
  decide +kernel

theorem witness_SnapshotOfA64BitPair_1c :
    (fun (rq : Fin 24) (a : Nat) (s : State) =>
    snapLo a = true ∧ (specAt a).isSome = true ∧ reachable s rq a) (9) (0x4004C) (put []) := by
  decide +kernel

theorem witness_SnapshotOfA64BitPair_1d :
    (fun (rq : Fin 24) (a : Nat) (s : State) =>
    snapLo a = true ∧ (specAt a).isSome = true ∧ reachable s rq a) (10) (0x15001C) (put []) := by
  decide +kernel

theorem witness_SnapshotOfA64BitPair_1e :
    (fun (rq : Fin 24) (a : Nat) (s : State) =>
    snapLo a = true ∧ (specAt a).isSome = true ∧ reachable s rq a) (10) (0xC0108) (put [(CMP.GEN.CAP_HI.CT 0, 7)]) := by
  decide +kernel

theorem witness_SnapshotOfA64BitPair_1f :
    (fun (rq : Fin 24) (a : Nat) (s : State) =>
    snapLo a = true ∧ (specAt a).isSome = true ∧ reachable s rq a) (10) (0x120010) (put [(FLT.FIRST_CT_HI.CT, 7)]) := by
  decide +kernel

theorem witness_SnapshotOfA64BitPair_2a :
    (fun (rq : Fin 24) (a : Nat) (s : State) =>
    4 ≤ a ∧ snapLo (a - 4) = true ∧ (specAt a).isSome = true ∧ reachable s rq a ∧
    tabGet (fun _ => 0) s.snap (2 ^ 24 * rq + a) < 2 ^ 32) (9) (0x20368) ({ put [] with snap := [(2 ^ 24 * 9 + 0x20368, 6)] }) := by
  decide +kernel

theorem witness_SnapshotOfA64BitPair_2b :
    (fun (rq : Fin 24) (a : Nat) (s : State) =>
    4 ≤ a ∧ snapLo (a - 4) = true ∧ (specAt a).isSome = true ∧ reachable s rq a ∧
    tabGet (fun _ => 0) s.snap (2 ^ 24 * rq + a) < 2 ^ 32) (9) (0x80010) ({ put [] with snap := [(2 ^ 24 * 9 + 0x80010, 6)] }) := by
  decide +kernel

theorem witness_SupplyThresholds_1a :
    (fun (x : SupplyPin × Nat × Nat) (mv : Nat) (s : State) =>
    x ∈ pins ∧ supplyOn s x.1 = false ∧ x.2.1 ≤ mv) ((.vin12, 5600, 5000)) (5600) (put []) := by
  decide +kernel

theorem witness_SupplyThresholds_1b :
    (fun (x : SupplyPin × Nat × Nat) (mv : Nat) (s : State) =>
    x ∈ pins ∧ supplyOn s x.1 = false ∧ x.2.1 ≤ mv) ((.vbank 3, 5500, 5000)) (9000) (put []) := by
  decide +kernel

theorem witness_SupplyThresholds_1c :
    (fun (x : SupplyPin × Nat × Nat) (mv : Nat) (s : State) =>
    x ∈ pins ∧ supplyOn s x.1 = false ∧ x.2.1 ≤ mv) ((.vbkp, 2400, 2200)) (2400) (put []) := by
  decide +kernel

theorem witness_SupplyThresholds_2a :
    (fun (x : SupplyPin × Nat × Nat) (mv : Nat) (s : State) =>
    x ∈ pins ∧ supplyOn s x.1 = true ∧ mv < x.2.2) ((.vin48, 8500, 7800)) (7799) (fedSt []) := by
  decide +kernel

theorem witness_SupplyThresholds_2b :
    (fun (x : SupplyPin × Nat × Nat) (mv : Nat) (s : State) =>
    x ∈ pins ∧ supplyOn s x.1 = true ∧ mv < x.2.2) ((.vin12, 5600, 5000)) (0) (fedSt [(TOP.SUPPLY.VIN12, 1)]) := by
  decide +kernel

theorem witness_SupplyThresholds_2c :
    (fun (x : SupplyPin × Nat × Nat) (mv : Nat) (s : State) =>
    x ∈ pins ∧ supplyOn s x.1 = true ∧ mv < x.2.2) ((.vbank 7, 5500, 5000)) (4999) (put [(TOP.SUPPLY.VBANK, 128)]) := by
  decide +kernel

theorem witness_SupplyThresholds_3a :
    (fun (x : SupplyPin × Nat × Nat) (mv : Nat) (_ : State) =>
    x ∈ pins ∧ x.2.2 ≤ mv ∧ mv < x.2.1) ((.vin48, 8500, 7800)) (8499) (fedSt []) := by
  decide +kernel

theorem witness_SupplyThresholds_3b :
    (fun (x : SupplyPin × Nat × Nat) (mv : Nat) (_ : State) =>
    x ∈ pins ∧ x.2.2 ≤ mv ∧ mv < x.2.1) ((.vddio, 1500, 1400)) (1400) (put []) := by
  decide +kernel

theorem witness_DawnAndPllLock_1a :
    (fun (_ : Bool) (_ : Fin 8) (_ : Nat) (s : State) =>
    s.start.t0 = true ∧ s.start.dawn = false ∧ Calm s 0x25D ∧ Calm s 0x251 ∧
    s.start.rcLost = false ∧ safe s = false) (true) (5) (3300) (fedSt []) := by
  decide +kernel

theorem witness_DawnAndPllLock_1b :
    (fun (_ : Bool) (_ : Fin 8) (_ : Nat) (s : State) =>
    s.start.t0 = true ∧ s.start.dawn = false ∧ Calm s 0x25D ∧ Calm s 0x251 ∧
    s.start.rcLost = false ∧ safe s = false) (false) (0) (1800) ({ fedSt [(CHN.STAT.STATE 3, 5)] with otp := { fuses := [(4, 0x80)] } }) := by
  decide +kernel

theorem witness_DawnAndPllLock_2a :
    (fun (ch : Fin 64) (s : State) =>
    Calm s ch ∧ s.start.applied = false ∧ (chState s ch = 4 ∨ chState s ch = 5)) (3) (fedSt [(CHN.STAT.STATE 3, 4)]) := by
  decide +kernel

theorem witness_DawnAndPllLock_3a :
    (fun (s : State) =>
    s.start.dawn = true ∧ s.start.pll = false ∧ s.start.locking = true ∧ Reports s 0x252) ({ fedSt [] with start := { dawn := true, locking := true } }) := by
  decide +kernel

theorem witness_DawnAndPllLock_4a :
    (fun (s : State) =>
    s.start.dawn = true ∧ s.start.pll = false) ({ fedSt [] with start := { dawn := true } }) := by
  decide +kernel

theorem witness_DawnAndPllLock_5a :
    (fun (_ : Option (Fin 3)) (s : State) =>
    s.start.dawn = true ∧ s.start.pll = false ∧ s.start.rcLost = false ∧ stage s = 0) (some 1) ({ fedSt [] with start := { dawn := true } }) := by
  decide +kernel

theorem witness_DawnAndPllLock_5b :
    (fun (_ : Option (Fin 3)) (s : State) =>
    s.start.dawn = true ∧ s.start.pll = false ∧ s.start.rcLost = false ∧ stage s = 0) (none) ({ fedSt [] with start := { dawn := true } }) := by
  decide +kernel

theorem witness_SlotsEnginesAndNoon_1a :
    (fun (b : Bool) (s : State) =>
    stage s = 1 ∧ s.start.applied = false ∧ s.start.cands.head? = some b ∧ (slotCheck s b).result = 1) (false) (imgSt) := by
  decide +kernel

theorem witness_SlotsEnginesAndNoon_2a :
    (fun (b : Bool) (s : State) =>
    stage s = 1 ∧ s.start.applied = false ∧ s.start.cands.head? = some b) (true) ({ stageSt 1 false [(CFG.STATUS.DENSITY, 1)] with start := { dawn := true, pll := true, cands := [true, false] } }) := by
  decide +kernel

theorem witness_SlotsEnginesAndNoon_2b :
    (fun (b : Bool) (s : State) =>
    stage s = 1 ∧ s.start.applied = false ∧ s.start.cands.head? = some b) (false) ({ stageSt 1 false [(CFG.STATUS.DENSITY, 1)] with start := { dawn := true, pll := true, cands := [false] } }) := by
  decide +kernel

theorem witness_SlotsEnginesAndNoon_3a :
    (fun (s : State) =>
    stage s = 1 ∧ s.start.applied = true ∧ s.start.running = false) (stageSt 1 false []) := by
  decide +kernel

theorem witness_SlotsEnginesAndNoon_3b :
    (fun (s : State) =>
    stage s = 1 ∧ s.start.applied = true ∧ s.start.running = false) (stageSt 1 false [(TOP.STATUS.HEAD, 1)]) := by
  decide +kernel

theorem witness_SlotsEnginesAndNoon_4a :
    (fun (s : State) =>
    stage s = 1 ∧ s.start.running = true ∧ addressed s = true ∧ (fget s TIME.STAT.STATE = 2 ∨ fget s TIME.STAT.STATE = 4) ∧
    ledgMode s = 2) (noonSt) := by
  decide +kernel

theorem witness_SlotsEnginesAndNoon_5a :
    (fun (s : State) =>
    stage s = 1 ∧ s.start.running = true ∧ fget s TOP.NOON.TIMEOUT ≠ 0 ∧ fon s TOP.NOON.SOLO_EN = true) (stageSt 1 true [(TOP.NOON.SOLO_EN, 1)]) := by
  decide +kernel

theorem witness_SlotsEnginesAndNoon_6a :
    (fun (s : State) =>
    stage s = 1 ∧ s.start.running = true ∧ fget s TOP.NOON.TIMEOUT ≠ 0 ∧ fon s TOP.NOON.SOLO_EN = false ∧ Reports s 0x254) (stageSt 1 true []) := by
  decide +kernel

theorem witness_ResetsPreserveAndRecord_2a :
    (fun (ns : Nat) (s : State) =>
    s.start.t0 = true ∧ fon s TOP.SUPPLY.VDDIO = true ∧ 1000 ≤ ns) (1000) ({ stageSt 2 true [(CHN.STAT.STATE 3, 5), (TOP.RST_CAUSE.SW, 1)] with otp := { fuses := [(4, 0x80)], used := [(4, 0x80)] } }) := by
  decide +kernel

theorem witness_ResetsPreserveAndRecord_3a :
    (fun (ns : Nat) (_ : State) =>
    ns < 200) (199) (stageSt 2 true []) := by
  decide +kernel

theorem witness_ResetsPreserveAndRecord_4a :
    (fun (rq : Fin 24) (s : State) =>
    reachable s rq 0x14 ∧ (rq.val ≠ 9 ∨ stage s ≠ 0)) (9) (stageSt 2 true []) := by
  decide +kernel

theorem witness_ResetsPreserveAndRecord_5a :
    (fun (rq : Fin 24) (k : BitVec 16) (s : State) =>
    reachable s rq 0x14 ∧ (rq.val ≠ 9 ∨ stage s ≠ 0) ∧ k ≠ 0xA5C3) (9) (0x5A3C) (stageSt 2 true []) := by
  decide +kernel

theorem witness_ResetsPreserveAndRecord_6a :
    (fun (_ : Fin 2) (_ : Bool) (s : State) =>
    fon s LNK.CFG.RST_EN = true) (0) (true) (stageSt 2 true []) := by
  decide +kernel

theorem witness_ResetsPreserveAndRecord_7a :
    (fun (s : State) =>
    safe s = true ∧ s.flt.rstArmed = true ∧ s.start.rcLost = false ∧ fget s FLT.STAT.RSTS < fget s FLT.CFG.RST_MAX) ({ stageSt 2 true [(FLT.STAT.SAFE, 1), (FLT.CFG.RST_MAX, 3)] with flt := { rstArmed := true } }) := by
  decide +kernel

theorem witness_ResetsPreserveAndRecord_8a :
    (fun (s : State) =>
    s.pwr.storage = true ∧ fon s TOP.SUPPLY.CHG_IN = true) ({ stageSt 2 true [(TOP.SUPPLY.CHG_IN, 1)] with pwr := { storage := true } }) := by
  decide +kernel

theorem witness_EnginesClocksAndSupplyFaults_1a :
    (fun (e : Fin 4) (s : State) =>
    fget s (ENG.STAT.STATE e) = 1 ∧ Reports s (0x242 + e)) (2) (stageSt 2 true [(ENG.STAT.STATE 2, 1)]) := by
  decide +kernel

theorem witness_EnginesClocksAndSupplyFaults_2a :
    (fun (d : ClockDomain) (s : State) =>
    clockWatched s d = true ∧ Reports s (clockSource d)) (.sys) (stageSt 2 true []) := by
  decide +kernel

theorem witness_EnginesClocksAndSupplyFaults_2b :
    (fun (d : ClockDomain) (s : State) =>
    clockWatched s d = true ∧ Reports s (clockSource d)) (.nvm) (stageSt 2 true []) := by
  decide +kernel

theorem witness_EnginesClocksAndSupplyFaults_2c :
    (fun (d : ClockDomain) (s : State) =>
    clockWatched s d = true ∧ Reports s (clockSource d)) (.bkp) (stageSt 2 true []) := by
  decide +kernel

theorem witness_EnginesClocksAndSupplyFaults_3a :
    (fun (d : ClockDomain) (s : State) =>
    clockWatched s d = false) (.sys) (fedSt []) := by
  decide +kernel

theorem witness_EnginesClocksAndSupplyFaults_4a :
    (fun (mv : Nat) (s : State) =>
    s.start.dawn = true ∧ mv < 4600 ∧ Reports s 0x253) (4599) (stageSt 2 true []) := by
  decide +kernel

theorem witness_UpdateSessionAndCommands_1a :
    (fun (rq : Fin 24) (_ : Bool) (s : State) =>
    updReady s rq ∧ (fon s CFG.UPD_STAT.OPEN = false ∨ fget s CFG.UPD_STAT.OWNER = rq)) (10) (true) (stageSt 2 true [(TOP.STATUS.SLOT, 1)]) := by
  decide +kernel

theorem witness_UpdateSessionAndCommands_1b :
    (fun (rq : Fin 24) (_ : Bool) (s : State) =>
    updReady s rq ∧ (fon s CFG.UPD_STAT.OPEN = false ∨ fget s CFG.UPD_STAT.OWNER = rq)) (9) (false) (updSt none []) := by
  decide +kernel

theorem witness_UpdateSessionAndCommands_2a :
    (fun (rq : Fin 24) (s : State) =>
    updReady s rq ∧ updHolder s rq) (9) (updSt none []) := by
  decide +kernel

theorem witness_UpdateSessionAndCommands_3a :
    (fun (rq : Fin 24) (s : State) =>
    updReady s rq ∧ updHolder s rq ∧ updInside s ∧
    fget s CFG.UPD_ADDR.OFFSET % 256 = 0) (9) (updSt none [(CFG.UPD_ADDR.OFFSET, 0x300), (CFG.UPD_BUF.DATA 1, 0x01020304)]) := by
  decide +kernel

theorem witness_UpdateSessionAndCommands_4a :
    (fun (rq : Fin 24) (s : State) =>
    updReady s rq ∧ updHolder s rq ∧ updInside s) (9) (updSt none [(CFG.UPD_ADDR.OFFSET, 0x300), (CFG.UPD_BUF.DATA 1, 0x01020304)]) := by
  decide +kernel

theorem witness_UpdateSessionAndCommands_5a :
    (fun (rq : Fin 24) (s : State) =>
    updReady s rq ∧ updHolder s rq ∧ updInside s) (9) (updSt none [(CFG.UPD_ADDR.OFFSET, 0x300), (CFG.UPD_BUF.DATA 1, 0x01020304)]) := by
  decide +kernel

theorem witness_UpdateSessionAndCommands_6a :
    (fun (rq : Fin 24) (s : State) =>
    updReady s rq ∧ updHolder s rq) (9) (updSt none [(CFG.UPD_ADDR.OFFSET, 0x300), (CFG.UPD_BUF.DATA 1, 0x01020304)]) := by
  decide +kernel

theorem witness_UpdateSessionAndCommands_7a :
    (fun (rq : Fin 24) (k : BitVec 16) (s : State) =>
    updReady s rq ∧ updHolder s rq ∧ k ≠ 0x6B1D) (9) (7) (updSt none []) := by
  decide +kernel

theorem witness_UpdateSessionAndCommands_8a :
    (fun (rq : Fin 24) (b : Bool) (k : BitVec 16) (c : Instr) (s : State) =>
    stage s ≠ 2 ∧ reachable s rq 0x10020 ∧
    (c = .updOpen rq b ∨ c = .updClose rq ∨ c = .updErase rq k ∨ c = .updProgram rq k ∨ c = .updRead rq ∨ c = .updVerify rq)) (9) (true) (0x6B1D) (.updErase 9 0x6B1D) (stageSt 3 true []) := by
  decide +kernel

theorem witness_UpdateSessionAndCommands_9a :
    (fun (s : State) =>
    fon s CFG.UPD_STAT.OPEN = true) (updSt none []) := by
  decide +kernel

theorem witness_UpdateCommandsTakeEffect_1a :
    (fun (_ : Nat) (o : Nat) (d : List Nat) (s : State) =>
    Memory.wf s.flash = true ∧ fon s CFG.STATUS.FLASH_BAD = false ∧ s.img.upd = some ⟨3, o, d⟩) (0x400010) (0) ([]) (updSt (some ⟨3, 0, []⟩) []) := by
  decide +kernel

theorem witness_UpdateCommandsTakeEffect_1b :
    (fun (_ : Nat) (o : Nat) (d : List Nat) (s : State) =>
    Memory.wf s.flash = true ∧ fon s CFG.STATUS.FLASH_BAD = false ∧ s.img.upd = some ⟨3, o, d⟩) (0x400011) (0x10000) ([]) (updSt (some ⟨3, 0x10000, []⟩) []) := by
  decide +kernel

theorem witness_UpdateCommandsTakeEffect_2a :
    (fun (_ : Nat) (o : Nat) (d : List Nat) (s : State) =>
    Memory.wf s.flash = true ∧ fon s CFG.STATUS.FLASH_BAD = false ∧ s.img.upd = some ⟨4, o, d⟩ ∧ d.length = 256) (0x400010) (0) ((List.range 256).map (· + 1)) (updSt (some ⟨4, 0, (List.range 256).map (· + 1)⟩) []) := by
  decide +kernel

theorem witness_UpdateCommandsTakeEffect_2b :
    (fun (_ : Nat) (o : Nat) (d : List Nat) (s : State) =>
    Memory.wf s.flash = true ∧ fon s CFG.STATUS.FLASH_BAD = false ∧ s.img.upd = some ⟨4, o, d⟩ ∧ d.length = 256) (0x400003) (0) ((List.range 256).map (· + 1)) (updSt (some ⟨4, 0, (List.range 256).map (· + 1)⟩) []) := by
  decide +kernel

theorem witness_UpdateCommandsTakeEffect_2c :
    (fun (_ : Nat) (o : Nat) (d : List Nat) (s : State) =>
    Memory.wf s.flash = true ∧ fon s CFG.STATUS.FLASH_BAD = false ∧ s.img.upd = some ⟨4, o, d⟩ ∧ d.length = 256) (0x400300) (0) ((List.range 256).map (· + 1)) (updSt (some ⟨4, 0, (List.range 256).map (· + 1)⟩) []) := by
  decide +kernel

theorem witness_UpdateCommandsTakeEffect_3a :
    (fun (a : Nat) (o : Nat) (d : List Nat) (s : State) =>
    Memory.wf s.flash = true ∧ fon s CFG.STATUS.FLASH_BAD = false ∧ s.img.upd = some ⟨5, o, d⟩ ∧ a < 64) (4) (0) ([]) (updSt (some ⟨5, 0, []⟩) []) := by
  decide +kernel

theorem witness_UpdateCommandsTakeEffect_4a :
    (fun (o : Nat) (d : List Nat) (s : State) =>
    Memory.wf s.flash = true ∧ fon s CFG.STATUS.FLASH_BAD = false ∧ s.img.upd = some ⟨6, o, d⟩) (0) ([]) (updSt (some ⟨6, 0, []⟩) []) := by
  decide +kernel

theorem witness_UpdateCommandsTakeEffect_5a :
    (fun (u : Upd) (s : State) =>
    s.img.upd = some u) (⟨4, 0, []⟩) (updSt (some ⟨4, 0, []⟩) []) := by
  decide +kernel

theorem witness_DawnFusesAreProgrammed_1a :
    (fun (o : Fin 128) (s : State) =>
    stage s = 2 ∧ (fon s TOP.SUPPLY.VIN48 = true ∨ fon s TOP.SUPPLY.VIN12 = true) ∧ 4 ≤ o.val ∧
    fon s BUS.OTP_CTL.BUSY = false ∧ reachable s 9 0x140020) (127) (stageSt 2 true [(BUS.OTP_DATA.DATA, 6)]) := by
  decide +kernel

theorem witness_DawnFusesAreProgrammed_2a :
    (fun (rq : Fin 24) (k : BitVec 16) (o : Fin 128) (s : State) =>
    reachable s rq 0x140020 ∧
    (rq.val ≠ 9 ∨ k ≠ 0x0F7A ∨ stage s ≠ 2 ∨ o.val < 4 ∨ fon s BUS.OTP_CTL.BUSY = true ∨
      (fon s TOP.SUPPLY.VIN48 = false ∧ fon s TOP.SUPPLY.VIN12 = false))) (10) (0x0F7A) (127) (stageSt 2 true []) := by
  decide +kernel

theorem witness_DawnFusesAreProgrammed_2b :
    (fun (rq : Fin 24) (k : BitVec 16) (o : Fin 128) (s : State) =>
    reachable s rq 0x140020 ∧
    (rq.val ≠ 9 ∨ k ≠ 0x0F7A ∨ stage s ≠ 2 ∨ o.val < 4 ∨ fon s BUS.OTP_CTL.BUSY = true ∨
      (fon s TOP.SUPPLY.VIN48 = false ∧ fon s TOP.SUPPLY.VIN12 = false))) (9) (0x0F7A) (3) (stageSt 2 true []) := by
  decide +kernel

theorem witness_DawnFusesAreProgrammed_2c :
    (fun (rq : Fin 24) (k : BitVec 16) (o : Fin 128) (s : State) =>
    reachable s rq 0x140020 ∧
    (rq.val ≠ 9 ∨ k ≠ 0x0F7A ∨ stage s ≠ 2 ∨ o.val < 4 ∨ fon s BUS.OTP_CTL.BUSY = true ∨
      (fon s TOP.SUPPLY.VIN48 = false ∧ fon s TOP.SUPPLY.VIN12 = false))) (9) (0x0F7A) (4) (stageSt 2 true [(BUS.OTP_CTL.BUSY, 1)]) := by
  decide +kernel

theorem witness_DawnFusesAreProgrammed_3a :
    (fun (o : Nat) (d : Nat) (_ : Nat) (_ : Word) (s : State) =>
    s.otp.busy = some (o, d)) (5) (6) (5) (2) ({ stageSt 2 true [] with otp := { fuses := [(5, 1)], busy := some (5, 6) } }) := by
  decide +kernel

theorem witness_DawnFusesAreProgrammed_3b :
    (fun (o : Nat) (d : Nat) (_ : Nat) (_ : Word) (s : State) =>
    s.otp.busy = some (o, d)) (5) (6) (4) (7) ({ stageSt 2 true [] with otp := { fuses := [(5, 1)], busy := some (5, 6) } }) := by
  decide +kernel

theorem witness_ChannelTurnOnAsksForAdmission_1a :
    (fun (ch : Fin 64) (s : State) =>
    fon s (FAB.TGT.DOWN ch) = false ∧ fon s (CHN.CFG.EN ch) = true ∧ s.start.running = true ∧ fon s (WIRE.STAT.HOLD ch) = false ∧
    (chState s ch = 0 ∨ chState s ch = 1 ∨ chState s ch = 2 ∨ chState s ch = 0xC)) (3) (chSt 0 []) := by
  decide +kernel

theorem witness_ChannelTurnOnAsksForAdmission_2a :
    (fun (ch : Fin 64) (s : State) =>
    fon s (FAB.TGT.DOWN ch) = false ∧ fon s (CHN.CFG.EN ch) = true ∧ s.start.running = true ∧ fon s (WIRE.STAT.HOLD ch) = false ∧
    (chState s ch = 0 ∨ chState s ch = 1 ∨ chState s ch = 2 ∨ chState s ch = 0xC)) (3) (chSt 1 []) := by
  decide +kernel

theorem witness_ChannelTurnOnAsksForAdmission_3a :
    (fun (ch : Fin 64) (s : State) =>
    fon s (FAB.TGT.DOWN ch) = false ∧ fon s (CHN.CFG.EN ch) = true ∧ s.start.running = true ∧ fon s (WIRE.STAT.HOLD ch) = false ∧
    (chState s ch = 0 ∨ chState s ch = 1 ∨ chState s ch = 2 ∨ chState s ch = 0xC)) (3) (chSt 2 []) := by
  decide +kernel

theorem witness_ChannelTurnOnAsksForAdmission_4a :
    (fun (ch : Fin 64) (s : State) =>
    fon s (FAB.TGT.DOWN ch) = false ∧ fon s (CHN.CFG.EN ch) = true ∧ s.start.running = true ∧ fon s (WIRE.STAT.HOLD ch) = false ∧
    (chState s ch = 0 ∨ chState s ch = 1 ∨ chState s ch = 2 ∨ chState s ch = 0xC)) (3) (chSt 12 []) := by
  decide +kernel

theorem witness_ChannelTurnOffAndLatchRelease_1a :
    (fun (ch : Fin 64) (s : State) =>
    fon s (FAB.TGT.DOWN ch) = false ∧ fon s (CHN.CFG.EN ch) = true ∧ s.start.running = true ∧ 4 ≤ chState s ch ∧ chState s ch ≤ 7) (3) (chSt 5 [(CHN.CFG.OFF_SLOW 3, 1)]) := by
  decide +kernel

theorem witness_ChannelTurnOffAndLatchRelease_1b :
    (fun (ch : Fin 64) (s : State) =>
    fon s (FAB.TGT.DOWN ch) = false ∧ fon s (CHN.CFG.EN ch) = true ∧ s.start.running = true ∧ 4 ≤ chState s ch ∧ chState s ch ≤ 7) (3) (chSt 4 [(CHN.CTL.MODE 3, 1)]) := by
  decide +kernel

theorem witness_ChannelTurnOffAndLatchRelease_2a :
    (fun (ch : Fin 64) (s : State) =>
    fon s (FAB.TGT.DOWN ch) = false ∧ fon s (CHN.CFG.EN ch) = true ∧ s.start.running = true ∧ chState s ch = 3) (3) (chSt 3 []) := by
  decide +kernel

theorem witness_ChannelTurnOffAndLatchRelease_3a :
    (fun (ch : Fin 64) (s : State) =>
    fon s (FAB.TGT.DOWN ch) = false ∧ s.start.running = true ∧ chState s ch = 0xB) (3) (chSt 11 [(CHN.STAT.LATCHED 3, 1)]) := by
  decide +kernel

theorem witness_ChannelTurnOffAndLatchRelease_4a :
    (fun (ch : Fin 64) (s : State) =>
    chState s ch = 9) (3) (chSt 9 []) := by
  decide +kernel

theorem witness_ChannelRampPwmAndRetryProgress_1a :
    (fun (ch : Fin 64) (s : State) =>
    chState s ch = 4) (3) (chSt 4 []) := by
  decide +kernel

theorem witness_ChannelRampPwmAndRetryProgress_2a :
    (fun (ch : Fin 64) (s : State) =>
    chState s ch = 6) (3) (chSt 6 [(CHN.PWM_DUTY.DUTY 3, 77)]) := by
  decide +kernel

theorem witness_ChannelRampPwmAndRetryProgress_2b :
    (fun (ch : Fin 64) (s : State) =>
    chState s ch = 6) (3) (setChan (chSt 6 [(CHN.PWM_DUTY.DUTY 3, 77)]) 3 { toOn := true }) := by
  decide +kernel

theorem witness_ChannelRampPwmAndRetryProgress_3a :
    (fun (ch : Fin 64) (s : State) =>
    s.start.running = true ∧ chState s ch = 0xA ∧ fon s (WIRE.STAT.HOLD ch) = false ∧
    ((chan s ch).pSoa = true → (chan s ch).soa = 0) ∧
    (chan s ch).retry = false ∧ (chan s ch).ready ≤ s.time.loc) (3) (chSt 10 []) := by
  decide +kernel

theorem witness_ChannelRampPwmAndRetryProgress_4a :
    (fun (ch : Fin 64) (s : State) =>
    s.start.running = true ∧ chState s ch = 0xA ∧ fon s (WIRE.STAT.HOLD ch) = false ∧
    ((chan s ch).pSoa = true → (chan s ch).soa = 0) ∧ (chan s ch).retry = true) (3) (setChan (chSt 10 []) 3 { retry := true }) := by
  decide +kernel

theorem witness_ChannelRampPwmAndRetryProgress_5a :
    (fun (ch : Fin 64) (_ : TripCause) (s : State) =>
    5 ≤ chState s ch ∧ chState s ch ≤ 7) (3) (.soa) (setChan (chSt 5 []) 3 { rSoa := 4 }) := by
  decide +kernel

theorem witness_ChannelTripsTurnOffAndRecord_1a :
    (fun (ch : Fin 64) (s : State) =>
    CalmChan s ch ∧ chDriven s ch = true ∧ chExhausted s ch 0 = false) (3) (chSt 5 [(CHN.RETRY.COUNT 3 0, 15)]) := by
  decide +kernel

theorem witness_ChannelTripsTurnOffAndRecord_1b :
    (fun (ch : Fin 64) (s : State) =>
    CalmChan s ch ∧ chDriven s ch = true ∧ chExhausted s ch 0 = false) (3) (chSt 8 [(CHN.RETRY.COUNT 3 0, 2), (CHN.RETRY.DELAY 3 0, 7)]) := by
  decide +kernel

theorem witness_ChannelTripsTurnOffAndRecord_2a :
    (fun (ch : Fin 64) (s : State) =>
    CalmChan s ch ∧ chDriven s ch = true ∧ chExhausted s ch 0 = true) (3) (chSt 5 [(CHN.RETRY.COUNT 3 0, 0)]) := by
  decide +kernel

theorem witness_ChannelTripsTurnOffAndRecord_3a :
    (fun (ch : Fin 64) (s : State) =>
    CalmChan s ch ∧ chState s ch = 4 ∧ fget s (CHN.SOA.TIME_MS ch) ≠ 0 ∧ chExhausted s ch 3 = false) (3) (chSt 4 [(CHN.SOA.TIME_MS 3, 9), (CHN.RETRY.COUNT 3 3, 15)]) := by
  decide +kernel

theorem witness_ChannelTripsTurnOffAndRecord_4a :
    (fun (ch : Fin 64) (v : Nat) (i : Nat) (_ : Nat) (s : State) =>
    CalmChan s ch ∧ chDriven s ch = true ∧ chExhausted s ch 3 = false ∧
    fget s (CHN.SOA.ENERGY_MJ ch) * 1000000000 ≤
      soaNext (chan s ch).soa (if chState s ch = 4 ∨ chState s ch = 7 ∨ chState s ch = 8 then 2 * (v * i) else 0)
        (fget s (CHN.SOA_P.P_CONT ch))) (3) (48000) (100000) (48000) (setChan (chSt 7 [(CHN.SOA.ENERGY_MJ 3, 2), (CHN.RETRY.COUNT 3 3, 15)]) 3 { soa := 3000000000 }) := by
  decide +kernel

theorem witness_ChannelTripsTurnOffAndRecord_5a :
    (fun (ch : Fin 64) (s : State) =>
    CalmChan s ch ∧ chState s ch = 5 ∧ fget s (CHN.OL.OL_MS ch) ≠ 0 ∧ fget s (CHN.STAT.OPEN_LOAD ch) = 0) (3) (chSt 5 [(CHN.OL.OL_MS 3, 5)]) := by
  decide +kernel

theorem witness_ChannelTripsTurnOffAndRecord_6a :
    (fun (ch : Fin 64) (s : State) =>
    CalmChan s ch ∧ chState s ch = 8) (3) (chSt 8 [(CHN.CTL.MODE 3, 4)]) := by
  decide +kernel

theorem witness_ChannelEventsFrame_1a :
    (fun (ch : Fin 64) (c : Instr) (s : State) =>
    CalmChan s ch ∧
    (c = .chnModeOn ch ∨ c = .chnModePwm ch ∨ c = .chnModeCreg ch ∨ c = .chnModePrecharge ch ∨ c = .chnClrLatch ch
      ∨ c = .rampComplete ch ∨ c = .rampTimeLimit ch ∨ c = .scTrip ch ∨ c = .openLoad ch
      ∨ c = .preLimit ch ∨ c = .rampDownComplete ch ∨ c = .retryRerequest ch)) (3) (.scTrip 3) (chSt 5 [(CHN.RETRY.COUNT 3 0, 0)]) := by
  decide +kernel

theorem witness_ChannelEventsFrame_1b :
    (fun (ch : Fin 64) (c : Instr) (s : State) =>
    CalmChan s ch ∧
    (c = .chnModeOn ch ∨ c = .chnModePwm ch ∨ c = .chnModeCreg ch ∨ c = .chnModePrecharge ch ∨ c = .chnClrLatch ch
      ∨ c = .rampComplete ch ∨ c = .rampTimeLimit ch ∨ c = .scTrip ch ∨ c = .openLoad ch
      ∨ c = .preLimit ch ∨ c = .rampDownComplete ch ∨ c = .retryRerequest ch)) (3) (.chnModeOn 3) (chSt 0 []) := by
  decide +kernel

theorem witness_ChannelEventsFrame_1c :
    (fun (ch : Fin 64) (c : Instr) (s : State) =>
    CalmChan s ch ∧
    (c = .chnModeOn ch ∨ c = .chnModePwm ch ∨ c = .chnModeCreg ch ∨ c = .chnModePrecharge ch ∨ c = .chnClrLatch ch
      ∨ c = .rampComplete ch ∨ c = .rampTimeLimit ch ∨ c = .scTrip ch ∨ c = .openLoad ch
      ∨ c = .preLimit ch ∨ c = .rampDownComplete ch ∨ c = .retryRerequest ch)) (3) (.preLimit 3) (chSt 8 []) := by
  decide +kernel

theorem witness_ChannelEventsFrame_2a :
    (fun (ch : Fin 64) (_ : Nat) (_ : Nat) (_ : Nat) (s : State) =>
    CalmChan s ch) (3) (48000) (100000) (48000) (setChan (chSt 7 [(CHN.SOA.ENERGY_MJ 3, 2), (CHN.RETRY.COUNT 3 3, 15)]) 3 { soa := 3000000000 }) := by
  decide +kernel

theorem witness_ChannelEventsFrame_3a :
    (fun (ch : Fin 64) (_ : TripCause) (s : State) =>
    CalmChan s ch) (3) (.soa) (setChan (chSt 5 []) 3 { rSoa := 4 }) := by
  decide +kernel

theorem witness_WireModelFrameIntegrates_1a :
    (fun (n : Fin 64) (h : Bool) (w : WType) (_ : Nat) (s : State) =>
    h = decide (32 ≤ n.val) ∧ frameRuns s (if h then 3 else 2) = true ∧ stage s ≠ 4 ∧ WireCalm s ∧
    wireType s n = some w ∧ fon s (WIRE.STAT.RUN n) = true) (3) (false) (exType) (120000) (wireSt 60 [(CHN.STAT.STATE 3, 5)]) := by
  decide +kernel

theorem witness_WireModelFrameIntegrates_1b :
    (fun (n : Fin 64) (h : Bool) (w : WType) (_ : Nat) (s : State) =>
    h = decide (32 ≤ n.val) ∧ frameRuns s (if h then 3 else 2) = true ∧ stage s ≠ 4 ∧ WireCalm s ∧
    wireType s n = some w ∧ fon s (WIRE.STAT.RUN n) = true) (3) (false) (exType) (120000) (setWireX (wireSt 60 [(CHN.STAT.STATE 3, 5)]) 3 { tc := f32OfRat 60 1, ti := f32OfRat 59 1, res := [6000, 6010, 5990] }) := by
  decide +kernel

theorem witness_WireModelFrameIntegrates_1c :
    (fun (n : Fin 64) (h : Bool) (w : WType) (_ : Nat) (s : State) =>
    h = decide (32 ≤ n.val) ∧ frameRuns s (if h then 3 else 2) = true ∧ stage s ≠ 4 ∧ WireCalm s ∧
    wireType s n = some w ∧ fon s (WIRE.STAT.RUN n) = true) (3) (false) (exType) (120000) (wireSt 104 []) := by
  decide +kernel

theorem witness_WireModelFrameIntegrates_1d :
    (fun (n : Fin 64) (h : Bool) (w : WType) (_ : Nat) (s : State) =>
    h = decide (32 ≤ n.val) ∧ frameRuns s (if h then 3 else 2) = true ∧ stage s ≠ 4 ∧ WireCalm s ∧
    wireType s n = some w ∧ fon s (WIRE.STAT.RUN n) = true) (3) (false) (exType) (120000) (setWireX (wireSt 104 [(CHN.STAT.STATE 3, 5)]) 3 { tc := f32OfRat 1049 10, ti := f32OfRat 104 1, res := [90000] }) := by
  decide +kernel

theorem witness_WireLimitHoldsAndTrips_1a :
    (fun (n : Fin 64) (h : Bool) (w : WType) (_ : Nat) (s : State) =>
    h = decide (32 ≤ n.val) ∧ frameRuns s (if h then 3 else 2) = true ∧ stage s ≠ 4 ∧ WireCalm s ∧
    wireType s n = some w ∧ fon s (WIRE.STAT.RUN n) = true) (3) (false) (exType) (120000) (wireSt 60 [(CHN.STAT.STATE 3, 5), (WIRE.STAT.HOLD 3, 1), (WIRE.COOL.COOL_MS 3, 0)]) := by
  decide +kernel

theorem witness_WireLimitHoldsAndTrips_1b :
    (fun (n : Fin 64) (h : Bool) (w : WType) (_ : Nat) (s : State) =>
    h = decide (32 ≤ n.val) ∧ frameRuns s (if h then 3 else 2) = true ∧ stage s ≠ 4 ∧ WireCalm s ∧
    wireType s n = some w ∧ fon s (WIRE.STAT.RUN n) = true) (3) (false) (exType) (120000) (wireSt 120 [(CHN.STAT.STATE 3, 5), (CHN.RETRY.COUNT 3 2, 3)]) := by
  decide +kernel

theorem witness_WireLimitHoldsAndTrips_1c :
    (fun (n : Fin 64) (h : Bool) (w : WType) (_ : Nat) (s : State) =>
    h = decide (32 ≤ n.val) ∧ frameRuns s (if h then 3 else 2) = true ∧ stage s ≠ 4 ∧ WireCalm s ∧
    wireType s n = some w ∧ fon s (WIRE.STAT.RUN n) = true) (3) (false) (exType) (120000) (wireSt 120 [(CHN.STAT.STATE 3, 9)]) := by
  decide +kernel

theorem witness_WireLimitHoldsAndTrips_1d :
    (fun (n : Fin 64) (h : Bool) (w : WType) (_ : Nat) (s : State) =>
    h = decide (32 ≤ n.val) ∧ frameRuns s (if h then 3 else 2) = true ∧ stage s ≠ 4 ∧ WireCalm s ∧
    wireType s n = some w ∧ fon s (WIRE.STAT.RUN n) = true) (3) (false) (exType) (120000) (wireSt 120 [(CHN.STAT.STATE 3, 3)]) := by
  decide +kernel

theorem witness_WireLimitHoldsAndTrips_1e :
    (fun (n : Fin 64) (h : Bool) (w : WType) (_ : Nat) (s : State) =>
    h = decide (32 ≤ n.val) ∧ frameRuns s (if h then 3 else 2) = true ∧ stage s ≠ 4 ∧ WireCalm s ∧
    wireType s n = some w ∧ fon s (WIRE.STAT.RUN n) = true) (3) (false) (exType) (120000) (wireSt 104 [(WIRE.STAT.HOLD 3, 1), (WIRE.COOL.COOL_MS 3, 0), (WIRE.STAT.WARN 3, 1)]) := by
  decide +kernel

theorem witness_WireInputsAndRetention_1a :
    (fun (n : Fin 64) (s : State) =>
    fon s (WIRE.STAT.RUN n) = true ∧ chDriven s n = true ∧ fget s (WIRE.STAT.STALE n) = 0 ∧ Reports s 0x25A) (3) (wireSt 60 [(CHN.STAT.STATE 3, 5)]) := by
  decide +kernel

theorem witness_WireInputsAndRetention_2a :
    (fun (k : Fin 16) (s : State) =>
    fget s (WIRE.AMB.CTL.SRC k) ≠ 0 ∧ (ambX s k).faulty = false ∧ Reports s 0x25C) (0) (wireSt 60 [(WIRE.AMB.CTL.SRC 0, 1)]) := by
  decide +kernel

theorem witness_WireInputsAndRetention_3a :
    (fun (k : Fin 16) (s : State) =>
    fget s (WIRE.AMB.CTL.SRC k) = 0) (0) (wireSt 60 []) := by
  decide +kernel

theorem witness_WireInputsAndRetention_4a :
    (fun (k : Fin 16) (v : Int) (s : State) =>
    fget s (WIRE.AMB.CTL.SRC k) = 1 ∧ ambInRange (f32Add (f32Of16 v) (fget s (WIRE.AMB.OFFS.OFFS k))) = true) (0) (640) (wireSt 60 [(WIRE.AMB.CTL.SRC 0, 1)]) := by
  decide +kernel

theorem witness_LoopTurnOnAndOff_1a :
    (fun (l : Fin 4) (s : State) =>
    loopUp s l ∧ s.start.running = true ∧ loopPhases s l ≠ [] ∧ loopState s l = 0) (0) (loopSt 0 0 []) := by
  decide +kernel

theorem witness_LoopTurnOnAndOff_2a :
    (fun (l : Fin 4) (s : State) =>
    loopUp s l ∧ s.start.running = true ∧ loopPhases s l ≠ [] ∧ loopState s l = 5) (0) (loopSt 5 4 []) := by
  decide +kernel

theorem witness_LoopTurnOnAndOff_3a :
    (fun (l : Fin 4) (s : State) =>
    loopUp s l ∧ (loopState s l = 3 ∨ loopState s l = 4)) (0) (loopSt 4 4 [(LOOP.CTL.OFF_MODE 0, 1), (LOOP.CTL.EN 0, 1)]) := by
  decide +kernel

theorem witness_LoopTurnOnAndOff_3b :
    (fun (l : Fin 4) (s : State) =>
    loopUp s l ∧ (loopState s l = 3 ∨ loopState s l = 4)) (0) (loopSt 3 4 [(LOOP.CTL.EN 0, 1)]) := by
  decide +kernel

theorem witness_LoopTurnOnAndOff_4a :
    (fun (l : Fin 4) (s : State) =>
    loopUp s l ∧ loopState s l = 1) (0) (request (loopSt 1 0 []) (.loopOn 0) 500000) := by
  decide +kernel

theorem witness_LoopTurnOnAndOff_5a :
    (fun (l : Fin 4) (s : State) =>
    loopUp s l ∧ loopState s l = 7) (0) (loopSt 7 0 []) := by
  decide +kernel

theorem witness_LoopTurnOnAndOff_6a :
    (fun (l : Fin 4) (_ : Fin 64) (s : State) =>
    loopUp s l) (0) (0x22) (loopSt 4 4 []) := by
  decide +kernel

theorem witness_LoopTurnOnAndOff_6b :
    (fun (l : Fin 4) (_ : Fin 64) (s : State) =>
    loopUp s l) (0) (3) (loopSt 4 4 []) := by
  decide +kernel

theorem witness_LoopTurnOnAndOff_7a :
    (fun (l : Fin 4) (_ : Int) (s : State) =>
    loopState s l = 2) (0) (-5) (loopSt 2 0 []) := by
  decide +kernel

theorem witness_LoopTurnOnAndOff_7b :
    (fun (l : Fin 4) (_ : Int) (s : State) =>
    loopState s l = 2) (0) (300000) (loopSt 2 0 []) := by
  decide +kernel

theorem witness_LoopTurnOnAndOff_8a :
    (fun (l : Fin 4) (_ : Int) (s : State) =>
    loopState s l = 2 ∧ Calm s (0x1F2 + 7 * l) ∧ Reports s (0x1F2 + 7 * l)) (0) (0) (loopSt 2 0 []) := by
  decide +kernel

theorem witness_LoopVsetIsAdmittedBeforeItRises_1a :
    (fun (l : Fin 4) (_ : Fin 8192) (s : State) =>
    loopUp s l ∧ (loopState s l = 0 ∨ loopState s l = 7 ∨ loopState s l = 8)) (0) (460) (loopSt 0 0 []) := by
  decide +kernel

theorem witness_LoopVsetIsAdmittedBeforeItRises_2a :
    (fun (l : Fin 4) (c : Fin 8192) (s : State) =>
    loopUp s l ∧ s.start.running = true ∧ 1 ≤ loopState s l ∧ loopState s l ≤ 6 ∧ fget s (LOOP.VREF.VTGT l) < min c.val 4200) (0) (460) (loopSt 4 4 []) := by
  decide +kernel

theorem witness_LoopVsetIsAdmittedBeforeItRises_2b :
    (fun (l : Fin 4) (c : Fin 8192) (s : State) =>
    loopUp s l ∧ s.start.running = true ∧ 1 ≤ loopState s l ∧ loopState s l ≤ 6 ∧ fget s (LOOP.VREF.VTGT l) < min c.val 4200) (0) (8191) (loopSt 6 0 []) := by
  decide +kernel

theorem witness_LoopVsetIsAdmittedBeforeItRises_3a :
    (fun (l : Fin 4) (c : Fin 8192) (s : State) =>
    loopUp s l ∧ s.start.running = true ∧ 1 ≤ loopState s l ∧ loopState s l ≤ 6 ∧ min c.val 4200 ≤ fget s (LOOP.VREF.VTGT l)) (0) (420) (loopSt 4 4 []) := by
  decide +kernel

theorem witness_LoopVsetIsAdmittedBeforeItRises_3b :
    (fun (l : Fin 4) (c : Fin 8192) (s : State) =>
    loopUp s l ∧ s.start.running = true ∧ 1 ≤ loopState s l ∧ loopState s l ≤ 6 ∧ min c.val 4200 ≤ fget s (LOOP.VREF.VTGT l)) (0) (10) (loopSt 4 4 []) := by
  decide +kernel

theorem witness_LoopSampleRunsTheCompensator_1a :
    (fun (l : Fin 4) (_ : Int) (s : State) =>
    switching s l ∧ LoopCalm s) (0) (770000) (loopSt 4 4 []) := by
  decide +kernel

theorem witness_LoopSampleRunsTheCompensator_1b :
    (fun (l : Fin 4) (_ : Int) (s : State) =>
    switching s l ∧ LoopCalm s) (0) (775000) (setLoopX (loopSt 4 4 [(LOOP.LL.RLL 0, 80), (LOOP.PHS.MEAS.I_MA 0, 62000)]) 0 { vref := 700000, i := 77777, y1 := -5000, y2 := 12, ePrev := -3, dPrev := 1083528 }) := by
  decide +kernel

theorem witness_LoopSampleRunsTheCompensator_1c :
    (fun (l : Fin 4) (_ : Int) (s : State) =>
    switching s l ∧ LoopCalm s) (0) (10) (loopSt 3 4 []) := by
  decide +kernel

theorem witness_LoopSampleRunsTheCompensator_1d :
    (fun (l : Fin 4) (_ : Int) (s : State) =>
    switching s l ∧ LoopCalm s) (0) (775000) (loopSt 5 4 []) := by
  decide +kernel

theorem witness_LoopSampleRunsTheCompensator_1e :
    (fun (l : Fin 4) (_ : Int) (s : State) =>
    switching s l ∧ LoopCalm s) (0) (900000) (setLoopX (loopSt 4 4 [(LOOP.BRAKE.EN 0, 1)]) 0 { vref := 775000, brakeHit := true }) := by
  decide +kernel

theorem witness_LoopPhasesAreTimedAndLimited_1a :
    (fun (l : Fin 4) (e : Nat × Nat) (s : State) =>
    switching s l ∧ e ∈ (loopActive s l).zipIdx) (0) ((1, 1)) (setLoopX (loopSt 4 4 []) 0 { dPrev := 1083528 }) := by
  decide +kernel

theorem witness_LoopPhasesAreTimedAndLimited_1b :
    (fun (l : Fin 4) (e : Nat × Nat) (s : State) =>
    switching s l ∧ e ∈ (loopActive s l).zipIdx) (0) ((3, 3)) (setPhaseX (setLoopX (loopSt 4 4 []) 0 { dPrev := 1083528 }) 2 { limited := true, trim := 99 }) := by
  decide +kernel

theorem witness_LoopPhasesAreTimedAndLimited_2a :
    (fun (l : Fin 4) (k : Fin 16) (_ : BitVec 11) (_ : Bool) (s : State) =>
    fget s (LOOP.PHS.CFG.LOOP k) = l ∧ fon s (LOOP.PHS.CFG.ACT k) = true ∧ switching s l) (0) (2) (1000) (true) (loopSt 4 4 []) := by
  decide +kernel

theorem witness_LoopPhasesAreTimedAndLimited_2b :
    (fun (l : Fin 4) (k : Fin 16) (_ : BitVec 11) (_ : Bool) (s : State) =>
    fget s (LOOP.PHS.CFG.LOOP k) = l ∧ fon s (LOOP.PHS.CFG.ACT k) = true ∧ switching s l) (0) (2) (5) (true) (loopSt 4 4 []) := by
  decide +kernel

theorem witness_LoopPhasesAreTimedAndLimited_3a :
    (fun (l : Fin 4) (k : Nat) (s : State) =>
    fon s (LOOP.BAL.EN l) = true ∧ k ∈ loopActive s l) (0) (1) (loopSt 4 4 [(LOOP.PHS.MEAS.I_MA 0, 62000), (LOOP.PHS.MEAS.I_MA 1, 0xFFFF0)]) := by
  decide +kernel

theorem witness_LoopPhasesAreTimedAndLimited_4a :
    (fun (l : Fin 4) (k : Fin 16) (s : State) =>
    fget s (LOOP.PHS.CFG.LOOP k) = l ∧ fon s (LOOP.BAL.EN l) = true ∧ fon s (LOOP.PHS.CFG.ACT k) = true ∧
    (phaseX s k).trim.natAbs = fget s (LOOP.BAL.BAL_LIM l) * 256 ∧ Reports s (0x1F1 + 7 * l)) (0) (1) (setPhaseX (loopSt 4 4 []) 1 { trim := -32768 }) := by
  decide +kernel

theorem witness_LoopPhasesAreTimedAndLimited_5a :
    (fun (l : Fin 4) (_ : Int) (s : State) =>
    switching s l ∧ fon s (LOOP.SHED.EN l) = true ∧ loopPhases s l ≠ [] ∧
    loopActive s l = (loopPhases s l).take (loopActive s l).length) (0) (70000) (setLoopX (loopSt 4 4 [(LOOP.SHED.EN 0, 1)]) 0 { dwell := 9 }) := by
  decide +kernel

theorem witness_LoopPhasesAreTimedAndLimited_5b :
    (fun (l : Fin 4) (_ : Int) (s : State) =>
    switching s l ∧ fon s (LOOP.SHED.EN l) = true ∧ loopPhases s l ≠ [] ∧
    loopActive s l = (loopPhases s l).take (loopActive s l).length) (0) (170000) (loopSt 4 2 [(LOOP.SHED.EN 0, 1)]) := by
  decide +kernel

theorem witness_LoopPhasesAreTimedAndLimited_6a :
    (fun (l : Fin 4) (s : State) =>
    switching s l ∧ fget s (LOOP.VIN_CFG.SRC l) = 1 ∧ vinMeasured s l = none ∧ (loopX s l).vinFb = false ∧ Reports s (0x1F0 + 7 * l)) (0) (loopSt 4 4 [(LOOP.VIN_CFG.SRC 0, 1)]) := by
  decide +kernel

theorem witness_StepAnnouncementsAreJudged_1a :
    (fun (l : Fin 4) (s : State) =>
    fon s (LOOP.STEP_CFG.PIN_EN l) = true ∧ fon s TOP.SUPPLY.VDDIO = true ∧ Calm s (0x1F3 + 7 * l)) (0) ({ loopSt 4 2 [(LOOP.STEP_CFG.EN 0, 1), (LOOP.STEP_CFG.PIN_EN 0, 1), (LOOP.STEP_CFG.PIN_DI 0, 380), (LOOP.SHED.EN 0, 1), (TIME.STAT.STATE, 4), (LOOP.ANN_CT_LO.CT 0, 20000)] with time := { ct := 10000, loc := 777 } }) := by
  decide +kernel

theorem witness_StepAnnouncementsAreJudged_1b :
    (fun (l : Fin 4) (s : State) =>
    fon s (LOOP.STEP_CFG.PIN_EN l) = true ∧ fon s TOP.SUPPLY.VDDIO = true ∧ Calm s (0x1F3 + 7 * l)) (0) (loopSt 4 2 [(LOOP.STEP_CFG.PIN_EN 0, 1)]) := by
  decide +kernel

theorem witness_StepAnnouncementsAreJudged_2a :
    (fun (l : Fin 4) (_ : BitVec 8) (_ : BitVec 12) (s : State) =>
    loopUp s l ∧ Calm s (0x1F3 + 7 * l)) (0) (7) (380) ({ loopSt 4 2 [(LOOP.STEP_CFG.EN 0, 1), (LOOP.STEP_CFG.PIN_EN 0, 1), (LOOP.STEP_CFG.PIN_DI 0, 380), (LOOP.SHED.EN 0, 1), (TIME.STAT.STATE, 4), (LOOP.ANN_CT_LO.CT 0, 20000)] with time := { ct := 10000, loc := 777 } }) := by
  decide +kernel

theorem witness_StepAnnouncementsAreJudged_2b :
    (fun (l : Fin 4) (_ : BitVec 8) (_ : BitVec 12) (s : State) =>
    loopUp s l ∧ Calm s (0x1F3 + 7 * l)) (0) (7) (380) (loopSt 4 2 []) := by
  decide +kernel

theorem witness_StepAnnouncementsAreJudged_2c :
    (fun (l : Fin 4) (_ : BitVec 8) (_ : BitVec 12) (s : State) =>
    loopUp s l ∧ Calm s (0x1F3 + 7 * l)) (0) (0) (380) ({ loopSt 4 2 [(LOOP.STEP_CFG.EN 0, 1), (LOOP.STEP_CFG.PIN_EN 0, 1), (LOOP.STEP_CFG.PIN_DI 0, 380), (LOOP.SHED.EN 0, 1), (TIME.STAT.STATE, 4), (LOOP.ANN_CT_LO.CT 0, 20000)] with time := { ct := 10000, loc := 777 } }) := by
  decide +kernel

theorem witness_StepAnnouncementsAreJudged_2d :
    (fun (l : Fin 4) (_ : BitVec 8) (_ : BitVec 12) (s : State) =>
    loopUp s l ∧ Calm s (0x1F3 + 7 * l)) (0) (7) (380) (setLoopX ({ loopSt 4 2 [(LOOP.STEP_CFG.EN 0, 1), (LOOP.STEP_CFG.PIN_EN 0, 1), (LOOP.STEP_CFG.PIN_DI 0, 380), (LOOP.SHED.EN 0, 1), (TIME.STAT.STATE, 4), (LOOP.ANN_CT_LO.CT 0, 20000)] with time := { ct := 10000, loc := 777 } }) 0 { vref := 775000, anns := [{ id := 7, di := 380, arrival := 100, apply := 15000 }] }) := by
  decide +kernel

theorem witness_StepAnnouncementsAreJudged_2e :
    (fun (l : Fin 4) (_ : BitVec 8) (_ : BitVec 12) (s : State) =>
    loopUp s l ∧ Calm s (0x1F3 + 7 * l)) (0) (8) (380) ({ loopSt 4 2 [(LOOP.STEP_CFG.EN 0, 1), (LOOP.STEP_CFG.PIN_EN 0, 1), (LOOP.STEP_CFG.PIN_DI 0, 380), (LOOP.SHED.EN 0, 1), (TIME.STAT.STATE, 4), (LOOP.ANN_CT_LO.CT 0, 20000), (LOOP.ANN_CT_LO.CT 0, 70000)] with time := { ct := 10000, loc := 777 } }) := by
  decide +kernel

theorem witness_StepAnnouncementsAreJudged_2f :
    (fun (l : Fin 4) (_ : BitVec 8) (_ : BitVec 12) (s : State) =>
    loopUp s l ∧ Calm s (0x1F3 + 7 * l)) (0) (8) (0xFFF) ({ loopSt 4 2 [(LOOP.STEP_CFG.EN 0, 1), (LOOP.STEP_CFG.PIN_EN 0, 1), (LOOP.STEP_CFG.PIN_DI 0, 380), (LOOP.SHED.EN 0, 1), (TIME.STAT.STATE, 4), (LOOP.ANN_CT_LO.CT 0, 20000), (LOOP.ANN_CT_LO.CT 0, 9900), (LOOP.STEP_CFG.LATE_MAX 0, 5)] with time := { ct := 10000, loc := 777 } }) := by
  decide +kernel

theorem witness_StepAnnouncementsAreJudged_2g :
    (fun (l : Fin 4) (_ : BitVec 8) (_ : BitVec 12) (s : State) =>
    loopUp s l ∧ Calm s (0x1F3 + 7 * l)) (0) (8) (0xFFF) ({ loopSt 4 2 [(LOOP.STEP_CFG.EN 0, 1), (LOOP.STEP_CFG.PIN_EN 0, 1), (LOOP.STEP_CFG.PIN_DI 0, 380), (LOOP.SHED.EN 0, 1), (TIME.STAT.STATE, 4), (LOOP.ANN_CT_LO.CT 0, 20000), (LOOP.ANN_CT_LO.CT 0, 9900)] with time := { ct := 10000, loc := 777 } }) := by
  decide +kernel

theorem witness_StepAnnouncementsAreJudged_3a :
    (fun (l : Fin 4) (_ : BitVec 8) (_ : BitVec 12) (_ : BitVec 64) (s : State) =>
    Calm s (0x1F3 + 7 * l)) (0) (7) (380) (10400) ({ loopSt 4 2 [(LOOP.STEP_CFG.EN 0, 1), (LOOP.STEP_CFG.PIN_EN 0, 1), (LOOP.STEP_CFG.PIN_DI 0, 380), (LOOP.SHED.EN 0, 1), (TIME.STAT.STATE, 4), (LOOP.ANN_CT_LO.CT 0, 20000)] with time := { ct := 10000, loc := 777 } }) := by
  decide +kernel

theorem witness_StepAnnouncementsAreJudged_3b :
    (fun (l : Fin 4) (_ : BitVec 8) (_ : BitVec 12) (_ : BitVec 64) (s : State) =>
    Calm s (0x1F3 + 7 * l)) (0) (7) (380) (10400) (loopSt 3 2 [(LOOP.STEP_CFG.EN 0, 1)]) := by
  decide +kernel

theorem witness_StepAnnouncementsAreCancelled_1a :
    (fun (l : Fin 4) (i : BitVec 8) (a : Ann) (s : State) =>
    loopUp s l ∧ (loopX s l).anns.find? (fun a => a.id == i.toNat) = some a ∧ a.applied = false) (0) (7) ({ id := 7, di := 380, arrival := 100, apply := 15000 }) (setLoopX ({ loopSt 4 2 [(LOOP.STEP_CFG.EN 0, 1), (LOOP.STEP_CFG.PIN_EN 0, 1), (LOOP.STEP_CFG.PIN_DI 0, 380), (LOOP.SHED.EN 0, 1), (TIME.STAT.STATE, 4), (LOOP.ANN_CT_LO.CT 0, 20000), (LOOP.FF.GAIN 0, 100)] with time := { ct := 10000, loc := 777 } }) 0 { vref := 775000, anns := [{ id := 7, di := 380, arrival := 100, apply := 15000 }, { id := 9, di := 1, arrival := 1, apply := 15000 }] }) := by
  decide +kernel

theorem witness_StepAnnouncementsAreCancelled_2a :
    (fun (l : Fin 4) (i : BitVec 8) (a : Ann) (s : State) =>
    loopUp s l ∧ (loopX s l).anns.find? (fun a => a.id == i.toNat) = some a ∧ a.applied = true) (0) (7) ({ id := 7, di := 380, arrival := 100, apply := 9000, applied := true, s := 4 }) (setLoopX ({ loopSt 4 2 [(LOOP.STEP_CFG.EN 0, 1), (LOOP.STEP_CFG.PIN_EN 0, 1), (LOOP.STEP_CFG.PIN_DI 0, 380), (LOOP.SHED.EN 0, 1), (TIME.STAT.STATE, 4), (LOOP.ANN_CT_LO.CT 0, 20000), (LOOP.FF.GAIN 0, 100)] with time := { ct := 10000, loc := 777 } }) 0 { vref := 775000, anns := [{ id := 7, di := 380, arrival := 100, apply := 9000, applied := true, s := 4 }, { id := 9, di := 1, arrival := 1, apply := 15000 }] }) := by
  decide +kernel

theorem witness_StepAnnouncementsAreCancelled_3a :
    (fun (l : Fin 4) (i : BitVec 8) (s : State) =>
    loopUp s l ∧ (loopX s l).anns.find? (fun a => a.id == i.toNat) = none ∧ i.toNat ≠ 0) (0) (7) ({ loopSt 4 2 [(LOOP.STEP_CFG.EN 0, 1), (LOOP.STEP_CFG.PIN_EN 0, 1), (LOOP.STEP_CFG.PIN_DI 0, 380), (LOOP.SHED.EN 0, 1), (TIME.STAT.STATE, 4), (LOOP.ANN_CT_LO.CT 0, 20000)] with time := { ct := 10000, loc := 777 } }) := by
  decide +kernel

theorem witness_StepAnnouncementsAreCancelled_4a :
    (fun (l : Fin 4) (i : BitVec 8) (a : Ann) (s : State) =>
    (loopX s l).anns.find? (fun a => a.id == i.toNat) = some a ∧ a.applied = false) (0) (7) ({ id := 7, di := 380, arrival := 100, apply := 15000 }) (setLoopX ({ loopSt 4 2 [(LOOP.STEP_CFG.EN 0, 1), (LOOP.STEP_CFG.PIN_EN 0, 1), (LOOP.STEP_CFG.PIN_DI 0, 380), (LOOP.SHED.EN 0, 1), (TIME.STAT.STATE, 4), (LOOP.ANN_CT_LO.CT 0, 20000), (LOOP.FF.GAIN 0, 100)] with time := { ct := 10000, loc := 777 } }) 0 { vref := 775000, anns := [{ id := 7, di := 380, arrival := 100, apply := 15000 }, { id := 9, di := 1, arrival := 1, apply := 15000 }] }) := by
  decide +kernel

theorem witness_StepAnnouncementsAreCancelled_5a :
    (fun (l : Fin 4) (i : BitVec 8) (a : Ann) (s : State) =>
    (loopX s l).anns.find? (fun a => a.id == i.toNat) = some a ∧ a.applied = true) (0) (7) ({ id := 7, di := 380, arrival := 100, apply := 9000, applied := true, s := 4 }) (setLoopX ({ loopSt 4 2 [(LOOP.STEP_CFG.EN 0, 1), (LOOP.STEP_CFG.PIN_EN 0, 1), (LOOP.STEP_CFG.PIN_DI 0, 380), (LOOP.SHED.EN 0, 1), (TIME.STAT.STATE, 4), (LOOP.ANN_CT_LO.CT 0, 20000), (LOOP.FF.GAIN 0, 100)] with time := { ct := 10000, loc := 777 } }) 0 { vref := 775000, anns := [{ id := 7, di := 380, arrival := 100, apply := 9000, applied := true, s := 4 }, { id := 9, di := 1, arrival := 1, apply := 15000 }] }) := by
  decide +kernel

theorem witness_StepAnnouncementsAreCancelled_6a :
    (fun (l : Fin 4) (i : BitVec 8) (s : State) =>
    (loopX s l).anns.find? (fun a => a.id == i.toNat) = none ∧ i.toNat ≠ 0) (0) (7) ({ loopSt 4 2 [(LOOP.STEP_CFG.EN 0, 1), (LOOP.STEP_CFG.PIN_EN 0, 1), (LOOP.STEP_CFG.PIN_DI 0, 380), (LOOP.SHED.EN 0, 1), (TIME.STAT.STATE, 4), (LOOP.ANN_CT_LO.CT 0, 20000)] with time := { ct := 10000, loc := 777 } }) := by
  decide +kernel

theorem witness_StepAnnouncementsAreCancelled_7a :
    (fun (l : Fin 4) (s : State) =>
    fon s (LOOP.STEP_CFG.PIN_EN l) = true ∧ ∃ a ∈ (loopX s l).anns, a.id = 0 ∧ a.applied = false ∧ served s < a.apply ∧
    (loopX s l).anns.find? (fun b => b.id == 0) = some a) (0) (setLoopX ({ loopSt 4 2 [(LOOP.STEP_CFG.EN 0, 1), (LOOP.STEP_CFG.PIN_EN 0, 1), (LOOP.STEP_CFG.PIN_DI 0, 380), (LOOP.SHED.EN 0, 1), (TIME.STAT.STATE, 4), (LOOP.ANN_CT_LO.CT 0, 20000)] with time := { ct := 10000, loc := 777 } }) 0 { vref := 775000, anns := [{ id := 0, di := 380, arrival := 100, apply := 15000 }, { id := 9, di := 1, arrival := 1, apply := 15000 }] }) := by
  decide +kernel

theorem witness_StepAnnouncementsAreCancelled_8a :
    (fun (l : Fin 4) (s : State) =>
    ∀ a ∈ (loopX s l).anns, a.id = 0 → a.applied = true ∨ a.apply ≤ served s) (0) (setLoopX ({ loopSt 4 2 [(LOOP.STEP_CFG.EN 0, 1), (LOOP.STEP_CFG.PIN_EN 0, 1), (LOOP.STEP_CFG.PIN_DI 0, 380), (LOOP.SHED.EN 0, 1), (TIME.STAT.STATE, 4), (LOOP.ANN_CT_LO.CT 0, 20000)] with time := { ct := 10000, loc := 777 } }) 0 { vref := 775000, anns := [{ id := 0, di := 380, arrival := 100, apply := 9000, applied := true, s := 4 }, { id := 9, di := 1, arrival := 1, apply := 15000 }] }) := by
  decide +kernel

theorem witness_StepsBrakingAndHiccup_1a :
    (fun (l : Fin 4) (i : BitVec 8) (a : Ann) (s : State) =>
    (loopX s l).anns.find? (fun b => b.id == i.toNat && !b.applied) = some a ∧ loopState s l = 4) (0) (7) ({ id := 7, di := 380, arrival := 100, apply := 15000 }) (setLoopX ({ loopSt 4 2 [(LOOP.STEP_CFG.EN 0, 1), (LOOP.STEP_CFG.PIN_EN 0, 1), (LOOP.STEP_CFG.PIN_DI 0, 380), (LOOP.SHED.EN 0, 1), (TIME.STAT.STATE, 4), (LOOP.ANN_CT_LO.CT 0, 20000), (LOOP.PROT_STAT.BRAKING 0, 1)] with time := { ct := 10000, loc := 777 } }) 0 { vref := 775000, anns := [{ id := 7, di := 380, arrival := 100, apply := 15000 }, { id := 9, di := 1, arrival := 1, apply := 15000 }] }) := by
  decide +kernel

theorem witness_StepsBrakingAndHiccup_1b :
    (fun (l : Fin 4) (i : BitVec 8) (a : Ann) (s : State) =>
    (loopX s l).anns.find? (fun b => b.id == i.toNat && !b.applied) = some a ∧ loopState s l = 4) (0) (7) ({ id := 7, di := -380, arrival := 100, apply := 15000 }) (setLoopX ({ loopSt 4 2 [(LOOP.STEP_CFG.EN 0, 1), (LOOP.STEP_CFG.PIN_EN 0, 1), (LOOP.STEP_CFG.PIN_DI 0, 380), (LOOP.SHED.EN 0, 1), (TIME.STAT.STATE, 4), (LOOP.ANN_CT_LO.CT 0, 20000), (LOOP.BRAKE.EN 0, 1), (LOOP.BRAKE.ANN 0, 1)] with time := { ct := 10000, loc := 777 } }) 0 { vref := 775000, anns := [{ id := 7, di := -380, arrival := 100, apply := 15000 }, { id := 9, di := 1, arrival := 1, apply := 15000 }] }) := by
  decide +kernel

theorem witness_StepsBrakingAndHiccup_2a :
    (fun (l : Fin 4) (s : State) =>
    fon s (LOOP.PROT_STAT.BRAKING l) = true ∧ atLeast1 (fget s (LOOP.BRAKE.TMAX l)) ≤ (loopX s l).brakeN ∧ Calm s (0x1F4 + 7 * l) ∧ Reports s (0x1F4 + 7 * l)) (0) (setLoopX (loopSt 4 4 [(LOOP.PROT_STAT.BRAKING 0, 1)]) 0 { brakeN := 25 }) := by
  decide +kernel

theorem witness_StepsBrakingAndHiccup_3a :
    (fun (l : Fin 4) (s : State) =>
    switching s l ∧ atLeast1 (fget s (LOOP.OCL.N l)) ≤ fget s (LOOP.PROT_STAT.RUN l) ∧ Calm s (0x1F5 + 7 * l) ∧ Reports s (0x1F5 + 7 * l)) (0) (setLoopX (loopSt 4 4 [(LOOP.PROT_STAT.RUN 0, 8), (LOOP.PROT_STAT.BRAKING 0, 1)]) 0 { vref := 775000, anns := [{ id := 7, di := 380, arrival := 100, apply := 15000 }, { id := 9, di := 1, arrival := 1, apply := 15000 }] }) := by
  decide +kernel

theorem witness_StepsBrakingAndHiccup_4a :
    (fun (l : Fin 4) (_ : Int) (s : State) =>
    loopState s l = 6 ∧ (fget s (LOOP.HICCUP.RETRY l) = 15 ∨ (loopX s l).r < fget s (LOOP.HICCUP.RETRY l))) (0) (12) (setLoopX (loopSt 6 0 []) 0 { r := 2, hiccupAt := 5 }) := by
  decide +kernel

theorem witness_StepsBrakingAndHiccup_5a :
    (fun (l : Fin 4) (_ : Int) (s : State) =>
    loopState s l = 6 ∧ fget s (LOOP.HICCUP.RETRY l) ≠ 15 ∧ fget s (LOOP.HICCUP.RETRY l) ≤ (loopX s l).r ∧
    Calm s (0x1F6 + 7 * l) ∧ Reports s (0x1F6 + 7 * l)) (0) (12) (setLoopX (loopSt 6 0 []) 0 { r := 3, hiccupAt := 5 }) := by
  decide +kernel

theorem witness_StepsBrakingAndHiccup_6a :
    (fun (l : Fin 4) (s : State) =>
    loopState s l = 4) (0) (setLoopX (loopSt 4 4 []) 0 { r := 3 }) := by
  decide +kernel

theorem witness_LoopEventsFrame_1a :
    (fun (l : Fin 4) (c : Fin 8192) (i : BitVec 8) (d : BitVec 12) (k : Fin 16) (b : BitVec 11) (on : Bool) (v : Int) (x : Instr) (s : State) =>
    LoopCalm s ∧ stage s ≠ 3 ∧ (x = .loopEnable l ∨ x = .loopDisable l ∨ x = .loopClrLatch l ∨ x = .loopPeriodStart l ∨ x = .balanceUpdate l ∨ x = .loopHiccupCountReset l ∨
    x = .loopVsetWrite l c ∨ x = .loopSample l v ∨ x = .hiccupEntry l ∨ x = .annCtlAnnounce l i d ∨ x = .imonSample k b on)) (0) (460) (7) (5) (1) (5) (true) (770000) (.loopSample 0 770000) (loopSt 4 4 []) := by
  decide +kernel

theorem witness_LoopEventsFrame_1b :
    (fun (l : Fin 4) (c : Fin 8192) (i : BitVec 8) (d : BitVec 12) (k : Fin 16) (b : BitVec 11) (on : Bool) (v : Int) (x : Instr) (s : State) =>
    LoopCalm s ∧ stage s ≠ 3 ∧ (x = .loopEnable l ∨ x = .loopDisable l ∨ x = .loopClrLatch l ∨ x = .loopPeriodStart l ∨ x = .balanceUpdate l ∨ x = .loopHiccupCountReset l ∨
    x = .loopVsetWrite l c ∨ x = .loopSample l v ∨ x = .hiccupEntry l ∨ x = .annCtlAnnounce l i d ∨ x = .imonSample k b on)) (0) (460) (7) (5) (1) (5) (true) (770000) (.hiccupEntry 0) (loopSt 4 4 [(LOOP.PROT_STAT.RUN 0, 8)]) := by
  decide +kernel

theorem witness_LoopEventsFrame_1c :
    (fun (l : Fin 4) (c : Fin 8192) (i : BitVec 8) (d : BitVec 12) (k : Fin 16) (b : BitVec 11) (on : Bool) (v : Int) (x : Instr) (s : State) =>
    LoopCalm s ∧ stage s ≠ 3 ∧ (x = .loopEnable l ∨ x = .loopDisable l ∨ x = .loopClrLatch l ∨ x = .loopPeriodStart l ∨ x = .balanceUpdate l ∨ x = .loopHiccupCountReset l ∨
    x = .loopVsetWrite l c ∨ x = .loopSample l v ∨ x = .hiccupEntry l ∨ x = .annCtlAnnounce l i d ∨ x = .imonSample k b on)) (0) (460) (7) (5) (1) (5) (true) (770000) (.loopDisable 0) (loopSt 4 4 []) := by
  decide +kernel

theorem witness_LoopEventsFrame_1d :
    (fun (l : Fin 4) (c : Fin 8192) (i : BitVec 8) (d : BitVec 12) (k : Fin 16) (b : BitVec 11) (on : Bool) (v : Int) (x : Instr) (s : State) =>
    LoopCalm s ∧ stage s ≠ 3 ∧ (x = .loopEnable l ∨ x = .loopDisable l ∨ x = .loopClrLatch l ∨ x = .loopPeriodStart l ∨ x = .balanceUpdate l ∨ x = .loopHiccupCountReset l ∨
    x = .loopVsetWrite l c ∨ x = .loopSample l v ∨ x = .hiccupEntry l ∨ x = .annCtlAnnounce l i d ∨ x = .imonSample k b on)) (0) (460) (7) (5) (1) (5) (true) (770000) (.annCtlAnnounce 0 7 5) ({ loopSt 4 2 [(LOOP.STEP_CFG.EN 0, 1), (LOOP.STEP_CFG.PIN_EN 0, 1), (LOOP.STEP_CFG.PIN_DI 0, 380), (LOOP.SHED.EN 0, 1), (TIME.STAT.STATE, 4), (LOOP.ANN_CT_LO.CT 0, 20000)] with time := { ct := 10000, loc := 777 } }) := by
  decide +kernel

theorem witness_LoopEventsFrame_1e :
    (fun (l : Fin 4) (c : Fin 8192) (i : BitVec 8) (d : BitVec 12) (k : Fin 16) (b : BitVec 11) (on : Bool) (v : Int) (x : Instr) (s : State) =>
    LoopCalm s ∧ stage s ≠ 3 ∧ (x = .loopEnable l ∨ x = .loopDisable l ∨ x = .loopClrLatch l ∨ x = .loopPeriodStart l ∨ x = .balanceUpdate l ∨ x = .loopHiccupCountReset l ∨
    x = .loopVsetWrite l c ∨ x = .loopSample l v ∨ x = .hiccupEntry l ∨ x = .annCtlAnnounce l i d ∨ x = .imonSample k b on)) (0) (460) (7) (5) (1) (5) (true) (770000) (.loopVsetWrite 0 460) (loopSt 4 4 []) := by
  decide +kernel

theorem witness_RegulatorTurnOnAndOff_1a :
    (fun (r : Fin 8) (s : State) =>
    regUp s r ∧ s.start.running = true ∧ regState s r = 0) (0) (regSt 0 0 []) := by
  decide +kernel

theorem witness_RegulatorTurnOnAndOff_1b :
    (fun (r : Fin 8) (s : State) =>
    regUp s r ∧ s.start.running = true ∧ regState s r = 0) (5) (regSt 5 0 [(REG.VSET.VSET 5, 700)]) := by
  decide +kernel

theorem witness_RegulatorTurnOnAndOff_2a :
    (fun (r : Fin 8) (s : State) =>
    regUp s r ∧ s.start.running = true ∧ 1 ≤ regState s r ∧ regState s r ≤ 5) (2) (regSt 2 3 []) := by
  decide +kernel

theorem witness_RegulatorTurnOnAndOff_3a :
    (fun (r : Fin 8) (s : State) =>
    regUp s r ∧ (regState s r = 6 ∨ regState s r = 7)) (2) (regSt 2 6 []) := by
  decide +kernel

theorem witness_RegulatorTurnOnAndOff_3b :
    (fun (r : Fin 8) (s : State) =>
    regUp s r ∧ (regState s r = 6 ∨ regState s r = 7)) (7) (regSt 7 7 []) := by
  decide +kernel

theorem witness_RegulatorTurnOnAndOff_4a :
    (fun (r : Fin 8) (s : State) =>
    regUp s r ∧ 1 ≤ regState s r ∧ regState s r ≤ 5) (1) (regSt 1 3 [(REG.STAT.PG 1, 1)]) := by
  decide +kernel

theorem witness_RegulatorTurnOnAndOff_4b :
    (fun (r : Fin 8) (s : State) =>
    regUp s r ∧ 1 ≤ regState s r ∧ regState s r ≤ 5) (1) (request (regSt 1 1 []) (.regOn 1) 11000) := by
  decide +kernel

theorem witness_RegulatorTurnOnAndOff_5a :
    (fun (r : Fin 8) (s : State) =>
    regUp s r ∧ regState s r = 6) (4) (regSt 4 6 []) := by
  decide +kernel

theorem witness_RegulatorTurnOnAndOff_6a :
    (fun (r : Fin 8) (s : State) =>
    regState s r = 2 ∧ fon s (REG.STAT.NOIN r) = false) (4) (regSt 4 2 []) := by
  decide +kernel

theorem witness_RegulatorTurnOnAndOff_7a :
    (fun (r : Fin 8) (_ : Fin 2048) (s : State) =>
    regUp s r ∧ (regState s r = 0 ∨ regState s r = 6 ∨ regState s r = 7)) (4) (2000) (regSt 4 0 []) := by
  decide +kernel

theorem witness_RegulatorTurnOnAndOff_8a :
    (fun (r : Fin 8) (c : Fin 2048) (s : State) =>
    regUp s r ∧ s.start.running = true ∧ 1 ≤ regState s r ∧ regState s r ≤ 5 ∧ r.val < 4 ∧
    fget s (REG.VSET.VTGT r) < codeOf r c) (2) (2047) (regSt 2 3 []) := by
  decide +kernel

theorem witness_RegulatorTurnOnAndOff_8b :
    (fun (r : Fin 8) (c : Fin 2048) (s : State) =>
    regUp s r ∧ s.start.running = true ∧ 1 ≤ regState s r ∧ regState s r ≤ 5 ∧ r.val < 4 ∧
    fget s (REG.VSET.VTGT r) < codeOf r c) (2) (600) (regSt 2 4 []) := by
  decide +kernel

theorem witness_RegulatorTurnOnAndOff_8c :
    (fun (r : Fin 8) (c : Fin 2048) (s : State) =>
    regUp s r ∧ s.start.running = true ∧ 1 ≤ regState s r ∧ regState s r ≤ 5 ∧ r.val < 4 ∧
    fget s (REG.VSET.VTGT r) < codeOf r c) (2) (50) (regSt 2 3 [(REG.VSET.VTGT 2, 40), (REG.LEDG_V.VNOM 2, 40), (REG.LEDG.RESV_MW 2, 4000)]) := by
  decide +kernel

theorem witness_RegulatorTurnOnAndOff_9a :
    (fun (r : Fin 8) (c : Fin 2048) (s : State) =>
    regUp s r ∧ s.start.running = true ∧ 1 ≤ regState s r ∧ regState s r ≤ 5 ∧
    (4 ≤ r.val ∨ codeOf r c ≤ fget s (REG.VSET.VTGT r))) (2) (500) (regSt 2 3 []) := by
  decide +kernel

theorem witness_RegulatorTurnOnAndOff_9b :
    (fun (r : Fin 8) (c : Fin 2048) (s : State) =>
    regUp s r ∧ s.start.running = true ∧ 1 ≤ regState s r ∧ regState s r ≤ 5 ∧
    (4 ≤ r.val ∨ codeOf r c ≤ fget s (REG.VSET.VTGT r))) (6) (2047) (regSt 6 5 []) := by
  decide +kernel

theorem witness_RegulatorProtectionAndPowerGood_1a :
    (fun (r : Fin 8) (s : State) =>
    (regState s r = 2 ∨ regState s r = 3) ∧ Calm s (0x20C + 4 * r) ∧ Reports s (0x20C + 4 * r)) (3) (regSt 3 3 [(REG.STAT.PG 3, 1)]) := by
  decide +kernel

theorem witness_RegulatorProtectionAndPowerGood_2a :
    (fun (r : Fin 8) (s : State) =>
    regState s r = 4 ∧ (fget s (REG.PROT.RETRY r) = 15 ∨ (regX s r).r < fget s (REG.PROT.RETRY r))) (0) (setRegX (regSt 0 4 []) 0 { r := 2, hiccupAt := 5 }) := by
  decide +kernel

theorem witness_RegulatorProtectionAndPowerGood_2b :
    (fun (r : Fin 8) (s : State) =>
    regState s r = 4 ∧ (fget s (REG.PROT.RETRY r) = 15 ∨ (regX s r).r < fget s (REG.PROT.RETRY r))) (0) (setRegX (regSt 0 4 [(REG.PROT.RETRY 0, 15), (REG.PROT.OFF_MS 0, 0)]) 0 { r := 20 }) := by
  decide +kernel

theorem witness_RegulatorProtectionAndPowerGood_3a :
    (fun (r : Fin 8) (s : State) =>
    regState s r = 4 ∧ fget s (REG.PROT.RETRY r) ≠ 15 ∧ fget s (REG.PROT.RETRY r) ≤ (regX s r).r ∧ Calm s (0x20D + 4 * r) ∧ Reports s (0x20D + 4 * r)) (0) (setRegX (regSt 0 4 []) 0 { r := 3, hiccupAt := 5 }) := by
  decide +kernel

theorem witness_RegulatorProtectionAndPowerGood_4a :
    (fun (r : Fin 8) (s : State) =>
    2 ≤ regState s r ∧ regState s r ≤ 4 ∧ Calm s (0x20E + 4 * r) ∧ Reports s (0x20E + 4 * r)) (7) (regSt 7 4 []) := by
  decide +kernel

theorem witness_RegulatorProtectionAndPowerGood_5a :
    (fun (r : Fin 8) (s : State) =>
    regState s r = 5) (1) (regSt 1 5 []) := by
  decide +kernel

theorem witness_RegulatorProtectionAndPowerGood_6a :
    (fun (r : Fin 8) (s : State) =>
    regState s r = 2 ∨ regState s r = 3) (1) (regSt 1 3 []) := by
  decide +kernel

theorem witness_RegulatorProtectionAndPowerGood_7a :
    (fun (r : Fin 8) (s : State) =>
    r.val < 4 ∧ (regState s r = 2 ∨ regState s r = 3)) (1) (regSt 1 3 []) := by
  decide +kernel

theorem witness_RegulatorProtectionAndPowerGood_9a :
    (fun (r : Fin 8) (s : State) =>
    regState s r = 3) (5) (setRegX (regSt 5 3 []) 5 { r := 4 }) := by
  decide +kernel

theorem witness_RegulatorProtectionAndPowerGood_10a :
    (fun (r : Fin 8) (s : State) =>
    regState s r = 3 ∧ fon s (REG.STAT.PG r) = true ∧ Calm s (0x20F + 4 * r) ∧ Reports s (0x20F + 4 * r)) (5) (regSt 5 3 [(REG.STAT.PG 5, 1)]) := by
  decide +kernel

theorem witness_RegulatorProtectionAndPowerGood_11a :
    (fun (r : Fin 8) (c : Fin 2048) (x : Instr) (s : State) =>
    (∀ k < 4, Calm s (0x20C + 4 * r + k)) ∧ (x = .regEnable r ∨ x = .regDisable r ∨ x = .regClrLatch r ∨ x = .regVsetWrite r c ∨ x = .regSsComplete r ∨ x = .regLimitCondition r ∨
    x = .regHiccupRestart r ∨ x = .regOvertemp r ∨ x = .regTempRecover r ∨ x = .regInputLoss r ∨ x = .regOvervoltage r ∨ x = .regPgSet r ∨ x = .regPgLost r)) (2) (600) (.regLimitCondition 2) (regSt 2 3 []) := by
  decide +kernel

theorem witness_RegulatorProtectionAndPowerGood_11b :
    (fun (r : Fin 8) (c : Fin 2048) (x : Instr) (s : State) =>
    (∀ k < 4, Calm s (0x20C + 4 * r + k)) ∧ (x = .regEnable r ∨ x = .regDisable r ∨ x = .regClrLatch r ∨ x = .regVsetWrite r c ∨ x = .regSsComplete r ∨ x = .regLimitCondition r ∨
    x = .regHiccupRestart r ∨ x = .regOvertemp r ∨ x = .regTempRecover r ∨ x = .regInputLoss r ∨ x = .regOvervoltage r ∨ x = .regPgSet r ∨ x = .regPgLost r)) (2) (600) (.regDisable 2) (regSt 2 4 []) := by
  decide +kernel

theorem witness_RegulatorProtectionAndPowerGood_11c :
    (fun (r : Fin 8) (c : Fin 2048) (x : Instr) (s : State) =>
    (∀ k < 4, Calm s (0x20C + 4 * r + k)) ∧ (x = .regEnable r ∨ x = .regDisable r ∨ x = .regClrLatch r ∨ x = .regVsetWrite r c ∨ x = .regSsComplete r ∨ x = .regLimitCondition r ∨
    x = .regHiccupRestart r ∨ x = .regOvertemp r ∨ x = .regTempRecover r ∨ x = .regInputLoss r ∨ x = .regOvervoltage r ∨ x = .regPgSet r ∨ x = .regPgLost r)) (2) (600) (.regVsetWrite 2 600) (regSt 2 4 []) := by
  decide +kernel

theorem witness_SequenceStepsRunInOrder_1a :
    (fun (q : Fin 16) (s : State) =>
    stepReady s q 1 ∧ railOff s (seqStep s q).tgt) (2) (seqSt 0 { first := 0, count := 2 } [⟨1, 0x40, 0, 100, 255, 0⟩, ⟨1, 0x40, 0, 100, 255, 0⟩] false []) := by
  decide +kernel

theorem witness_SequenceStepsRunInOrder_1b :
    (fun (q : Fin 16) (s : State) =>
    stepReady s q 1 ∧ railOff s (seqStep s q).tgt) (2) (seqSt 0 { first := 0, count := 2 } [⟨1, 3, 0, 100, 255, 0⟩, ⟨1, 3, 0, 100, 255, 0⟩] false []) := by
  decide +kernel

theorem witness_SequenceStepsRunInOrder_1c :
    (fun (q : Fin 16) (s : State) =>
    stepReady s q 1 ∧ railOff s (seqStep s q).tgt) (2) (seqSt 0 { first := 0, count := 2 } [⟨1, 0x48, 0, 100, 255, 0⟩, ⟨1, 0x48, 0, 100, 255, 0⟩] false []) := by
  decide +kernel

theorem witness_SequenceStepsRunInOrder_2a :
    (fun (q : Fin 16) (s : State) =>
    stepReady s q 2 ∧ railUp s (seqStep s q).tgt) (2) (seqSt 0 { first := 0, count := 2 } [⟨2, 0x40, 0, 100, 255, 0⟩, ⟨2, 0x40, 0, 100, 255, 0⟩] false [(REG.STAT.STATE 0, 3)]) := by
  decide +kernel

theorem witness_SequenceStepsRunInOrder_2b :
    (fun (q : Fin 16) (s : State) =>
    stepReady s q 2 ∧ railUp s (seqStep s q).tgt) (2) (seqSt 1 { first := 0, count := 2 } [⟨2, 3, 0, 100, 255, 0⟩, ⟨2, 3, 0, 100, 255, 0⟩] false [(CHN.STAT.STATE 3, 5)]) := by
  decide +kernel

theorem witness_SequenceStepsRunInOrder_2c :
    (fun (q : Fin 16) (s : State) =>
    stepReady s q 2 ∧ railUp s (seqStep s q).tgt) (2) (seqSt 0 { first := 0, count := 2 } [⟨2, 0x48, 0, 100, 255, 0⟩, ⟨2, 0x48, 0, 100, 255, 0⟩] false [(LOOP.STAT.STATE 0, 4)]) := by
  decide +kernel

theorem witness_SequenceStepsRunInOrder_3a :
    (fun (q : Fin 16) (s : State) =>
    stepReady s q 3 ∧ targetDown s (if (seqStep s q).tgt < 0x4C then (seqStep s q).tgt else 0x7F) = false) (2) (seqSt 0 { first := 0, count := 2 } [⟨3, 0x40, 0, 100, 255, 0⟩, ⟨3, 0x40, 0, 100, 255, 0⟩] false []) := by
  decide +kernel

theorem witness_SequenceStepsRunInOrder_3b :
    (fun (q : Fin 16) (s : State) =>
    stepReady s q 3 ∧ targetDown s (if (seqStep s q).tgt < 0x4C then (seqStep s q).tgt else 0x7F) = false) (2) (seqSt 0 { first := 0, count := 2 } [⟨3, 0x40, 0, 100, 255, 0⟩, ⟨3, 0x40, 0, 100, 255, 0⟩] false [(REG.STAT.PG 0, 1)]) := by
  decide +kernel

theorem witness_SequenceStepsRunInOrder_3c :
    (fun (q : Fin 16) (s : State) =>
    stepReady s q 3 ∧ targetDown s (if (seqStep s q).tgt < 0x4C then (seqStep s q).tgt else 0x7F) = false) (2) (seqSt 0 { first := 0, count := 2 } [⟨3, 3, 0, 100, 255, 0⟩, ⟨3, 3, 0, 100, 255, 0⟩] false [(CHN.STAT.STATE 3, 5)]) := by
  decide +kernel

theorem witness_SequenceStepsRunInOrder_3d :
    (fun (q : Fin 16) (s : State) =>
    stepReady s q 3 ∧ targetDown s (if (seqStep s q).tgt < 0x4C then (seqStep s q).tgt else 0x7F) = false) (2) (seqSt 0 { first := 0, count := 2 } [⟨3, 0x54, 0, 100, 255, 0⟩, ⟨3, 0x54, 0, 100, 255, 0⟩] false [(MON.STAT.MODE 4, 1)]) := by
  decide +kernel

theorem witness_SequenceStepsRunInOrder_4a :
    (fun (q : Fin 16) (s : State) =>
    stepReady s q 4) (2) (seqSt 0 { first := 0, count := 2 } [⟨4, 0, 100, 100, 255, 0⟩, ⟨4, 0, 100, 100, 255, 0⟩] false []) := by
  decide +kernel

theorem witness_SequenceStepsRunInOrder_5a :
    (fun (q : Fin 16) (s : State) =>
    stepReady s q 5) (2) (seqSt 0 { first := 0, count := 2 } [⟨5, 0, 100, 100, 255, 0⟩, ⟨5, 0, 100, 100, 255, 0⟩] false []) := by
  decide +kernel

theorem witness_SequenceStepsRunInOrder_5b :
    (fun (q : Fin 16) (s : State) =>
    stepReady s q 5) (2) (seqSt 1 { first := 0, count := 2 } [⟨5, 0, 0, 100, 255, 0⟩, ⟨5, 0, 0, 100, 255, 0⟩] false []) := by
  decide +kernel

theorem witness_SequenceStepsRunInOrder_6a :
    (fun (q : Fin 16) (s : State) =>
    stepReady s q 6 ∧ railUp s (seqStep s q).tgt) (2) (seqSt 0 { first := 0, count := 2 } [⟨6, 0x40, 0, 100, 5, 0⟩, ⟨6, 0x40, 0, 100, 5, 0⟩] false [(REG.STAT.STATE 0, 3), (MON.CFG.ARM 5, 1)]) := by
  decide +kernel

theorem witness_SequenceStepsRunInOrder_7a :
    (fun (q : Fin 16) (s : State) =>
    stepReady s q 7 ∧ targetDown s 0x7F = false ∧ 0x50 ≤ (seqStep s q).tgt ∧ (seqStep s q).tgt < 0x80 ∧
    fget s (MON.STAT.MODE ((seqStep s q).tgt - 0x50)) ≠ 2) (2) (seqSt 0 { first := 0, count := 2 } [⟨7, 0x7F, 1, 100, 255, 0⟩, ⟨7, 0x7F, 1, 100, 255, 0⟩] false []) := by
  decide +kernel

theorem witness_SequenceStepsRunInOrder_7b :
    (fun (q : Fin 16) (s : State) =>
    stepReady s q 7 ∧ targetDown s 0x7F = false ∧ 0x50 ≤ (seqStep s q).tgt ∧ (seqStep s q).tgt < 0x80 ∧
    fget s (MON.STAT.MODE ((seqStep s q).tgt - 0x50)) ≠ 2) (2) (seqSt 1 { first := 0, count := 2 } [⟨7, 0x50, 0, 100, 255, 0⟩, ⟨7, 0x50, 0, 100, 255, 0⟩] false [(MON.STAT.MODE 0, 1), (MON.CFG.ARM 0, 1)]) := by
  decide +kernel

theorem witness_SequenceStepsRunInOrder_8a :
    (fun (q : Fin 16) (s : State) =>
    stepReady s q 8 ∧ railUp s (seqStep s q).tgt ∧ 0x40 ≤ (seqStep s q).tgt ∧
    (seqStep s q).arg ≤ (if (seqStep s q).tgt < 0x44 then 880 else if (seqStep s q).tgt < 0x48 then 540 else 4200)) (2) (seqSt 0 { first := 0, count := 2 } [⟨8, 0x40, 600, 100, 255, 0⟩, ⟨8, 0x40, 600, 100, 255, 0⟩] false [(REG.STAT.STATE 0, 3), (REG.VSET.VTGT 0, 540)]) := by
  decide +kernel

theorem witness_SequenceStepsRunInOrder_8b :
    (fun (q : Fin 16) (s : State) =>
    stepReady s q 8 ∧ railUp s (seqStep s q).tgt ∧ 0x40 ≤ (seqStep s q).tgt ∧
    (seqStep s q).arg ≤ (if (seqStep s q).tgt < 0x44 then 880 else if (seqStep s q).tgt < 0x48 then 540 else 4200)) (2) (seqSt 0 { first := 0, count := 2 } [⟨8, 0x40, 500, 100, 255, 0⟩, ⟨8, 0x40, 500, 100, 255, 0⟩] false [(REG.STAT.STATE 0, 3), (REG.VSET.VTGT 0, 540)]) := by
  decide +kernel

theorem witness_SequenceStepsRunInOrder_8c :
    (fun (q : Fin 16) (s : State) =>
    stepReady s q 8 ∧ railUp s (seqStep s q).tgt ∧ 0x40 ≤ (seqStep s q).tgt ∧
    (seqStep s q).arg ≤ (if (seqStep s q).tgt < 0x44 then 880 else if (seqStep s q).tgt < 0x48 then 540 else 4200)) (2) (seqSt 0 { first := 0, count := 2 } [⟨8, 0x46, 500, 100, 255, 0⟩, ⟨8, 0x46, 500, 100, 255, 0⟩] false [(REG.STAT.STATE 6, 3)]) := by
  decide +kernel

theorem witness_SequenceStepsRunInOrder_8d :
    (fun (q : Fin 16) (s : State) =>
    stepReady s q 8 ∧ railUp s (seqStep s q).tgt ∧ 0x40 ≤ (seqStep s q).tgt ∧
    (seqStep s q).arg ≤ (if (seqStep s q).tgt < 0x44 then 880 else if (seqStep s q).tgt < 0x48 then 540 else 4200)) (2) (seqSt 0 { first := 0, count := 2 } [⟨8, 0x48, 460, 100, 255, 0⟩, ⟨8, 0x48, 460, 100, 255, 0⟩] false [(LOOP.STAT.STATE 0, 4), (LOOP.VREF.VTGT 0, 420)]) := by
  decide +kernel

theorem witness_SequenceStepsRunInOrder_8e :
    (fun (q : Fin 16) (s : State) =>
    stepReady s q 8 ∧ railUp s (seqStep s q).tgt ∧ 0x40 ≤ (seqStep s q).tgt ∧
    (seqStep s q).arg ≤ (if (seqStep s q).tgt < 0x44 then 880 else if (seqStep s q).tgt < 0x48 then 540 else 4200)) (2) (seqSt 1 { first := 0, count := 2 } [⟨8, 0x48, 400, 100, 255, 0⟩, ⟨8, 0x48, 400, 100, 255, 0⟩] false [(LOOP.STAT.STATE 0, 4), (LOOP.VREF.VTGT 0, 420)]) := by
  decide +kernel

theorem witness_SequenceStepsRunInOrder_9a :
    (fun (q : Fin 16) (s : State) =>
    stepReady s q 9) (2) (seqSt 0 { first := 0, count := 2 } [⟨9, 0, 1, 100, 255, 0⟩, ⟨9, 0, 1, 100, 255, 0⟩] false [(SEQ.FLT_STAT.DRIVE, 0), (SEQ.FLT_STAT.LINE, 1)]) := by
  decide +kernel

theorem witness_SequenceStepsRunInOrder_9b :
    (fun (q : Fin 16) (s : State) =>
    stepReady s q 9) (2) (seqSt 1 { first := 0, count := 2 } [⟨9, 0, 0, 100, 255, 0⟩, ⟨9, 0, 0, 100, 255, 0⟩] false []) := by
  decide +kernel

theorem witness_SequenceStepsRunInOrder_10a :
    (fun (q : Fin 16) (s : State) =>
    stepBegun s q 3 ∧ railGood s (seqStep s q).tgt = true) (2) (seqSt 0 { first := 0, count := 2 } [⟨3, 0x40, 0, 100, 255, 0⟩, ⟨3, 0x40, 0, 100, 255, 0⟩] true [(REG.STAT.PG 0, 1)]) := by
  decide +kernel

theorem witness_SequenceStepsRunInOrder_11a :
    (fun (q : Fin 16) (s : State) =>
    stepBegun s q 6) (2) (seqSt 1 { first := 0, count := 2 } [⟨6, 0x40, 0, 100, 5, 0⟩, ⟨6, 0x40, 0, 100, 5, 0⟩] true [(MON.STAT.MODE 5, 2)]) := by
  decide +kernel

theorem witness_SequenceStepsRunInOrder_12a :
    (fun (q : Fin 16) (s : State) =>
    stepBegun s q 4 ∧ stage s ≠ 0 ∧ s.pwr.storage = false) (2) (seqSt 0 { first := 0, count := 2 } [⟨4, 0, 100, 100, 255, 0⟩, ⟨4, 0, 100, 100, 255, 0⟩] true []) := by
  decide +kernel

theorem witness_SequenceStepsRunInOrder_13a :
    (fun (q : Fin 16) (s : State) =>
    stepBegun s q 5 ∧ stage s ≠ 0 ∧ s.pwr.storage = false) (2) (seqSt 0 { first := 0, count := 2 } [⟨5, 0, 100, 100, 255, 0⟩, ⟨5, 0, 100, 100, 255, 0⟩] true []) := by
  decide +kernel

theorem witness_SequenceStartAbortAndTimeout_1a :
    (fun (q : Fin 16) (s : State) =>
    targetDown s 0x7F = false ∧ fget s (SEQ.STAT.STATE q) = 1) (2) (seqSt 0 { first := 0, count := 2 } [⟨4, 0, 0, 100, 255, 0⟩, ⟨4, 0, 0, 100, 255, 0⟩] false []) := by
  decide +kernel

theorem witness_SequenceStartAbortAndTimeout_2a :
    (fun (q : Fin 16) (s : State) =>
    targetDown s 0x7F = false ∧ fget s (SEQ.STAT.STATE q) ≠ 1 ∧ s.start.running = true ∧ safe s = false ∧ (seqHead s q).count ≠ 0) (2) (seqSt 0 { first := 0, count := 2, flags := 1 } [⟨4, 0, 1, 0, 255, 0⟩] false [(SEQ.STAT.STATE 2, 3), (SEQ.STAT.STATE 5, 1), (SEQ.STAT.FLT_HOLD 2, 1)]) := by
  decide +kernel

theorem witness_SequenceStartAbortAndTimeout_3a :
    (fun (q : Fin 16) (s : State) =>
    targetDown s 0x7F = false ∧ fget s (SEQ.STAT.STATE q) = 1) (2) (seqSt 0 { first := 0, count := 2 } [⟨4, 0, 0, 100, 255, 0⟩, ⟨4, 0, 0, 100, 255, 0⟩] false []) := by
  decide +kernel

theorem witness_SequenceStartAbortAndTimeout_3b :
    (fun (q : Fin 16) (s : State) =>
    targetDown s 0x7F = false ∧ fget s (SEQ.STAT.STATE q) = 1) (2) (seqSt 0 { first := 0, count := 2 } [⟨6, 0x40, 0, 100, 5, 0⟩, ⟨6, 0x40, 0, 100, 5, 0⟩] true [(MON.STAT.MODE 5, 2)]) := by
  decide +kernel

theorem witness_SequenceStartAbortAndTimeout_3c :
    (fun (q : Fin 16) (s : State) =>
    targetDown s 0x7F = false ∧ fget s (SEQ.STAT.STATE q) = 1) (2) (seqSt 0 { first := 0, count := 2 } [⟨1, 0x40, 0, 100, 255, 0⟩, ⟨1, 0x40, 0, 100, 255, 0⟩] true [(REG.STAT.STATE 0, 1)]) := by
  decide +kernel

theorem witness_SequenceStartAbortAndTimeout_3d :
    (fun (q : Fin 16) (s : State) =>
    targetDown s 0x7F = false ∧ fget s (SEQ.STAT.STATE q) = 1) (2) (seqSt 0 { first := 0, count := 2 } [⟨1, 3, 0, 100, 255, 0⟩, ⟨1, 3, 0, 100, 255, 0⟩] true [(CHN.STAT.STATE 3, 3)]) := by
  decide +kernel

theorem witness_SequenceStartAbortAndTimeout_4a :
    (fun (q : Fin 16) (s : State) =>
    (stepBegun s q 1 ∨ stepBegun s q 3 ∨ stepBegun s q 6 ∨ stepBegun s q 8) ∧ Calm s 0x25E ∧ Reports s 0x25E ∧ Calm s 0x25F ∧
    Reports s 0x25F ∧ (seqHead s q).failSeq ≠ q) (2) (seqSt 0 { first := 0, count := 2 } [⟨3, 0x40, 0, 100, 255, 0⟩, ⟨3, 0x40, 0, 100, 255, 0⟩] true []) := by
  decide +kernel

theorem witness_SequenceStartAbortAndTimeout_4b :
    (fun (q : Fin 16) (s : State) =>
    (stepBegun s q 1 ∨ stepBegun s q 3 ∨ stepBegun s q 6 ∨ stepBegun s q 8) ∧ Calm s 0x25E ∧ Reports s 0x25E ∧ Calm s 0x25F ∧
    Reports s 0x25F ∧ (seqHead s q).failSeq ≠ q) (2) (seqSt 1 { first := 0, count := 2 } [⟨6, 0x40, 0, 100, 5, 1⟩, ⟨6, 0x40, 0, 100, 5, 1⟩] true [(MON.STAT.MODE 5, 2)]) := by
  decide +kernel

theorem witness_SequenceStartAbortAndTimeout_4c :
    (fun (q : Fin 16) (s : State) =>
    (stepBegun s q 1 ∨ stepBegun s q 3 ∨ stepBegun s q 6 ∨ stepBegun s q 8) ∧ Calm s 0x25E ∧ Reports s 0x25E ∧ Calm s 0x25F ∧
    Reports s 0x25F ∧ (seqHead s q).failSeq ≠ q) (2) (seqSt 0 { first := 0, count := 2, flags := 2, failSeq := 0 } [⟨1, 0x40, 0, 100, 255, 0⟩, ⟨1, 0x40, 0, 100, 255, 0⟩] true []) := by
  decide +kernel

theorem witness_MonitorsAndTheSharedFaultLine_1a :
    (fun (_ : Fin 48) (_ : Bool) (s : State) =>
    targetDown s 0x7F = false) (4) (true) (seqSt 0 {} [] false []) := by
  decide +kernel

theorem witness_MonitorsAndTheSharedFaultLine_1b :
    (fun (_ : Fin 48) (_ : Bool) (s : State) =>
    targetDown s 0x7F = false) (4) (true) (seqSt 0 {} [] false [(MON.STAT.MODE 4, 2)]) := by
  decide +kernel

theorem witness_MonitorsAndTheSharedFaultLine_2a :
    (fun (m : Fin 48) (s : State) =>
    (fget s (MON.STAT.MODE m) = 1 ∨ fget s (MON.STAT.MODE m) = 2) ∧ fon s (MON.EVT.OV m) = false ∧ Calm s (0x180 + m) ∧ Reports s (0x180 + m) ∧
    fget s (MON.CFG.SEQ_EN m) = 0) (4) (seqSt 0 {} [] false [(MON.STAT.MODE 4, 2), (MON.CFG.FLT_OUT 4, 1), (SEQ.FLT_STAT.DRIVE, 0), (SEQ.FLT_STAT.LINE, 1)]) := by
  decide +kernel

theorem witness_MonitorsAndTheSharedFaultLine_3a :
    (fun (m : Fin 48) (s : State) =>
    fget s (MON.STAT.MODE m) = 1 ∧ fon s (MON.EVT.UV m) = false ∧ Calm s (0x1B0 + m) ∧ Reports s (0x1B0 + m) ∧
    fget s (MON.CFG.SEQ_EN m) = 0) (4) (seqSt 0 {} [] false [(MON.STAT.MODE 4, 1), (MON.CFG.FLT_OUT 4, 1), (SEQ.FLT_STAT.DRIVE, 0), (SEQ.FLT_STAT.LINE, 1)]) := by
  decide +kernel

theorem witness_MonitorsAndTheSharedFaultLine_4a :
    (fun (m : Fin 48) (_ : Bool) (s : State) =>
    fget s (MON.STAT.MODE m) = 1 ∧ fon s (MON.EVT.OV m) = false ∧ fon s (MON.EVT.UV m) = false ∧ Calm s (0x180 + m) ∧
    Calm s (0x1B0 + m) ∧ fget s (MON.CFG.SEQ_EN m) = 1 ∧ 2 ≤ stage s ∧ s.start.running = true ∧ safe s = false ∧
    (seqHead s (fget s (MON.CFG.SEQ m))).count ≠ 0 ∧ fget s (SEQ.STAT.STATE (fget s (MON.CFG.SEQ m))) ≠ 1) (9) (true) (seqSt 0 { count := 1 } [] false [(MON.STAT.MODE 9, 1), (MON.CFG.SEQ_EN 9, 1), (MON.CFG.SEQ 9, 2), (SEQ.STAT.STATE 2, 2)]) := by
  decide +kernel

theorem witness_MonitorsAndTheSharedFaultLine_5a :
    (fun (m : Fin 48) (_ : Bool) (s : State) =>
    fget s (MON.STAT.MODE m) = 0) (9) (false) (seqSt 0 {} [] false []) := by
  decide +kernel

theorem witness_MonitorsAndTheSharedFaultLine_7a :
    (fun (s : State) =>
    s.start.running = true ∧ s.start.applied = true ∧ fon s SEQ.FLT_STAT.DRIVE = false ∧ fon s SEQ.FLT_STAT.EXT = false ∧
    Calm s 0x260 ∧ Reports s 0x260 ∧ safe s = false ∧ ∀ q < 16, (seqHead s q).flags % 2 = 0) (seqSt 0 { count := 1, trig := 2 } [] false [(SEQ.STAT.STATE 2, 2), (SEQ.FLT_STAT.DRIVE, 0), (SEQ.FLT_STAT.LINE, 1)]) := by
  decide +kernel

theorem witness_MonitorsAndTheSharedFaultLine_8a :
    (fun (s : State) =>
    fon s SEQ.FLT_STAT.EXT = true ∧ fon s SEQ.FLT_STAT.DRIVE = false) (seqSt 0 {} [] false [(SEQ.FLT_STAT.DRIVE, 0), (SEQ.FLT_STAT.EXT, 1)]) := by
  decide +kernel

theorem witness_MonitorsAndTheSharedFaultLine_9a :
    (fun (s : State) =>
    fon s SEQ.FLT_STAT.DRIVE = true) (seqSt 0 {} [] false []) := by
  decide +kernel

theorem witness_EnumerationGivesAddresses_1a :
    (fun (p : Fin 2) (_ : BitVec 8) (single : Bool) (next : Nat) (s : State) =>
    chainRuns s ∧ isHead s = false ∧ single = false ∧ p = 0 ∧ 1 ≤ next ∧ next ≤ 31) (0) (7) (false) (3) (lnkSt false 1 []) := by
  decide +kernel

theorem witness_EnumerationGivesAddresses_1b :
    (fun (p : Fin 2) (_ : BitVec 8) (single : Bool) (next : Nat) (s : State) =>
    chainRuns s ∧ isHead s = false ∧ single = false ∧ p = 0 ∧ 1 ≤ next ∧ next ≤ 31) (0) (7) (false) (2) (lnkSt false 1 [(LNK.PORT.STAT.STATE 1, 0)]) := by
  decide +kernel

theorem witness_EnumerationGivesAddresses_2a :
    (fun (p : Fin 2) (_ : BitVec 8) (single : Bool) (next : Nat) (s : State) =>
    chainRuns s ∧ isHead s = false ∧ single = false ∧ p = 0 ∧ next = 32 ∧ Reports s 0x262) (0) (7) (false) (32) (lnkSt false 1 []) := by
  decide +kernel

theorem witness_EnumerationGivesAddresses_3a :
    (fun (p : Fin 2) (_ : BitVec 8) (single : Bool) (next : Nat) (s : State) =>
    chainRuns s ∧ isHead s = false ∧ single = false ∧ p = 1 ∧ 1 ≤ next ∧ next ≤ 32) (1) (7) (false) (3) (lnkSt false 1 []) := by
  decide +kernel

theorem witness_EnumerationGivesAddresses_4a :
    (fun (_ : Fin 2) (_ : BitVec 8) (single : Bool) (next : Nat) (s : State) =>
    chainRuns s ∧ isHead s = false ∧ single = true ∧ addressed s = false ∧ 1 ≤ next ∧ next ≤ 31) (1) (7) (true) (3) (lnkSt false 0 [(LNK.STAT.ADDR_VALID, 0), (LNK.STAT.ADDR, 0), (LNK.STAT.ATTACHED, 0)]) := by
  decide +kernel

theorem witness_EnumerationGivesAddresses_5a :
    (fun (_ : Fin 2) (_ : BitVec 8) (single : Bool) (next : Nat) (s : State) =>
    chainRuns s ∧ isHead s = false ∧ single = true ∧ addressed s = true ∧ 1 ≤ next ∧ next ≤ 32 ∧ next ≠ myAddr s ∧ Reports s 0x263) (1) (7) (true) (3) (lnkSt false 1 []) := by
  decide +kernel

theorem witness_EnumerationGivesAddresses_6a :
    (fun (gen : BitVec 8) (n : Nat) (s : State) =>
    chainRuns s ∧ chainWhole s ∧ isHead s = true ∧ addressed s = true ∧ s.lnk.enumRuns = true ∧ s.lnk.gen = gen.toNat ∧
    s.lnk.enumHeld = none ∧ 1 ≤ n ∧ n ≤ 32) (1) (5) (enumSt []) := by
  decide +kernel

theorem witness_EnumerationGivesAddresses_7a :
    (fun (_ : Fin 2) (gen : BitVec 8) (single : Bool) (next : Nat) (s : State) =>
    chainRuns s ∧ isHead s = true ∧ 1 ≤ next ∧ next ≤ 32 ∧ (single = true ∨ s.lnk.enumRuns = false ∨ s.lnk.gen ≠ gen.toNat) ∧
    Reports s 0x264) (0) (7) (false) (3) (enumSt []) := by
  decide +kernel

theorem witness_EnumerationGivesAddresses_7b :
    (fun (_ : Fin 2) (gen : BitVec 8) (single : Bool) (next : Nat) (s : State) =>
    chainRuns s ∧ isHead s = true ∧ 1 ≤ next ∧ next ≤ 32 ∧ (single = true ∨ s.lnk.enumRuns = false ∨ s.lnk.gen ≠ gen.toNat) ∧
    Reports s 0x264) (1) (1) (true) (3) (enumSt []) := by
  decide +kernel

theorem witness_EnumerationGivesAddresses_8a :
    (fun (_ : BitVec 8) (_ : Bool) (n : Nat) (s : State) =>
    chainRuns s ∧ chainWhole s ∧ isHead s = false ∧ n < 64) (9) (true) (5) (lnkSt false 1 []) := by
  decide +kernel

theorem witness_EnumerationGivesAddresses_9a :
    (fun (n : Nat) (gen : Nat) (s : State) =>
    chainRuns s ∧ chainWhole s ∧ s.lnk.enumHeld = some (n, gen) ∧ addressed s = true) (1) (1) (withLnk (enumSt [(LNK.PORT.STAT.STATE 1, 0)]) fun x => { x with enumHeld := some (1, 1) }) := by
  decide +kernel

theorem witness_EnumerationGivesAddresses_9b :
    (fun (n : Nat) (gen : Nat) (s : State) =>
    chainRuns s ∧ chainWhole s ∧ s.lnk.enumHeld = some (n, gen) ∧ addressed s = true) (3) (1) (withLnk (lnkSt false 1 [(LNK.PORT.STAT.STATE 1, 0)]) fun x => { x with enumHeld := some (3, 1) }) := by
  decide +kernel

theorem witness_EnumerationGivesAddresses_10a :
    (fun (rq : Fin 24) (s : State) =>
    chainRuns s ∧ reachable s rq 0x7000C) (9) (lnkSt true 1 []) := by
  decide +kernel

theorem witness_EnumerationGivesAddresses_10b :
    (fun (rq : Fin 24) (s : State) =>
    chainRuns s ∧ reachable s rq 0x7000C) (9) (lnkSt false 1 []) := by
  decide +kernel

theorem witness_EnumerationGivesAddresses_11a :
    (fun (p : Fin 2) (s : State) =>
    chainRuns s ∧ portUp s p = true) (1) (lnkSt false 1 []) := by
  decide +kernel

theorem witness_EnumerationGivesAddresses_12a :
    (fun (p : Fin 2) (_ : BitVec 8) (_ : Bool) (_ : Fin 32) (s : State) =>
    chainRuns s ∧ portUp s p = true) (1) (1) (true) (3) (lnkSt false 1 []) := by
  decide +kernel

theorem witness_EnumerationGivesAddresses_12b :
    (fun (p : Fin 2) (_ : BitVec 8) (_ : Bool) (_ : Fin 32) (s : State) =>
    chainRuns s ∧ portUp s p = true) (1) (1) (false) (0) (lnkSt false 1 []) := by
  decide +kernel

theorem witness_EnumerationGivesAddresses_13a :
    (fun (_ : Fin 32) (s : State) =>
    chainRuns s ∧ chainWhole s ∧ isHead s = true ∧ addressed s = true ∧ 1 ≤ fget s LNK.STAT.TOPO) (3) (enumSt []) := by
  decide +kernel

theorem witness_EnumerationGivesAddresses_13b :
    (fun (_ : Fin 32) (s : State) =>
    chainRuns s ∧ chainWhole s ∧ isHead s = true ∧ addressed s = true ∧ 1 ≤ fget s LNK.STAT.TOPO) (3) (lnkSt true 1 []) := by
  decide +kernel

theorem witness_EnumerationGivesAddresses_13c :
    (fun (_ : Fin 32) (s : State) =>
    chainRuns s ∧ chainWhole s ∧ isHead s = true ∧ addressed s = true ∧ 1 ≤ fget s LNK.STAT.TOPO) (7) (lnkSt true 1 []) := by
  decide +kernel

theorem witness_PortsRoutesAndForwarding_1a :
    (fun (p : Fin 2) (s : State) =>
    fget s (LNK.PORT.STAT.STATE p) < 2 ∧ fget s LNK.STAT.RATE ≠ 0 ∧ stage s ≠ 4 ∧ stage s ≠ 3 ∧ ChainCalm s ∧ roomy s) (0) (lnkSt true 1 [(LNK.PORT.STAT.STATE 0, 0)]) := by
  decide +kernel

theorem witness_PortsRoutesAndForwarding_1b :
    (fun (p : Fin 2) (s : State) =>
    fget s (LNK.PORT.STAT.STATE p) < 2 ∧ fget s LNK.STAT.RATE ≠ 0 ∧ stage s ≠ 4 ∧ stage s ≠ 3 ∧ ChainCalm s ∧ roomy s) (1) (withLnk (lnkSt false 1 [(LNK.PORT.STAT.STATE 1, 1)]) fun x => { x with enumHeld := some (3, 7) }) := by
  decide +kernel

theorem witness_PortsRoutesAndForwarding_2a :
    (fun (p : Fin 2) (s : State) =>
    portUp s p = true ∧ ChainCalm s ∧ stage s ≠ 3 ∧ roomy s ∧ Reports s 0x265) (1) (lnkSt false 2 []) := by
  decide +kernel

theorem witness_PortsRoutesAndForwarding_2b :
    (fun (p : Fin 2) (s : State) =>
    portUp s p = true ∧ ChainCalm s ∧ stage s ≠ 3 ∧ roomy s ∧ Reports s 0x265) (0) (lnkSt false 1 []) := by
  decide +kernel

theorem witness_PortsRoutesAndForwarding_3a :
    (fun (p : Fin 2) (s : State) =>
    fget s (LNK.PORT.STAT.STATE p) = 3) (1) (lnkSt false 1 [(LNK.PORT.STAT.STATE 1, 3)]) := by
  decide +kernel

theorem witness_PortsRoutesAndForwarding_4a :
    (fun (_ : Fin 32) (s : State) =>
    halted s 2 = false ∧ ChainCalm s ∧ stage s ≠ 3 ∧ addressed s = true ∧ s.lnk.broken = []) (3) (lnkSt false 2 []) := by
  decide +kernel

theorem witness_PortsRoutesAndForwarding_4b :
    (fun (_ : Fin 32) (s : State) =>
    halted s 2 = false ∧ ChainCalm s ∧ stage s ≠ 3 ∧ addressed s = true ∧ s.lnk.broken = []) (1) (lnkSt false 1 []) := by
  decide +kernel

theorem witness_PortsRoutesAndForwarding_4c :
    (fun (_ : Fin 32) (s : State) =>
    halted s 2 = false ∧ ChainCalm s ∧ stage s ≠ 3 ∧ addressed s = true ∧ s.lnk.broken = []) (3) (lnkSt false 1 []) := by
  decide +kernel

theorem witness_PortsRoutesAndForwarding_5a :
    (fun (a : Fin 32) (s : State) =>
    halted s 2 = false ∧ addressed s = true ∧ s.lnk.broken.contains a.val = true) (3) (withLnk (lnkSt false 3 []) fun x => { x with broken := [3] }) := by
  decide +kernel

theorem witness_PortsRoutesAndForwarding_6a :
    (fun (h : Fin 32) (s : State) =>
    halted s 2 = false ∧ ChainCalm s ∧ stage s ≠ 3 ∧ s.lnk.holding.contains h.val = true) (3) (withLnk (lnkSt false 3 []) fun x => { x with broken := [3], holding := [3] }) := by
  decide +kernel

theorem witness_PortsRoutesAndForwarding_7a :
    (fun (p : Fin 2) (f : Frame) (bad : Bool) (s : State) =>
    portUp s p = true ∧ (bad = true ∨ frameValid f = false) ∧ Calm s 0x268) (1) (⟨4, false, 2, false, 1, 30, 9, false, false, [2]⟩) (true) (lnkSt false 1 []) := by
  decide +kernel

theorem witness_PortsRoutesAndForwarding_7b :
    (fun (p : Fin 2) (f : Frame) (bad : Bool) (s : State) =>
    portUp s p = true ∧ (bad = true ∨ frameValid f = false) ∧ Calm s 0x268) (1) (⟨1, false, 2, false, 1, 30, 9, false, false, [0]⟩) (false) (lnkSt false 1 []) := by
  decide +kernel

theorem witness_PortsRoutesAndForwarding_8a :
    (fun (p : Fin 2) (f : Frame) (s : State) =>
    addressed s = true ∧ portUp s p = true ∧ frameValid f = true ∧ f.noaddr = false ∧ f.src = myAddr s) (1) (⟨4, true, 2, false, 2, 30, 9, false, false, [2]⟩) (lnkSt false 1 []) := by
  decide +kernel

theorem witness_PortsRoutesAndForwarding_9a :
    (fun (p : Fin 2) (f : Frame) (s : State) =>
    portUp s p = true ∧ frameValid f = true ∧ addressed s = true ∧ heldOff s p f = false ∧ frameCopy s f = false ∧ (f.noaddr = true ∨ f.src ≠ myAddr s) ∧
    (f.hop = true ∨ (f.bc = false ∧ f.dst = myAddr s))) (1) (⟨0x50, false, 2, false, 1, 30, 9, false, false, [0, 0]⟩) (lnkSt false 2 []) := by
  decide +kernel

theorem witness_PortsRoutesAndForwarding_9b :
    (fun (p : Fin 2) (f : Frame) (s : State) =>
    portUp s p = true ∧ frameValid f = true ∧ addressed s = true ∧ heldOff s p f = false ∧ frameCopy s f = false ∧ (f.noaddr = true ∨ f.src ≠ myAddr s) ∧
    (f.hop = true ∨ (f.bc = false ∧ f.dst = myAddr s))) (1) (⟨4, false, 7, false, 1, 30, 9, true, false, [0]⟩) (lnkSt false 2 []) := by
  decide +kernel

theorem witness_PortsRoutesAndForwarding_10a :
    (fun (p : Fin 2) (f : Frame) (s : State) =>
    portUp s p = true ∧ frameValid f = true ∧ addressed s = true ∧ heldOff s p f = false ∧ frameCopy s f = false ∧ (f.noaddr = true ∨ f.src ≠ myAddr s) ∧ f.hop = false ∧
    (f.bc = true ∨ f.dst ≠ myAddr s) ∧ f.typ ≠ 0x20 ∧ 2 ≤ f.ttl ∧ portUp s (forwardPort s p f) = true ∧
    heldOff s (forwardPort s p f) f = false ∧ (classQ (portQ s (forwardPort s p f)) (frameClass f.typ)).length < 8) (1) (⟨0x50, true, 2, false, 1, 30, 9, false, false, [0, 0]⟩) (lnkSt false 2 []) := by
  decide +kernel

theorem witness_PortsRoutesAndForwarding_10b :
    (fun (p : Fin 2) (f : Frame) (s : State) =>
    portUp s p = true ∧ frameValid f = true ∧ addressed s = true ∧ heldOff s p f = false ∧ frameCopy s f = false ∧ (f.noaddr = true ∨ f.src ≠ myAddr s) ∧ f.hop = false ∧
    (f.bc = true ∨ f.dst ≠ myAddr s) ∧ f.typ ≠ 0x20 ∧ 2 ≤ f.ttl ∧ portUp s (forwardPort s p f) = true ∧
    heldOff s (forwardPort s p f) f = false ∧ (classQ (portQ s (forwardPort s p f)) (frameClass f.typ)).length < 8) (1) (⟨0x60, false, 0, false, 4, 30, 9, false, false, List.replicate 16 0⟩) (lnkSt false 2 []) := by
  decide +kernel

theorem witness_PortsRoutesAndForwarding_11a :
    (fun (p : Fin 2) (f : Frame) (s : State) =>
    portUp s p = true ∧ frameValid f = true ∧ addressed s = true ∧ heldOff s p f = false ∧ frameCopy s f = false ∧ (f.noaddr = true ∨ f.src ≠ myAddr s) ∧ f.hop = false ∧
    (f.bc = true ∨ f.dst ≠ myAddr s) ∧ f.ttl ≤ 1) (1) (⟨0x50, true, 2, false, 1, 1, 9, false, false, [0, 0]⟩) (lnkSt false 2 []) := by
  decide +kernel

theorem witness_PortsRoutesAndForwarding_12a :
    (fun (p : Fin 2) (f : Frame) (s : State) =>
    portUp s p = true ∧ f.typ ≠ 0x20 ∧ f.typ ≠ 0x21 ∧ ((portQ s p).q0 ++ (portQ s p).q1 ++ (portQ s p).q2).head? = some f) (1) (⟨0x30, false, 2, false, 1, 30, 9, false, false, [0, 0, 0, 0]⟩) (setPortQ (lnkSt false 1 []) 1 { q1 := [⟨0x30, false, 2, false, 1, 30, 9, false, false, [0, 0, 0, 0]⟩], q2 := [⟨0x10, false, 2, false, 1, 30, 9, false, false, [0, 0]⟩] }) := by
  decide +kernel

theorem witness_RegisterAccessThroughTheChain_1a :
    (fun (src : Fin 32) (_ : BitVec 16) (a : Nat) (s : State) =>
    halted s 2 = false ∧ a % 4 = 0 ∧ (specAt a).isSome = true ∧ storesOnly a = true ∧ reachable s 10 a ∧ a / 2 ^ 16 ≠ 7 ∧
    portUp s (routePort s src) = true ∧ myAddr s ≠ src ∧ addressed s = true ∧ isRing s = true ∧
    (portQ s (routePort s src)).q2.length < 32) (0) (0x1234) (0x20014) (lnkSt false 2 []) := by
  decide +kernel

theorem witness_RegisterAccessThroughTheChain_2a :
    (fun (src : Fin 32) (_ : BitVec 16) (n : Fin 32) (a : Nat) (s : State) =>
    halted s 2 = false ∧ a % 4 = 0 ∧ 1 ≤ n.val ∧ n.val ≤ 15 ∧ ChainCalm s ∧ stage s ≠ 3 ∧
    portUp s (routePort s src) = true ∧ myAddr s ≠ src ∧ addressed s = true ∧ isRing s = true ∧
    (portQ s (routePort s src)).q2.length < 32) (0) (0x1234) (5) (0x20014) (lnkSt false 2 []) := by
  decide +kernel

theorem witness_RegisterAccessThroughTheChain_2b :
    (fun (src : Fin 32) (_ : BitVec 16) (n : Fin 32) (a : Nat) (s : State) =>
    halted s 2 = false ∧ a % 4 = 0 ∧ 1 ≤ n.val ∧ n.val ≤ 15 ∧ ChainCalm s ∧ stage s ≠ 3 ∧
    portUp s (routePort s src) = true ∧ myAddr s ≠ src ∧ addressed s = true ∧ isRing s = true ∧
    (portQ s (routePort s src)).q2.length < 32) (0) (0x1234) (5) (0x203F0) (lnkSt false 2 []) := by
  decide +kernel

theorem witness_RegisterAccessThroughTheChain_3a :
    (fun (src : Fin 32) (_ : BitVec 16) (n : Fin 32) (a : Nat) (_ : List Word) (s : State) =>
    halted s 2 = false ∧ (n = 0 ∨ 15 < n.val ∨ a % 4 ≠ 0) ∧
    portUp s (routePort s src) = true ∧ myAddr s ≠ src ∧ addressed s = true ∧ isRing s = true ∧
    (portQ s (routePort s src)).q2.length < 32) (0) (0x1234) (17) (0x20014) ([1]) (lnkSt false 2 []) := by
  decide +kernel

theorem witness_RegisterAccessThroughTheChain_3b :
    (fun (src : Fin 32) (_ : BitVec 16) (n : Fin 32) (a : Nat) (_ : List Word) (s : State) =>
    halted s 2 = false ∧ (n = 0 ∨ 15 < n.val ∨ a % 4 ≠ 0) ∧
    portUp s (routePort s src) = true ∧ myAddr s ≠ src ∧ addressed s = true ∧ isRing s = true ∧
    (portQ s (routePort s src)).q2.length < 32) (0) (0x1234) (1) (0x20015) ([1]) (lnkSt false 2 []) := by
  decide +kernel

theorem witness_RegisterAccessThroughTheChain_4a :
    (fun (src : Fin 32) (_ : BitVec 16) (i : Fin 15) (_ : Word) (s : State) =>
    halted s 2 = false ∧ s.lnk.racc = none ∧ fon s LNK.RACC_STAT.BUSY = false ∧ reachable s 10 (0x70140 + 4 * i) ∧
    portUp s (routePort s src) = true ∧ myAddr s ≠ src ∧ addressed s = true ∧ isRing s = true ∧
    (portQ s (routePort s src)).q2.length < 32) (0) (0x1234) (3) (0xDEADBEEF) (lnkSt false 2 []) := by
  decide +kernel

theorem witness_RegisterAccessThroughTheChain_5a :
    (fun (_ : Fin 32) (_ : BitVec 16) (a : Nat) (w : Word) (s : State) =>
    halted s 2 = false ∧ a % 4 = 0 ∧ wordResets (coachWrite s 10 a w.toNat) a w.toNat = false) (0) (0x1234) (0x20014) (7) (lnkSt false 2 []) := by
  decide +kernel

theorem witness_RegisterAccessThroughTheChain_6a :
    (fun (r : Racc) (_ : BitVec 8) (_ : Fin 16) (_ : List Word) (s : State) =>
    halted s 2 = false ∧ s.lnk.racc = some r ∧ r.tag < 2 ^ 16) (⟨5, false, 3⟩) (0) (3) ([1, 2, 0xFFFFFFFF]) (withLnk (lnkSt false 2 [(LNK.RACC_STAT.BUSY, 1)]) fun x => { x with racc := some ⟨5, false, 3⟩ }) := by
  decide +kernel

theorem witness_RegisterAccessThroughTheChain_7a :
    (fun (rq : Fin 24) (n : Fin 16) (wr : Bool) (s : State) =>
    reachable s rq 0x70100 ∧ s.lnk.racc = none ∧ n ≠ 0 ∧ (wr = true → n.val ≤ 14) ∧
    portUp s (routePort s (fget s LNK.RACC_ADDR.UNIT)) = true ∧ myAddr s ≠ (fget s LNK.RACC_ADDR.UNIT) ∧ addressed s = true ∧ isRing s = true ∧
    (portQ s (routePort s (fget s LNK.RACC_ADDR.UNIT))).q2.length < 32) (9) (4) (false) (lnkSt false 2 [(LNK.RACC_ADDR.UNIT, 3), (LNK.RACC_ADDR.ADDR, 0x20014)]) := by
  decide +kernel

theorem witness_RegisterAccessThroughTheChain_7b :
    (fun (rq : Fin 24) (n : Fin 16) (wr : Bool) (s : State) =>
    reachable s rq 0x70100 ∧ s.lnk.racc = none ∧ n ≠ 0 ∧ (wr = true → n.val ≤ 14) ∧
    portUp s (routePort s (fget s LNK.RACC_ADDR.UNIT)) = true ∧ myAddr s ≠ (fget s LNK.RACC_ADDR.UNIT) ∧ addressed s = true ∧ isRing s = true ∧
    (portQ s (routePort s (fget s LNK.RACC_ADDR.UNIT))).q2.length < 32) (9) (4) (true) (lnkSt false 2 [(LNK.RACC_ADDR.UNIT, 3), (LNK.RACC_ADDR.ADDR, 0x20014)]) := by
  decide +kernel

theorem witness_RegisterAccessThroughTheChain_8a :
    (fun (rq : Fin 24) (n : Fin 16) (wr : Bool) (s : State) =>
    reachable s rq 0x70100 ∧ (s.lnk.racc.isSome = true ∨ addressed s = false ∨ n = 0 ∨ (wr = true ∧ n = 15) ∨
    fget s LNK.RACC_ADDR.UNIT = myAddr s)) (9) (15) (true) (lnkSt false 2 [(LNK.RACC_ADDR.UNIT, 3)]) := by
  decide +kernel

theorem witness_RegisterAccessThroughTheChain_8b :
    (fun (rq : Fin 24) (n : Fin 16) (wr : Bool) (s : State) =>
    reachable s rq 0x70100 ∧ (s.lnk.racc.isSome = true ∨ addressed s = false ∨ n = 0 ∨ (wr = true ∧ n = 15) ∨
    fget s LNK.RACC_ADDR.UNIT = myAddr s)) (9) (0) (false) (lnkSt false 2 [(LNK.RACC_ADDR.UNIT, 3)]) := by
  decide +kernel

theorem witness_RegisterAccessThroughTheChain_9a :
    (fun (rq : Fin 24) (_ : Fin 32) (_ : BitVec 16) (s : State) =>
    reachable s rq 0x7000C ∧ chainRuns s ∧ addressed s = true ∧ isRing s = true) (9) (3) (0xA5C3) (lnkSt false 2 []) := by
  decide +kernel

theorem witness_RegisterAccessThroughTheChain_9b :
    (fun (rq : Fin 24) (_ : Fin 32) (_ : BitVec 16) (s : State) =>
    reachable s rq 0x7000C ∧ chainRuns s ∧ addressed s = true ∧ isRing s = true) (9) (3) (1) (lnkSt false 2 []) := by
  decide +kernel

theorem witness_ChainTimeFollowsTheHead_1a :
    (fun (s : State) =>
    halted s 2 = false ∧ stage s ≠ 3 ∧ stage s ≠ 4 ∧ fget s TIME.STAT.STATE = 4 ∧ addressed s = true ∧ roomy s ∧ s.lnk.broken = []) (lnkSt true 2 [(TIME.STAT.STATE, 4)]) := by
  decide +kernel

theorem witness_ChainTimeFollowsTheHead_2a :
    (fun (p : Fin 2) (seq : BitVec 16) (_ : BitVec 64) (corr : BitVec 32) (_ : BitVec 64) (s : State) =>
    syncValid s p seq.toNat corr.toNat ∧ fget s TIME.STAT.STATE = 0) (0) (3) (5000000) (64) (70) (timeSt 0 100 []) := by
  decide +kernel

theorem witness_ChainTimeFollowsTheHead_3a :
    (fun (p : Fin 2) (seq : BitVec 16) (tx : BitVec 64) (corr : BitVec 32) (rx : BitVec 64) (s : State) =>
    syncValid s p seq.toNat corr.toNat ∧ fget s TIME.STAT.STATE ≠ 0 ∧
    1600 * thr (fget s TIME.CFG.STEP_THR) < (syncOff s p tx.toNat corr.toNat rx.toNat).natAbs) (0) (9) (5000000) (64) (70) (timeSt 2 100 []) := by
  decide +kernel

theorem witness_ChainTimeFollowsTheHead_3b :
    (fun (p : Fin 2) (seq : BitVec 16) (tx : BitVec 64) (corr : BitVec 32) (rx : BitVec 64) (s : State) =>
    syncValid s p seq.toNat corr.toNat ∧ fget s TIME.STAT.STATE ≠ 0 ∧
    1600 * thr (fget s TIME.CFG.STEP_THR) < (syncOff s p tx.toNat corr.toNat rx.toNat).natAbs) (0) (9) (5000000) (64) (70) (timeSt 1 100 []) := by
  decide +kernel

theorem witness_ChainTimeFollowsTheHead_3c :
    (fun (p : Fin 2) (seq : BitVec 16) (tx : BitVec 64) (corr : BitVec 32) (rx : BitVec 64) (s : State) =>
    syncValid s p seq.toNat corr.toNat ∧ fget s TIME.STAT.STATE ≠ 0 ∧
    1600 * thr (fget s TIME.CFG.STEP_THR) < (syncOff s p tx.toNat corr.toNat rx.toNat).natAbs) (0) (3) (5000000) (64) (70) (timeSt 3 100 []) := by
  decide +kernel

theorem witness_ChainTimeFollowsTheHead_4a :
    (fun (p : Fin 2) (seq : BitVec 16) (tx : BitVec 64) (corr : BitVec 32) (rx : BitVec 64) (s : State) =>
    syncValid s p seq.toNat corr.toNat ∧ fget s TIME.STAT.STATE ≠ 0 ∧
    (syncOff s p tx.toNat corr.toNat rx.toNat).natAbs ≤ 1600 * thr (fget s TIME.CFG.STEP_THR)) (0) (9) (2000000) (64) (2000120) (timeSt 5 100 []) := by
  decide +kernel

theorem witness_ChainTimeFollowsTheHead_4b :
    (fun (p : Fin 2) (seq : BitVec 16) (tx : BitVec 64) (corr : BitVec 32) (rx : BitVec 64) (s : State) =>
    syncValid s p seq.toNat corr.toNat ∧ fget s TIME.STAT.STATE ≠ 0 ∧
    (syncOff s p tx.toNat corr.toNat rx.toNat).natAbs ≤ 1600 * thr (fget s TIME.CFG.STEP_THR)) (0) (9) (2000000) (64) (2000220) (timeSt 2 100 []) := by
  decide +kernel

theorem witness_ChainTimeFollowsTheHead_4c :
    (fun (p : Fin 2) (seq : BitVec 16) (tx : BitVec 64) (corr : BitVec 32) (rx : BitVec 64) (s : State) =>
    syncValid s p seq.toNat corr.toNat ∧ fget s TIME.STAT.STATE ≠ 0 ∧
    (syncOff s p tx.toNat corr.toNat rx.toNat).natAbs ≤ 1600 * thr (fget s TIME.CFG.STEP_THR)) (0) (9) (2000000) (64) (2000120) (timeSt 1 100 []) := by
  decide +kernel

theorem witness_ChainTimeFollowsTheHead_4d :
    (fun (p : Fin 2) (seq : BitVec 16) (tx : BitVec 64) (corr : BitVec 32) (rx : BitVec 64) (s : State) =>
    syncValid s p seq.toNat corr.toNat ∧ fget s TIME.STAT.STATE ≠ 0 ∧
    (syncOff s p tx.toNat corr.toNat rx.toNat).natAbs ≤ 1600 * thr (fget s TIME.CFG.STEP_THR)) (0) (3) (2000000) (64) (2000100) (timeSt 3 100 []) := by
  decide +kernel

theorem witness_ChainTimeFollowsTheHead_5a :
    (fun (p : Fin 2) (seq : BitVec 16) (_ : BitVec 64) (corr : BitVec 32) (_ : BitVec 64) (s : State) =>
    fget s TIME.STAT.STATE = 4 ∨ corr.toNat = 0xFFFFFFFF ∨ fon s (TIME.HOP.VALID p) = false ∨
    ((fget s TIME.STAT.STATE = 1 ∨ fget s TIME.STAT.STATE = 2 ∨ fget s TIME.STAT.STATE = 5) ∧ seq.toNat = fget s TIME.STAT.SYNC_SEQ)) (0) (7) (2000000) (64) (2000120) (timeSt 5 100 []) := by
  decide +kernel

theorem witness_ChainTimeFollowsTheHead_5b :
    (fun (p : Fin 2) (seq : BitVec 16) (_ : BitVec 64) (corr : BitVec 32) (_ : BitVec 64) (s : State) =>
    fget s TIME.STAT.STATE = 4 ∨ corr.toNat = 0xFFFFFFFF ∨ fon s (TIME.HOP.VALID p) = false ∨
    ((fget s TIME.STAT.STATE = 1 ∨ fget s TIME.STAT.STATE = 2 ∨ fget s TIME.STAT.STATE = 5) ∧ seq.toNat = fget s TIME.STAT.SYNC_SEQ)) (1) (9) (2000000) (64) (2000120) (timeSt 5 100 []) := by
  decide +kernel

theorem witness_ChainTimeFollowsTheHead_6a :
    (fun (s : State) =>
    (fget s TIME.STAT.STATE = 2 ∨ fget s TIME.STAT.STATE = 5) ∧ Calm s 0x26A ∧ Reports s 0x26A ∧ -200000 ≤ s.time.freq ∧ s.time.freq ≤ 200000) (timeSt 2 100 []) := by
  decide +kernel

theorem witness_ChainTimeFollowsTheHead_7a :
    (fun (p : Fin 2) (s : State) =>
    halted s 2 = false ∧ addressed s = true ∧ portUp s p = true ∧ roomy s) (1) (timeSt 2 100 []) := by
  decide +kernel

theorem witness_ChainTimeFollowsTheHead_8a :
    (fun (p : Fin 2) (_ : BitVec 16) (_ : BitVec 64) (_ : BitVec 64) (_ : BitVec 64) (s : State) =>
    halted s 2 = false ∧ addressed s = true ∧ portUp s p = true ∧ roomy s) (1) (3) (1) (0x123456789ABC) (0x123456789ADD) (timeSt 2 100 []) := by
  decide +kernel

theorem witness_ChainTimeFollowsTheHead_9a :
    (fun (p : Fin 2) (q : BitVec 16) (t1 : BitVec 64) (t2 : BitVec 64) (t3 : BitVec 64) (t4 : BitVec 64) (s : State) =>
    halted s 2 = false ∧ (if p = 0 then s.time.reqUp else s.time.reqDn) = some (q.toNat, t1.toNat) ∧
    (hopMeas s p).length ≤ 8 ∧ (∀ d ∈ hopMeas s p, 0 ≤ d ∧ d < 2 ^ 31) ∧ 0 ≤ (t4 - t1).toInt - (t3 - t2).toInt ∧ (t4 - t1).toInt - (t3 - t2).toInt < 2 ^ 31) (0) (3) (100) (400) (500) (862) ({ timeSt 2 100 [] with time := { (timeSt 2 100 []).time with reqUp := some (3, 100), hopUp := [640, 644, 641, 640, 640, 640, 650] } }) := by
  decide +kernel

theorem witness_ChainTimeFollowsTheHead_9b :
    (fun (p : Fin 2) (q : BitVec 16) (t1 : BitVec 64) (t2 : BitVec 64) (t3 : BitVec 64) (t4 : BitVec 64) (s : State) =>
    halted s 2 = false ∧ (if p = 0 then s.time.reqUp else s.time.reqDn) = some (q.toNat, t1.toNat) ∧
    (hopMeas s p).length ≤ 8 ∧ (∀ d ∈ hopMeas s p, 0 ≤ d ∧ d < 2 ^ 31) ∧ 0 ≤ (t4 - t1).toInt - (t3 - t2).toInt ∧ (t4 - t1).toInt - (t3 - t2).toInt < 2 ^ 31) (1) (3) (100) (400) (500) (840) ({ timeSt 2 100 [] with time := { (timeSt 2 100 []).time with reqDn := some (3, 100) } }) := by
  decide +kernel

theorem witness_ChainTimeFollowsTheHead_10a :
    (fun (p : Fin 2) (q : BitVec 16) (_ : BitVec 64) (_ : BitVec 64) (_ : BitVec 64) (s : State) =>
    ((if p = 0 then s.time.reqUp else s.time.reqDn).map fun r => r.1) ≠ some q.toNat) (0) (4) (400) (500) (840) (timeSt 2 100 []) := by
  decide +kernel

theorem witness_ItineraryActivationToLoad_1a :
    (fun (i : Fin 8192) (w : Word) (s : State) =>
    fon s (ITIN.W3.EN i) = false ∧ w.toNat.testBit 31 = true ∧ s.start.running = true ∧ entValid (itinWord s i 1) (itinWord s i 2) w.toNat = true ∧
    entWin s i ≤ served s) (5) (0x80000000) (itinSt 0 0x1030001 0 [(ITIN.W3.EN 5, 0), (ITIN.W0.LAUNCH_LO 5, 7000000)] nineMs) := by
  decide +kernel

theorem witness_ItineraryActivationToLoad_1b :
    (fun (i : Fin 8192) (w : Word) (s : State) =>
    fon s (ITIN.W3.EN i) = false ∧ w.toNat.testBit 31 = true ∧ s.start.running = true ∧ entValid (itinWord s i 1) (itinWord s i 2) w.toNat = true ∧
    entWin s i ≤ served s) (5) (0xA0001005) (itinSt 5 0x20980000 0 [(ITIN.W3.EN 5, 0), (ITIN.W1.REL 5, 1), (ITIN.W0.LAUNCH_LO 5, 40), (ITIN.W1.CONVOY 5, 3)] nineMs) := by
  decide +kernel

theorem witness_ItineraryActivationToLoad_2a :
    (fun (i : Fin 8192) (w : Word) (s : State) =>
    fon s (ITIN.W3.EN i) = false ∧ (w.toNat.testBit 31 = false ∨ (s.start.running = false ∧ entValid (itinWord s i 1) (itinWord s i 2) w.toNat = true))) (5) (0x123) (itinSt 0 0x1030001 0 [(ITIN.W3.EN 5, 0)] nineMs) := by
  decide +kernel

theorem witness_ItineraryActivationToLoad_3a :
    (fun (i : Fin 8192) (w : Word) (s : State) =>
    w.toNat.testBit 31 = true ∧ (fon s (ITIN.W3.EN i) = true ∨ entValid (itinWord s i 1) (itinWord s i 2) w.toNat = false)) (5) (0x80000000) (itinSt 1 0x1030001 0 [] nineMs) := by
  decide +kernel

theorem witness_ItineraryActivationToLoad_3b :
    (fun (i : Fin 8192) (w : Word) (s : State) =>
    w.toNat.testBit 31 = true ∧ (fon s (ITIN.W3.EN i) = true ∨ entValid (itinWord s i 1) (itinWord s i 2) w.toNat = false)) (5) (0x80000007) (itinSt 0 0x1030001 0 [(ITIN.W3.EN 5, 0)] nineMs) := by
  decide +kernel

theorem witness_ItineraryActivationToLoad_3c :
    (fun (i : Fin 8192) (w : Word) (s : State) =>
    w.toNat.testBit 31 = true ∧ (fon s (ITIN.W3.EN i) = true ∨ entValid (itinWord s i 1) (itinWord s i 2) w.toNat = false)) (5) (0x80000000) (itinSt 0 0x1030005 0 [(ITIN.W3.EN 5, 0)] nineMs) := by
  decide +kernel

theorem witness_ItineraryActivationToLoad_4a :
    (fun (i : Fin 8192) (s : State) =>
    fon s (ITIN.W3.EN i) = true ∧ noReference s ∧ (entState s i = 4 → served s + 1000 ≤ (ent s i).placed)) (5) (itinSt 4 0x1030001 0 [] nineMs) := by
  decide +kernel

theorem witness_ItineraryActivationToLoad_4b :
    (fun (i : Fin 8192) (s : State) =>
    fon s (ITIN.W3.EN i) = true ∧ noReference s ∧ (entState s i = 4 → served s + 1000 ≤ (ent s i).placed)) (5) (itinSt 2 0x1030001 0 [] { nineMs with ask := some 900 }) := by
  decide +kernel

theorem witness_ItineraryActivationToLoad_4c :
    (fun (i : Fin 8192) (s : State) =>
    fon s (ITIN.W3.EN i) = true ∧ noReference s ∧ (entState s i = 4 → served s + 1000 ≤ (ent s i).placed)) (5) (itinSt 1 0x1030001 0 [] nineMs) := by
  decide +kernel

theorem witness_ItineraryActivationToLoad_5a :
    (fun (i : Fin 8192) (s : State) =>
    entWaits s i ∧ safe s = false ∧ actNoSlot (entAct s i) = false) (5) (itinSt 1 0x1030001 0 [] nineMs) := by
  decide +kernel

theorem witness_ItineraryActivationToLoad_5b :
    (fun (i : Fin 8192) (s : State) =>
    entWaits s i ∧ safe s = false ∧ actNoSlot (entAct s i) = false) (5) (itinSt 1 0x1030000 0 [] nineMs) := by
  decide +kernel

theorem witness_ItineraryActivationToLoad_5c :
    (fun (i : Fin 8192) (s : State) =>
    entWaits s i ∧ safe s = false ∧ actNoSlot (entAct s i) = false) (5) (itinSt 1 0x8400001 0 [] nineMs) := by
  decide +kernel

theorem witness_ItineraryActivationToLoad_5d :
    (fun (i : Fin 8192) (s : State) =>
    entWaits s i ∧ safe s = false ∧ actNoSlot (entAct s i) = false) (5) (itinSt 1 0x18900003 0 [] nineMs) := by
  decide +kernel

theorem witness_ItineraryActivationToLoad_6a :
    (fun (i : Fin 8192) (s : State) =>
    entWaits s i ∧ (safe s = true ∨ actNoSlot (entAct s i) = true)) (5) (itinSt 1 0x38000055 0 [] nineMs) := by
  decide +kernel

theorem witness_ItineraryActivationToLoad_6b :
    (fun (i : Fin 8192) (s : State) =>
    entWaits s i ∧ (safe s = true ∨ actNoSlot (entAct s i) = true)) (5) (itinSt 1 0x1030001 0 [(FLT.STAT.SAFE, 1)] nineMs) := by
  decide +kernel

theorem witness_ItineraryActivationToLoad_7a :
    (fun (i : Fin 8192) (s : State) =>
    halted s 1 = false ∧ (ent s i).waitSlot = true ∧ entChain s i = false ∧ safe s = false ∧ actNoSlot (entAct s i) = false ∧
    served s ≤ (ent s i).nominal ∧ targetDown s (entConsumer s i) = false ∧ slotFree s (entTgt s i) = true) (5) (itinSt 2 0x1030001 0 [] { nineMs with waitSlot := true }) := by
  decide +kernel

theorem witness_ItineraryActivationToLoad_8a :
    (fun (i : Fin 8192) (s : State) =>
    halted s 1 = false ∧ entState s i = 2 ∧ entChain s i = false ∧ (ent s i).k = 0 ∧ safe s = false ∧ noReference s ∧
    (ent s i).gone = false ∧ fon s (ITIN.W3.EN i) = true ∧ Calm s 0x26B ∧ Reports s 0x26B) (5) (itinSt 2 0x1030001 0 [] { nineMs with ask := some 900 }) := by
  decide +kernel

theorem witness_ItineraryActivationToLoad_8b :
    (fun (i : Fin 8192) (s : State) =>
    halted s 1 = false ∧ entState s i = 2 ∧ entChain s i = false ∧ (ent s i).k = 0 ∧ safe s = false ∧ noReference s ∧
    (ent s i).gone = false ∧ fon s (ITIN.W3.EN i) = true ∧ Calm s 0x26B ∧ Reports s 0x26B) (5) (itinSt 2 0x1030001 10242 [] nineMs) := by
  decide +kernel

theorem witness_ItineraryActivationToLoad_9a :
    (fun (i : Fin 8192) (s : State) =>
    halted s 1 = false ∧ entState s i = 2 ∧ entChain s i = true ∧ safe s = false ∧ noReference s ∧ (ent s i).gone = false ∧ Calm s 0x26D ∧
    Reports s 0x26D) (5) (itinSt 2 0x1030001 0 [(ITIN.W3.CHAIN 5, 1), (ITIN.W1.CONVOY 5, 3)] nineMs) := by
  decide +kernel

theorem witness_ItineraryLaunchesActOnTheirTarget_1a :
    (fun (i : Fin 8192) (s : State) =>
    entDue s i 0x1 ∧ entArg s i % 8 = 0 ∧ fon s (CHN.CFG.EN (entTgt s i)) = true ∧ 4 ≤ chState s (entTgt s i) ∧ chState s (entTgt s i) ≤ 7) (5) (itinSt 4 0x1030000 0 [(CHN.STAT.STATE 3, 5)] nineMs) := by
  decide +kernel

theorem witness_ItineraryLaunchesActOnTheirTarget_1b :
    (fun (i : Fin 8192) (s : State) =>
    entDue s i 0x1 ∧ entArg s i % 8 = 0 ∧ fon s (CHN.CFG.EN (entTgt s i)) = true ∧ 4 ≤ chState s (entTgt s i) ∧ chState s (entTgt s i) ≤ 7) (5) (itinSt 4 0x1030000 10249 [(CHN.STAT.STATE 3, 6), (CHN.CFG.OFF_SLOW 3, 1)] nineMs) := by
  decide +kernel

theorem witness_ItineraryLaunchesActOnTheirTarget_2a :
    (fun (i : Fin 8192) (s : State) =>
    entDue s i 0x1 ∧ 1 ≤ entArg s i % 8 ∧ entArg s i % 8 ≤ 4 ∧ (ent s i).ask ≠ none ∧ fon s (CHN.CFG.EN (entTgt s i)) = true ∧
    chState s (entTgt s i) = 0 ∧ fon s (WIRE.STAT.HOLD (entTgt s i)) = false) (5) (itinSt 4 0x1030001 0 [] { nineMs with ask := some 900, held := 900 }) := by
  decide +kernel

theorem witness_ItineraryLaunchesActOnTheirTarget_2b :
    (fun (i : Fin 8192) (s : State) =>
    entDue s i 0x1 ∧ 1 ≤ entArg s i % 8 ∧ entArg s i % 8 ≤ 4 ∧ (ent s i).ask ≠ none ∧ fon s (CHN.CFG.EN (entTgt s i)) = true ∧
    chState s (entTgt s i) = 0 ∧ fon s (WIRE.STAT.HOLD (entTgt s i)) = false) (5) (itinSt 4 0x1030002 0 [] { nineMs with ask := some 900, held := 900 }) := by
  decide +kernel

theorem witness_ItineraryLaunchesActOnTheirTarget_2c :
    (fun (i : Fin 8192) (s : State) =>
    entDue s i 0x1 ∧ 1 ≤ entArg s i % 8 ∧ entArg s i % 8 ≤ 4 ∧ (ent s i).ask ≠ none ∧ fon s (CHN.CFG.EN (entTgt s i)) = true ∧
    chState s (entTgt s i) = 0 ∧ fon s (WIRE.STAT.HOLD (entTgt s i)) = false) (5) (itinSt 4 0x1030003 0 [] { nineMs with ask := some 900, held := 900 }) := by
  decide +kernel

theorem witness_ItineraryLaunchesActOnTheirTarget_2d :
    (fun (i : Fin 8192) (s : State) =>
    entDue s i 0x1 ∧ 1 ≤ entArg s i % 8 ∧ entArg s i % 8 ≤ 4 ∧ (ent s i).ask ≠ none ∧ fon s (CHN.CFG.EN (entTgt s i)) = true ∧
    chState s (entTgt s i) = 0 ∧ fon s (WIRE.STAT.HOLD (entTgt s i)) = false) (5) (itinSt 4 0x1030004 0 [] { nineMs with ask := some 900, held := 900 }) := by
  decide +kernel

theorem witness_ItineraryLaunchesActOnTheirTarget_3a :
    (fun (i : Fin 8192) (s : State) =>
    entDue s i 0x2) (5) (itinSt 4 0x2030123 0 [] nineMs) := by
  decide +kernel

theorem witness_ItineraryLaunchesActOnTheirTarget_4a :
    (fun (i : Fin 8192) (s : State) =>
    entDue s i 0x3) (5) (itinSt 4 0x3030123 0 [] nineMs) := by
  decide +kernel

theorem witness_ItineraryLaunchesActOnTheirTarget_5a :
    (fun (i : Fin 8192) (s : State) =>
    entDue s i 0x8 ∧ entArg s i = 0 ∧ 0x40 ≤ entTgt s i ∧ railUp s (entTgt s i)) (5) (itinSt 4 0x8400000 0 [(REG.STAT.STATE 0, 3)] nineMs) := by
  decide +kernel

theorem witness_ItineraryLaunchesActOnTheirTarget_5b :
    (fun (i : Fin 8192) (s : State) =>
    entDue s i 0x8 ∧ entArg s i = 0 ∧ 0x40 ≤ entTgt s i ∧ railUp s (entTgt s i)) (5) (itinSt 4 0x8480000 0 [(LOOP.STAT.STATE 0, 4)] nineMs) := by
  decide +kernel

theorem witness_ItineraryLaunchesActOnTheirTarget_6a :
    (fun (i : Fin 8192) (s : State) =>
    entDue s i 0x8 ∧ entArg s i = 1 ∧ (ent s i).ask ≠ none ∧ 0x40 ≤ entTgt s i ∧ entTgt s i < 0x48 ∧ regState s (entTgt s i - 0x40) = 0) (5) (itinSt 4 0x8400001 0 [] { nineMs with ask := some 900, held := 900 }) := by
  decide +kernel

theorem witness_ItineraryLaunchesActOnTheirTarget_7a :
    (fun (i : Fin 8192) (s : State) =>
    entDue s i 0x9 ∧ 0x40 ≤ entTgt s i ∧ railUp s (entTgt s i) ∧ entArg s i ≤ railVtgt s (entTgt s i) ∧ railVtgt s (entTgt s i) ≤ 540 ∧
    regState s (entTgt s i - 0x40) ≠ 4 ∧ loopState s (entTgt s i - 0x48) ≠ 6) (5) (itinSt 4 0x9400210 0 [(REG.STAT.STATE 0, 3), (REG.VSET.VTGT 0, 540)] nineMs) := by
  decide +kernel

theorem witness_ItineraryLaunchesActOnTheirTarget_7b :
    (fun (i : Fin 8192) (s : State) =>
    entDue s i 0x9 ∧ 0x40 ≤ entTgt s i ∧ railUp s (entTgt s i) ∧ entArg s i ≤ railVtgt s (entTgt s i) ∧ railVtgt s (entTgt s i) ≤ 540 ∧
    regState s (entTgt s i - 0x40) ≠ 4 ∧ loopState s (entTgt s i - 0x48) ≠ 6) (5) (itinSt 4 0x9480190 0 [(LOOP.STAT.STATE 0, 4), (LOOP.VREF.VTGT 0, 420)] nineMs) := by
  decide +kernel

theorem witness_ItineraryLaunchesActOnTheirTarget_8a :
    (fun (i : Fin 8192) (s : State) =>
    entDue s i 0x10 ∧ 0x80 ≤ entTgt s i ∧ entTgt s i < 0x90 ∧ s.start.running = true ∧ fget s (SEQ.STAT.STATE (entTgt s i - 0x80)) ≠ 1 ∧
    (seqHead s (entTgt s i - 0x80)).count ≠ 0) (5) (let s := itinSt 4 0x10820000 0 [] nineMs; { s with sqs := { s.sqs with heads := [{}, {}, { first := 0, count := 2 }] } }) := by
  decide +kernel

theorem witness_ItineraryLaunchesActOnTheirTarget_9a :
    (fun (i : Fin 8192) (s : State) =>
    entDue s i 0x18 ∧ CalmIn s 0x23E 4 ∧ ∃ q < 16, (entArg s i).testBit q = true ∧ fon s (ADC.SEQ.CFG.EN q) = true ∧ adcIsReady s (q / 4) = true ∧
    adcSt s q = 0) (5) (itinSt 4 0x18900003 0 [(ADC.SEQ.CFG.EN 1, 1), (ADC.STAT.C0, 8)] nineMs) := by
  decide +kernel

theorem witness_ItineraryLaunchesActOnTheirTarget_10a :
    (fun (i : Fin 8192) (s : State) =>
    entDue s i 0x20 ∧ entArg s i / 0x1000 = 0 ∧ fon s CHG.CFG.EN = true ∧ s.start.running = true) (5) (itinSt 4 0x20980000 0 [(CHG.CFG.EN, 1)] nineMs) := by
  decide +kernel

theorem witness_ItineraryLaunchesActOnTheirTarget_11a :
    (fun (i : Fin 8192) (s : State) =>
    entDue s i 0x28 ∧ entArg s i / 0x1000 = 0) (5) (itinSt 4 0x289D0000 0 [] nineMs) := by
  decide +kernel

theorem witness_ItineraryLaunchesActOnTheirTarget_12a :
    (fun (i : Fin 8192) (s : State) =>
    entDue s i 0x30 ∧ fget s LEDG.STAT.MODE ≠ 5) (5) (itinSt 4 0x30000004 0 [] nineMs) := by
  decide +kernel

theorem witness_ItineraryLaunchesActOnTheirTarget_13a :
    (fun (i : Fin 8192) (s : State) =>
    entDue s i 0x38) (5) (itinSt 4 0x38000055 0 [] nineMs) := by
  decide +kernel

theorem witness_ItineraryLaunchesActOnTheirTarget_13b :
    (fun (i : Fin 8192) (s : State) =>
    entDue s i 0x38) (5) (itinSt 4 0x38000055 12287 [] nineMs) := by
  decide +kernel

theorem witness_ItineraryLaunchesActOnTheirTarget_14a :
    (fun (i : Fin 8192) (c : Instr) (s : State) =>
    entState s i = 4 ∧ fon s (ITIN.W3.EN i) = true ∧ entChain s i = false ∧ safe s = true ∧ noReference s ∧ (ent s i).gone = false ∧ stage s ≠ 4 ∧
    ((c = .itinActMode i ∧ entAct s i = 1) ∨ (c = .itinActEnable i ∧ entAct s i = 8) ∨ (c = .itinActSeq i ∧ entAct s i = 0x10) ∨
      (c = .itinActMark i ∧ entAct s i = 0x38))) (5) (.itinActMode 5) (itinSt 4 0x01030001 0 [(FLT.STAT.SAFE, 1)] nineMs) := by
  decide +kernel

theorem witness_ItineraryLaunchesActOnTheirTarget_15a :
    (fun (i : Fin 8192) (s : State) =>
    entDue s i 1 ∧ fon s (CHN.CFG.EN (entTgt s i)) = false) (5) (itinSt 4 0x1040000 0 [(CHN.CFG.EN 4, 0)] nineMs) := by
  decide +kernel

theorem witness_ItineraryLaunchesActOnTheirTarget_16a :
    (fun (i : Fin 8192) (s : State) =>
    entDue s i 0x10 ∧ entTgt s i < 0x90 ∧ fget s (SEQ.STAT.STATE (entTgt s i - 0x80)) = 1) (5) (itinSt 4 0x10820000 0 [(SEQ.STAT.STATE 2, 1)] nineMs) := by
  decide +kernel

theorem witness_ItineraryLaunchesActOnTheirTarget_17a :
    (fun (i : Fin 8192) (s : State) =>
    entState s i = 4 ∧ entAct s i = 0x38 ∧ fon s (ITIN.W3.EN i) = true ∧ entChain s i = false ∧ (ent s i).gone = false ∧
    safe s = false ∧ stage s ≠ 4 ∧ noReference s ∧ (ent s i).k = 0 ∧ (ent s i).placed < served s ∧ (ent s i).nominal < served s ∧
    served s ≤ (ent s i).nominal + entWin s i ∧ fget s TIME.ITIN_CFG.LAG_LIMIT = 0 ∧ (ent s i).moved = false) (5) (itinSt 4 0x38000055 0 [(TIME.ITIN_CFG.LAG_LIMIT, 0)] { nominal := 4950000, placed := 4950000 }) := by
  decide +kernel

theorem witness_ItineraryLaunchesActOnTheirTarget_18a :
    (fun (i : Fin 8192) (c : Instr) (s : State) =>
    entState s i ≠ 4 ∧ stage s ≠ 4 ∧ (c = .itinActMode i ∨ c = .itinActDuty i ∨ c = .itinActCreg i ∨ c = .itinActEnable i ∨ c = .itinActVset i
     ∨ c = .itinActSeq i ∨ c = .itinActAdcTrig i ∨ c = .itinActChg i ∨ c = .itinActPort i ∨ c = .itinActShed i ∨ c = .itinActMark i)) (5) (.itinActMode 5) (itinSt 1 0x01030001 0 [] nineMs) := by
  decide +kernel

theorem witness_ConvoysAtTheHead_1a :
    (fun (rq : Fin 24) (c : BitVec 8) (_ : Bool) (s : State) =>
    restUp s rq ∧ convoyRuns s ∧ hasCT s = true ∧ armable s c.toNat (fget64 s TIME.CVY_LAUNCH_LO.CT TIME.CVY_LAUNCH_HI.CT) (served s) ∧
    ((if fget s TIME.CVY_MEMB.MAP = 0 then reachMap s else fget s TIME.CVY_MEMB.MAP) % 2 = 0 ∨ (if fget s TIME.CVY_MEMB.MAP = 0 then reachMap s else fget s TIME.CVY_MEMB.MAP) / 2 ≠ 0)) (9) (4) (true) (cvySt' true {} 1 1 [] {}) := by
  decide +kernel

theorem witness_ConvoysAtTheHead_1b :
    (fun (rq : Fin 24) (c : BitVec 8) (_ : Bool) (s : State) =>
    restUp s rq ∧ convoyRuns s ∧ hasCT s = true ∧ armable s c.toNat (fget64 s TIME.CVY_LAUNCH_LO.CT TIME.CVY_LAUNCH_HI.CT) (served s) ∧
    ((if fget s TIME.CVY_MEMB.MAP = 0 then reachMap s else fget s TIME.CVY_MEMB.MAP) % 2 = 0 ∨ (if fget s TIME.CVY_MEMB.MAP = 0 then reachMap s else fget s TIME.CVY_MEMB.MAP) / 2 ≠ 0)) (9) (3) (false) (cvySt' true { head := [cvy3 5 (id)] } 1 1 [(TIME.CVY_MEMB.MAP, 6)] {}) := by
  decide +kernel

theorem witness_ConvoysAtTheHead_2a :
    (fun (rq : Fin 24) (c : BitVec 8) (_ : Bool) (loc : Bool) (s : State) =>
    restUp s rq ∧ (loc = true ∨ ¬ armable s c.toNat (fget64 s TIME.CVY_LAUNCH_LO.CT TIME.CVY_LAUNCH_HI.CT) (served s))) (9) (3) (true) (false) (cvySt' true { head := [cvy3 1 (id)] } 1 1 [] {}) := by
  decide +kernel

theorem witness_ConvoysAtTheHead_2b :
    (fun (rq : Fin 24) (c : BitVec 8) (_ : Bool) (loc : Bool) (s : State) =>
    restUp s rq ∧ (loc = true ∨ ¬ armable s c.toNat (fget64 s TIME.CVY_LAUNCH_LO.CT TIME.CVY_LAUNCH_HI.CT) (served s))) (9) (3) (true) (true) (cvySt' true {} 1 1 [] {}) := by
  decide +kernel

theorem witness_ConvoysAtTheHead_2c :
    (fun (rq : Fin 24) (c : BitVec 8) (_ : Bool) (loc : Bool) (s : State) =>
    restUp s rq ∧ (loc = true ∨ ¬ armable s c.toNat (fget64 s TIME.CVY_LAUNCH_LO.CT TIME.CVY_LAUNCH_HI.CT) (served s))) (9) (3) (true) (false) (cvySt' false {} 1 1 [] {}) := by
  decide +kernel

theorem witness_ConvoysAtTheHead_3a :
    (fun (rq : Fin 24) (c : BitVec 8) (x : Cvy) (s : State) =>
    restUp s rq ∧ convoyRuns s ∧ headHas s c.toNat x ∧ x.st = 2 ∧ ((fget64 s TIME.CVY_LAUNCH_LO.CT TIME.CVY_LAUNCH_HI.CT) = 0 ∨ x.launch ≤ (fget64 s TIME.CVY_LAUNCH_LO.CT TIME.CVY_LAUNCH_HI.CT)) ∧
    served s + cvyGuard s ≤ x.launch) (9) (3) (cvy3 2 (id)) (cvySt' true { head := [cvy3 2 (id)] } 1 1 [] {}) := by
  decide +kernel

theorem witness_ConvoysAtTheHead_4a :
    (fun (rq : Fin 24) (c : BitVec 8) (s : State) =>
    restUp s rq ∧ (isHead s = false ∨ ∀ x ∈ s.cvy.head, x.conv = c.toNat → x.st ≠ 2)) (9) (3) (cvySt' true { head := [cvy3 1 (id)] } 1 1 [] {}) := by
  decide +kernel

theorem witness_ConvoysAtTheHead_5a :
    (fun (rq : Fin 24) (c : BitVec 8) (x : Cvy) (s : State) =>
    restUp s rq ∧ convoyRuns s ∧ headHas s c.toNat x ∧ cvyArmed s x = true ∧ (x.st = 3 → served s + cvyGuard s ≤ x.launch) ∧ Reports s 0x26E) (9) (3) (cvy3 2 (id)) (cvySt' true { head := [cvy3 2 (id)] } 1 1 [] {}) := by
  decide +kernel

theorem witness_ConvoysAtTheHead_6a :
    (fun (rq : Fin 24) (c : BitVec 8) (s : State) =>
    restUp s rq ∧ (isHead s = false ∨ ∀ x ∈ s.cvy.head, x.conv = c.toNat → cvyArmed s x = false)) (9) (3) (cvySt' true { head := [cvy3 5 (id)] } 1 1 [] {}) := by
  decide +kernel

theorem witness_ConvoysAtTheHead_7a :
    (fun (rq : Fin 24) (_ : BitVec 8) (s : State) =>
    restUp s rq ∧ noReference s ∧ safe s = false ∧ Calm s 0x26B) (9) (3) (cvySt' true {} 3 0 [] { nominal := 9000000, placed := 9000000 }) := by
  decide +kernel

theorem witness_ConvoysAtTheHead_7b :
    (fun (rq : Fin 24) (_ : BitVec 8) (s : State) =>
    restUp s rq ∧ noReference s ∧ safe s = false ∧ Calm s 0x26B) (9) (3) (cvySt' true {} 2 0 [] {}) := by
  decide +kernel

theorem witness_ConvoysAtTheHead_7c :
    (fun (rq : Fin 24) (_ : BitVec 8) (s : State) =>
    restUp s rq ∧ noReference s ∧ safe s = false ∧ Calm s 0x26B) (9) (3) (cvySt' true {} 1 0 [] {}) := by
  decide +kernel

theorem witness_ConvoysAtTheHead_8a :
    (fun (rq : Fin 24) (_ : BitVec 8) (s : State) =>
    restUp s rq ∧ noReference s) (9) (3) (cvySt' true {} 3 0 [] {}) := by
  decide +kernel

theorem witness_ConvoysAtTheHead_8b :
    (fun (rq : Fin 24) (_ : BitVec 8) (s : State) =>
    restUp s rq ∧ noReference s) (9) (3) (cvySt' true {} 1 0 [] {}) := by
  decide +kernel

theorem witness_ConvoysAtTheHead_9a :
    (fun (i : Fin 8192) (s : State) =>
    entDue s i 0x40 ∧ convoyRuns s ∧ hasCT s = true ∧ armable s (entConv s i) ((ent s i).placed + entArg s i * 10000) (ent s i).placed ∧
    reachMap s / 2 ≠ 0 ∧ fget s TIME.STAT.STATE = 4) (5) (cvySt' true {} 4 0 [(ITIN.W2.ACT 5, 0x40), (ITIN.W2.TGT 5, 0), (ITIN.W2.ARG 5, 70)] nineMs) := by
  decide +kernel

theorem witness_ConvoysAtTheHead_10a :
    (fun (i : Fin 8192) (x : Cvy) (s : State) =>
    entDue s i 0x41 ∧ convoyRuns s ∧ headHas s (entConv s i) x ∧ x.st = 2 ∧ (ent s i).placed + cvyGuard s ≤ x.launch) (5) (cvy3 2 (id)) (cvySt' true { head := [cvy3 2 (id)] } 4 0 [(ITIN.W2.ACT 5, 0x41), (ITIN.W2.TGT 5, 0), (ITIN.W2.ARG 5, 0)] { nominal := 8000000, placed := 8000000 }) := by
  decide +kernel

theorem witness_ConvoysAtTheHead_11a :
    (fun (i : Fin 8192) (x : Cvy) (s : State) =>
    entDue s i 0x42 ∧ convoyRuns s ∧ headHas s (entConv s i) x ∧ (x.st = 1 ∨ x.st = 2) ∧ Reports s 0x26E) (5) (cvy3 2 (id)) (cvySt' true { head := [cvy3 2 (id)] } 4 0 [(ITIN.W2.ACT 5, 0x42), (ITIN.W2.TGT 5, 0), (ITIN.W2.ARG 5, 0)] nineMs) := by
  decide +kernel

theorem witness_ConvoysAtTheHead_12a :
    (fun (i : Fin 8192) (c : Instr) (s : State) =>
    isHead s = false ∧ ((c = .itinActArm i ∧ entDue s i 0x40) ∨ (c = .itinActCommit i ∧ entDue s i 0x41) ∨
      (c = .itinActCancel i ∧ entDue s i 0x42))) (5) (.itinActArm 5) (cvySt' false {} 4 0 [(ITIN.W2.ACT 5, 0x40), (ITIN.W2.TGT 5, 0), (ITIN.W2.ARG 5, 70)] nineMs) := by
  decide +kernel

theorem witness_ConvoysAtTheHead_13a :
    (fun (src : Fin 32) (c : BitVec 8) (_ : BitVec 8) (id : BitVec 16) (_ : Word) (x : Cvy) (s : State) =>
    convoyRuns s ∧ headHas s c.toNat x ∧ x.st = 1 ∧ x.armId = id.toNat ∧ x.members.testBit src = true ∧
    (∀ y ∈ s.cvy.head, y.conv = c.toNat → y = x) ∧ Reports s 0x26E) (1) (3) (1) (7) (0) (cvy3 1 (id)) (cvySt' true { head := [cvy3 1 (id)] } 1 1 [] {}) := by
  decide +kernel

theorem witness_ConvoysAtTheHead_13b :
    (fun (src : Fin 32) (c : BitVec 8) (_ : BitVec 8) (id : BitVec 16) (_ : Word) (x : Cvy) (s : State) =>
    convoyRuns s ∧ headHas s c.toNat x ∧ x.st = 1 ∧ x.armId = id.toNat ∧ x.members.testBit src = true ∧
    (∀ y ∈ s.cvy.head, y.conv = c.toNat → y = x) ∧ Reports s 0x26E) (1) (3) (0) (7) (0) (cvy3 1 (id)) (cvySt' true { head := [cvy3 1 (id)] } 1 1 [] {}) := by
  decide +kernel

theorem witness_ConvoysAtTheHead_13c :
    (fun (src : Fin 32) (c : BitVec 8) (_ : BitVec 8) (id : BitVec 16) (_ : Word) (x : Cvy) (s : State) =>
    convoyRuns s ∧ headHas s c.toNat x ∧ x.st = 1 ∧ x.armId = id.toNat ∧ x.members.testBit src = true ∧
    (∀ y ∈ s.cvy.head, y.conv = c.toNat → y = x) ∧ Reports s 0x26E) (1) (3) (0) (7) (0) (cvy3 1 (fun y => { y with acks := 4 })) (cvySt' true { head := [cvy3 1 (fun y => { y with acks := 4 })] } 1 1 [] {}) := by
  decide +kernel

theorem witness_ConvoysAtTheHead_13d :
    (fun (src : Fin 32) (c : BitVec 8) (_ : BitVec 8) (id : BitVec 16) (_ : Word) (x : Cvy) (s : State) =>
    convoyRuns s ∧ headHas s c.toNat x ∧ x.st = 1 ∧ x.armId = id.toNat ∧ x.members.testBit src = true ∧
    (∀ y ∈ s.cvy.head, y.conv = c.toNat → y = x) ∧ Reports s 0x26E) (1) (3) (0) (7) (0) (cvy3 1 (fun y => { y with acks := 4, tent := true })) (cvySt' true { head := [cvy3 1 (fun y => { y with acks := 4, tent := true })] } 1 1 [] {}) := by
  decide +kernel

theorem witness_ConvoysAtTheHead_14a :
    (fun (src : Fin 32) (c : BitVec 8) (_ : BitVec 8) (id : BitVec 16) (_ : Word) (s : State) =>
    isHead s = false ∨ ∀ x ∈ s.cvy.head, x.conv = c.toNat → (x.armId ≠ id.toNat ∨ x.members.testBit src = false ∨ x.st ≠ 1)) (1) (3) (1) (8) (0) (cvySt' true { head := [cvy3 1 (id)] } 1 1 [] {}) := by
  decide +kernel

theorem witness_ConvoysAtTheHead_15a :
    (fun (c : BitVec 8) (x : Cvy) (s : State) =>
    convoyRuns s ∧ headHas s c.toNat x ∧ x.st = 1 ∧ Reports s 0x26E) (3) (cvy3 1 (id)) (cvySt' true { head := [cvy3 1 (id)] } 1 1 [] {}) := by
  decide +kernel

theorem witness_ConvoysAtTheHead_16a :
    (fun (c : BitVec 8) (x : Cvy) (s : State) =>
    convoyRuns s ∧ headHas s c.toNat x ∧ x.st = 2 ∧ Reports s 0x26E) (3) (cvy3 2 (id)) (cvySt' true { head := [cvy3 2 (id)] } 1 1 [] {}) := by
  decide +kernel

theorem witness_ConvoysAtTheHead_17a :
    (fun (c : BitVec 8) (i : Nat) (s : State) =>
    halted s 1 = false ∧ noReference s ∧ i ∈ locEntries s c.toNat (· == 3) ∧
    (∀ j ∈ locEntries s c.toNat (· == 3), (ent s i).nominal ≤ (ent s j).nominal)) (3) (5) (cvySt' true {} 3 0 [] nineMs) := by
  decide +kernel

theorem witness_ConvoysAtAMember_1a :
    (fun (c : BitVec 8) (_ : Bool) (_ : BitVec 16) (_ : BitVec 64) (m : Word) (s : State) =>
    convoyRuns s ∧ chainRuns s ∧ isHead s = false ∧ m.toNat.testBit (myAddr s) = true ∧ safe s = false ∧ cvyFind s.cvy.member c.toNat = none ∧ s.cvy.member.all (fun x => x.conv != c.toNat) = true) (3) (false) (7) (9000000) (6) (cvySt' false {} 1 1 [] {}) := by
  decide +kernel

theorem witness_ConvoysAtAMember_1b :
    (fun (c : BitVec 8) (_ : Bool) (_ : BitVec 16) (_ : BitVec 64) (m : Word) (s : State) =>
    convoyRuns s ∧ chainRuns s ∧ isHead s = false ∧ m.toNat.testBit (myAddr s) = true ∧ safe s = false ∧ cvyFind s.cvy.member c.toNat = none ∧ s.cvy.member.all (fun x => x.conv != c.toNat) = true) (3) (false) (7) (9000000) (6) (cvySt' false {} 1 1 [(TIME.STAT.STATE, 0)] {}) := by
  decide +kernel

theorem witness_ConvoysAtAMember_1c :
    (fun (c : BitVec 8) (_ : Bool) (_ : BitVec 16) (_ : BitVec 64) (m : Word) (s : State) =>
    convoyRuns s ∧ chainRuns s ∧ isHead s = false ∧ m.toNat.testBit (myAddr s) = true ∧ safe s = false ∧ cvyFind s.cvy.member c.toNat = none ∧ s.cvy.member.all (fun x => x.conv != c.toNat) = true) (4) (false) (7) (9000000) (6) (cvySt' false {} 1 1 [] {}) := by
  decide +kernel

theorem witness_ConvoysAtAMember_2a :
    (fun (c : BitVec 8) (_ : Bool) (id : BitVec 16) (_ : BitVec 64) (m : Word) (s : State) =>
    isHead s = true ∨ m.toNat.testBit (myAddr s) = false ∨ ∃ x ∈ s.cvy.member, x.conv = c.toNat ∧ x.armId = id.toNat) (3) (false) (7) (1) (6) (cvySt' false { member := [cvy3 1 (id)] } 1 1 [] {}) := by
  decide +kernel

theorem witness_ConvoysAtAMember_3a :
    (fun (c : BitVec 8) (id : BitVec 16) (l : BitVec 64) (x : Cvy) (s : State) =>
    convoyRuns s ∧ isHead s = false ∧ s.cvy.member = [x] ∧ x.conv = c.toNat ∧ x.armId = id.toNat ∧ x.st = 1 ∧ safe s = false ∧ served s ≤ l.toNat) (3) (7) (9000000) (cvy3 1 (id)) (cvySt' false { member := [cvy3 1 (id)] } 1 1 [] {}) := by
  decide +kernel

theorem witness_ConvoysAtAMember_4a :
    (fun (c : BitVec 8) (id : BitVec 16) (_ : BitVec 64) (s : State) =>
    halted s 1 = false ∧ isHead s = false ∧ ∀ x ∈ s.cvy.member, x.conv = c.toNat → x.armId ≠ id.toNat) (3) (8) (9000000) (cvySt' false { member := [cvy3 1 (id)] } 1 1 [] {}) := by
  decide +kernel

theorem witness_ConvoysAtAMember_5a :
    (fun (c : BitVec 8) (_ : BitVec 8) (id : BitVec 16) (x : Cvy) (s : State) =>
    convoyRuns s ∧ isHead s = false ∧ s.cvy.member = [x] ∧ x.conv = c.toNat ∧ x.armId = id.toNat ∧ (x.st = 1 ∨ x.st = 3) ∧
    (∀ i ∈ cvyEntries s c.toNat, (ent s i).fired = false ∧ (ent s i).gone = false) ∧ Reports s 0x26E) (3) (5) (7) (cvy3 1 (id)) (cvySt' false { member := [cvy3 1 (id)] } 1 1 [] {}) := by
  decide +kernel

theorem witness_ConvoysAtAMember_5b :
    (fun (c : BitVec 8) (_ : BitVec 8) (id : BitVec 16) (x : Cvy) (s : State) =>
    convoyRuns s ∧ isHead s = false ∧ s.cvy.member = [x] ∧ x.conv = c.toNat ∧ x.armId = id.toNat ∧ (x.st = 1 ∨ x.st = 3) ∧
    (∀ i ∈ cvyEntries s c.toNat, (ent s i).fired = false ∧ (ent s i).gone = false) ∧ Reports s 0x26E) (3) (5) (7) (cvy3 3 (id)) (cvySt' false { member := [cvy3 3 (id)] } 4 1 [] { held := 900, ask := some 900 }) := by
  decide +kernel

theorem witness_ConvoysAtAMember_6a :
    (fun (c : BitVec 8) (_ : BitVec 8) (id : BitVec 16) (x : Cvy) (s : State) =>
    halted s 1 = false ∧ isHead s = false ∧ s.cvy.member = [x] ∧ x.conv = c.toNat ∧ x.armId = id.toNat ∧ (x.st = 1 ∨ x.st = 3) ∧
    ∃ i ∈ cvyEntries s c.toNat, (ent s i).fired = true) (3) (5) (7) (cvy3 3 (id)) (cvySt' false { member := [cvy3 3 (id)] } 1 1 [] { fired := true }) := by
  decide +kernel

theorem witness_ConvoysAtAMember_7a :
    (fun (c : BitVec 8) (_ : BitVec 8) (id : BitVec 16) (s : State) =>
    halted s 1 = false ∧ isHead s = false ∧ ∀ x ∈ s.cvy.member, x.conv = c.toNat → x.armId ≠ id.toNat) (3) (5) (8) (cvySt' false { member := [cvy3 1 (id)] } 1 1 [] {}) := by
  decide +kernel

theorem witness_LedgerFrameDecides_1a :
    (fun (w : Nat) (rm : List (Nat × Nat)) (pm : List (Nat × Nat × Nat)) (n : Nat) (r : Req) (s : State) =>
    frameRuns s 0 = true ∧ CalmIn s 0x246 5 ∧ CalmIn s 0x270 5 ∧ severity s 0x261 ≠ 3 ∧ stage s ≠ 3 ∧ noReference s ∧ oneDue (frameFigures s w rm pm) n r ∧
    verdict (frameFigures s w rm pm) n r.mw = some 0) (500) ([]) ([]) (3) ({ kind := .chan 3 false, mw := 62100, arrival := 4000000 }) (asks3 (ledgSt false 3 ⟨1, true, false, 0, 600000, 250000⟩ [])) := by
  decide +kernel

theorem witness_LedgerFrameDecides_1b :
    (fun (w : Nat) (rm : List (Nat × Nat)) (pm : List (Nat × Nat × Nat)) (n : Nat) (r : Req) (s : State) =>
    frameRuns s 0 = true ∧ CalmIn s 0x246 5 ∧ CalmIn s 0x270 5 ∧ severity s 0x261 ≠ 3 ∧ stage s ≠ 3 ∧ noReference s ∧ oneDue (frameFigures s w rm pm) n r ∧
    verdict (frameFigures s w rm pm) n r.mw = some 0) (500) ([]) ([]) (3) ({ kind := .chan 3 false, mw := 62100, arrival := 4000000 }) (asks3 (ledgSt false 3 ⟨1, true, true, 0, 600000, 250000⟩ [(TOP.STATUS.CFG_DEFAULTS, 1)])) := by
  decide +kernel

theorem witness_LedgerFrameDecides_1c :
    (fun (w : Nat) (rm : List (Nat × Nat)) (pm : List (Nat × Nat × Nat)) (n : Nat) (r : Req) (s : State) =>
    frameRuns s 0 = true ∧ CalmIn s 0x246 5 ∧ CalmIn s 0x270 5 ∧ severity s 0x261 ≠ 3 ∧ stage s ≠ 3 ∧ noReference s ∧ oneDue (frameFigures s w rm pm) n r ∧
    verdict (frameFigures s w rm pm) n r.mw = some 0) (500) ([]) ([]) (3) ({ kind := .chan 3 false, mw := 62100, arrival := 4000000 }) (asks3 (withLdg (ledgSt false 3 ⟨1, true, false, 0, 600000, 250000⟩ [(LEDG.CFG.UNLISTED, 1)]) fun x => { x with cons := [] })) := by
  decide +kernel

theorem witness_LedgerFrameDecides_2a :
    (fun (w : Nat) (rm : List (Nat × Nat)) (pm : List (Nat × Nat × Nat)) (n : Nat) (r : Req) (s : State) =>
    frameRuns s 0 = true ∧ CalmIn s 0x246 5 ∧ CalmIn s 0x270 5 ∧ severity s 0x261 ≠ 3 ∧ stage s ≠ 3 ∧ noReference s ∧ oneDue (frameFigures s w rm pm) n r ∧
    verdict (frameFigures s w rm pm) n r.mw ≠ some 0 ∧ verdict (frameFigures s w rm pm) n r.mw ≠ none ∧
    ∀ q < 16, (seqStep s q).tgt ≠ n) (500) ([]) ([]) (3) ({ kind := .chan 3 false, mw := 62100, arrival := 4000000 }) (asks3 (ledgSt false 3 ⟨1, true, false, 0, 600000, 250000⟩ [(LEDG.SHED.LEVEL, 3)])) := by
  decide +kernel

theorem witness_LedgerFrameDecides_2b :
    (fun (w : Nat) (rm : List (Nat × Nat)) (pm : List (Nat × Nat × Nat)) (n : Nat) (r : Req) (s : State) =>
    frameRuns s 0 = true ∧ CalmIn s 0x246 5 ∧ CalmIn s 0x270 5 ∧ severity s 0x261 ≠ 3 ∧ stage s ≠ 3 ∧ noReference s ∧ oneDue (frameFigures s w rm pm) n r ∧
    verdict (frameFigures s w rm pm) n r.mw ≠ some 0 ∧ verdict (frameFigures s w rm pm) n r.mw ≠ none ∧
    ∀ q < 16, (seqStep s q).tgt ≠ n) (500) ([]) ([]) (3) ({ kind := .chan 3 false, mw := 62100, arrival := 4000000 }) (asks3 (ledgSt false 3 ⟨1, true, true, 0, 600000, 250000⟩ [(LNK.STAT.ATTACHED, 0)])) := by
  decide +kernel

theorem witness_LedgerFrameDecides_2c :
    (fun (w : Nat) (rm : List (Nat × Nat)) (pm : List (Nat × Nat × Nat)) (n : Nat) (r : Req) (s : State) =>
    frameRuns s 0 = true ∧ CalmIn s 0x246 5 ∧ CalmIn s 0x270 5 ∧ severity s 0x261 ≠ 3 ∧ stage s ≠ 3 ∧ noReference s ∧ oneDue (frameFigures s w rm pm) n r ∧
    verdict (frameFigures s w rm pm) n r.mw ≠ some 0 ∧ verdict (frameFigures s w rm pm) n r.mw ≠ none ∧
    ∀ q < 16, (seqStep s q).tgt ≠ n) (500) ([]) ([]) (3) ({ kind := .chan 3 false, mw := 62100, arrival := 4000000 }) (asks3 (withLdg (ledgSt false 3 ⟨1, true, false, 0, 600000, 250000⟩ []) fun x => { x with cons := [] })) := by
  decide +kernel

theorem witness_LedgerFrameDecides_2d :
    (fun (w : Nat) (rm : List (Nat × Nat)) (pm : List (Nat × Nat × Nat)) (n : Nat) (r : Req) (s : State) =>
    frameRuns s 0 = true ∧ CalmIn s 0x246 5 ∧ CalmIn s 0x270 5 ∧ severity s 0x261 ≠ 3 ∧ stage s ≠ 3 ∧ noReference s ∧ oneDue (frameFigures s w rm pm) n r ∧
    verdict (frameFigures s w rm pm) n r.mw ≠ some 0 ∧ verdict (frameFigures s w rm pm) n r.mw ≠ none ∧
    ∀ q < 16, (seqStep s q).tgt ≠ n) (500) ([]) ([]) (3) ({ kind := .chan 3 false, mw := 62100, arrival := 4000000 }) (asks3 (ledgSt false 3 ⟨1, true, false, 0, 64000, 250000⟩ [])) := by
  decide +kernel

theorem witness_LedgerFrameDecides_2e :
    (fun (w : Nat) (rm : List (Nat × Nat)) (pm : List (Nat × Nat × Nat)) (n : Nat) (r : Req) (s : State) =>
    frameRuns s 0 = true ∧ CalmIn s 0x246 5 ∧ CalmIn s 0x270 5 ∧ severity s 0x261 ≠ 3 ∧ stage s ≠ 3 ∧ noReference s ∧ oneDue (frameFigures s w rm pm) n r ∧
    verdict (frameFigures s w rm pm) n r.mw ≠ some 0 ∧ verdict (frameFigures s w rm pm) n r.mw ≠ none ∧
    ∀ q < 16, (seqStep s q).tgt ≠ n) (500) ([]) ([]) (3) ({ kind := .chan 3 false, mw := 62100, arrival := 4000000 }) (asks3 (ledgSt false 3 ⟨1, true, true, 0, 600000, 250000⟩ [(LEDG.FEED.STAT.SYNC 0, 1)])) := by
  decide +kernel

theorem witness_LedgerFrameDecides_3a :
    (fun (w : Nat) (rm : List (Nat × Nat)) (pm : List (Nat × Nat × Nat)) (n : Nat) (r : Req) (i : Nat) (s : State) =>
    frameRuns s 0 = true ∧ CalmIn s 0x246 5 ∧ CalmIn s 0x270 5 ∧ severity s 0x261 ≠ 3 ∧ stage s ≠ 3 ∧ noReference s ∧ oneDue (frameFigures s w rm pm) n r ∧
    verdict (frameFigures s w rm pm) n r.mw = none ∧ isHead s = false ∧ addressed s = true ∧ roomyOne s ∧
    s.lnk.broken = [] ∧ portUp s 0 = true ∧ portUp s 1 = true ∧ shortBy (frameFigures s w rm pm) n r.mw i ∧
    myAddr s ≠ 0 ∧ i < s.ldg.srcs.length ∧ (srcE s i).feed < 16 ∧ (feedX s (srcE s i).feed).out = none ∧ r.mw < 2 ^ 31) (500) ([]) ([]) (3) ({ kind := .chan 3 false, mw := 62100, arrival := 4000000 }) (0) (asks3 (ledgSt false 3 ⟨1, true, true, 0, 600000, 250000⟩ [])) := by
  decide +kernel

theorem witness_LedgerFrameDecides_4a :
    (fun (w : Nat) (rm : List (Nat × Nat)) (pm : List (Nat × Nat × Nat)) (i : Nat) (c : Nat) (s : State) =>
    frameRuns s 0 = true ∧ CalmIn s 0x246 5 ∧ CalmIn s 0x270 5 ∧ severity s 0x261 ≠ 3 ∧ stage s ≠ 3 ∧ noReference s ∧ (frameFigures s w rm pm).ldg.lvl = false ∧ ledgMode (frameFigures s w rm pm) ≠ 5 ∧
    feedsQuiet (frameFigures s w rm pm) ∧ (frameFigures s w rm pm).ldg.reqs = [] ∧ i < s.ldg.srcs.length ∧
    avail (frameFigures s w rm pm) i < srcClaim (frameFigures s w rm pm) i ∧
    (∀ j < s.ldg.srcs.length, j ≠ i → srcClaim (frameFigures s w rm pm) j ≤ avail (frameFigures s w rm pm) j) ∧
    fget s LEDG.CFG.OVER_FR ≤ overCount s i + 1 ∧ (shedList (frameFigures s w rm pm) i).head? = some c ∧
    c < 64 ∧ c < s.ldg.cons.length ∧ consTarget s c < 64 ∧ chDriven (frameFigures s w rm pm) (consTarget s c) = true ∧
    Reports s 0x272 ∧ fon s (CHN.CFG.PRIV_ACT (consTarget s c)) = false) (500) ([]) ([]) (0) (1) (withLdg (ledgSt false 0 ⟨1, true, false, 0, 20000, 250000⟩ []) fun x => { x with overs := [(0, 9)] }) := by
  decide +kernel

theorem witness_LedgerFrameDecides_5a :
    (fun (w : Nat) (rm : List (Nat × Nat)) (pm : List (Nat × Nat × Nat)) (i : Nat) (s : State) =>
    frameRuns s 0 = true ∧ CalmIn s 0x246 5 ∧ CalmIn s 0x270 5 ∧ severity s 0x261 ≠ 3 ∧ stage s ≠ 3 ∧ noReference s ∧ (frameFigures s w rm pm).ldg.lvl = false ∧ ledgMode (frameFigures s w rm pm) ≠ 5 ∧
    feedsQuiet (frameFigures s w rm pm) ∧ (frameFigures s w rm pm).ldg.reqs = [] ∧ i < s.ldg.srcs.length ∧
    avail (frameFigures s w rm pm) i < srcClaim (frameFigures s w rm pm) i ∧
    (∀ j < s.ldg.srcs.length, j ≠ i → srcClaim (frameFigures s w rm pm) j ≤ avail (frameFigures s w rm pm) j) ∧
    overCount s i + 1 < fget s LEDG.CFG.OVER_FR) (500) ([]) ([]) (0) (ledgSt false 0 ⟨1, true, false, 0, 20000, 250000⟩ []) := by
  decide +kernel

theorem witness_LedgerFrameDecides_6a :
    (fun (w : Nat) (rm : List (Nat × Nat)) (pm : List (Nat × Nat × Nat)) (c : Nat) (s : State) =>
    frameRuns s 0 = true ∧ CalmIn s 0x246 5 ∧ CalmIn s 0x270 5 ∧ severity s 0x261 ≠ 3 ∧ stage s ≠ 3 ∧ noReference s ∧ (frameFigures s w rm pm).ldg.lvl = true ∧ ledgMode (frameFigures s w rm pm) ≠ 5 ∧
    coveredAll (frameFigures s w rm pm) ∧ feedsQuiet (frameFigures s w rm pm) ∧
    fget s LEDG.SHED.LEVEL ≠ 0 ∧ c < 64 ∧ c < s.ldg.cons.length ∧ consTarget s c < 64 ∧ consSt (frameFigures s w rm pm) c = 4 ∧
    fget s LEDG.SHED.LEVEL ≤ consCls s c ∧ chDriven (frameFigures s w rm pm) (consTarget s c) = true) (500) ([]) ([]) (1) (withLdg (ledgSt false 0 ⟨1, true, false, 0, 600000, 250000⟩ [(LEDG.SHED.LEVEL, 5)]) fun x => { x with lvl := true }) := by
  decide +kernel

theorem witness_LedgerFrameDecides_7a :
    (fun (w : Nat) (rm : List (Nat × Nat)) (pm : List (Nat × Nat × Nat)) (q : ResvIn) (s : State) =>
    frameRuns s 0 = true ∧ CalmIn s 0x246 5 ∧ CalmIn s 0x270 5 ∧ severity s 0x261 ≠ 3 ∧ stage s ≠ 3 ∧ noReference s ∧ (frameFigures s w rm pm).ldg.lvl = false ∧ coveredAll (frameFigures s w rm pm) ∧
    (∀ f < 16, fgetI s (LEDG.FEED.BORROW.MW f) ≤ 0) ∧ (frameFigures s w rm pm).ldg.reqs = [] ∧ isHead s = true ∧ addressed s = true ∧
    s.ldg.resvIn = [q] ∧ q.arrival < localNs (frameFigures s w rm pm) ∧ feedEntry s q.feed ≠ none ∧ resyncing s q.feed q.src = false ∧
    1 ≤ q.src ∧ q.src < 32 ∧ q.feed < 16 ∧ 0 ≤ q.mw ∧ q.mw < 2 ^ 30 ∧ 0 ≤ grantOf s q.feed q.src ∧ grantOf s q.feed q.src < 2 ^ 30 ∧
    0 ≤ feedBase s q.feed q.src ∧ roomyOne s ∧ s.lnk.broken = [] ∧ portUp s 0 = true ∧ portUp s 1 = true ∧ myAddr s = 0 ∧ q.reqId < 2 ^ 16) (500) ([]) ([]) (⟨2, false, 0, 77, 900, 4000000⟩) (withLdg (ledgSt true 0 ⟨1, true, false, 0, 600000, 250000⟩ [(LEDG.GRANT.MW 0 2, 250)]) fun x => { x with feedsE := [⟨0, 3000, [100, 100, 200]⟩], resvIn := [⟨2, false, 0, 77, 900, 4000000⟩] }) := by
  decide +kernel

theorem witness_LedgerFrameDecides_7b :
    (fun (w : Nat) (rm : List (Nat × Nat)) (pm : List (Nat × Nat × Nat)) (q : ResvIn) (s : State) =>
    frameRuns s 0 = true ∧ CalmIn s 0x246 5 ∧ CalmIn s 0x270 5 ∧ severity s 0x261 ≠ 3 ∧ stage s ≠ 3 ∧ noReference s ∧ (frameFigures s w rm pm).ldg.lvl = false ∧ coveredAll (frameFigures s w rm pm) ∧
    (∀ f < 16, fgetI s (LEDG.FEED.BORROW.MW f) ≤ 0) ∧ (frameFigures s w rm pm).ldg.reqs = [] ∧ isHead s = true ∧ addressed s = true ∧
    s.ldg.resvIn = [q] ∧ q.arrival < localNs (frameFigures s w rm pm) ∧ feedEntry s q.feed ≠ none ∧ resyncing s q.feed q.src = false ∧
    1 ≤ q.src ∧ q.src < 32 ∧ q.feed < 16 ∧ 0 ≤ q.mw ∧ q.mw < 2 ^ 30 ∧ 0 ≤ grantOf s q.feed q.src ∧ grantOf s q.feed q.src < 2 ^ 30 ∧
    0 ≤ feedBase s q.feed q.src ∧ roomyOne s ∧ s.lnk.broken = [] ∧ portUp s 0 = true ∧ portUp s 1 = true ∧ myAddr s = 0 ∧ q.reqId < 2 ^ 16) (500) ([]) ([]) (⟨2, false, 0, 77, 90000, 4000000⟩) (withLdg (ledgSt true 0 ⟨1, true, false, 0, 600000, 250000⟩ [(LEDG.GRANT.MW 0 2, 250)]) fun x => { x with feedsE := [⟨0, 3000, [100, 100, 200]⟩], resvIn := [⟨2, false, 0, 77, 90000, 4000000⟩] }) := by
  decide +kernel

theorem witness_LedgerFrameDecides_7c :
    (fun (w : Nat) (rm : List (Nat × Nat)) (pm : List (Nat × Nat × Nat)) (q : ResvIn) (s : State) =>
    frameRuns s 0 = true ∧ CalmIn s 0x246 5 ∧ CalmIn s 0x270 5 ∧ severity s 0x261 ≠ 3 ∧ stage s ≠ 3 ∧ noReference s ∧ (frameFigures s w rm pm).ldg.lvl = false ∧ coveredAll (frameFigures s w rm pm) ∧
    (∀ f < 16, fgetI s (LEDG.FEED.BORROW.MW f) ≤ 0) ∧ (frameFigures s w rm pm).ldg.reqs = [] ∧ isHead s = true ∧ addressed s = true ∧
    s.ldg.resvIn = [q] ∧ q.arrival < localNs (frameFigures s w rm pm) ∧ feedEntry s q.feed ≠ none ∧ resyncing s q.feed q.src = false ∧
    1 ≤ q.src ∧ q.src < 32 ∧ q.feed < 16 ∧ 0 ≤ q.mw ∧ q.mw < 2 ^ 30 ∧ 0 ≤ grantOf s q.feed q.src ∧ grantOf s q.feed q.src < 2 ^ 30 ∧
    0 ≤ feedBase s q.feed q.src ∧ roomyOne s ∧ s.lnk.broken = [] ∧ portUp s 0 = true ∧ portUp s 1 = true ∧ myAddr s = 0 ∧ q.reqId < 2 ^ 16) (500) ([]) ([]) (⟨2, true, 0, 77, 30, 4000000⟩) (withLdg (ledgSt true 0 ⟨1, true, false, 0, 600000, 250000⟩ [(LEDG.GRANT.MW 0 2, 250)]) fun x => { x with feedsE := [⟨0, 3000, [100, 100, 200]⟩], resvIn := [⟨2, true, 0, 77, 30, 4000000⟩] }) := by
  decide +kernel

theorem witness_SharesAndGrantsFollowTheHead_1a :
    (fun (rq : Fin 24) (_ : Fin 16) (s : State) =>
    restUp s rq) (9) (6) (resvSt false []) := by
  decide +kernel

theorem witness_SharesAndGrantsFollowTheHead_1b :
    (fun (rq : Fin 24) (_ : Fin 16) (s : State) =>
    restUp s rq) (9) (6) (resvSt false [(LEDG.STAT.MODE, 5)]) := by
  decide +kernel

theorem witness_SharesAndGrantsFollowTheHead_2a :
    (fun (f : Fin 16) (id : Nat) (mw : Nat) (s : State) =>
    halted s 0 = false ∧ (feedX s f).out = some (id, mw, false) ∧ Calm s 0x271 ∧ Reports s 0x271) (0) (5) (30000) (resvSt false []) := by
  decide +kernel

theorem witness_SharesAndGrantsFollowTheHead_3a :
    (fun (f : Fin 16) (id : Nat) (mw : Nat) (s : State) =>
    halted s 0 = false ∧ (feedX s f).out = some (id, mw, true)) (0) (5) (30000) (resvSt true []) := by
  decide +kernel

theorem witness_SharesAndGrantsFollowTheHead_4a :
    (fun (f : Fin 16) (id : BitVec 16) (mw : Nat) (_ : BitVec 8) (_ : Word) (s : State) =>
    halted s 0 = false ∧ (feedX s f).out = some (id.toNat, mw, false) ∧ (∀ h < 16, (feedX s h).out.map (fun o => o.1) = some id.toNat → h = f.val)) (0) (5) (30000) (0) (30000) (resvSt false []) := by
  decide +kernel

theorem witness_SharesAndGrantsFollowTheHead_4b :
    (fun (f : Fin 16) (id : BitVec 16) (mw : Nat) (_ : BitVec 8) (_ : Word) (s : State) =>
    halted s 0 = false ∧ (feedX s f).out = some (id.toNat, mw, false) ∧ (∀ h < 16, (feedX s h).out.map (fun o => o.1) = some id.toNat → h = f.val)) (0) (5) (30000) (5) (0) (resvSt false []) := by
  decide +kernel

theorem witness_SharesAndGrantsFollowTheHead_5a :
    (fun (f : Fin 16) (id : BitVec 16) (_ : BitVec 8) (g : Word) (s : State) =>
    halted s 0 = false ∧ id.toNat ∈ (feedX s f).late ∧ (∀ h < 16, (feedX s h).out.map (fun o => o.1) ≠ some id.toNat) ∧
    (∀ h < 16, id.toNat ∈ (feedX s h).late → h = f.val) ∧ fgetI s (LEDG.FEED.SHARE.MW f) + g.toInt < 2 ^ 31 ∧ -2 ^ 31 ≤ fgetI s (LEDG.FEED.SHARE.MW f) + g.toInt) (0) (9) (0) (30000) (resvSt false []) := by
  decide +kernel

theorem witness_SharesAndGrantsFollowTheHead_5b :
    (fun (f : Fin 16) (id : BitVec 16) (_ : BitVec 8) (g : Word) (s : State) =>
    halted s 0 = false ∧ id.toNat ∈ (feedX s f).late ∧ (∀ h < 16, (feedX s h).out.map (fun o => o.1) ≠ some id.toNat) ∧
    (∀ h < 16, id.toNat ∈ (feedX s h).late → h = f.val) ∧ fgetI s (LEDG.FEED.SHARE.MW f) + g.toInt < 2 ^ 31 ∧ -2 ^ 31 ≤ fgetI s (LEDG.FEED.SHARE.MW f) + g.toInt) (0) (9) (5) (0) (resvSt false []) := by
  decide +kernel

theorem witness_SharesAndGrantsFollowTheHead_6a :
    (fun (id : BitVec 16) (_ : BitVec 8) (_ : Word) (s : State) =>
    ∀ h < 16, (feedX s h).out.map (fun o => o.1) ≠ some id.toNat ∧ id.toNat ∉ (feedX s h).late) (7) (0) (30000) (resvSt false []) := by
  decide +kernel

theorem witness_SharesAndGrantsFollowTheHead_7a :
    (fun (_ : Fin 32) (_ : Bool) (_ : Fin 16) (_ : BitVec 16) (_ : Word) (s : State) =>
    halted s 0 = false) (2) (false) (0) (7) (900) (feedHead [] id) := by
  decide +kernel

theorem witness_SharesAndGrantsFollowTheHead_7b :
    (fun (_ : Fin 32) (_ : Bool) (_ : Fin 16) (_ : BitVec 16) (_ : Word) (s : State) =>
    halted s 0 = false) (2) (false) (0) (7) (900) (resvSt false []) := by
  decide +kernel

theorem witness_SharesAndGrantsFollowTheHead_8a :
    (fun (_ : BitVec 16) (_ : Fin 16) (mw : Word) (s : State) =>
    halted s 0 = false ∧ isHead s = false ∧ mw.toInt = -1 ∧ sendsOne s ∧ myAddr s ≠ 0) (3) (0) (0xFFFFFFFF) (resvSt false []) := by
  decide +kernel

theorem witness_SharesAndGrantsFollowTheHead_9a :
    (fun (gen : BitVec 16) (f : Fin 16) (mw : Word) (s : State) =>
    halted s 0 = false ∧ isHead s = false ∧ mw.toInt ≠ -1 ∧ (fon s (LEDG.FEED.STAT.SYNC f) = true ∨ ((feedX s f).out = none ∧
      (fon s (LEDG.FEED.STAT.VALID f) = false ∨ newerGen gen.toNat (fget s (LEDG.FEED.STAT.SHARE_GEN f)))))) (3) (0) (70000) (ledgSt false 3 ⟨1, true, true, 0, 600000, 250000⟩ []) := by
  decide +kernel

theorem witness_SharesAndGrantsFollowTheHead_9b :
    (fun (gen : BitVec 16) (f : Fin 16) (mw : Word) (s : State) =>
    halted s 0 = false ∧ isHead s = false ∧ mw.toInt ≠ -1 ∧ (fon s (LEDG.FEED.STAT.SYNC f) = true ∨ ((feedX s f).out = none ∧
      (fon s (LEDG.FEED.STAT.VALID f) = false ∨ newerGen gen.toNat (fget s (LEDG.FEED.STAT.SHARE_GEN f)))))) (3) (0) (70000) (resvSt false [(LEDG.FEED.STAT.SYNC 0, 1)]) := by
  decide +kernel

theorem witness_SharesAndGrantsFollowTheHead_10a :
    (fun (gen : BitVec 16) (f : Fin 16) (mw : Word) (s : State) =>
    isHead s = true ∨ (mw.toInt ≠ -1 ∧ fon s (LEDG.FEED.STAT.SYNC f) = false ∧ ((feedX s f).out ≠ none ∨
      (fon s (LEDG.FEED.STAT.VALID f) = true ∧ ¬ newerGen gen.toNat (fget s (LEDG.FEED.STAT.SHARE_GEN f)))))) (3) (0) (70000) (resvSt false []) := by
  decide +kernel

theorem witness_SharesAndGrantsFollowTheHead_10b :
    (fun (gen : BitVec 16) (f : Fin 16) (mw : Word) (s : State) =>
    isHead s = true ∨ (mw.toInt ≠ -1 ∧ fon s (LEDG.FEED.STAT.SYNC f) = false ∧ ((feedX s f).out ≠ none ∨
      (fon s (LEDG.FEED.STAT.VALID f) = true ∧ ¬ newerGen gen.toNat (fget s (LEDG.FEED.STAT.SHARE_GEN f)))))) (0) (0) (70000) (ledgSt false 3 ⟨1, true, true, 0, 600000, 250000⟩ []) := by
  decide +kernel

theorem witness_SharesAndGrantsFollowTheHead_11a :
    (fun (e : FeedE) (u : Nat) (s : State) =>
    halted s 0 = false ∧ isHead s = true ∧ s.start.running = true ∧ s.ldg.feedsE = [e] ∧ sendsOne s ∧ myAddr s = 0 ∧ 1 ≤ u ∧ u < 32 ∧
    fon s (LNK.REACH u) = true ∧ resyncing s e.feed u = false ∧ ((List.range 32).filter fun v => fon s (LNK.REACH v)).length ≤ 5) (⟨0, 3000, [100, 100, 200]⟩) (2) (feedHead [] id) := by
  decide +kernel

theorem witness_SharesAndGrantsFollowTheHead_12a :
    (fun (f : Nat) (s : State) =>
    halted s 0 = false ∧ isHead s = false ∧ stage s ≠ 4 ∧ (ledgMode s = 2 ∨ ledgMode s = 3) ∧ chainFeeds s = [f] ∧ sendsOne s ∧ myAddr s ≠ 0) (0) (resvSt false []) := by
  decide +kernel

theorem witness_SharesAndGrantsFollowTheHead_13a :
    (fun (src : Fin 32) (_ : BitVec 16) (f : Fin 16) (_ : Word) (_ : Word) (s : State) =>
    halted s 0 = false ∧ isHead s = true ∧ resyncing s f src = true ∧ ChainCalm s ∧ stage s ≠ 3 ∧ 0 ≤ feedBase s f src ∧ feedBase s f src < 2 ^ 31 ∧
    (feedEntry s f).isSome = true) (2) (1) (0) (0) (400) (feedHead [] fun x => { x with resync := [2] }) := by
  decide +kernel

theorem witness_SharesAndGrantsFollowTheHead_13b :
    (fun (src : Fin 32) (_ : BitVec 16) (f : Fin 16) (_ : Word) (_ : Word) (s : State) =>
    halted s 0 = false ∧ isHead s = true ∧ resyncing s f src = true ∧ ChainCalm s ∧ stage s ≠ 3 ∧ 0 ≤ feedBase s f src ∧ feedBase s f src < 2 ^ 31 ∧
    (feedEntry s f).isSome = true) (2) (1) (0) (0) (400000) (feedHead [] fun x => { x with resync := [2] }) := by
  decide +kernel

theorem witness_SharesAndGrantsFollowTheHead_14a :
    (fun (src : Fin 32) (_ : BitVec 16) (f : Fin 16) (_ : Word) (_ : Word) (s : State) =>
    isHead s = false ∨ resyncing s f src = false) (2) (1) (0) (0) (400) (feedHead [] id) := by
  decide +kernel

theorem witness_SharesAndGrantsFollowTheHead_15a :
    (fun (f : Fin 16) (u : Fin 32) (s : State) =>
    halted s 0 = false ∧ isHead s = true ∧ resyncing s f u = true ∧ ChainCalm s ∧ stage s ≠ 3 ∧ -2 ^ 31 ≤ feedBase s f u ∧ feedBase s f u < 2 ^ 31) (0) (2) (feedHead [] fun x => { x with resync := [2] }) := by
  decide +kernel

theorem witness_SharesAndGrantsFollowTheHead_16a :
    (fun (f : Fin 16) (u : Fin 32) (s : State) =>
    isHead s = false ∨ resyncing s f u = false) (0) (2) (feedHead [] id) := by
  decide +kernel

theorem witness_FabricCarriesCoachesAndLosesThem_1a :
    (fun (rq : Fin 24) (k : CoachKind) (a : Nat) (_ : Word) (s : State) =>
    mayTake s rq = true ∧ fabInjected s rq = false ∧ targetDown s (coachTarget k a) = false) (6) (.read) (0xE0004) (0) (fabSt .read 0xE0000 0 []) := by
  decide +kernel

theorem witness_FabricCarriesCoachesAndLosesThem_2a :
    (fun (rq : Fin 24) (k : CoachKind) (a : Nat) (_ : Word) (s : State) =>
    mayTake s rq = true ∧ fabInjected s rq = false ∧ targetDown s (coachTarget k a) = true) (6) (.read) (0xE0004) (0) (fabSt .read 0xE0000 0 [(FAB.TGT.DOWN 0x51, 1)]) := by
  decide +kernel

theorem witness_FabricCarriesCoachesAndLosesThem_3a :
    (fun (rq : Fin 24) (_ : CoachKind) (_ : Nat) (_ : Word) (s : State) =>
    mayTake s rq = true ∧ fabInjected s rq = true ∧ Calm s 0x275 ∧ Reports s 0x275) (6) (.read) (0xE0004) (0) ((let s := fabSt .read 0xE0000 0 []; { s with flt := { s.flt with fabInj := [6] } })) := by
  decide +kernel

theorem witness_FabricCarriesCoachesAndLosesThem_4a :
    (fun (rq : Fin 24) (_ : CoachKind) (_ : Nat) (_ : Word) (s : State) =>
    mayTake s rq = false) (9) (.read) (0xE0004) (0) ((let s := fabSt .read 0xE0000 0 []; { s with fab := { s.fab with coaches := (List.range 4).map fun n => ⟨n, 9, .read, 0, 0, 0x7F, 0⟩ } })) := by
  decide +kernel

theorem witness_FabricCarriesCoachesAndLosesThem_5a :
    (fun (p : Fin 32) (c : Coach) (s : State) =>
    oldestAt s p c ∧ c.kind = .read ∧ storesOnly c.addr = true ∧ (fieldsAt c.addr).all (fun f => f.acc != .rc) = true) (24) (⟨4, 6, .read, 0xE0000, 0, 0x51, 24⟩) (fabSt .read 0xE0000 0 []) := by
  decide +kernel

theorem witness_FabricCarriesCoachesAndLosesThem_6a :
    (fun (p : Fin 32) (c : Coach) (s : State) =>
    oldestAt s p c ∧ c.kind ≠ .service ∧ specAt c.addr = none) (24) (⟨4, 6, .read, 0xEFFFC, 0, 0x51, 24⟩) (fabSt .read 0xEFFFC 0 []) := by
  decide +kernel

theorem witness_FabricCarriesCoachesAndLosesThem_6b :
    (fun (p : Fin 32) (c : Coach) (s : State) =>
    oldestAt s p c ∧ c.kind ≠ .service ∧ specAt c.addr = none) (24) (⟨4, 6, .write, 0xEFFFC, 5, 0x51, 24⟩) (fabSt .write 0xEFFFC 5 []) := by
  decide +kernel

theorem witness_FabricCarriesCoachesAndLosesThem_7a :
    (fun (p : Fin 32) (c : Coach) (s : State) =>
    oldestAt s p c ∧ c.kind = .write ∧ storesOnly c.addr = true ∧ c.data < 2 ^ 32) (24) (⟨4, 6, .write, 0xE0000, 0x1234, 0x51, 24⟩) (fabSt .write 0xE0000 0x1234 []) := by
  decide +kernel

theorem witness_FabricCarriesCoachesAndLosesThem_7b :
    (fun (p : Fin 32) (c : Coach) (s : State) =>
    oldestAt s p c ∧ c.kind = .write ∧ storesOnly c.addr = true ∧ c.data < 2 ^ 32) (9) (⟨4, 6, .write, 0x30300, 0x81234567, 0x7F, 9⟩) (fabSt .write 0x30300 0x81234567 []) := by
  decide +kernel

theorem witness_FabricCarriesCoachesAndLosesThem_8a :
    (fun (p : Fin 32) (c : Coach) (s : State) =>
    oldestAt s p c ∧ c.kind = .service) (31) (⟨4, 6, .service, 0, 0, 0x55, 31⟩) (fabSt .service 0 0 []) := by
  decide +kernel

theorem witness_FabricCarriesCoachesAndLosesThem_9a :
    (fun (p : Fin 32) (s : State) =>
    ∀ x ∈ s.fab.coaches, x.port ≠ p.val) (8) (fabSt .read 0xE0000 0 []) := by
  decide +kernel

theorem witness_FabricCarriesCoachesAndLosesThem_10a :
    (fun (tag : Fin 1024) (c : Coach) (s : State) =>
    (s.fab.coaches.find? fun x => x.tag == tag.val) = some c ∧ c.kind ≠ .service ∧ c.tgt < 0x5D ∧ s.fab.stalled = [] ∧
    Calm s 0x277 ∧ Reports s 0x277 ∧ CalmIn s 0x25E 2) (4) (⟨4, 6, .read, 0xE0000, 0, 0x51, 24⟩) (fabSt .read 0xE0000 0 []) := by
  decide +kernel

theorem witness_FabricCarriesCoachesAndLosesThem_11a :
    (fun (tag : Fin 1024) (c : Coach) (s : State) =>
    (s.fab.coaches.find? fun x => x.tag == tag.val) = some c ∧ c.kind ≠ .service ∧ c.tgt = 0x7F ∧ s.fab.stalled = [] ∧
    Calm s 0x277 ∧ Reports s 0x277 ∧ requesterGone s c.rq = false) (4) (⟨4, 6, .read, 0xA0000, 0, 0x7F, 20⟩) (fabSt .read 0xA0000 0 []) := by
  decide +kernel

theorem witness_FabricCarriesCoachesAndLosesThem_12a :
    (fun (tag : Fin 1024) (s : State) =>
    ∀ x ∈ s.fab.coaches, x.tag = tag.val → x.kind = .service) (4) (fabSt .service 0 0 []) := by
  decide +kernel

theorem witness_FabricCarriesCoachesAndLosesThem_13a :
    (fun (k : Fin 128) (s : State) =>
    (∀ x ∈ s.fab.coaches, x.tgt ≠ k.val) ∧ ¬(0x55 ≤ k.val ∧ k.val ≤ 0x58 ∧ halted s (k.val - 0x55) = true)) (0x52) (fabSt .read 0xE0000 0 [(FAB.TGT.DOWN 0x52, 1)]) := by
  decide +kernel

theorem witness_FabricCarriesCoachesAndLosesThem_14a :
    (fun (k : Fin 128) (s : State) =>
    (∃ x ∈ s.fab.coaches, x.tgt = k.val) ∨ (0x55 ≤ k.val ∧ k.val ≤ 0x58 ∧ halted s (k.val - 0x55) = true)) (0x51) (fabSt .read 0xE0000 0 [(FAB.TGT.DOWN 0x51, 1)]) := by
  decide +kernel

theorem witness_FabricCarriesCoachesAndLosesThem_14b :
    (fun (k : Fin 128) (s : State) =>
    (∃ x ∈ s.fab.coaches, x.tgt = k.val) ∨ (0x55 ≤ k.val ∧ k.val ≤ 0x58 ∧ halted s (k.val - 0x55) = true)) (0x56) (fabSt .read 0xE0000 0 [(FAB.TGT.DOWN 0x56, 1), (ENG.STAT.STATE 1, 2)]) := by
  decide +kernel

theorem witness_ConvertersAndComparators_1a :
    (fun (c : Fin 4) (s : State) =>
    (fget s ADC.CTL.EN).testBit c = false ∧ fget s ADC.CTL.EN < 16) (1) (adcSt' 0 {} []) := by
  decide +kernel

theorem witness_ConvertersAndComparators_2a :
    (fun (c : Fin 4) (s : State) =>
    (fget s ADC.CTL.EN).testBit c = true ∧ s.fab.stalled = [] ∧ (∀ x ∈ s.fab.coaches, x.tgt ≠ 0x4C + c.val)) (0) (adcSt' 2 { sums := [(5, false)] } [(ADC.SEQ.STAT.RUN 1, 2)]) := by
  decide +kernel

theorem witness_ConvertersAndComparators_3a :
    (fun (c : Fin 4) (s : State) =>
    c.val ∈ s.adc.cal ∧ (∀ q ∈ adcSeqs c, adcSt s q = 0) ∧ CalmIn s 0x23E 4 ∧ severity s 0x261 ≠ 3 ∧ stage s ≠ 3) (0) ({ adcSt' 0 {} [(ADC.STAT.C0, 0), (ADC.SEQ.CFG.AUTO 1, 1)] with adc := { cal := [0] } }) := by
  decide +kernel

theorem witness_ConvertersAndComparators_4a :
    (fun (_ : BitVec 16) (s : State) =>
    CalmIn s 0x23E 4 ∧ severity s 0x261 ≠ 3 ∧ stage s ≠ 3) (7) (adcSt' 0 {} [(ADC.SEQ.CFG.EN 0, 1), (ADC.SEQ.STAT.STATE 0, 1)]) := by
  decide +kernel

theorem witness_ConvertersAndComparators_4b :
    (fun (_ : BitVec 16) (s : State) =>
    CalmIn s 0x23E 4 ∧ severity s 0x261 ≠ 3 ∧ stage s ≠ 3) (1) (adcSt' 2 {} []) := by
  decide +kernel

theorem witness_ConvertersAndComparators_5a :
    (fun (n : Fin 4) (s : State) =>
    fget s (ADC.TRG.CFG.SRC n) = 1 ∧ CalmIn s 0x23E 4 ∧ severity s 0x261 ≠ 3 ∧ stage s ≠ 3) (1) (adcSt' 0 {} [(ADC.TRG.CFG.SRC 1, 1), (ADC.TRG.PARAM.VAL 1, 10000), (ADC.SEQ.CFG.TSRC 1, 2)]) := by
  decide +kernel

theorem witness_ConvertersAndComparators_6a :
    (fun (n : Fin 4) (s : State) =>
    2 ≤ fget s (ADC.TRG.CFG.SRC n) ∧ fget s (ADC.TRG.CFG.SRC n) ≤ 4 ∧ CalmIn s 0x23E 4 ∧ severity s 0x261 ≠ 3 ∧ stage s ≠ 3) (1) ({ adcSt' 0 {} [(ADC.TRG.CFG.SRC 1, 4), (ADC.TRG.CFG.DIV 1, 2), (ADC.SEQ.CFG.TSRC 1, 2)] with adc := { trg := [(1, 5)] } }) := by
  decide +kernel

theorem witness_ConvertersAndComparators_6b :
    (fun (n : Fin 4) (s : State) =>
    2 ≤ fget s (ADC.TRG.CFG.SRC n) ∧ fget s (ADC.TRG.CFG.SRC n) ≤ 4 ∧ CalmIn s 0x23E 4 ∧ severity s 0x261 ≠ 3 ∧ stage s ≠ 3) (1) (adcSt' 0 {} [(ADC.TRG.CFG.SRC 1, 2)]) := by
  decide +kernel

theorem witness_ConvertersAndComparators_7a :
    (fun (c : Fin 4) (_ : Int) (q : Nat) (s : State) =>
    adcRunning s c = some q ∧ (adcX s q).stop = false ∧ fget s (ADC.SEQ.STAT.ENTRY q) + 1 < min 16 (fget s (ADC.SEQ.CFG.LEN q)) ∧
    (∀ p < q, 4 * c.val ≤ p → adcSt s p ≠ 1)) (0) (40000) (1) (adcSt' 2 { sums := [(5, false)] } [(ADC.SEQ.STAT.ENTRY 1, 1)]) := by
  decide +kernel

theorem witness_ConvertersAndComparators_8a :
    (fun (c : Fin 4) (_ : Int) (q : Nat) (s : State) =>
    adcRunning s c = some q ∧ (adcX s q).stop = false ∧ fget s (ADC.SEQ.STAT.ENTRY q) + 1 = fget s (ADC.SEQ.CFG.LEN q) ∧
    fon s (ADC.SEQ.CFG.NEXT_EN q) = false ∧ (∀ p < 16, p ≠ q → adcSt s p = 0) ∧ fget s (ADC.SEQ.CFG.AVG q) ≤ 8) (0) (7) (1) (adcSt' 2 { sums := [(5, false), (4, false)] } [(ADC.SEQ.STAT.ENTRY 1, 2)]) := by
  decide +kernel

theorem witness_ConvertersAndComparators_8b :
    (fun (c : Fin 4) (_ : Int) (q : Nat) (s : State) =>
    adcRunning s c = some q ∧ (adcX s q).stop = false ∧ fget s (ADC.SEQ.STAT.ENTRY q) + 1 = fget s (ADC.SEQ.CFG.LEN q) ∧
    fon s (ADC.SEQ.CFG.NEXT_EN q) = false ∧ (∀ p < 16, p ≠ q → adcSt s p = 0) ∧ fget s (ADC.SEQ.CFG.AVG q) ≤ 8) (0) (7) (1) (adcSt' 2 {} [(ADC.SEQ.STAT.ENTRY 1, 2), (ADC.SEQ.CFG.AVG 1, 2)]) := by
  decide +kernel

theorem witness_ConvertersAndComparators_9a :
    (fun (c : Fin 4) (_ : Int) (q : Nat) (p : Nat) (s : State) =>
    adcRunning s c = some q ∧ (adcX s q).stop = false ∧ fget s (ADC.SEQ.STAT.ENTRY q) + 1 < min 16 (fget s (ADC.SEQ.CFG.LEN q)) ∧
    p < q ∧ 4 * c.val ≤ p ∧ adcSt s p = 1 ∧ (adcX s p).chained = false ∧ (∀ r < p, adcSt s r = 0) ∧ adcIsReady s c = true) (0) (7) (1) (0) (adcSt' 2 {} [(ADC.SEQ.STAT.STATE 0, 1)]) := by
  decide +kernel

theorem witness_ConvertersAndComparators_10a :
    (fun (c : Fin 4) (_ : Int) (q : Nat) (s : State) =>
    adcRunning s c = some q ∧ (adcX s q).stop = true ∧ (∀ p < 16, p ≠ q → adcSt s p = 0)) (0) (7) (1) (adcSt' 2 { stop := true } [(ADC.SEQ.CFG.EN 1, 0)]) := by
  decide +kernel

theorem witness_ConvertersAndComparators_11a :
    (fun (c : Fin 4) (q : Fin 4) (l : List (Int × Bool)) (s : State) =>
    (adcX s (4 * c + q)).ready = some l ∧ l.length ≤ 16) (0) (1) ([(27536, false), (-5, true)]) (adcSt' 0 { ready := some [(27536, false), (-5, true)] } [(ADC.SEQ.CFG.SHIFT 1, 1)]) := by
  decide +kernel

theorem witness_ConvertersAndComparators_12a :
    (fun (c : Fin 4) (q : Fin 4) (_ : Word) (s : State) =>
    targetDown s (0x4C + c) = false ∧ fon s (ADC.SEQ.CFG.EN (4 * c + q)) = true) (0) (1) (0x80000003) (adcSt' 2 {} []) := by
  decide +kernel

theorem witness_ConvertersAndComparators_12b :
    (fun (c : Fin 4) (q : Fin 4) (_ : Word) (s : State) =>
    targetDown s (0x4C + c) = false ∧ fon s (ADC.SEQ.CFG.EN (4 * c + q)) = true) (0) (1) (5) (adcSt' 2 {} []) := by
  decide +kernel

theorem witness_ConvertersAndComparators_12c :
    (fun (c : Fin 4) (q : Fin 4) (_ : Word) (s : State) =>
    targetDown s (0x4C + c) = false ∧ fon s (ADC.SEQ.CFG.EN (4 * c + q)) = true) (0) (1) (5) (adcSt' 1 {} []) := by
  decide +kernel

theorem witness_ConvertersAndComparators_13a :
    (fun (c : Fin 4) (q : Fin 4) (w : Word) (s : State) =>
    targetDown s (0x4C + c) = false ∧ fon s (ADC.SEQ.CFG.EN (4 * c + q)) = false ∧ adcCfgOk w.toNat = true) (0) (0) (0x8C020202) (adcSt' 0 {} []) := by
  decide +kernel

theorem witness_ConvertersAndComparators_14a :
    (fun (k : Fin 16) (v : Bool) (s : State) =>
    cmpMode s k = 1 ∧ stage s ≠ 4 ∧ fget s (CMP.GEN.STAT.OUT k) = b2n (!v) ∧ CalmIn s 0x1E0 16 ∧ severity s 0x261 ≠ 3 ∧ stage s ≠ 3) (2) (true) (cmpSt 1 []) := by
  decide +kernel

theorem witness_ConvertersAndComparators_14b :
    (fun (k : Fin 16) (v : Bool) (s : State) =>
    cmpMode s k = 1 ∧ stage s ≠ 4 ∧ fget s (CMP.GEN.STAT.OUT k) = b2n (!v) ∧ CalmIn s 0x1E0 16 ∧ severity s 0x261 ≠ 3 ∧ stage s ≠ 3) (2) (true) (cmpSt 1 [(CMP.GEN.CFG.EDGE 2, 1)]) := by
  decide +kernel

theorem witness_ConvertersAndComparators_15a :
    (fun (_ : Nat) (_ : BitVec 16) (k : Fin 16) (s : State) =>
    frameRuns s 1 = true ∧ stage s ≠ 4 ∧ cmpMode s k = 2 ∧ fget s (CMP.GEN.CFG.MODE k) = 2 ∧ k.val ∈ s.cmp.ref ∧ CalmIn s 0x1E0 16 ∧
    CalmIn s 0x246 5 ∧ severity s 0x261 ≠ 3 ∧ stage s ≠ 3 ∧ fget s (CMP.GEN.STAT.OUT k) ≤ 1) (500) (0xFFFF) (2) (cmpSt 2 []) := by
  decide +kernel

theorem witness_ConvertersAndComparators_15b :
    (fun (_ : Nat) (_ : BitVec 16) (k : Fin 16) (s : State) =>
    frameRuns s 1 = true ∧ stage s ≠ 4 ∧ cmpMode s k = 2 ∧ fget s (CMP.GEN.CFG.MODE k) = 2 ∧ k.val ∈ s.cmp.ref ∧ CalmIn s 0x1E0 16 ∧
    CalmIn s 0x246 5 ∧ severity s 0x261 ≠ 3 ∧ stage s ≠ 3 ∧ fget s (CMP.GEN.STAT.OUT k) ≤ 1) (500) (0) (2) (cmpSt 2 [(CMP.GEN.STAT.LATCH 2, 1), (CMP.GEN.CFG.LCLR 2, 1)]) := by
  decide +kernel

theorem witness_ConvertersAndComparators_16a :
    (fun (rq : Fin 24) (_ : Fin 16) (s : State) =>
    restUp s rq) (9) (2) (cmpSt 1 [(CMP.GEN.STAT.CAPV 2, 1), (CMP.GEN.CAP_LO.CT 2, 77), (CMP.GEN.CAP_HI.CT 2, 3)]) := by
  decide +kernel

theorem witness_ConvertersAndComparators_17a :
    (fun (cmp : Fin 128) (_ : Bool) (s : State) =>
    cmpChecks s = true ∧ cmpInUse s cmp = true ∧ (cmp.val < 112 ∨ cmpMode s (cmp.val - 112) ≠ 2) ∧ CalmIn s 0x278 5 ∧ severity s 0x261 ≠ 3 ∧ stage s ≠ 3) (3) (true) (cmpSt 1 []) := by
  decide +kernel

theorem witness_ConvertersAndComparators_17b :
    (fun (cmp : Fin 128) (_ : Bool) (s : State) =>
    cmpChecks s = true ∧ cmpInUse s cmp = true ∧ (cmp.val < 112 ∨ cmpMode s (cmp.val - 112) ≠ 2) ∧ CalmIn s 0x278 5 ∧ severity s 0x261 ≠ 3 ∧ stage s ≠ 3) (3) (true) ((let s := cmpSt 1 []; { s with cmp := { s.cmp with miss := [3] } })) := by
  decide +kernel

theorem witness_ConvertersAndComparators_17c :
    (fun (cmp : Fin 128) (_ : Bool) (s : State) =>
    cmpChecks s = true ∧ cmpInUse s cmp = true ∧ (cmp.val < 112 ∨ cmpMode s (cmp.val - 112) ≠ 2) ∧ CalmIn s 0x278 5 ∧ severity s 0x261 ≠ 3 ∧ stage s ≠ 3) (114) (false) (cmpSt 1 []) := by
  decide +kernel

theorem witness_ConvertersAndComparators_17d :
    (fun (cmp : Fin 128) (_ : Bool) (s : State) =>
    cmpChecks s = true ∧ cmpInUse s cmp = true ∧ (cmp.val < 112 ∨ cmpMode s (cmp.val - 112) ≠ 2) ∧ CalmIn s 0x278 5 ∧ severity s 0x261 ≠ 3 ∧ stage s ≠ 3) (3) (true) ((let s := cmpSt 1 []; { s with adc := { s.adc with last := [(3, some (8192 * 100000, 0))] } })) := by
  decide +kernel

theorem witness_ConvertersAndComparators_17e :
    (fun (cmp : Fin 128) (_ : Bool) (s : State) =>
    cmpChecks s = true ∧ cmpInUse s cmp = true ∧ (cmp.val < 112 ∨ cmpMode s (cmp.val - 112) ≠ 2) ∧ CalmIn s 0x278 5 ∧ severity s 0x261 ≠ 3 ∧ stage s ≠ 3) (3) (true) ((let s := cmpSt 1 []; { s with adc := { s.adc with last := [(3, some (8192 * 50000, 0))] } })) := by
  decide +kernel

theorem witness_ConvertersAndComparators_18a :
    (fun (cmp : Fin 128) (_ : Bool) (s : State) =>
    cmpChecks s = true ∧ 112 ≤ cmp.val ∧ cmpMode s (cmp.val - 112) = 2 ∧ CalmIn s 0x278 5 ∧ severity s 0x261 ≠ 3 ∧ stage s ≠ 3) (114) (true) (cmpSt 2 []) := by
  decide +kernel

theorem witness_ConvertersAndComparators_19a :
    (fun (_ : Fin 128) (_ : Bool) (s : State) =>
    CalmIn s 0x278 5 ∧ severity s 0x261 ≠ 3 ∧ stage s ≠ 3) (4) (true) (cmpSt 1 []) := by
  decide +kernel

theorem witness_ConvertersAndComparators_19b :
    (fun (_ : Fin 128) (_ : Bool) (s : State) =>
    CalmIn s 0x278 5 ∧ severity s 0x261 ≠ 3 ∧ stage s ≠ 3) (3) (true) (cmpSt 1 []) := by
  decide +kernel

theorem witness_ConvertersAndComparators_19c :
    (fun (_ : Fin 128) (_ : Bool) (s : State) =>
    CalmIn s 0x278 5 ∧ severity s 0x261 ≠ 3 ∧ stage s ≠ 3) (70) (false) (cmpSt 1 []) := by
  decide +kernel

theorem witness_ConvertersAndComparators_20a :
    (fun (_ : Fin 176) (_ : Nat) (_ : Nat) (s : State) =>
    s.start.running = true ∧ adcIsReady s 3 = true ∧ fget s CMP.CHK.MODE ≤ 1 ∧ CalmIn s 0x278 5 ∧ severity s 0x261 ≠ 3 ∧ stage s ≠ 3) (170) (1000) (1031) (cmpSt 1 []) := by
  decide +kernel

theorem witness_ConvertersAndComparators_20b :
    (fun (_ : Fin 176) (_ : Nat) (_ : Nat) (s : State) =>
    s.start.running = true ∧ adcIsReady s 3 = true ∧ fget s CMP.CHK.MODE ≤ 1 ∧ CalmIn s 0x278 5 ∧ severity s 0x261 ≠ 3 ∧ stage s ≠ 3) (170) (1000) (1030) (cmpSt 1 []) := by
  decide +kernel

theorem witness_ConvertersAndComparators_20c :
    (fun (_ : Fin 176) (_ : Nat) (_ : Nat) (s : State) =>
    s.start.running = true ∧ adcIsReady s 3 = true ∧ fget s CMP.CHK.MODE ≤ 1 ∧ CalmIn s 0x278 5 ∧ severity s 0x261 ≠ 3 ∧ stage s ≠ 3) (170) (1000) (900) ((let s := cmpSt 1 []; { s with cmp := { s.cmp with dacMiss := [170] } })) := by
  decide +kernel

theorem witness_ConvertersAndComparators_21a :
    (fun (s : State) =>
    s.start.running = true ∧ fget s CMP.CHK.MODE ≤ 1 ∧ adcIsReady s 3 = false ∧ Calm s 0x27C ∧ Reports s 0x27C) (cmpSt 1 [(ADC.STAT.C3, 0)]) := by
  decide +kernel

theorem witness_ChargerCommands_1a :
    (fun (s : State) =>
    targetDown s 0x50 = false ∧ chgBars s 1 = true) (chgSt 5 []) := by
  decide +kernel

theorem witness_ChargerCommands_1b :
    (fun (s : State) =>
    targetDown s 0x50 = false ∧ chgBars s 1 = true) (chgSt 0 [(CHG.PACK.CELLS, 0), (CHG.CFG.HOLD_EN, 0)]) := by
  decide +kernel

theorem witness_ChargerCommands_2a :
    (fun (s : State) =>
    targetDown s 0x50 = false ∧ chgBars s 2 = true) (chgSt 0 []) := by
  decide +kernel

theorem witness_ChargerCommands_3a :
    (fun (s : State) =>
    targetDown s 0x50 = false ∧ chgBars s 4 = true) (chgSt 11 []) := by
  decide +kernel

theorem witness_ChargerCommands_4a :
    (fun (s : State) =>
    targetDown s 0x50 = false ∧ chgBars s 5 = true) (chgSt 5 [(CHG.CFG.EN, 0)]) := by
  decide +kernel

theorem witness_ChargerCommands_5a :
    (fun (s : State) =>
    targetDown s 0x50 = false ∧ chgBars s 6 = true) (chgSt 13 []) := by
  decide +kernel

theorem witness_ChargerCommands_6a :
    (fun (s : State) =>
    targetDown s 0x50 = false ∧ chgBars s 7 = true) (chgSt 5 []) := by
  decide +kernel

theorem witness_ChargerCommands_6b :
    (fun (s : State) =>
    targetDown s 0x50 = false ∧ chgBars s 7 = true) (chgSt 10 [(CHG.STAT.SUP_ARMED, 1)]) := by
  decide +kernel

theorem witness_ChargerCommands_7a :
    (fun (s : State) =>
    targetDown s 0x50 = false ∧ chgBars s 8 = true) (chgSt 5 []) := by
  decide +kernel

theorem witness_ChargerCommands_8a :
    (fun (s : State) =>
    targetDown s 0x50 = false ∧ chgBars s 9 = true) (chgSt 5 []) := by
  decide +kernel

theorem witness_ChargerCommands_9a :
    (fun (_ : Fin 4096) (s : State) =>
    targetDown s 0x50 = false ∧ chgBars s 3 = true) (100) (chgSt 13 []) := by
  decide +kernel

theorem witness_ChargerCommands_10a :
    (fun (s : State) =>
    chgUp s ∧ chgState s = 0 ∧ fget s CHG.PACK.CELLS ≠ 0) (chgSt 0 []) := by
  decide +kernel

theorem witness_ChargerCommands_11a :
    (fun (s : State) =>
    chgUp s ∧ chgState s = 0 ∧ fget s CHG.PACK.CELLS = 0 ∧ fon s CHG.CFG.HOLD_EN = true) (chgSt 0 [(CHG.PACK.CELLS, 0)]) := by
  decide +kernel

theorem witness_ChargerCommands_12a :
    (fun (s : State) =>
    chgUp s ∧ chgBars s 2 = false) (chgSt 5 [(CHG.STAT.REF, 1)]) := by
  decide +kernel

theorem witness_ChargerCommands_12b :
    (fun (s : State) =>
    chgUp s ∧ chgBars s 2 = false) (chgSt 12 [(CHG.STAT.SUP_ARMED, 1)]) := by
  decide +kernel

theorem witness_ChargerCommands_13a :
    (fun (_ : Fin 4096) (s : State) =>
    chgUp s ∧ chgBars s 3 = false ∧ 10 ≤ fget s CHG.ICHG.ICC_MA) (600) (withChg (chgSt 5 []) { it := 3000 }) := by
  decide +kernel

theorem witness_ChargerCommands_13b :
    (fun (_ : Fin 4096) (s : State) =>
    chgUp s ∧ chgBars s 3 = false ∧ 10 ≤ fget s CHG.ICHG.ICC_MA) (600) (chgSt 5 []) := by
  decide +kernel

theorem witness_ChargerCommands_13c :
    (fun (_ : Fin 4096) (s : State) =>
    chgUp s ∧ chgBars s 3 = false ∧ 10 ≤ fget s CHG.ICHG.ICC_MA) (2000) (chgSt 0 []) := by
  decide +kernel

theorem witness_ChargerCommands_14a :
    (fun (s : State) =>
    chgUp s ∧ chgBars s 4 = false ∧ chgState s ≠ 0 ∧ chgState s ≠ 8) (chgSt 9 []) := by
  decide +kernel

theorem witness_ChargerCommands_15a :
    (fun (s : State) =>
    chgUp s ∧ fget s CHG.PACK.CELLS ≠ 0 ∧ (chgState s = 0 ∨ chgState s = 8)) (chgSt 0 []) := by
  decide +kernel

theorem witness_ChargerCommands_15b :
    (fun (s : State) =>
    chgUp s ∧ fget s CHG.PACK.CELLS ≠ 0 ∧ (chgState s = 0 ∨ chgState s = 8)) (request (chgSt 8 []) (.charge 50 true) 7) := by
  decide +kernel

theorem witness_ChargerCommands_16a :
    (fun (s : State) =>
    chgUp s ∧ chgBars s 5 = false ∧ fon s CHG.STAT.SUP_ARMED = false ∧ (∀ r ∈ s.ldg.reqs, r.kind ≠ .support)) (chgSt 5 [(CHG.SUP2.SUP_W, 700)]) := by
  decide +kernel

theorem witness_ChargerCommands_17a :
    (fun (s : State) =>
    chgUp s ∧ chgBars s 6 = false) (chgSt 12 [(CHG.STAT.SUP_ARMED, 1)]) := by
  decide +kernel

theorem witness_ChargerCommands_17b :
    (fun (s : State) =>
    chgUp s ∧ chgBars s 6 = false) (request (chgSt 5 []) .support 7) := by
  decide +kernel

theorem witness_ChargerCommands_18a :
    (fun (s : State) =>
    chgUp s ∧ chgBars s 7 = false ∧ supBarred s = false) (chgSt 2 [(CHG.STAT.SUP_ARMED, 1)]) := by
  decide +kernel

theorem witness_ChargerCommands_19a :
    (fun (s : State) =>
    chgUp s ∧ chgState s = 0xC) (chgSt 12 [(CHG.STAT.SUP_ARMED, 1)]) := by
  decide +kernel

theorem witness_ChargerCommands_20a :
    (fun (s : State) =>
    chgUp s ∧ chgState s = 0xA) (chgSt 10 [(CHG.STAT.FCAUSE, 2)]) := by
  decide +kernel

theorem witness_ChargeCycleAndPowerPath_1a :
    (fun (e : ChgEvent) (s : State) =>
    halted s 3 = false ∧ ¬ phaseAsks s e) (.preReached) (chgSt 4 []) := by
  decide +kernel

theorem witness_ChargeCycleAndPowerPath_1b :
    (fun (e : ChgEvent) (s : State) =>
    halted s 3 = false ∧ ¬ phaseAsks s e) (.terminated) (chgSt 6 []) := by
  decide +kernel

theorem witness_ChargeCycleAndPowerPath_1c :
    (fun (e : ChgEvent) (s : State) =>
    halted s 3 = false ∧ ¬ phaseAsks s e) (.terminated) (chgSt 6 [(CHG.STAT.REF, 1), (GAUGE.REF.TOPOFF_REF, 30)]) := by
  decide +kernel

theorem witness_ChargeCycleAndPowerPath_1d :
    (fun (e : ChgEvent) (s : State) =>
    halted s 3 = false ∧ ¬ phaseAsks s e) (.tempOut) (chgSt 5 []) := by
  decide +kernel

theorem witness_ChargeCycleAndPowerPath_1e :
    (fun (e : ChgEvent) (s : State) =>
    halted s 3 = false ∧ ¬ phaseAsks s e) (.inputLost) (chgSt 5 [(TOP.SUPPLY.CHG_IN, 0)]) := by
  decide +kernel

theorem witness_ChargeCycleAndPowerPath_2a :
    (fun (e : ChgEvent) (s : State) =>
    halted s 3 = false ∧ phaseAsks s e) (.recharge) (chgSt 8 []) := by
  decide +kernel

theorem witness_ChargeCycleAndPowerPath_2b :
    (fun (e : ChgEvent) (s : State) =>
    halted s 3 = false ∧ phaseAsks s e) (.tempBack) (withChg (chgSt 9 []) { it := 500, tempOut := true }) := by
  decide +kernel

theorem witness_ChargeCycleAndPowerPath_2c :
    (fun (e : ChgEvent) (s : State) =>
    halted s 3 = false ∧ phaseAsks s e) (.inputBack) (chgSt 9 []) := by
  decide +kernel

theorem witness_ChargeCycleAndPowerPath_3a :
    (fun (s : State) =>
    halted s 3 = false ∧ chgState s = 3 ∧ chgAsksNothing s) (chgSt 3 []) := by
  decide +kernel

theorem witness_ChargeCycleAndPowerPath_4a :
    (fun (_ : Nat) (_ : Nat) (_ : Nat) (_ : Int) (s : State) =>
    halted s 3 = false ∧ 4 ≤ chgState s ∧ chgState s ≤ 6 ∧ Calm s 0x234 ∧ Reports s 0x234) (13000) (20000) (1400) (990) (chgSt 5 []) := by
  decide +kernel

theorem witness_ChargeCycleAndPowerPath_4b :
    (fun (_ : Nat) (_ : Nat) (_ : Nat) (_ : Int) (s : State) =>
    halted s 3 = false ∧ 4 ≤ chgState s ∧ chgState s ≤ 6 ∧ Calm s 0x234 ∧ Reports s 0x234) (13000) (8000) (1400) (100) (chgSt 5 []) := by
  decide +kernel

theorem witness_ChargeCycleAndPowerPath_4c :
    (fun (_ : Nat) (_ : Nat) (_ : Nat) (_ : Int) (s : State) =>
    halted s 3 = false ∧ 4 ≤ chgState s ∧ chgState s ≤ 6 ∧ Calm s 0x234 ∧ Reports s 0x234) (13000) (20000) (1400) (990) (withChg (chgSt 5 []) { timer := 28798, it := 10000 }) := by
  decide +kernel

theorem witness_ChargeCycleAndPowerPath_5a :
    (fun (_ : Nat) (_ : Nat) (_ : Nat) (_ : Int) (s : State) =>
    halted s 3 = false ∧ (chgState s < 4 ∨ 6 < chgState s)) (1) (2) (3) (4) (chgSt 7 []) := by
  decide +kernel

theorem witness_ChargeCycleAndPowerPath_6a :
    (fun (s : State) =>
    halted s 3 = false ∧ 4 ≤ chgState s ∧ chgState s ≤ 6 ∧ min 24 (max 1 (fget s CHG.TERM.TIMER_H)) * 7200 ≤ s.chg.timer ∧ Calm s 0x234 ∧ Reports s 0x234) (withChg (chgSt 6 []) { timer := 28800 }) := by
  decide +kernel

theorem witness_ChargeCycleAndPowerPath_7a :
    (fun (_ : Nat) (s : State) =>
    fget s CHG.PACK.CELLS ≠ 0 ∧ (chgCharging (chgState s) = true ∨ chgState s = 0xB)) (15121) (chgSt 5 []) := by
  decide +kernel

theorem witness_ChargeCycleAndPowerPath_7b :
    (fun (_ : Nat) (s : State) =>
    fget s CHG.PACK.CELLS ≠ 0 ∧ (chgCharging (chgState s) = true ∨ chgState s = 0xB)) (15120) (chgSt 5 []) := by
  decide +kernel

theorem witness_ChargeCycleAndPowerPath_8a :
    (fun (_ : Bool) (s : State) =>
    s.chg.ovp = true ∧ Calm s 0x235 ∧ Reports s 0x235) (true) (withChg (chgSt 5 []) { ovp := true }) := by
  decide +kernel

theorem witness_ChargeCycleAndPowerPath_8b :
    (fun (_ : Bool) (s : State) =>
    s.chg.ovp = true ∧ Calm s 0x235 ∧ Reports s 0x235) (false) (withChg (chgSt 5 []) { ovp := true, it := 10000 }) := by
  decide +kernel

theorem witness_ChargeCycleAndPowerPath_9a :
    (fun (s : State) =>
    chgState s ≠ 0 ∧ chgState s ≠ 0xD ∧ ¬ (chgState s = 0xA ∧ fget s CHG.STAT.FCAUSE = 2) ∧ fget s CHG.PACK.CELLS ≠ 0 ∧
    fon s CHG.STAT.PACK_GONE = false ∧ Calm s 0x236 ∧ Reports s 0x236) (chgSt 5 [(GAUGE.STAT.RUN, 1)]) := by
  decide +kernel

theorem witness_ChargeCycleAndPowerPath_9b :
    (fun (s : State) =>
    chgState s ≠ 0 ∧ chgState s ≠ 0xD ∧ ¬ (chgState s = 0xA ∧ fget s CHG.STAT.FCAUSE = 2) ∧ fget s CHG.PACK.CELLS ≠ 0 ∧
    fon s CHG.STAT.PACK_GONE = false ∧ Calm s 0x236 ∧ Reports s 0x236) (chgSt 12 [(CHG.STAT.SUP_ARMED, 1), (TOP.SUPPLY.CHG_IN, 0), (TOP.SUPPLY.VSOL, 1)]) := by
  decide +kernel

theorem witness_ChargeCycleAndPowerPath_10a :
    (fun (id : Fin 16) (_ : Nat) (s : State) =>
    (chgState s = 1 ∨ (chgState s = 0xB ∧ fon s CHG.STAT.PACK_GONE = true)) ∧ fget s CHG.PACK.CELLS ≠ 0 ∧ id.val ≠ 15 ∧ idFits s id) (7) (13300) (chgSt 11 [(CHG.STAT.PACK_GONE, 1)]) := by
  decide +kernel

theorem witness_ChargeCycleAndPowerPath_10b :
    (fun (id : Fin 16) (_ : Nat) (s : State) =>
    (chgState s = 1 ∨ (chgState s = 0xB ∧ fon s CHG.STAT.PACK_GONE = true)) ∧ fget s CHG.PACK.CELLS ≠ 0 ∧ id.val ≠ 15 ∧ idFits s id) (3) (13700) (chgSt 1 [(CHG.PACK.ID_EXP, 15)]) := by
  decide +kernel

theorem witness_ChargeCycleAndPowerPath_11a :
    (fun (id : Fin 16) (_ : Nat) (s : State) =>
    (chgState s = 1 ∨ (chgState s = 0xB ∧ fon s CHG.STAT.PACK_GONE = true)) ∧ fget s CHG.PACK.CELLS ≠ 0 ∧ id.val ≠ 15 ∧ ¬ idFits s id ∧ Calm s 0x237 ∧ Reports s 0x237) (6) (13300) (chgSt 11 [(CHG.STAT.PACK_GONE, 1)]) := by
  decide +kernel

theorem witness_ChargeCycleAndPowerPath_12a :
    (fun (s : State) =>
    chgState s = 0xB ∧ chgPick s = 0 ∧ Calm s 0x238 ∧ Reports s 0x238) (chgSt 11 [(TOP.SUPPLY.CHG_IN, 0)]) := by
  decide +kernel

theorem witness_ChargeCycleAndPowerPath_13a :
    (fun (s : State) =>
    chgBars s 7 = false ∧ supBarred s = false) (request (chgSt 2 [(CHG.STAT.SUP_ARMED, 1)]) (.charge 10000 true) 160000) := by
  decide +kernel

theorem witness_ChargeCycleAndPowerPath_14a :
    (fun (s : State) =>
    chgState s = 0xC ∧ stage s ≠ 0 ∧ s.pwr.storage = false ∧ Calm s 0x239 ∧ Reports s 0x239) (chgSt 12 [(CHG.STAT.SUP_ARMED, 1)]) := by
  decide +kernel

theorem witness_ChargeCycleAndPowerPath_15a :
    (fun (s : State) =>
    chgState s = 0xC) (chgSt 12 [(CHG.STAT.SUP_ARMED, 1)]) := by
  decide +kernel

theorem witness_ChargeCycleAndPowerPath_16a :
    (fun (_ : Nat) (s : State) =>
    halted s 3 = false ∧ fget s CHG.STAT.INSEL = 2 ∧ s.chg.sweeping = false) (100) (withChg (chgSt 5 [(CHG.STAT.INSEL, 2), (CHG.MPPT.STEP_MV, 10)]) { voc := 40500, vref := 104687000, pPrev := 200 }) := by
  decide +kernel

theorem witness_ChargeCycleAndPowerPath_17a :
    (fun (s : State) =>
    halted s 3 = false ∧ fget s CHG.STAT.INSEL = 2) (chgSt 5 [(CHG.STAT.INSEL, 2)]) := by
  decide +kernel

theorem witness_ChargeCycleAndPowerPath_18a :
    (fun (_ : Nat) (k : Nat) (l : List Nat) (s : State) =>
    halted s 3 = false ∧ s.chg.sweeping = true ∧ l.length = 32 ∧ k < 32 ∧ (∀ j < 32, j < k → l.getD j 0 < l.getD k 0) ∧ (∀ j < 32, l.getD j 0 ≤ l.getD k 0)) (40500) (8) ((List.range 32).map fun k => if k = 8 then 180 else 100) (withChg (chgSt 5 [(CHG.STAT.INSEL, 2), (CHG.CFG.SEL, 2), (TOP.SUPPLY.VSOL, 1)]) { sweeping := true }) := by
  decide +kernel

theorem witness_ChargeCycleAndPowerPath_19a :
    (fun (s : State) =>
    s.start.dawn = true ∧ fon s CHG.STAT.PACK_GONE = false ∧ s.pwr.storage = false) (chgSt 5 []) := by
  decide +kernel

theorem witness_ChargeCycleAndPowerPath_20a :
    (fun (s : State) =>
    s.start.dawn = false ∨ fon s CHG.STAT.PACK_GONE = true ∨ s.pwr.storage = true) (chgSt 5 [(CHG.STAT.PACK_GONE, 1)]) := by
  decide +kernel

theorem witness_ChargeCycleAndPowerPath_21a :
    (fun (rq : Fin 24) (key : BitVec 16) (s : State) =>
    fabInjected s rq = false ∧ targetDown s 0x50 = false ∧ key.toNat ≠ 0x5C3A) (9) (0x5C3B) (chgSt 5 [(TOP.SUPPLY.CHG_IN, 0)]) := by
  decide +kernel

theorem witness_ChargeCycleAndPowerPath_22a :
    (fun (rq : Fin 24) (s : State) =>
    fabInjected s rq = false ∧ targetDown s 0x50 = false ∧
    (stage s ≠ 2 ∨ fon s TOP.SUPPLY.CHG_IN = true ∨ fon s TOP.SUPPLY.VIN48 = true ∨ fon s TOP.SUPPLY.VIN12 = true)) (9) (chgSt 5 []) := by
  decide +kernel

theorem witness_ChargeCycleAndPowerPath_23a :
    (fun (rq : Fin 24) (s : State) =>
    fabInjected s rq = false ∧ targetDown s 0x50 = false ∧ stage s = 2 ∧ s.fab.stalled = [] ∧ (∀ x ∈ s.fab.coaches, x.tgt ≠ 0x50) ∧
    fon s TOP.SUPPLY.CHG_IN = false ∧ fon s TOP.SUPPLY.VIN48 = false ∧ fon s TOP.SUPPLY.VIN12 = false) (9) (chgSt 5 [(TOP.SUPPLY.CHG_IN, 0), (TOP.SUPPLY.VIN48, 0), (TOP.SUPPLY.VIN12, 0), (CHN.CFG.PRIV_ACT 5, 1), (CHN.STAT.STATE 5, 5)]) := by
  decide +kernel

theorem witness_GaugeFollowsTheCount_1a :
    (fun (_ : Int) (s : State) =>
    s.start.applied = true ∧ fon s GAUGE.CFG.EN = true ∧ fget s CHG.PACK.CELLS ≠ 0 ∧ s.pwr.storage = false) (-70000000) ({ gauSt 5 { gauX with acc := 5 } [] with start := { (gauSt 5 gauX []).start with applied := true } }) := by
  decide +kernel

theorem witness_GaugeFollowsTheCount_2a :
    (fun (_ : Int) (s : State) =>
    s.start.applied = false ∨ fon s GAUGE.CFG.EN = false ∨ fget s CHG.PACK.CELLS = 0 ∨ s.pwr.storage = true) (7) (gauSt 5 gauX [(GAUGE.CFG.EN, 0)]) := by
  decide +kernel

theorem witness_GaugeFollowsTheCount_3a :
    (fun (w : Nat) (_ : Nat) (_ : Nat) (_ : Nat) (s : State) =>
    gaugeTurn s ∧ fon s GAUGE.STAT.FROZEN = false ∧ noPoint s ∧ Reports s 0x23B ∧ (∀ b < 2, ¬ refDue s (gaugeUnc s (gaugeDt s) (b == 1)) (localNs (frameBegin s 4 w).1))) (100) (900000) (13120) (12000) (gauSt 5 gauX []) := by
  decide +kernel

theorem witness_GaugeFollowsTheCount_3b :
    (fun (w : Nat) (_ : Nat) (_ : Nat) (_ : Nat) (s : State) =>
    gaugeTurn s ∧ fon s GAUGE.STAT.FROZEN = false ∧ noPoint s ∧ Reports s 0x23B ∧ (∀ b < 2, ¬ refDue s (gaugeUnc s (gaugeDt s) (b == 1)) (localNs (frameBegin s 4 w).1))) (100) (900000) (13120) (12000) (gauSt 5 { gauX with acc := -3600000, dis := 72000000000 - 5 } []) := by
  decide +kernel

theorem witness_GaugeFollowsTheCount_3c :
    (fun (w : Nat) (_ : Nat) (_ : Nat) (_ : Nat) (s : State) =>
    gaugeTurn s ∧ fon s GAUGE.STAT.FROZEN = false ∧ noPoint s ∧ Reports s 0x23B ∧ (∀ b < 2, ¬ refDue s (gaugeUnc s (gaugeDt s) (b == 1)) (localNs (frameBegin s 4 w).1))) (100) (900000) (13120) (12000) (gauSt 5 gauX [(GAUGE.UNC_LIM.UNC_REQ, 100), (GAUGE.CFG.REQ_EN, 0)]) := by
  decide +kernel

theorem witness_GaugeFollowsTheCount_4a :
    (fun (_ : Nat) (_ : Nat) (_ : Nat) (_ : Nat) (s : State) =>
    gaugeTurn s ∧ fon s GAUGE.STAT.FROZEN = false ∧ (s.gau.full = true ∨ s.gau.term = true) ∧ s.gau.point = none) (100) (900000) (13120) (12000) (gauSt 8 { gauX with full := true, term := true } [(GAUGE.STAT.REF_REQ, 1)]) := by
  decide +kernel

theorem witness_GaugeFollowsTheCount_4b :
    (fun (_ : Nat) (_ : Nat) (_ : Nat) (_ : Nat) (s : State) =>
    gaugeTurn s ∧ fon s GAUGE.STAT.FROZEN = false ∧ (s.gau.full = true ∨ s.gau.term = true) ∧ s.gau.point = none) (100) (900000) (13120) (12000) (gauSt 7 { gauX with term := true } []) := by
  decide +kernel

theorem witness_GaugeFollowsTheCount_5a :
    (fun (_ : Nat) (_ : Nat) (_ : Nat) (_ : Nat) (soc0 : Nat) (unc0 : Nat) (acc0 : Int) (s : State) =>
    gaugeTurn s ∧ fon s GAUGE.STAT.FROZEN = false ∧ s.gau.full = true ∧ s.gau.point = some (soc0, unc0, acc0)) (100) (900000) (13120) (12000) (0x41A00000) (0x3F800000) (-56448000000) (gauSt 8 { gauX with acc := 0, full := true, point := some (0x41A00000, 0x3F800000, -56448000000) } [(GAUGE.CFG.LEARN_EN, 1), (GAUGE.LEARN.DSOC, 40), (GAUGE.LEARN.QSTEP, 5)]) := by
  decide +kernel

theorem witness_GaugeFollowsTheCount_5b :
    (fun (_ : Nat) (_ : Nat) (_ : Nat) (_ : Nat) (soc0 : Nat) (unc0 : Nat) (acc0 : Int) (s : State) =>
    gaugeTurn s ∧ fon s GAUGE.STAT.FROZEN = false ∧ s.gau.full = true ∧ s.gau.point = some (soc0, unc0, acc0)) (100) (900000) (13120) (12000) (0x42C80000) (0x3F800000) (-5) (gauSt 8 { gauX with full := true, point := some (0x42C80000, 0x3F800000, -5) } [(GAUGE.CFG.LEARN_EN, 1)]) := by
  decide +kernel

theorem witness_GaugeFollowsTheCount_6a :
    (fun (_ : Nat) (_ : Nat) (v : Nat) (_ : Nat) (soc : Nat) (unc : Nat) (s : State) =>
    gaugeTurn s ∧ fon s GAUGE.STAT.FROZEN = false ∧ s.gau.term = false ∧ s.gau.full = false ∧ s.gau.restNow = true ∧ s.gau.point = none ∧ ocvPoint s v = some (soc, unc)) (100) (900000) (13120) (12000) (0x428C0000) (0x3FA00000) (gauSt 5 { gauX with restNow := true } []) := by
  decide +kernel

theorem witness_GaugeFollowsTheCount_7a :
    (fun (w : Nat) (_ : Nat) (_ : Nat) (_ : Nat) (s : State) =>
    gaugeTurn s ∧ fon s GAUGE.STAT.FROZEN = false ∧ noPoint s ∧ (∀ b < 2, refDue s (gaugeUnc s (gaugeDt s) (b == 1)) (localNs (frameBegin s 4 w).1)) ∧ noReference s) (100) (900000) (13120) (12000) (gauSt 8 gauX [(GAUGE.UNC_LIM.UNC_REQ, 100), (GAUGE.CFG.REQ_EN, 1)]) := by
  decide +kernel

theorem witness_GaugeFollowsTheCount_7b :
    (fun (w : Nat) (_ : Nat) (_ : Nat) (_ : Nat) (s : State) =>
    gaugeTurn s ∧ fon s GAUGE.STAT.FROZEN = false ∧ noPoint s ∧ (∀ b < 2, refDue s (gaugeUnc s (gaugeDt s) (b == 1)) (localNs (frameBegin s 4 w).1)) ∧ noReference s) (100) (900000) (13120) (12000) (gauSt 8 gauX [(GAUGE.UNC_LIM.UNC_REQ, 100), (GAUGE.CFG.REQ_EN, 1), (ITIN.W3.EN 5, 1)]) := by
  decide +kernel

theorem witness_GaugeFollowsTheCount_8a :
    (fun (_ : Nat) (_ : Nat) (_ : Nat) (_ : Nat) (s : State) =>
    gaugeTurn s ∧ fon s GAUGE.STAT.FROZEN = true) (100) (900000) (13120) (12000) (gauSt 11 { gauX with term := true } [(GAUGE.STAT.FROZEN, 1), (GAUGE.REC_STAT.PENDING, 1)]) := by
  decide +kernel

theorem witness_GaugeFollowsTheCount_9a :
    (fun (_ : Nat) (_ : Nat) (_ : Nat) (_ : Nat) (s : State) =>
    gaugeTurn s ∧ fon s GAUGE.STAT.FROZEN = false ∧ fon s GAUGE.REC_STAT.PENDING = true) (100) (900000) (13120) (12000) (gauSt 5 gauX [(GAUGE.REC_STAT.PENDING, 1), (GAUGE.REC.SEQ, 4), (GAUGE.REC_STAT.SLOT, 0)]) := by
  decide +kernel

theorem witness_GaugeFollowsTheCount_9b :
    (fun (_ : Nat) (_ : Nat) (_ : Nat) (_ : Nat) (s : State) =>
    gaugeTurn s ∧ fon s GAUGE.STAT.FROZEN = false ∧ fon s GAUGE.REC_STAT.PENDING = true) (100) (900000) (13120) (8000) (gauSt 5 gauX [(GAUGE.REC_STAT.PENDING, 1)]) := by
  decide +kernel

theorem witness_GaugeFollowsTheCount_10a :
    (fun (k : Nat) (r : GRec) (s : State) =>
    halted s 3 = false ∧ s.gau.writing = some (k, r) ∧ k < 2) (1) (⟨5, 7, 4, 20000, 19600, 3, 9⟩) (gauSt 5 { gauX with writing := some (1, ⟨5, 7, 4, 20000, 19600, 3, 9⟩) } []) := by
  decide +kernel

theorem witness_GaugeFollowsTheCount_11a :
    (fun (x : Nat × GRec) (s : State) =>
    halted s 3 = false ∧ s.gau.writing = some x ∧ Calm s 0x23D ∧ Reports s 0x23D) ((1, ⟨5, 7, 4, 20000, 19600, 3, 9⟩)) (gauSt 5 { gauX with writing := some (1, ⟨5, 7, 4, 20000, 19600, 3, 9⟩) } []) := by
  decide +kernel

theorem witness_GaugeFollowsTheCount_11b :
    (fun (x : Nat × GRec) (s : State) =>
    halted s 3 = false ∧ s.gau.writing = some x ∧ Calm s 0x23D ∧ Reports s 0x23D) ((1, ⟨5, 7, 4, 20000, 19600, 3, 9⟩)) (gauSt 5 { gauX with writing := some (1, ⟨5, 7, 4, 20000, 19600, 3, 9⟩), tries := 3 } []) := by
  decide +kernel

theorem witness_GaugeFollowsTheCount_12a :
    (fun (s : State) =>
    halted s 3 = false ∧ fon s GAUGE.STAT.RUN = true) (gauSt 5 gauX []) := by
  decide +kernel

theorem witness_CabinPortsFollowTheirPolicy_1a :
    (fun (n : Fin 2) (s : State) =>
    targetDown s (0x52 + n) = false ∧ (s.start.running = false ∨ pdState s n ≠ 0)) (0) (pdSt 0 1 {} []) := by
  decide +kernel

theorem witness_CabinPortsFollowTheirPolicy_2a :
    (fun (n : Fin 2) (s : State) =>
    targetDown s (0x52 + n) = false ∧ (s.start.running = false ∨ pdState s n = 0xA)) (1) (pdSt 1 10 {} []) := by
  decide +kernel

theorem witness_CabinPortsFollowTheirPolicy_3a :
    (fun (n : Fin 2) (s : State) =>
    targetDown s (0x52 + n) = false ∧ (s.start.running = false ∨ pdState s n ≠ 4 ∧ pdState s n ≠ 5 ∧ pdState s n ≠ 6)) (0) (pdSt 0 1 {} []) := by
  decide +kernel

theorem witness_CabinPortsFollowTheirPolicy_4a :
    (fun (n : Fin 2) (s : State) =>
    targetDown s (0x52 + n) = false ∧ (s.start.running = false ∨ (n = 0 ∨ fon s (PD.STAT.CONTRACT n) = false ∨ (pdState s n ≠ 4 ∧ pdState s n ≠ 5)))) (0) (pdSt 0 4 {} [(PD.STAT.CONTRACT 0, 1)]) := by
  decide +kernel

theorem witness_CabinPortsFollowTheirPolicy_4b :
    (fun (n : Fin 2) (s : State) =>
    targetDown s (0x52 + n) = false ∧ (s.start.running = false ∨ (n = 0 ∨ fon s (PD.STAT.CONTRACT n) = false ∨ (pdState s n ≠ 4 ∧ pdState s n ≠ 5)))) (1) (pdSt 1 4 {} []) := by
  decide +kernel

theorem witness_CabinPortsFollowTheirPolicy_5a :
    (fun (n : Fin 2) (s : State) =>
    targetDown s (0x52 + n) = false ∧ (s.start.running = false ∨ pdState s n ≠ 4)) (0) (pdSt 0 1 {} []) := by
  decide +kernel

theorem witness_CabinPortsFollowTheirPolicy_6a :
    (fun (n : Fin 2) (s : State) =>
    targetDown s (0x52 + n) = false ∧ (s.start.running = false ∨ pdState s n ≠ 4)) (0) (pdSt 0 1 {} []) := by
  decide +kernel

theorem witness_CabinPortsFollowTheirPolicy_7a :
    (fun (n : Fin 2) (s : State) =>
    targetDown s (0x52 + n) = false ∧ (s.start.running = false ∨ pdState s n ≠ 9)) (0) (pdSt 0 1 {} []) := by
  decide +kernel

theorem witness_CabinPortsFollowTheirPolicy_8a :
    (fun (n : Fin 2) (s : State) =>
    pdUp s n ∧ pdState s n = 0) (0) (pdSt 0 0 {} []) := by
  decide +kernel

theorem witness_CabinPortsFollowTheirPolicy_8b :
    (fun (n : Fin 2) (s : State) =>
    pdUp s n ∧ pdState s n = 0) (1) (pdSt 1 0 {} [(PD.CFG.ROLE 1, 1)]) := by
  decide +kernel

theorem witness_CabinPortsFollowTheirPolicy_9a :
    (fun (n : Fin 2) (s : State) =>
    pdUp s n ∧ pdState s n ≠ 0 ∧ pdState s n ≠ 0xA ∧ s.fab.stalled = [] ∧ (∀ x ∈ s.fab.coaches, x.tgt ≠ 0x52 + n)) (0) (pdSt 0 4 { partner := some false, resv := 15958 } [(PD.STAT.CONTRACT 0, 1), (PD.STAT.MUX 0, 1)]) := by
  decide +kernel

theorem witness_CabinPortsFollowTheirPolicy_10a :
    (fun (n : Fin 2) (s : State) =>
    pdUp s n ∧ (pdState s n = 4 ∨ pdState s n = 5) ∧ s.fab.stalled = [] ∧ (∀ x ∈ s.fab.coaches, x.tgt ≠ 0x52 + n)) (0) (pdSt 0 4 { partner := some false, resv := 101064 } [(PD.STAT.CONTRACT 0, 1), (PD.STAT.RP 0, 3)]) := by
  decide +kernel

theorem witness_CabinPortsFollowTheirPolicy_10b :
    (fun (n : Fin 2) (s : State) =>
    pdUp s n ∧ (pdState s n = 4 ∨ pdState s n = 5) ∧ s.fab.stalled = [] ∧ (∀ x ∈ s.fab.coaches, x.tgt ≠ 0x52 + n)) (1) (pdSt 1 5 { sinkMw := 20000 } [(PD.STAT.CONTRACT 1, 1)]) := by
  decide +kernel

theorem witness_CabinPortsFollowTheirPolicy_11a :
    (fun (n : Fin 2) (s : State) =>
    pdUp s n ∧ pdState s n = 6 ∧ s.fab.stalled = [] ∧ (∀ x ∈ s.fab.coaches, x.tgt ≠ 0x52 + n)) (1) (pdSt 1 6 { partner := some false, resv := 15958 } []) := by
  decide +kernel

theorem witness_CabinPortsFollowTheirPolicy_11b :
    (fun (n : Fin 2) (s : State) =>
    pdUp s n ∧ pdState s n = 6 ∧ s.fab.stalled = [] ∧ (∀ x ∈ s.fab.coaches, x.tgt ≠ 0x52 + n)) (1) (pdSt 1 6 { partner := some true, resv := 15958 } []) := by
  decide +kernel

theorem witness_CabinPortsFollowTheirPolicy_12a :
    (fun (n : Fin 2) (s : State) =>
    pdState s n ≠ 4 ∧ pdState s n ≠ 5 ∧ pdState s n ≠ 6) (1) (pdSt 1 1 {} []) := by
  decide +kernel

theorem witness_CabinPortsFollowTheirPolicy_13a :
    (fun (s : State) =>
    pdUp s 1 ∧ fon s (PD.STAT.CONTRACT 1) = true ∧ (pdState s 1 = 4 ∨ pdState s 1 = 5)) (pdSt 1 4 { partner := some false, resv := 15958 } [(PD.STAT.CONTRACT 1, 1)]) := by
  decide +kernel

theorem witness_CabinPortsFollowTheirPolicy_13b :
    (fun (s : State) =>
    pdUp s 1 ∧ fon s (PD.STAT.CONTRACT 1) = true ∧ (pdState s 1 = 4 ∨ pdState s 1 = 5)) (pdSt 1 5 {} [(PD.STAT.CONTRACT 1, 1)]) := by
  decide +kernel

theorem witness_CabinPortsFollowTheirPolicy_14a :
    (fun (n : Fin 2) (s : State) =>
    pdUp s n ∧ pdState s n = 4) (0) (pdSt 0 4 { partner := some false, resv := 15958 } [(PD.STAT.MUX 0, 1), (PD.STAT.CABLE_5A 0, 1)]) := by
  decide +kernel

theorem witness_CabinPortsFollowTheirPolicy_14b :
    (fun (n : Fin 2) (s : State) =>
    pdUp s n ∧ pdState s n = 4) (1) (pdSt 1 4 { resv := 5000, reduced := true } []) := by
  decide +kernel

theorem witness_CabinPortsFollowTheirPolicy_15a :
    (fun (n : Fin 2) (s : State) =>
    pdUp s n ∧ pdState s n = 9) (1) (pdSt 1 9 {} []) := by
  decide +kernel

theorem witness_CabinPortsFollowTheirPolicy_16a :
    (fun (n : Fin 2) (_ : BitVec 8) (s : State) =>
    targetDown s (0x52 + n) = false) (0) (30) (pdSt 0 4 { partner := some false, resv := 15958 } []) := by
  decide +kernel

theorem witness_CabinPortsFollowTheirPolicy_17a :
    (fun (n : Fin 2) (_ : Bool) (_ : Bool) (s : State) =>
    (pdState s n = 1 ∨ pdState s n = 2) ∧ (n = 0 ∨ fget s (PD.CFG.ROLE n) ≠ 1)) (0) (true) (false) (pdSt 0 1 {} [(PD.CFG.RP_DEF 0, 3)]) := by
  decide +kernel

theorem witness_CabinPortsFollowTheirPolicy_18a :
    (fun (n : Fin 2) (s : State) =>
    2 ≤ pdState s n ∧ pdState s n ≤ 8) (0) (request (pdSt 0 4 { partner := some false, resv := 15958 } []) (.port 0 3) 500) := by
  decide +kernel

theorem witness_CabinPortsFollowTheirPolicy_19a :
    (fun (n : Fin 2) (s : State) =>
    pdState s n = 8 ∧ (pdX s n).ask = 0) (0) (pdSt 0 8 { partner := some false } []) := by
  decide +kernel

theorem witness_CabinPortsFollowTheirPolicy_20a :
    (fun (n : Fin 2) (w : Word) (s : State) =>
    pdState s n = 4 ∧ pdPoint s n w.toNat = none) (0) (0x70000000) (pdSt 0 4 { partner := some false, resv := 15958 } []) := by
  decide +kernel

theorem witness_CabinPortsFollowTheirPolicy_21a :
    (fun (n : Fin 2) (w : Word) (v : Nat) (i : Nat) (pps : Bool) (s : State) =>
    pdState s n = 4 ∧ pdPoint s n w.toNat = some (v, i, pps) ∧ v < 4096 ∧ i < 1024) (0) (0x1000781E) (250) (6) (false) (pdSt 0 4 { partner := some false, resv := 15958 } []) := by
  decide +kernel

theorem witness_CabinPortsFollowTheirPolicy_21b :
    (fun (n : Fin 2) (w : Word) (v : Nat) (i : Nat) (pps : Bool) (s : State) =>
    pdState s n = 4 ∧ pdPoint s n w.toNat = some (v, i, pps) ∧ v < 4096 ∧ i < 1024) (0) (0x200320C8) (450) (40) (false) (pdSt 0 4 { partner := some false, resv := 15958 } [(PD.STAT.CABLE_5A 0, 1)]) := by
  decide +kernel

theorem witness_CabinPortsFollowTheirPolicy_22a :
    (fun (n : Fin 2) (s : State) =>
    pdState s n = 4 ∧ (pdX s n).reduced = true) (0) (pdSt 0 4 { reduced := true, resv := 9000 } []) := by
  decide +kernel

theorem witness_CabinPortsFollowTheirPolicy_23a :
    (fun (l : List Word) (w : Word) (k : Nat) (s : State) =>
    pdState s 1 = 5 ∧ l.length ≤ 7 ∧ l[k]? = some w ∧ pdSuits s w.toNat ∧
    ∀ e ∈ l.zipIdx, pdSuits s e.1.toNat → if e.2 < k then pdoMv e.1.toNat * pdoMa e.1.toNat < pdoMv w.toNat * pdoMa w.toNat else pdoMv e.1.toNat * pdoMa e.1.toNat ≤ pdoMv w.toNat * pdoMa w.toNat) ([0x0001912C, 0x0002D12C, 0x000641F4]) (0x000641F4) (2) (pdSt 1 5 {} [(PD.SNK.VMIN 1, 50), (PD.SNK.VMAX 1, 200), (PD.SNK.SNK_W 1, 60)]) := by
  decide +kernel

theorem witness_CabinPortsFollowTheirPolicy_24a :
    (fun (l : List Word) (s : State) =>
    pdState s 1 = 5 ∧ (l.all fun w => !decide (pdSuits s w.toNat)) = true) ([0xC0DC2164]) (pdSt 1 5 { rpMa := 1500 } []) := by
  decide +kernel

theorem witness_CabinPortsFollowTheirPolicy_25a :
    (fun (v : Nat) (i : Nat) (mw : Nat) (s : State) =>
    pdState s 1 = 5 ∧ (pdX s 1).want = some (v, i, mw) ∧ v < 4096 ∧ i < 1024) (1000) (60) (60000) (pdSt 1 5 { want := some (1000, 60, 60000) } []) := by
  decide +kernel

theorem witness_CabinPortsFollowTheirPolicy_26a :
    (fun (_ : Bool) (s : State) =>
    pdState s 0 = 4) (true) (pdSt 0 4 {} []) := by
  decide +kernel

theorem witness_CabinPortsFollowTheirPolicy_27a :
    (fun (s : State) =>
    pdState s 1 = 4) (pdSt 1 4 {} [(PD.CFG.SWAP 1, 1)]) := by
  decide +kernel

theorem witness_CabinPortsFollowTheirPolicy_27b :
    (fun (s : State) =>
    pdState s 1 = 4) (pdSt 1 4 {} [(PD.CFG.SWAP 1, 2)]) := by
  decide +kernel

theorem witness_CabinPortsFollowTheirPolicy_28a :
    (fun (s : State) =>
    pdState s 1 = 5 ∧ (pdX s 1).swap ≠ some (true, true)) (pdSt 1 5 {} [(PD.CFG.SWAP 1, 2)]) := by
  decide +kernel

theorem witness_CabinPortsFollowTheirPolicy_28b :
    (fun (s : State) =>
    pdState s 1 = 5 ∧ (pdX s 1).swap ≠ some (true, true)) (pdSt 1 5 {} []) := by
  decide +kernel

theorem witness_CabinPortsFollowTheirPolicy_29a :
    (fun (s : State) =>
    pdState s 1 = 6 ∧ (pdX s 1).swap = some (false, true)) (pdSt 1 6 { swap := some (false, true) } []) := by
  decide +kernel

theorem witness_CabinPortsFollowTheirPolicy_30a :
    (fun (s : State) =>
    pdState s 1 = 6 ∧ (pdX s 1).swap = some (true, true)) (pdSt 1 6 { swap := some (true, true), resv := 15958 } [(PD.CFG.SWAP 1, 2)]) := by
  decide +kernel

theorem witness_CabinPortsFollowTheirPolicy_30b :
    (fun (s : State) =>
    pdState s 1 = 6 ∧ (pdX s 1).swap = some (true, true)) (pdSt 1 6 { swap := some (true, true), resv := 15958 } []) := by
  decide +kernel

theorem witness_CabinPortsFollowTheirPolicy_31a :
    (fun (n : Fin 2) (src : Bool) (own : Bool) (s : State) =>
    pdState s n = 6 ∧ (pdX s n).swap = some (src, own)) (1) (true) (true) (pdSt 1 6 { swap := some (true, true), resv := 15958 } []) := by
  decide +kernel

theorem witness_CabinPortsFollowTheirPolicy_31b :
    (fun (n : Fin 2) (src : Bool) (own : Bool) (s : State) =>
    pdState s n = 6 ∧ (pdX s n).swap = some (src, own)) (1) (false) (true) (pdSt 1 6 { swap := some (false, true), resv := 15958 } []) := by
  decide +kernel

theorem witness_CabinPortsFollowTheirPolicy_32a :
    (fun (n : Fin 2) (_ : Bool) (s : State) =>
    4 ≤ pdState s n ∧ pdState s n ≤ 6) (1) (false) (pdSt 1 5 {} []) := by
  decide +kernel

theorem witness_CabinPortsFollowTheirPolicy_33a :
    (fun (n : Fin 2) (_ : Word) (s : State) =>
    pdState s n = 4 ∧ fon s (PD.STAT.VCONN n) = true) (0) (0x11082843) (pdSt 0 4 { partner := some false, resv := 15958 } [(PD.STAT.VCONN 0, 1)]) := by
  decide +kernel

theorem witness_CabinPortsFollowTheirPolicy_33b :
    (fun (n : Fin 2) (_ : Word) (s : State) =>
    pdState s n = 4 ∧ fon s (PD.STAT.VCONN n) = true) (0) (0x11082823) (pdSt 0 4 { tries := 21 } [(PD.STAT.VCONN 0, 1)]) := by
  decide +kernel

theorem witness_CabinPortsFollowTheirPolicy_34a :
    (fun (n : Fin 2) (_ : Bool) (s : State) =>
    pdState s n = 4) (1) (true) (pdSt 1 4 {} [(PD.CFG.ALT_EN 1, 1)]) := by
  decide +kernel

theorem witness_CabinPortsFollowTheirPolicy_35a :
    (fun (n : Fin 2) (s : State) =>
    pdState s n ≠ 4) (1) (pdSt 1 3 {} []) := by
  decide +kernel

theorem witness_CabinPortsFollowTheirPolicy_36a :
    (fun (n : Fin 2) (s : State) =>
    (pdState s n = 4 ∨ pdState s n = 5) ∧ CalmIn s 0x22C 8 ∧ severity s 0x261 ≠ 3 ∧ stage s ≠ 3) (0) (pdSt 0 4 { partner := some false, resv := 15958, trips := [1, 2] } [(PD.STAT.CONTRACT 0, 1), (PD.PROT.LATCH_N 0, 3)]) := by
  decide +kernel

theorem witness_CabinPortsFollowTheirPolicy_36b :
    (fun (n : Fin 2) (s : State) =>
    (pdState s n = 4 ∨ pdState s n = 5) ∧ CalmIn s 0x22C 8 ∧ severity s 0x261 ≠ 3 ∧ stage s ≠ 3) (1) (pdSt 1 4 { resv := 15958, trips := [1, 2] } [(PD.PROT.LATCH_N 1, 0)]) := by
  decide +kernel

theorem witness_CabinPortsFollowTheirPolicy_37a :
    (fun (n : Fin 2) (s : State) =>
    pdState s n = 4 ∧ CalmIn s 0x22C 8 ∧ severity s 0x261 ≠ 3 ∧ stage s ≠ 3) (0) (pdSt 0 4 { partner := some false, resv := 15958, trips := [1, 2] } [(PD.STAT.CONTRACT 0, 1), (PD.PROT.LATCH_N 0, 3)]) := by
  decide +kernel

theorem witness_CabinPortsFollowTheirPolicy_37b :
    (fun (n : Fin 2) (s : State) =>
    pdState s n = 4 ∧ CalmIn s 0x22C 8 ∧ severity s 0x261 ≠ 3 ∧ stage s ≠ 3) (1) (pdSt 1 4 { resv := 15958, trips := [1, 2] } [(PD.PROT.LATCH_N 1, 0)]) := by
  decide +kernel

theorem witness_CabinPortsFollowTheirPolicy_38a :
    (fun (n : Fin 2) (s : State) =>
    pdState s n = 4 ∧ fon s (PD.STAT.PPS n) = false ∧ CalmIn s 0x22C 8 ∧ severity s 0x261 ≠ 3 ∧ stage s ≠ 3) (0) (pdSt 0 4 { partner := some false, resv := 15958, trips := [1, 2] } [(PD.STAT.CONTRACT 0, 1), (PD.PROT.LATCH_N 0, 3)]) := by
  decide +kernel

theorem witness_CabinPortsFollowTheirPolicy_38b :
    (fun (n : Fin 2) (s : State) =>
    pdState s n = 4 ∧ fon s (PD.STAT.PPS n) = false ∧ CalmIn s 0x22C 8 ∧ severity s 0x261 ≠ 3 ∧ stage s ≠ 3) (1) (pdSt 1 4 { resv := 15958, trips := [1, 2] } [(PD.PROT.LATCH_N 1, 0)]) := by
  decide +kernel

theorem witness_CabinPortsFollowTheirPolicy_39a :
    (fun (n : Fin 2) (s : State) =>
    (pdState s n = 4 ∨ pdState s n = 5) ∧ CalmIn s 0x22C 8 ∧ severity s 0x261 ≠ 3 ∧ stage s ≠ 3) (0) (pdSt 0 4 { partner := some false, resv := 15958, trips := [1, 2] } [(PD.STAT.CONTRACT 0, 1), (PD.PROT.LATCH_N 0, 3)]) := by
  decide +kernel

theorem witness_CabinPortsFollowTheirPolicy_39b :
    (fun (n : Fin 2) (s : State) =>
    (pdState s n = 4 ∨ pdState s n = 5) ∧ CalmIn s 0x22C 8 ∧ severity s 0x261 ≠ 3 ∧ stage s ≠ 3) (1) (pdSt 1 4 { resv := 15958, trips := [1, 2] } [(PD.PROT.LATCH_N 1, 0)]) := by
  decide +kernel

theorem witness_CabinPortsFollowTheirPolicy_40a :
    (fun (n : Fin 2) (s : State) =>
    fon s (PD.STAT.PPS n) = true ∨ (pdState s n ≠ 4 ∧ pdState s n ≠ 6)) (0) (pdSt 0 4 {} [(PD.STAT.PPS 0, 1)]) := by
  decide +kernel

theorem witness_CabinPortsFollowTheirPolicy_41a :
    (fun (n : Fin 2) (s : State) =>
    pdState s n = 7) (0) (pdSt 0 7 { partner := some false } []) := by
  decide +kernel

theorem witness_CabinPortsFollowTheirPolicy_41b :
    (fun (n : Fin 2) (s : State) =>
    pdState s n = 7) (1) (pdSt 1 7 {} []) := by
  decide +kernel

theorem witness_CabinPortsFollowTheirPolicy_42a :
    (fun (_ : Fin 3) (s : State) =>
    (pdState s 1 = 1 ∨ pdState s 1 = 2) ∧ fget s (PD.CFG.ROLE 1) ≠ 0) (2) (pdSt 1 1 {} []) := by
  decide +kernel

theorem witness_FaultsAreCollectedAndTheSafeStateEntered_1a :
    (fun (i : Fin 640) (s : State) =>
    severity s i = 0 ∧ fon s (FLT.RAW i) = false) (0x1E0) (fltSt []) := by
  decide +kernel

theorem witness_FaultsAreCollectedAndTheSafeStateEntered_2a :
    (fun (i : Fin 640) (s : State) =>
    fon s (FLT.RAW i) = true) (0x40) (fltSt [(FLT.RAW 0x40, 1)]) := by
  decide +kernel

theorem witness_FaultsAreCollectedAndTheSafeStateEntered_3a :
    (fun (i : Fin 640) (s : State) =>
    severity s i = 1 ∧ fon s (FLT.RAW i) = false) (0x40) (fltSt []) := by
  decide +kernel

theorem witness_FaultsAreCollectedAndTheSafeStateEntered_4a :
    (fun (i : Fin 640) (s : State) =>
    severity s i = 2 ∧ fon s (FLT.RAW i) = false ∧ quietSum s) (0x100) (fltSt [(FLT.CFG.CONT_ATTN, 1), (FLT.CFG.CONT_SHED, 7)]) := by
  decide +kernel

theorem witness_FaultsAreCollectedAndTheSafeStateEntered_4b :
    (fun (i : Fin 640) (s : State) =>
    severity s i = 2 ∧ fon s (FLT.RAW i) = false ∧ quietSum s) (0x100) (lnkSt true 2 [(FLT.CFG.CONT_SHED, 7), (LEDG.SHED.LEVEL, 3)]) := by
  decide +kernel

theorem witness_FaultsAreCollectedAndTheSafeStateEntered_5a :
    (fun (i : Fin 640) (s : State) =>
    severity s i = 3 ∧ i.val ≠ 0x27F ∧ fon s (FLT.RAW i) = false ∧ safe s = false ∧ stage s ≠ 3) (0x24C) (fltSt [(FLT.SEV 0x24C, 3), (FLT.CFG.FATAL_ACT, 1), (LEDG.STAT.MODE, 1)]) := by
  decide +kernel

theorem witness_FaultsAreCollectedAndTheSafeStateEntered_5b :
    (fun (i : Fin 640) (s : State) =>
    severity s i = 3 ∧ i.val ≠ 0x27F ∧ fon s (FLT.RAW i) = false ∧ safe s = false ∧ stage s ≠ 3) (0x24B) (fltSt [(FLT.SEV 0x24B, 3), (FLT.FIRST.VALID, 1), (FLT.FIRST.INDEX, 7)]) := by
  decide +kernel

theorem witness_FaultsAreCollectedAndTheSafeStateEntered_6a :
    (fun (i : Fin 640) (s : State) =>
    severity s i = 3 ∧ fon s (FLT.RAW i) = false ∧ safe s = true ∧ stage s ≠ 3) (0x24C) (fltSt [(FLT.SEV 0x24C, 3), (FLT.STAT.SAFE, 1)]) := by
  decide +kernel

theorem witness_FaultsAreCollectedAndTheSafeStateEntered_7a :
    (fun (i : Fin 640) (s : State) =>
    i.val ∉ s.flt.pairs) (0x40) (fltSt [(FLT.RAW 0x40, 1), (FLT.LAT 0x40, 1)]) := by
  decide +kernel

theorem witness_FaultsAreCollectedAndTheSafeStateEntered_8a :
    (fun (i : Fin 640) (s : State) =>
    i.val < 0x27D ∧ i.val ∉ s.flt.pairs ∧ Calm s i ∧ severity s 0x27D ≠ 3 ∧ quietSum s) (0x40) (fltSt []) := by
  decide +kernel

theorem witness_FaultsAreCollectedAndTheSafeStateEntered_9a :
    (fun (i : Fin 640) (s : State) =>
    0x27D ≤ i.val ∨ i.val ∈ s.flt.pairs) (0x27E) (fltSt []) := by
  decide +kernel

theorem witness_FaultsAreCollectedAndTheSafeStateEntered_10a :
    (fun (i : Fin 640) (s : State) =>
    i.val ∈ s.flt.pairs ∧ s.flt.pairs.Nodup) (0x40) (withFlt (fltSt []) { pairs := [0x40] }) := by
  decide +kernel

theorem witness_FaultsAreCollectedAndTheSafeStateEntered_11a :
    (fun (s : State) =>
    stage s = 2 ∧ safe s = false) (fltSt [(FLT.STAT.RSTS, 2)]) := by
  decide +kernel

theorem witness_FaultsAreCollectedAndTheSafeStateEntered_12a :
    (fun (s : State) =>
    safe s = false ∧ stage s ≠ 3 ∧ fon s (FLT.RAW 0x27F) = false) (fltSt []) := by
  decide +kernel

theorem witness_FaultsAreCollectedAndTheSafeStateEntered_13a :
    (fun (s : State) =>
    safe s = false ∧ stage s ≠ 3 ∧ fon s (FLT.RAW 0x27F) = false) (withFlt (fltSt []) { sevInj := [39] }) := by
  decide +kernel

theorem witness_FaultsAreCollectedAndTheSafeStateEntered_13b :
    (fun (s : State) =>
    safe s = false ∧ stage s ≠ 3 ∧ fon s (FLT.RAW 0x27F) = false) (fltSt []) := by
  decide +kernel

theorem witness_FaultsAreCollectedAndTheSafeStateEntered_14a :
    (fun (s : State) =>
    s.start.rcRuns = true ∧ safe s = false ∧ stage s ≠ 3 ∧ fon s (FLT.RAW 0x27F) = false) ({ fltSt [] with start := { (fltSt []).start with rcRuns := true } }) := by
  decide +kernel

theorem witness_FaultsAreCollectedAndTheSafeStateEntered_15a :
    (fun (s : State) =>
    s.start.rcRuns = false) ({ fltSt [] with start := { (fltSt []).start with rcRuns := false } }) := by
  decide +kernel

theorem witness_FaultsAreCollectedAndTheSafeStateEntered_16a :
    (fun (s : State) =>
    quietSum s) (withFlt (fltSt []) { hbInj := true }) := by
  decide +kernel

theorem witness_FaultsAreCollectedAndTheSafeStateEntered_16b :
    (fun (s : State) =>
    quietSum s) (fltSt [(FLT.STAT.SAFE, 1)]) := by
  decide +kernel

theorem witness_FaultsAreCollectedAndTheSafeStateEntered_17a :
    (fun (h : Bool) (s : State) =>
    s.start.pair = .healthy h) (true) ({ fltSt [] with start := { (fltSt []).start with pair := .healthy true } }) := by
  decide +kernel

theorem witness_FaultsAreCollectedAndTheSafeStateEntered_18a :
    (fun (s : State) =>
    s.start.pair = .fatal) ({ fltSt [] with start := { (fltSt []).start with pair := .fatal } }) := by
  decide +kernel

theorem witness_FaultsAreCollectedAndTheSafeStateEntered_19a :
    (fun (s : State) =>
    addressed s = true ∧ roomy s ∧ s.lnk.broken = [] ∧ quietSum s) (lnkSt true 2 [(FLT.LAT 0x100, 1)]) := by
  decide +kernel

theorem witness_FaultsAreCollectedAndTheSafeStateEntered_20a :
    (fun (_ : Fin 32) (_ : Word) (_ : Word) (s : State) =>
    Calm s 0x27E) (3) (0x10207) (5) (fltSt []) := by
  decide +kernel

theorem witness_FaultsAreCollectedAndTheSafeStateEntered_20b :
    (fun (_ : Fin 32) (_ : Word) (_ : Word) (s : State) =>
    Calm s 0x27E) (3) (0x10203) (5) (fltSt [(FLT.REMOTE 3, 1)]) := by
  decide +kernel

theorem witness_FaultsAreCollectedAndTheSafeStateEntered_21a :
    (fun (rq : Fin 24) (k : BitVec 16) (n : Fin 1024) (s : State) =>
    restUp s rq ∧ (fon s FLT.CFG.INJ_EN = false ∨ k.toNat ≠ 0x3C96 ∨ 24 ≤ n.val)) (9) (0x3C96) (24) (fltSt []) := by
  decide +kernel

theorem witness_FaultsAreCollectedAndTheSafeStateEntered_22a :
    (fun (rq : Fin 24) (k : BitVec 16) (n : Fin 1024) (s : State) =>
    restUp s rq ∧ (fon s FLT.CFG.INJ_EN = false ∨ k.toNat ≠ 0x3C96 ∨ 637 ≤ n.val)) (9) (0x3C96) (637) (fltSt []) := by
  decide +kernel

theorem witness_FaultsAreCollectedAndTheSafeStateEntered_23a :
    (fun (rq : Fin 24) (k : BitVec 16) (n : Fin 1024) (s : State) =>
    restUp s rq ∧ (fon s FLT.CFG.INJ_EN = false ∨ k.toNat ≠ 0x3C96 ∨ 40 ≤ n.val)) (9) (0x3C96) (40) (fltSt []) := by
  decide +kernel

theorem witness_FaultsAreCollectedAndTheSafeStateEntered_24a :
    (fun (rq : Fin 24) (k : BitVec 16) (n : Fin 1024) (s : State) =>
    restUp s rq ∧ (fon s FLT.CFG.INJ_EN = false ∨ k.toNat ≠ 0x3C96 ∨ 4 ≤ n.val)) (9) (0x3C96) (4) (fltSt []) := by
  decide +kernel

theorem witness_FaultsAreCollectedAndTheSafeStateEntered_25a :
    (fun (rq : Fin 24) (k : BitVec 16) (n : Fin 1024) (s : State) =>
    restUp s rq ∧ (fon s FLT.CFG.INJ_EN = false ∨ k.toNat ≠ 0x3C96 ∨ 1 ≤ n.val)) (9) (0x3C96) (1) (fltSt []) := by
  decide +kernel

theorem witness_FaultsAreCollectedAndTheSafeStateEntered_26a :
    (fun (rq : Fin 24) (k : BitVec 16) (n : Fin 1024) (s : State) =>
    restUp s rq ∧ (fon s FLT.CFG.INJ_EN = false ∨ k.toNat ≠ 0x3C96 ∨ 640 ≤ n.val)) (9) (0x3C96) (640) (fltSt []) := by
  decide +kernel

theorem witness_FaultsAreCollectedAndTheSafeStateEntered_26b :
    (fun (rq : Fin 24) (k : BitVec 16) (n : Fin 1024) (s : State) =>
    restUp s rq ∧ (fon s FLT.CFG.INJ_EN = false ∨ k.toNat ≠ 0x3C96 ∨ 640 ≤ n.val)) (9) (0x3C97) (1) (fltSt []) := by
  decide +kernel

theorem witness_FaultsAreCollectedAndTheSafeStateEntered_27a :
    (fun (rq : Fin 24) (k : BitVec 16) (n : Fin 1024) (s : State) =>
    injMay s rq k ∧ n.val < 24) (9) (0x3C96) (3) (fltSt []) := by
  decide +kernel

theorem witness_FaultsAreCollectedAndTheSafeStateEntered_28a :
    (fun (rq : Fin 24) (k : BitVec 16) (n : Fin 1024) (s : State) =>
    injMay s rq k ∧ n.val < 0x27D ∧ Calm s n ∧ severity s 0x27D ≠ 3) (9) (0x3C96) (0x40) (fltSt []) := by
  decide +kernel

theorem witness_FaultsAreCollectedAndTheSafeStateEntered_29a :
    (fun (rq : Fin 24) (k : BitVec 16) (n : Fin 1024) (s : State) =>
    injMay s rq k ∧ n.val < 40) (9) (0x3C96) (39) (fltSt []) := by
  decide +kernel

theorem witness_FaultsAreCollectedAndTheSafeStateEntered_30a :
    (fun (rq : Fin 24) (k : BitVec 16) (n : Fin 1024) (s : State) =>
    injMay s rq k ∧ n.val < 4 ∧ fget s (ENG.STAT.STATE n) = 1 ∧ Calm s (0x242 + n) ∧ s.fab.stalled = [] ∧ (∀ x ∈ s.fab.coaches, x.tgt ≠ 0x55 + n)) (9) (0x3C96) (2) (fltSt [(ENG.STAT.STATE 2, 1), (FLT.SEV 0x244, 2)]) := by
  decide +kernel

theorem witness_FaultsAreCollectedAndTheSafeStateEntered_31a :
    (fun (rq : Fin 24) (k : BitVec 16) (n : Fin 1024) (s : State) =>
    injMay s rq k ∧ n.val = 0) (9) (0x3C96) (0) (fltSt []) := by
  decide +kernel

theorem witness_FaultsAreCollectedAndTheSafeStateEntered_32a :
    (fun (rq : Fin 24) (k : BitVec 16) (n : Fin 1024) (s : State) =>
    injMay s rq k ∧ n.val < 640 ∧ Calm s n) (9) (0x3C96) (0x40) (fltSt []) := by
  decide +kernel

theorem witness_FaultsAreCollectedAndTheSafeStateEntered_32b :
    (fun (rq : Fin 24) (k : BitVec 16) (n : Fin 1024) (s : State) =>
    injMay s rq k ∧ n.val < 640 ∧ Calm s n) (9) (0x3C96) (0x100) (fltSt [(FLT.RAW 0x100, 1)]) := by
  decide +kernel

theorem witness_FaultsAreCollectedAndTheSafeStateEntered_33a :
    (fun (rq : Fin 24) (k : BitVec 16) (n : Fin 1024) (s : State) =>
    injMay s rq k ∧ n.val = 0x27F ∧ safe s = false ∧ stage s ≠ 3 ∧ fon s (FLT.RAW 0x27F) = false) (9) (0x3C96) (0x27F) (fltSt []) := by
  decide +kernel

theorem witness_StagesWakesAndTheCalendar_1a :
    (fun (rq : Fin 24) (n : Fin 16) (s : State) =>
    restUp s rq ∧ (s.lnk.racc.isSome = true ∨ addressed s = false ∨ n.val = 0 ∨ fget s LNK.RACC_ADDR.UNIT = myAddr s)) (9) (0) (lnkSt true 2 [(LNK.RACC_ADDR.UNIT, 3)]) := by
  decide +kernel

theorem witness_StagesWakesAndTheCalendar_1b :
    (fun (rq : Fin 24) (n : Fin 16) (s : State) =>
    restUp s rq ∧ (s.lnk.racc.isSome = true ∨ addressed s = false ∨ n.val = 0 ∨ fget s LNK.RACC_ADDR.UNIT = myAddr s)) (9) (1) (lnkSt true 2 []) := by
  decide +kernel

theorem witness_StagesWakesAndTheCalendar_2a :
    (fun (rq : Fin 24) (n : Fin 16) (s : State) =>
    restUp s rq ∧ s.lnk.racc = none ∧ addressed s = true ∧ 1 ≤ n.val ∧ (n.val ≤ 14 ∨ false = false) ∧ fget s LNK.RACC_ADDR.UNIT ≠ myAddr s ∧ (∀ p < 2, portUp s p = true ∧ (classQ (portQ s p) 2).length < 32) ∧ s.lnk.broken = []) (9) (3) (lnkSt true 2 [(LNK.RACC_ADDR.UNIT, 3)]) := by
  decide +kernel

theorem witness_StagesWakesAndTheCalendar_3a :
    (fun (rq : Fin 24) (n : Fin 16) (s : State) =>
    restUp s rq ∧ (s.lnk.racc.isSome = true ∨ addressed s = false ∨ n.val = 0 ∨ 14 < n.val ∨ fget s LNK.RACC_ADDR.UNIT = myAddr s)) (9) (0) (lnkSt true 2 [(LNK.RACC_ADDR.UNIT, 3)]) := by
  decide +kernel

theorem witness_StagesWakesAndTheCalendar_3b :
    (fun (rq : Fin 24) (n : Fin 16) (s : State) =>
    restUp s rq ∧ (s.lnk.racc.isSome = true ∨ addressed s = false ∨ n.val = 0 ∨ 14 < n.val ∨ fget s LNK.RACC_ADDR.UNIT = myAddr s)) (9) (1) (lnkSt true 2 []) := by
  decide +kernel

theorem witness_StagesWakesAndTheCalendar_3c :
    (fun (rq : Fin 24) (n : Fin 16) (s : State) =>
    restUp s rq ∧ (s.lnk.racc.isSome = true ∨ addressed s = false ∨ n.val = 0 ∨ 14 < n.val ∨ fget s LNK.RACC_ADDR.UNIT = myAddr s)) (9) (15) (lnkSt true 2 [(LNK.RACC_ADDR.UNIT, 3)]) := by
  decide +kernel

theorem witness_StagesWakesAndTheCalendar_4a :
    (fun (rq : Fin 24) (n : Fin 16) (s : State) =>
    restUp s rq ∧ s.lnk.racc = none ∧ addressed s = true ∧ 1 ≤ n.val ∧ (n.val ≤ 14 ∨ true = false) ∧ fget s LNK.RACC_ADDR.UNIT ≠ myAddr s ∧ (∀ p < 2, portUp s p = true ∧ (classQ (portQ s p) 2).length < 32) ∧ s.lnk.broken = []) (9) (3) (lnkSt true 2 [(LNK.RACC_ADDR.UNIT, 3)]) := by
  decide +kernel

theorem witness_StagesWakesAndTheCalendar_5a :
    (fun (p : Fin 2) (src : Fin 32) (b : BitVec 8) (_ : BitVec 8) (s : State) =>
    beaconFirst s p src b.toNat ∧ stage s = 4 ∧ s.pwr.waking = false) (0) (1) (7) (1) (pwrSt 4 false 3 []) := by
  decide +kernel

theorem witness_StagesWakesAndTheCalendar_6a :
    (fun (p : Fin 2) (src : Fin 32) (b : BitVec 8) (_ : BitVec 8) (s : State) =>
    beaconFirst s p src b.toNat ∧ stage s = 4 ∧ s.pwr.waking = true) (0) (1) (7) (1) (withPwr (pwrSt 4 false 3 []) { waking := true }) := by
  decide +kernel

theorem witness_StagesWakesAndTheCalendar_7a :
    (fun (p : Fin 2) (src : Fin 32) (b : BitVec 8) (_ : BitVec 8) (s : State) =>
    fget s (LNK.PORT.STAT.STATE p) ≠ 3 ∨ b.toNat ∈ tabGet (fun _ => []) s.lnk.bseen src ∨ (addressed s = true ∧ src = myAddr s)) (0) (1) (7) (1) (pwrSt 2 false 2 []) := by
  decide +kernel

theorem witness_StagesWakesAndTheCalendar_8a :
    (fun (p : Fin 2) (src : Fin 32) (b : BitVec 8) (_ : Word) (_ : Word) (s : State) =>
    beaconFirst s p src b.toNat ∧ Calm s 0x27E) (0) (1) (7) (4) (0) (pwrSt 4 false 3 []) := by
  decide +kernel

theorem witness_StagesWakesAndTheCalendar_9a :
    (fun (p : Fin 2) (src : Fin 32) (b : BitVec 8) (_ : BitVec 64) (s : State) =>
    halted s 2 = false ∧ beaconFirst s p src b.toNat ∧ stage s = 4 ∧ fget s TIME.STAT.STATE = 3 ∧ isHead s = false) (0) (0) (7) (5000000000) (pwrSt 4 false 3 [(TIME.HOLD_MS.MS, 1000)]) := by
  decide +kernel

theorem witness_StagesWakesAndTheCalendar_9b :
    (fun (p : Fin 2) (src : Fin 32) (b : BitVec 8) (_ : BitVec 64) (s : State) =>
    halted s 2 = false ∧ beaconFirst s p src b.toNat ∧ stage s = 4 ∧ fget s TIME.STAT.STATE = 3 ∧ isHead s = false) (0) (0) (7) (5000000000) (pwrSt 4 false 3 [(TIME.HOLD_MS.MS, 600)]) := by
  decide +kernel

theorem witness_StagesWakesAndTheCalendar_10a :
    (fun (p : Fin 2) (_ : Fin 32) (_ : Fin 32) (_ : BitVec 8) (s : State) =>
    halted s 2 = false ∧ fget s (LNK.PORT.STAT.STATE p) = 3) (1) (3) (3) (1) (pwrSt 4 false 3 []) := by
  decide +kernel

theorem witness_StagesWakesAndTheCalendar_11a :
    (fun (rq : Fin 24) (s : State) =>
    restUp s rq ∧ stage s = 2 ∧ stageFree s) (9) (pwrSt 2 true 2 [(RTC.PWR_CFG.EVE_LEVEL, 4)]) := by
  decide +kernel

theorem witness_StagesWakesAndTheCalendar_12a :
    (fun (rq : Fin 24) (s : State) =>
    restUp s rq ∧ (stage s ≠ 2 ∨ ¬ stageFree s)) (9) (pwrSt 3 true 2 []) := by
  decide +kernel

theorem witness_StagesWakesAndTheCalendar_13a :
    (fun (rq : Fin 24) (s : State) =>
    restUp s rq ∧ stage s = 3 ∧ stageFree s) (9) (withPwr (pwrSt 3 true 2 []) { eveLevel := 2 }) := by
  decide +kernel

theorem witness_StagesWakesAndTheCalendar_14a :
    (fun (rq : Fin 24) (s : State) =>
    restUp s rq ∧ stage s = 4 ∧ stageFree s) (9) (pwrSt 4 true 3 []) := by
  decide +kernel

theorem witness_StagesWakesAndTheCalendar_15a :
    (fun (rq : Fin 24) (s : State) =>
    restUp s rq ∧ ((stage s ≠ 3 ∧ stage s ≠ 4) ∨ ¬ stageFree s)) (9) (pwrSt 2 true 2 []) := by
  decide +kernel

theorem witness_StagesWakesAndTheCalendar_15b :
    (fun (rq : Fin 24) (s : State) =>
    restUp s rq ∧ ((stage s ≠ 3 ∧ stage s ≠ 4) ∨ ¬ stageFree s)) (9) (withPwr (pwrSt 4 true 3 []) { waking := true }) := by
  decide +kernel

theorem witness_StagesWakesAndTheCalendar_16a :
    (fun (rq : Fin 24) (s : State) =>
    restUp s rq ∧ (stage s = 2 ∨ stage s = 3) ∧ stageFree s ∧ (addressed s = false ∨ fon s LNK.STAT.ATTACHED = false ∨ fon s TOP.STATUS.SOLO = true)) (9) (pwrSt 3 false 2 [(LNK.STAT.ATTACHED, 0)]) := by
  decide +kernel

theorem witness_StagesWakesAndTheCalendar_17a :
    (fun (rq : Fin 24) (s : State) =>
    restUp s rq ∧ (stage s = 2 ∨ stage s = 3) ∧ stageFree s ∧ addressed s = true ∧ fon s LNK.STAT.ATTACHED = true ∧ fon s TOP.STATUS.SOLO = false ∧ isHead s = true ∧
    (∀ x ∈ s.cvy.head, cvyArmed s x = false) ∧ (∀ u < 32, u = myAddr s ∨ fon s (LNK.REACH u) = false ∨ tabGet (fun _ => 2) s.pwr.stages u = 2 ∨ tabGet (fun _ => 2) s.pwr.stages u = 3) ∧ roomy s ∧ s.lnk.broken = [] ∧ quietSum s) (9) (pwrSt 2 true 2 []) := by
  decide +kernel

theorem witness_StagesWakesAndTheCalendar_18a :
    (fun (rq : Fin 24) (s : State) =>
    restUp s rq ∧ ((stage s ≠ 2 ∧ stage s ≠ 3) ∨ ¬ stageFree s ∨ (addressed s = true ∧ fon s LNK.STAT.ATTACHED = true ∧ fon s TOP.STATUS.SOLO = false ∧
    (isHead s = false ∨ (∃ x ∈ s.cvy.head, cvyArmed s x = true) ∨ ∃ u < 32, u ≠ myAddr s ∧ fon s (LNK.REACH u) = true ∧ tabGet (fun _ => 2) s.pwr.stages u ≠ 2 ∧ tabGet (fun _ => 2) s.pwr.stages u ≠ 3)))) (9) (pwrSt 2 false 2 []) := by
  decide +kernel

theorem witness_StagesWakesAndTheCalendar_18b :
    (fun (rq : Fin 24) (s : State) =>
    restUp s rq ∧ ((stage s ≠ 2 ∧ stage s ≠ 3) ∨ ¬ stageFree s ∨ (addressed s = true ∧ fon s LNK.STAT.ATTACHED = true ∧ fon s TOP.STATUS.SOLO = false ∧
    (isHead s = false ∨ (∃ x ∈ s.cvy.head, cvyArmed s x = true) ∨ ∃ u < 32, u ≠ myAddr s ∧ fon s (LNK.REACH u) = true ∧ tabGet (fun _ => 2) s.pwr.stages u ≠ 2 ∧ tabGet (fun _ => 2) s.pwr.stages u ≠ 3)))) (9) (withPwr (pwrSt 2 true 2 []) { stages := [(3, 1)] }) := by
  decide +kernel

theorem witness_StagesWakesAndTheCalendar_18c :
    (fun (rq : Fin 24) (s : State) =>
    restUp s rq ∧ ((stage s ≠ 2 ∧ stage s ≠ 3) ∨ ¬ stageFree s ∨ (addressed s = true ∧ fon s LNK.STAT.ATTACHED = true ∧ fon s TOP.STATUS.SOLO = false ∧
    (isHead s = false ∨ (∃ x ∈ s.cvy.head, cvyArmed s x = true) ∨ ∃ u < 32, u ≠ myAddr s ∧ fon s (LNK.REACH u) = true ∧ tabGet (fun _ => 2) s.pwr.stages u ≠ 2 ∧ tabGet (fun _ => 2) s.pwr.stages u ≠ 3)))) (9) (pwrSt 4 true 3 []) := by
  decide +kernel

theorem witness_StagesWakesAndTheCalendar_19a :
    (fun (_ : Bool) (_ : BitVec 64) (s : State) =>
    halted s 2 = false) (true) (77) (pwrSt 2 false 2 []) := by
  decide +kernel

theorem witness_StagesWakesAndTheCalendar_20a :
    (fun (c : Nat) (s : State) =>
    s.pwr.rate = some c ∧ (stage s = 2 ∨ stage s = 3) ∧ s.pwr.heldCause = none) (5000) ({ withPwr (pwrSt 2 true 2 [(RTC.PWR_CFG.NIGHT_LEVEL, 2), (LOOP.STAT.STATE 0, 4), (PD.STAT.STATE 0, 4), (ADC.STAT.C0, 8)]) { rate := some 5000 } with adc := { cal := [1] } }) := by
  decide +kernel

theorem witness_StagesWakesAndTheCalendar_21a :
    (fun (c : Nat) (x : Nat × Nat) (s : State) =>
    s.pwr.rate = some c ∧ (stage s = 2 ∨ stage s = 3) ∧ s.pwr.heldCause = some x ∧ s.pwr.waking = false ∧ x.1 < 256 ∧ x.2 < 32) (5000) ((1, 2)) (withPwr (pwrSt 2 true 2 []) { rate := some 5000, heldCause := some (1, 2) }) := by
  decide +kernel

theorem witness_StagesWakesAndTheCalendar_22a :
    (fun (s : State) =>
    s.pwr.rate = none) (pwrSt 2 true 2 []) := by
  decide +kernel

theorem witness_StagesWakesAndTheCalendar_23a :
    (fun (_ : List (Fin 64 × Int × Int)) (_ : List (Fin 256 × Int)) (_ : Fin 176) (_ : Nat) (_ : Nat) (s : State) =>
    stage s ≠ 4) ([]) ([]) (5) (1) (1) (pwrSt 2 true 2 []) := by
  decide +kernel

theorem witness_StagesWakesAndTheCalendar_24a :
    (fun (i : Fin 256) (_ : Int) (d : Fin 176) (_ : Nat) (s : State) =>
    stage s = 4 ∧ fget s CMP.CHK.MODE ≤ 1 ∧ d.val ∉ s.cmp.dacMiss ∧ CalmIn s 0x259 9 ∧
    (∃ k < 16, fget s (WIRE.AMB.CTL.SRC k) = 2 ∧ fget s (WIRE.AMB.CTL.RIDX k) = i ∧ ∃ n < 64, fon s (WIRE.STAT.RUN n) = true ∧ fget s (WIRE.CFG.AMB n) = k)) (0x21) (-700) (5) (1) (pwrSt 4 true 3 [(WIRE.AMB.CTL.SRC 2, 2), (WIRE.AMB.CTL.RIDX 2, 0x21), (WIRE.STAT.RUN 3, 1), (WIRE.CFG.AMB 3, 2), (ADC.SEQ.CFG.SHIFT 2, 1)]) := by
  decide +kernel

theorem witness_StagesWakesAndTheCalendar_25a :
    (fun (s : State) =>
    stage s = 4 ∧ entTimed s ≠ [] ∧ fon s RTC.WAKE.EN_ITIN = true ∧ s.pwr.waking = false ∧ s.pwr.rate = none) ({ pwrSt 4 true 3 [(ITIN.W3.EN 5, 1), (TIME.ITIN_ST.STATE 5, 1)] with itx := [(5, { nominal := 9000000, placed := 9000000 })] }) := by
  decide +kernel

theorem witness_StagesWakesAndTheCalendar_26a :
    (fun (s : State) =>
    entTimed s = []) (pwrSt 4 true 3 []) := by
  decide +kernel

theorem witness_StagesWakesAndTheCalendar_27a :
    (fun (s : State) =>
    halted s 2 = false ∧ stage s = 4) (pwrSt 4 true 3 []) := by
  decide +kernel

theorem witness_StagesWakesAndTheCalendar_28a :
    (fun (s : State) =>
    stage s ≠ 4) (pwrSt 2 true 2 []) := by
  decide +kernel

theorem witness_StagesWakesAndTheCalendar_29a :
    (fun (s : State) =>
    stage s = 4 ∧ s.pwr.waking = true) (withPwr (pwrSt 4 true 1 [(ADC.CTL.EN, 9), (PD.CFG.EN 0, 1)]) { waking := true, nightLevel := 3 }) := by
  decide +kernel

theorem witness_StagesWakesAndTheCalendar_30a :
    (fun (s : State) =>
    stage s ≠ 4 ∨ s.pwr.waking = false) (pwrSt 4 true 3 []) := by
  decide +kernel

theorem witness_StagesWakesAndTheCalendar_31a :
    (fun (s : State) =>
    s.start.bkp = true ∧ calOk s) (calSt [(RTC.ALM.EN 0, 1), (RTC.ALM.MSK 0, 8), (RTC.ALM.WAKE 0, 1)]) := by
  decide +kernel

theorem witness_StagesWakesAndTheCalendar_31b :
    (fun (s : State) =>
    s.start.bkp = true ∧ calOk s) (calSt [(RTC.DATE.YEAR, 2199), (RTC.DATE.MONTH, 12), (RTC.DATE.DAY, 31)]) := by
  decide +kernel

theorem witness_StagesWakesAndTheCalendar_32a :
    (fun (rq : Fin 24) (_ : Word) (s : State) =>
    restUp s rq) (9) (0x00173B3B) (withPwr (calSt []) { staged := some 0x0834021D }) := by
  decide +kernel

theorem witness_StagesWakesAndTheCalendar_32b :
    (fun (rq : Fin 24) (_ : Word) (s : State) =>
    restUp s rq) (9) (0x00183B3B) (calSt []) := by
  decide +kernel

theorem witness_StagesWakesAndTheCalendar_32c :
    (fun (rq : Fin 24) (_ : Word) (s : State) =>
    restUp s rq) (9) (0) (withPwr (calSt []) { staged := some 0x0833021D }) := by
  decide +kernel

theorem witness_StagesWakesAndTheCalendar_33a :
    (fun (rq : Fin 24) (_ : Word) (s : State) =>
    restUp s rq) (9) (0x0834021D) (calSt []) := by
  decide +kernel

theorem witness_StagesWakesAndTheCalendar_34a :
    (fun (rq : Fin 24) (s : State) =>
    restUp s rq ∧ targetDown s 0x7F = false) (9) (calSt []) := by
  decide +kernel

theorem witness_StagesWakesAndTheCalendar_35a :
    (fun (rq : Fin 24) (s : State) =>
    restUp s rq ∧ calOk s) (9) (calSt []) := by
  decide +kernel

theorem witness_StagesWakesAndTheCalendar_35b :
    (fun (rq : Fin 24) (s : State) =>
    restUp s rq ∧ calOk s) (9) (calSt [(RTC.STAT.DST, 1)]) := by
  decide +kernel

theorem witness_StagesWakesAndTheCalendar_36a :
    (fun (rq : Fin 24) (s : State) =>
    restUp s rq ∧ calOk s) (9) (calSt [(RTC.STAT.DST, 1), (RTC.TIME.HOUR, 0), (RTC.DATE.DAY, 1), (RTC.DATE.MONTH, 3)]) := by
  decide +kernel

theorem witness_StagesWakesAndTheCalendar_37a :
    (fun (rq : Fin 24) (_ : Fin 2) (_ : Word) (s : State) =>
    restUp s rq) (9) (0) (0xF01F0780) (calSt []) := by
  decide +kernel

theorem witness_StagesWakesAndTheCalendar_37b :
    (fun (rq : Fin 24) (_ : Fin 2) (_ : Word) (s : State) =>
    restUp s rq) (9) (1) (0x800B0780) (calSt []) := by
  decide +kernel

theorem witness_StagesWakesAndTheCalendar_38a :
    (fun (rq : Fin 24) (s : State) =>
    restUp s rq ∧ s.pwr.storage = false) (9) (calSt []) := by
  decide +kernel

theorem witness_StagesWakesAndTheCalendar_39a :
    (fun (_ : State) =>
    True) (calSt [(RTC.STAT.PON, 1), (RTC.PON.PULSE_MS, 5)]) := by
  decide +kernel

theorem witness_BusTransactions_1a :
    (fun (_ : Bool) (s : State) =>
    busFree s) (true) (busSt 0 []) := by
  decide +kernel

theorem witness_BusTransactions_1b :
    (fun (_ : Bool) (s : State) =>
    busFree s) (false) (busSt 2 [(FLT.LAT 0x40, 1)]) := by
  decide +kernel

theorem witness_BusTransactions_2a :
    (fun (_ : Bool) (_ : Nat) (_ : BitVec 24) (_ : BitVec 32) (_ : List (BitVec 32)) (_ : Option (BitVec 8)) (s : State) =>
    busUp s ∧ portFull s) (true) (2) (0x21104) (5) ([1, 2]) (none) (withTags (busSt 2 [])) := by
  decide +kernel

theorem witness_BusTransactions_3a :
    (fun (_ : Bool) (_ : Nat) (_ : BitVec 24) (_ : BitVec 32) (_ : List (BitVec 32)) (_ : Option (BitVec 8)) (s : State) =>
    ¬ busUp s) (true) (2) (0x21104) (5) ([1, 2]) (none) (busSt 2 [(TOP.SUPPLY.VDDIO, 0)]) := by
  decide +kernel

theorem witness_BusTransactions_4a :
    (fun (ptr : BitVec 24) (p : Option (BitVec 8)) (s : State) =>
    busFree s ∧ ptr.toNat % 4 = 0 ∧ stage s ≠ 0 ∧ pecPasses s (8 :: leBytes 3 ptr.toNat) p) (0x21104) (none) (busSt 2 []) := by
  decide +kernel

theorem witness_BusTransactions_4b :
    (fun (ptr : BitVec 24) (p : Option (BitVec 8)) (s : State) =>
    busFree s ∧ ptr.toNat % 4 = 0 ∧ stage s ≠ 0 ∧ pecPasses s (8 :: leBytes 3 ptr.toNat) p) (0x21104) (some (pecOf (busSt 1 []) [8, 4, 0x11, 2])) (busSt 1 [(BUS.CFG.PEC_REQ, 1)]) := by
  decide +kernel

theorem witness_BusTransactions_5a :
    (fun (ptr : BitVec 24) (_ : Option (BitVec 8)) (s : State) =>
    busFree s ∧ ptr.toNat % 4 ≠ 0) (0x21105) (none) (busSt 2 []) := by
  decide +kernel

theorem witness_BusTransactions_6a :
    (fun (n : Nat) (ptr : BitVec 24) (_ : BitVec 32) (_ : List (BitVec 32)) (_ : BitVec 8) (s : State) =>
    busFree s ∧ ptr.toNat % 4 = 0 ∧ 1 ≤ n ∧ n ≤ 4) (2) (0x21104) (7) ([1, 2]) (9) (busSt 2 []) := by
  decide +kernel

theorem witness_BusTransactions_7a :
    (fun (n : Nat) (ptr : BitVec 24) (_ : BitVec 32) (_ : List (BitVec 32)) (s : State) =>
    busFree s ∧ ptr.toNat % 4 = 0 ∧ 1 ≤ n ∧ n ≤ 4 ∧ fon s BUS.CFG.PEC_REQ = true) (2) (0x21104) (7) ([1, 2]) (busSt 2 [(BUS.CFG.PEC_REQ, 1)]) := by
  decide +kernel

theorem witness_BusTransactions_8a :
    (fun (_ : Bool) (n : Nat) (s : State) =>
    busFree s ∧ stage s = 0 ∧ 1 ≤ n ∧ n ≤ 4) (true) (3) (busSt 0 []) := by
  decide +kernel

theorem witness_BusTransactions_9a :
    (fun (n : Nat) (ptr : BitVec 24) (_ : BitVec 32) (_ : List (BitVec 32)) (_ : Option (BitVec 8)) (s : State) =>
    busFree s ∧ stage s = 0 ∧ 1 ≤ n ∧ n ≤ 4 ∧ ptr.toNat % 4 = 0) (2) (0x21104) (7) ([1, 2]) (none) (busSt 0 []) := by
  decide +kernel

theorem witness_BusTransactions_10a :
    (fun (_ : Bool) (n : Nat) (s : State) =>
    busFree s ∧ stage s ≠ 0 ∧ 1 ≤ n ∧ n ≤ 4 ∧ ptrPlain s n true) (true) (2) (busSt 2 []) := by
  decide +kernel

theorem witness_BusTransactions_10b :
    (fun (_ : Bool) (n : Nat) (s : State) =>
    busFree s ∧ stage s ≠ 0 ∧ 1 ≤ n ∧ n ≤ 4 ∧ ptrPlain s n true) (false) (4) (busSt 4 [(BUS.CFG.AINC, 0)]) := by
  decide +kernel

theorem witness_BusTransactions_10c :
    (fun (_ : Bool) (n : Nat) (s : State) =>
    busFree s ∧ stage s ≠ 0 ∧ 1 ≤ n ∧ n ≤ 4 ∧ ptrPlain s n true) (true) (1) (busSt 3 [(BUS.PTR.PTR, 0xE0000)]) := by
  decide +kernel

theorem witness_BusTransactions_11a :
    (fun (_ : Bool) (s : State) =>
    busFree s ∧ stage s ≠ 0 ∧ ptrPlain s 1 true) (true) (busSt 2 []) := by
  decide +kernel

theorem witness_BusTransactions_12a :
    (fun (_ : Bool) (s : State) =>
    busFree s ∧ stage s ≠ 0 ∧ fabInjected s 9 = false ∧ (specAt (fget s BUS.PTR.PTR) = none ∨ targetDown s (addrTarget (fget s BUS.PTR.PTR)) = true)) (true) (busSt 2 [(BUS.PTR.PTR, 0x140100)]) := by
  decide +kernel

theorem witness_BusTransactions_12b :
    (fun (_ : Bool) (s : State) =>
    busFree s ∧ stage s ≠ 0 ∧ fabInjected s 9 = false ∧ (specAt (fget s BUS.PTR.PTR) = none ∨ targetDown s (addrTarget (fget s BUS.PTR.PTR)) = true)) (false) (busSt 2 [(BUS.PTR.PTR, 0xE0004), (FAB.TGT.DOWN 0x51, 1)]) := by
  decide +kernel

theorem witness_BusTransactions_12c :
    (fun (_ : Bool) (s : State) =>
    busFree s ∧ stage s ≠ 0 ∧ fabInjected s 9 = false ∧ (specAt (fget s BUS.PTR.PTR) = none ∨ targetDown s (addrTarget (fget s BUS.PTR.PTR)) = true)) (true) (busSt 2 [(BUS.PTR.PTR, 0xFFFFFC)]) := by
  decide +kernel

theorem witness_BusTransactions_13a :
    (fun (w : BitVec 32) (p : Option (BitVec 8)) (s : State) =>
    busFree s ∧ stage s ≠ 0 ∧ ptrPlain s 1 false ∧ pecPasses s (0x0A :: leBytes 4 w.toNat) p) (0x3FF) (none) (busSt 2 []) := by
  decide +kernel

theorem witness_BusTransactions_13b :
    (fun (w : BitVec 32) (p : Option (BitVec 8)) (s : State) =>
    busFree s ∧ stage s ≠ 0 ∧ ptrPlain s 1 false ∧ pecPasses s (0x0A :: leBytes 4 w.toNat) p) (5) (none) (busSt 2 [(CFG.STATUS.SEALED, 1), (BUS.PTR.PTR, 0x18)]) := by
  decide +kernel

theorem witness_BusTransactions_14a :
    (fun (n : Nat) (ws : List (BitVec 32)) (p : Option (BitVec 8)) (s : State) =>
    busFree s ∧ stage s ≠ 0 ∧ 1 ≤ n ∧ n ≤ 4 ∧ ws.length = n ∧ ptrPlain s n false ∧ pecPasses s (0x0C :: 4 * n :: ws.flatMap (fun x => leBytes 4 x.toNat)) p) (2) ([0x3FF, 0x12345678]) (none) (busSt 2 []) := by
  decide +kernel

theorem witness_BusTransactions_15a :
    (fun (n : Nat) (_ : Bool) (_ : List (BitVec 32)) (_ : Option (BitVec 8)) (s : State) =>
    busFree s ∧ (n = 0 ∨ 4 < n)) (5) (true) ([1]) (none) (busSt 2 []) := by
  decide +kernel

theorem witness_BusTransactions_15b :
    (fun (n : Nat) (_ : Bool) (_ : List (BitVec 32)) (_ : Option (BitVec 8)) (s : State) =>
    busFree s ∧ (n = 0 ∨ 4 < n)) (0) (true) ([]) (none) (busSt 0 []) := by
  decide +kernel

theorem witness_BusTransactions_17a :
    (fun (s : State) =>
    busUp s) (withReply (busSt 2 [])) := by
  decide +kernel

theorem witness_BusTransactions_17b :
    (fun (s : State) =>
    busUp s) (withReply (busSt 2 [(BUS.CFG.TMO_EN, 0)])) := by
  decide +kernel

theorem witness_BusTransactions_18a :
    (fun (_ : Bool) (s : State) =>
    busUp s) (true) (busSt 2 [(BUS.ATTN.FAULT, 1)]) := by
  decide +kernel

theorem witness_BusTransactions_18b :
    (fun (_ : Bool) (s : State) =>
    busUp s) (true) (busSt 2 [(BUS.ATTN.FAULT, 1), (BUS.CFG.ATTN_MSK, 2)]) := by
  decide +kernel

theorem witness_BusTransactions_18c :
    (fun (_ : Bool) (s : State) =>
    busUp s) (true) (busSt 0 [(BUS.ATTN.SOFT, 1)]) := by
  decide +kernel

theorem witness_BusTransactions_18d :
    (fun (_ : Bool) (s : State) =>
    busUp s) (false) (busSt 2 [(BUS.ATTN.SOFT, 1)]) := by
  decide +kernel

theorem witness_BusTransactions_19a :
    (fun (rq : Fin 24) (_ : Bool) (s : State) =>
    restUp s rq) (9) (true) (busSt 2 []) := by
  decide +kernel

theorem witness_BusTransactions_19b :
    (fun (rq : Fin 24) (_ : Bool) (s : State) =>
    restUp s rq) (10) (false) (busSt 2 []) := by
  decide +kernel

theorem witness_JournalStoresAndReadsRecords_1a :
    (fun (a : Bool) (p4k : Bool) (p128 : Bool) (blocks : Nat) (bad : List Nat) (s : State) =>
    (jState s = 2 ∨ jState s = 4) ∧ (¬ devFits a p4k p128 blocks ∨ ((List.range blocks).filter fun b => decide (ringBlock blocks (s.jrn.bad ++ bad) b)).length < 16)) (false) (false) (false) (2048) ([]) (jrnSt 2 jrnX []) := by
  decide +kernel

theorem witness_JournalStoresAndReadsRecords_1b :
    (fun (a : Bool) (p4k : Bool) (p128 : Bool) (blocks : Nat) (bad : List Nat) (s : State) =>
    (jState s = 2 ∨ jState s = 4) ∧ (¬ devFits a p4k p128 blocks ∨ ((List.range blocks).filter fun b => decide (ringBlock blocks (s.jrn.bad ++ bad) b)).length < 16)) (true) (true) (true) (32768) ([]) (jrnSt 2 jrnX []) := by
  decide +kernel

theorem witness_JournalStoresAndReadsRecords_2a :
    (fun (a : Bool) (p4k : Bool) (p128 : Bool) (blocks : Nat) (bad : List Nat) (b : Nat) (pg : Nat) (q : Nat) (p : Nat) (s : State) =>
    (jState s = 2 ∨ jState s = 4) ∧ devFits a p4k p128 blocks ∧ bad.length + s.jrn.bad.length + 24 ≤ blocks ∧
    s.jrn.head = some (b, pg, q) ∧ q < 2 ^ 47 ∧ ringBlock blocks (s.jrn.bad ++ bad) b ∧ pg ≤ p ∧ p < devPpb p128 ∧
    (∀ i < devPpb p128, pg ≤ i → (tabGet (fun _ => []) s.jrn.nand (b * devPpb p128 + i) = [] ↔ p ≤ i)) ∧
    (∀ e ∈ s.jrn.nand, ∀ x ∈ e.2.filterMap slotRec, x.1 < 2 ^ 47) ∧ (∀ e ∈ s.jrn.nand, e.2.length ≤ 64) ∧ s.jrn.nand.length < 2 ^ 22) (true) (false) (false) (1024) ([11]) (9) (5) (40) (5) (jrnSt 2 { jrnX with queue := [jr 2 0xE0 false] } []) := by
  decide +kernel

theorem witness_JournalStoresAndReadsRecords_2b :
    (fun (a : Bool) (p4k : Bool) (p128 : Bool) (blocks : Nat) (bad : List Nat) (b : Nat) (pg : Nat) (q : Nat) (p : Nat) (s : State) =>
    (jState s = 2 ∨ jState s = 4) ∧ devFits a p4k p128 blocks ∧ bad.length + s.jrn.bad.length + 24 ≤ blocks ∧
    s.jrn.head = some (b, pg, q) ∧ q < 2 ^ 47 ∧ ringBlock blocks (s.jrn.bad ++ bad) b ∧ pg ≤ p ∧ p < devPpb p128 ∧
    (∀ i < devPpb p128, pg ≤ i → (tabGet (fun _ => []) s.jrn.nand (b * devPpb p128 + i) = [] ↔ p ≤ i)) ∧
    (∀ e ∈ s.jrn.nand, ∀ x ∈ e.2.filterMap slotRec, x.1 < 2 ^ 47) ∧ (∀ e ∈ s.jrn.nand, e.2.length ≤ 64) ∧ s.jrn.nand.length < 2 ^ 22) (true) (true) (false) (1024) ([]) (12) (1) (39) (2) (jrnSt 4 { nand := jrnTwo, head := some (12, 1, 39) } [(FAB.TGT.DOWN 0x54, 1)]) := by
  decide +kernel

theorem witness_JournalStoresAndReadsRecords_3a :
    (fun (a : Bool) (p4k : Bool) (p128 : Bool) (blocks : Nat) (bad : List Nat) (b : Nat) (q : Nat) (p : Nat) (w : List Nat) (s : State) =>
    (jState s = 2 ∨ jState s = 4) ∧ devFits a p4k p128 blocks ∧ bad.length + s.jrn.bad.length + 24 ≤ blocks ∧ s.jrn.head = none ∧
    ringBlock blocks (s.jrn.bad ++ bad) b ∧ p < devPpb p128 ∧ 0 < q ∧ ((tabGet (fun _ => []) s.jrn.nand (b * devPpb p128)).headD .torn = .record q w) ∧
    (∀ i < devPpb p128, (tabGet (fun _ => []) s.jrn.nand (b * devPpb p128 + i) = [] ↔ p ≤ i)) ∧ s.jrn.nand.Pairwise (fun x y => x.1 < y.1) ∧
    (∀ e ∈ s.jrn.nand, e.1 % devPpb p128 = 0 → e.1 / devPpb p128 ≠ b → ringBlock blocks (s.jrn.bad ++ bad) (e.1 / devPpb p128) → ∀ x ∈ slotRec (e.2.headD .torn), x.1 < q)) (true) (false) (false) (1024) ([]) (12) (38) (2) ([]) (jrnSt 2 { nand := jrnTwo } []) := by
  decide +kernel

theorem witness_JournalStoresAndReadsRecords_4a :
    (fun (_ : Bool) (_ : Bool) (_ : Bool) (_ : Nat) (_ : List Nat) (s : State) =>
    jState s ≠ 2 ∧ jState s ≠ 4) (true) (false) (false) (1024) ([]) (jrnSt 3 jrnX []) := by
  decide +kernel

theorem witness_JournalStoresAndReadsRecords_5a :
    (fun (r : JRec) (h : List JRec) (l : List JRec) (s : State) =>
    s.jrn.queue = h ++ r :: l ∧ (∀ x ∈ h, x.held = false) ∧ r.held = true ∧ jState s ≠ 3) (jr 4 3 true) ([jr 2 1 false]) ([jr 10 2 true]) (jrnSt 2 { queue := [jr 2 1 false, jr 4 3 true, jr 10 2 true] } []) := by
  decide +kernel

theorem witness_JournalStoresAndReadsRecords_6a :
    (fun (r : JRec) (s : State) =>
    s.jrn.queue = [r] ∧ r.held = true ∧ jState s = 3 ∧ s.jrn.page.length < (if fon s JRNL.GEOM.PAGE4K then 64 else 32)) (jr 4 3 true) (jrnSt 3 { jrnX with queue := [jr 4 3 true] } []) := by
  decide +kernel

theorem witness_JournalStoresAndReadsRecords_7a :
    (fun (rq : Fin 24) (s : State) =>
    jrnlUp s rq ∧ s.jrn.page ≠ []) (9) (jrnSt 3 { jrnX with page := [jr 2 0 false] } []) := by
  decide +kernel

theorem witness_JournalStoresAndReadsRecords_8a :
    (fun (rq : Fin 24) (s : State) =>
    jrnlUp s rq ∧ s.jrn.page = []) (9) (jrnSt 3 jrnX []) := by
  decide +kernel

theorem witness_JournalStoresAndReadsRecords_9a :
    (fun (rq : Fin 24) (k : BitVec 16) (s : State) =>
    jrnlUp s rq ∧ (k ≠ 0x4A1E ∨ jState s = 0)) (9) (0x4A1F) (jrnSt 3 jrnX []) := by
  decide +kernel

theorem witness_JournalStoresAndReadsRecords_9b :
    (fun (rq : Fin 24) (k : BitVec 16) (s : State) =>
    jrnlUp s rq ∧ (k ≠ 0x4A1E ∨ jState s = 0)) (9) (0x4A1E) (jrnSt 0 {} []) := by
  decide +kernel

theorem witness_JournalStoresAndReadsRecords_10a :
    (fun (s : State) =>
    jState s = 3 ∧ s.jrn.op = .idle ∧ s.jrn.prog = [] ∧ s.jrn.page ≠ [] ∧ s.jrn.queue = [] ∧
    (s.jrn.flush = true ∨ (if fon s JRNL.GEOM.PAGE4K then 64 else 32) ≤ s.jrn.page.length)) (jrnSt 3 { jrnX with page := [jr 2 0 false], flush := true } []) := by
  decide +kernel

theorem witness_JournalStoresAndReadsRecords_10b :
    (fun (s : State) =>
    jState s = 3 ∧ s.jrn.op = .idle ∧ s.jrn.prog = [] ∧ s.jrn.page ≠ [] ∧ s.jrn.queue = [] ∧
    (s.jrn.flush = true ∨ (if fon s JRNL.GEOM.PAGE4K then 64 else 32) ≤ s.jrn.page.length)) (jrnSt 3 { jrnX with page := List.replicate 32 (jr 2 0 false) } []) := by
  decide +kernel

theorem witness_JournalStoresAndReadsRecords_11a :
    (fun (s : State) =>
    jState s ≠ 3 ∨ s.jrn.op ≠ .idle ∨ (s.jrn.prog = [] ∧ (s.jrn.page = [] ∨ (s.jrn.flush = false ∧ s.jrn.page.length < (if fon s JRNL.GEOM.PAGE4K then 64 else 32))))) (jrnSt 3 { jrnX with page := [jr 2 0 false] } []) := by
  decide +kernel

theorem witness_JournalStoresAndReadsRecords_12a :
    (fun (n : Nat) (s : State) =>
    s.jrn.op = .program ∧ jHead s + s.jrn.prog.length < 2 ^ 48 - 2 ∧ ringBlock (jrnlBlocks s) s.jrn.bad s.jrn.blk ∧ s.jrn.pg < jrnlPpb s ∧ s.jrn.prog ≠ [] ∧
    nextGood s s.jrn.blk n = true) (10) (jrnSt 3 { jrnX with op := .program, prog := [jr 2 0 false, jr 3 1 false] } []) := by
  decide +kernel

theorem witness_JournalStoresAndReadsRecords_12b :
    (fun (n : Nat) (s : State) =>
    s.jrn.op = .program ∧ jHead s + s.jrn.prog.length < 2 ^ 48 - 2 ∧ ringBlock (jrnlBlocks s) s.jrn.bad s.jrn.blk ∧ s.jrn.pg < jrnlPpb s ∧ s.jrn.prog ≠ [] ∧
    nextGood s s.jrn.blk n = true) (12) (jrnSt 3 { jrnX with op := .program, prog := [jr 2 0 false], blk := 10, pg := 0, bad := [11] } []) := by
  decide +kernel

theorem witness_JournalStoresAndReadsRecords_12c :
    (fun (n : Nat) (s : State) =>
    s.jrn.op = .program ∧ jHead s + s.jrn.prog.length < 2 ^ 48 - 2 ∧ ringBlock (jrnlBlocks s) s.jrn.bad s.jrn.blk ∧ s.jrn.pg < jrnlPpb s ∧ s.jrn.prog ≠ [] ∧
    nextGood s s.jrn.blk n = true) (8) (jrnSt 3 { jrnX with op := .program, prog := [jr 2 0 false], blk := 1023, pg := 63 } []) := by
  decide +kernel

theorem witness_JournalStoresAndReadsRecords_13a :
    (fun (n : Nat) (s : State) =>
    s.jrn.op = .program ∧ jState s = 3 ∧ s.jrn.fails < 2 ∧ s.jrn.blk ∉ s.jrn.bad ∧ s.jrn.bad.length + 25 ≤ jrnlBlocks s ∧ nextGood s s.jrn.blk n = true ∧ n ≠ s.jrn.blk ∧ s.jrn.bad.Nodup) (10) (jrnSt 3 { jrnX with op := .program, prog := [jr 2 0 false] } []) := by
  decide +kernel

theorem witness_JournalStoresAndReadsRecords_14a :
    (fun (s : State) =>
    s.jrn.op = .program ∧ s.jrn.fails = 2 ∧ jState s = 3 ∧ s.jrn.bad.length + 25 ≤ jrnlBlocks s ∧ jrnlAlone s ∧ s.jrn.blk ∈ s.jrn.bad) (jrnSt 3 { jrnX with op := .program, prog := [jr 2 0 false], fails := 2, bad := [9] } []) := by
  decide +kernel

theorem witness_JournalStoresAndReadsRecords_15a :
    (fun (s : State) =>
    s.jrn.op = .erase) (jrnSt 3 { jrnX with op := .erase, erasing := 9, blk := 8, pg := 1 } []) := by
  decide +kernel

theorem witness_JournalStoresAndReadsRecords_16a :
    (fun (n : Nat) (s : State) =>
    s.jrn.op = .erase ∧ jState s = 3 ∧ s.jrn.fails < 2 ∧ s.jrn.erasing ∉ s.jrn.bad ∧ s.jrn.bad.length + 25 ≤ jrnlBlocks s ∧ s.jrn.erasing ≠ s.jrn.blk ∧ s.jrn.bad.Nodup ∧
    ringBlock (jrnlBlocks s) s.jrn.bad s.jrn.blk ∧ 0 < s.jrn.pg ∧ s.jrn.pg < jrnlPpb s ∧ nextGood s s.jrn.blk s.jrn.erasing = true ∧ nextGood s s.jrn.erasing n = true ∧ n ≠ s.jrn.blk) (11) (jrnSt 3 { jrnX with op := .erase, erasing := 10, blk := 9, pg := 1 } []) := by
  decide +kernel

theorem witness_JournalStoresAndReadsRecords_17a :
    (fun (s : State) =>
    s.jrn.op ≠ .program ∧ s.jrn.op ≠ .erase) (jrnSt 3 jrnX []) := by
  decide +kernel

theorem witness_JournalStoresAndReadsRecords_18a :
    (fun (_ : Fin 24) (s : State) =>
    jrnlAlone s ∧ 2 ≤ jState s ∧ (s.jrn.op ≠ .idle ∨ s.jrn.reading.isSome = true)) (9) (jrnSt 3 { jrnX with op := .erase } []) := by
  decide +kernel

theorem witness_JournalStoresAndReadsRecords_18b :
    (fun (_ : Fin 24) (s : State) =>
    jrnlAlone s ∧ 2 ≤ jState s ∧ (s.jrn.op ≠ .idle ∨ s.jrn.reading.isSome = true)) (9) (jrnSt 3 { jrnX with reading := some 7 } [(JRNL.RD_STAT.BUSY, 1)]) := by
  decide +kernel

theorem witness_JournalStoresAndReadsRecords_19a :
    (fun (s : State) =>
    jState s < 2 ∨ (s.jrn.op = .idle ∧ s.jrn.reading = none)) (jrnSt 3 jrnX []) := by
  decide +kernel

theorem witness_JournalStoresAndReadsRecords_20a :
    (fun (rq : Fin 24) (s : State) =>
    jrnlUp s rq) (9) (jrnSt 3 jrnX [(JRNL.RD_SEQ_LO.SEQ, 38), (JRNL.RD_SEQ_HI.SEQ, 0xFFFF0001)]) := by
  decide +kernel

theorem witness_JournalStoresAndReadsRecords_20b :
    (fun (rq : Fin 24) (s : State) =>
    jrnlUp s rq) (9) (jrnSt 3 jrnX [(JRNL.RD_STAT.BUSY, 1)]) := by
  decide +kernel

theorem witness_JournalStoresAndReadsRecords_21a :
    (fun (q : Nat) (x : Nat × List Nat) (s : State) =>
    s.jrn.reading = some q ∧ jState s = 3 ∧ lowestFrom (max q (jOldest s)) (ringSlots s) x ∧ x.1 < 2 ^ 48 - 1 ∧ x.2.length ≤ 16 ∧ x.2.all (fun w => decide (w < 2 ^ 32)) = true ∧
    (∀ y ∈ (ringSlots s).filterMap slotRec, y.1 = x.1 → y = x)) (39) ((39, [4, 1])) (jrnSt 3 { jrnX with reading := some 39 } [(JRNL.RD_STAT.BUSY, 1)]) := by
  decide +kernel

theorem witness_JournalStoresAndReadsRecords_21b :
    (fun (q : Nat) (x : Nat × List Nat) (s : State) =>
    s.jrn.reading = some q ∧ jState s = 3 ∧ lowestFrom (max q (jOldest s)) (ringSlots s) x ∧ x.1 < 2 ^ 48 - 1 ∧ x.2.length ≤ 16 ∧ x.2.all (fun w => decide (w < 2 ^ 32)) = true ∧
    (∀ y ∈ (ringSlots s).filterMap slotRec, y.1 = x.1 → y = x)) (7) ((38, [3, 1])) (jrnSt 3 { jrnX with reading := some 7 } [(JRNL.RD_STAT.BUSY, 1)]) := by
  decide +kernel

theorem witness_JournalStoresAndReadsRecords_22a :
    (fun (q : Nat) (s : State) =>
    s.jrn.reading = some q ∧ ((∀ y ∈ (ringSlots s).filterMap slotRec, y.1 < max q (jOldest s)) ∨ jState s ≠ 3)) (40) (jrnSt 3 { jrnX with reading := some 40 } [(JRNL.RD_STAT.BUSY, 1)]) := by
  decide +kernel

theorem witness_JournalStoresAndReadsRecords_22b :
    (fun (q : Nat) (s : State) =>
    s.jrn.reading = some q ∧ ((∀ y ∈ (ringSlots s).filterMap slotRec, y.1 < max q (jOldest s)) ∨ jState s ≠ 3)) (40) (jrnSt 4 { jrnX with reading := some 40 } [(JRNL.RD_STAT.BUSY, 1)]) := by
  decide +kernel

theorem witness_JournalStoresAndReadsRecords_23a :
    (fun (a : Nat) (s : State) =>
    s.jrn.reading = some 41 ∧ jState s = 3 ∧ jOldest s ≤ 41 ∧ ringSlots s = [.record 40 [], .torn, .torn, .record a []] ∧ 41 < a ∧ a < 100) (44) (jrnSt 3 { nand := [(512, [.record 40 []]), (513, [.torn, .torn]), (514, [.record 44 []])], pg := 3, reading := some 41 } [(JRNL.RD_STAT.SKIPPED, 65534)]) := by
  decide +kernel

theorem witness_JournalStoresAndReadsRecords_24a :
    (fun (s : State) =>
    s.jrn.reading = none) (jrnSt 3 jrnX []) := by
  decide +kernel

theorem witness_JournalStoresAndReadsRecords_25a :
    (fun (_ : List (BitVec 32)) (s : State) =>
    fon s JRNL.CFG.ACCEPT = false) (List.replicate 16 7) (jrnSt 3 jrnX []) := by
  decide +kernel

theorem witness_JournalStoresAndReadsRecords_26a :
    (fun (w : List (BitVec 32)) (s : State) =>
    fon s JRNL.CFG.ACCEPT = true ∧ fon s JRNL.CFG.EN = true ∧ fon s JRNL.CFG.FWD_EN = false ∧ (jState s = 0 ∨ jState s = 2 ∨ jState s = 4) ∧
    s.jrn.queue.length < 256 ∧ w.length = 16 ∧ (w.getD 1 0).toNat / 2 ^ 16 % 256 ≠ 1) ([1, 0x01020003, 4, 5, 6, 7, 8, 9, 10, 11, 0, 0, 0, 0, 0, 99]) (jrnSt 2 { queue := [jr 2 0 false], loss := true } [(JRNL.CFG.ACCEPT, 1)]) := by
  decide +kernel

theorem witness_JournalStoresAndReadsRecords_27a :
    (fun (_ : List (BitVec 32)) (s : State) =>
    fon s JRNL.CFG.ACCEPT = true ∧ fon s JRNL.CFG.EN = true ∧ jState s ≠ 1 ∧ 256 ≤ s.jrn.queue.length) (List.replicate 16 7) (jrnSt 3 { queue := List.replicate 256 (jr 2 0 false) } [(JRNL.CFG.ACCEPT, 1)]) := by
  decide +kernel

theorem witness_JournalStoresAndReadsRecords_28a :
    (fun (_ : List (BitVec 32)) (s : State) =>
    fon s JRNL.CFG.ACCEPT = true ∧ (jState s = 1 ∨ fon s JRNL.CFG.EN = false)) (List.replicate 16 7) (jrnSt 1 {} [(JRNL.CFG.ACCEPT, 1)]) := by
  decide +kernel

end Sys2Proof.Tests
end

section
/-!
PROOF. A step on an empty queue: what the passing of one SYS cycle does to the registers, the queue and the local timebase.
-/
namespace Sys2Proof.Machine

variable {p : Nat → Bool} {s t u : State}

theorem SameBut.refl (p : Nat → Bool) (s : State) : SameBut p s s := fun _ _ => rfl

theorem SameBut.trans (h : SameBut p s t) (k : SameBut p t u) : SameBut p s u :=
  fun f hf => (k f hf).trans (h f hf)

/-- A change beside the registers is no change of a field. -/
theorem SameBut.regs (h : SameBut p s t) (hr : u.regs = t.regs) : SameBut p s u :=
  fun f hf => (fget_congr f hr).trans (h f hf)

/-- A write of a field that may change. -/
theorem SameBut.fset (h : SameBut p s t) {g : Fld} (v : Nat) (hg : p (fkey g) = true) : SameBut p s (fset t g v) :=
  fun f hf => (fget_fset_ne t v (fun e => by simp [e, hg] at hf)).trans (h f hf)

theorem passBkp_sameBut (s : State) (ns : Nat) : SameBut (inBlocks [0x8, 0x13]) s (passBkp s ns) :=
  ((SameBut.refl _ s).regs rfl).fset _ (by decide)

@[simp] theorem passBkp_loc (s : State) (ns : Nat) : (passBkp s ns).time.loc = s.time.loc := rfl

@[simp] theorem passBkp_storage (s : State) (ns : Nat) : (passBkp s ns).pwr.storage = s.pwr.storage := rfl

@[simp] theorem stage_passBkp (s : State) (ns : Nat) : stage (passBkp s ns) = stage s :=
  passBkp_sameBut s ns TOP.STAGE.STAGE (by decide)

/-- Time that passes shows in the registers of TIME (holdover) and RTC (prescaler) only. -/
theorem pass_sameBut (s : State) (ns : Nat) : SameBut (inBlocks [0x8, 0x13]) s (pass s ns) := by
  have hBkp := passBkp_sameBut s ns
  unfold pass
  dsimp only
  split
  · exact hBkp
  · split
    · exact (hBkp.regs rfl).fset _ (by decide)
    · exact hBkp.regs rfl

/-- The local timebase runs from Morning entry on, but not in Storage (R346). -/
theorem pass_loc (s : State) (ns : Nat) :
    (pass s ns).time.loc = if stage s = 0 ∨ s.pwr.storage = true then s.time.loc else s.time.loc + ns := by
  unfold pass
  dsimp only
  simp only [stage_passBkp, passBkp_storage, Bool.or_eq_true, decide_eq_true_eq]
  split
  · rfl
  · split <;> rfl

theorem step_of_empty (h : s.pending = []) : step s = .next (tick s) := by simp only [step, h]

/-- Settles O2: the step is a `tick`, which is `pass s 4`. -/
theorem emptyQueueLetsTimePass : Obligations.EmptyQueueLetsTimePass := by
  intro s hq
  refine ⟨tick s, step_of_empty hq, (tick_keeps (Keeps.refl s)).pending.trans hq, fun hStage hStorage => ?_,
    pass_sameBut s 4⟩
  simp [tick, pass_loc, hStage, hStorage]

end Sys2Proof.Machine
end

section
/-!
PROOF. A lockstep mismatch in a state whose running sequence names a monitor that the part does not have: the fatal raise
latches ENG1_LOCKSTEP and enters the safe state, whose abort of the sequence clears the latch again.
-/
namespace Sys2Proof.Machine

theorem exec_lockstepMismatch (e : Fin 4) (s : State) :
    exec (.lockstepMismatch e) s = .next (lockstepHalt s e false) := rfl

/-- After power-on, but engine E1 runs and sequence 0 is in an OFF_WAIT step on monitor 0xBFEC. R282 gives a step one byte
for its monitor and no image section holds this step; the type `Step` does, and MON.STAT.MODE of that monitor has the key
of FLT.LAT 0x243. -/
def strayMonitorState : State :=
  let s := fset (fset State.reset (ENG.STAT.STATE 1) 1) (SEQ.STAT.STATE 0) 1
  { s with sqs := { s.sqs with steps := [⟨6, 0, 0, 0, 0xBFEC, 0⟩], seqs := [(0, { issued := true })] } }

theorem strayMonitorState_reports :
    fget strayMonitorState (ENG.STAT.STATE 1) = 1 ∧ Reports strayMonitorState 0x243 := by decide +kernel

/-- ENG1_LOCKSTEP resets to severity fatal, so the raise aborts sequence 0, and `monUnarm` writes 0 to the key it latched. -/
theorem lat_lockstepHalt_strayMonitorState :
    fget (lockstepHalt strayMonitorState 1 false) (FLT.LAT 0x243) = 0 := by decide +kernel

/-- Refutes O16: its first clause asks of every state that ENGn_LOCKSTEP is latched after the halt, and in
`strayMonitorState` the abort of sequence 0 on entry to the safe state clears it. -/
theorem not_enginesClocksAndSupplyFaults : ¬ Obligations.EnginesClocksAndSupplyFaults := by
  rintro ⟨hLockstep, -⟩
  obtain ⟨t, hRun, -, -, hLat⟩ := hLockstep 1 strayMonitorState strayMonitorState_reports
  obtain rfl : lockstepHalt strayMonitorState 1 false = t :=
    Host.Outcome.next.inj ((exec_lockstepMismatch 1 strayMonitorState).symm.trans hRun)
  exact absurd (lat_lockstepHalt_strayMonitorState.symm.trans hLat) (by decide)

end Sys2Proof.Machine
end

section
/-!
PROOF. An access that gets through: what the request fabric and the bus record of it, and nothing else.
-/
namespace Sys2Proof.Machine

variable {p q : Nat → Bool} {s t : State} {rq : Fin 24}

theorem SameBut.mono (h : SameBut p s t) (hpq : ∀ k, q k = false → p k = false) : SameBut q s t :=
  fun f hf => h f (hpq _ hf)

theorem SameBut.fmax (h : SameBut p s t) {g : Fld} (v : Nat) (hg : p (fkey g) = true) : SameBut p s (fmax t g v) := by
  rcases fmax_eq t g v with e | e <;> rw [e]
  · exact h
  · exact h.fset v hg

theorem SameBut.finc (h : SameBut p s t) {g : Fld} (hg : p (fkey g) = true) : SameBut p s (finc t g) := by
  rcases finc_eq t g with e | e <;> rw [e]
  · exact h
  · exact h.fset _ hg

theorem fon_congr {f g : Fld} (h : fget t f = fget s g) : fon t f = fon s g := by simp only [fon, h]

/-- R437, R442: the tag peaks stand in the fabric's block. -/
theorem fabPeak_sameBut (s : State) (rq : Fin 24) : SameBut (inBlocks [0xA]) s (fabPeak s rq) := by
  have hReq : inBlocks [0xA] (fkey (FAB.REQ.STAT.PEAK rq)) = true := by revert rq; decide
  exact ((SameBut.refl _ s).fmax _ (by decide)).fmax _ hReq

theorem fget_fabPeak (s : State) (rq : Fin 24) {f : Fld} (hf : inBlocks [0xA] (fkey f) = false) :
    fget (fabPeak s rq) f = fget s f := fabPeak_sameBut s rq f hf

theorem fon_fabPeak (s : State) (rq : Fin 24) {f : Fld} (hf : inBlocks [0xA] (fkey f) = false) :
    fon (fabPeak s rq) f = fon s f := fon_congr (fget_fabPeak s rq hf)

@[simp] theorem fabPeak_img (s : State) (rq : Nat) : (fabPeak s rq).img = s.img := by simp [fabPeak]

@[simp] theorem fabPeak_flash (s : State) (rq : Nat) : (fabPeak s rq).flash = s.flash := by simp [fabPeak]

/-- The tag peaks are neither DOWN flags nor injections. -/
theorem reachable_fabPeak {a : Nat} : reachable (fabPeak s rq) rq a ↔ reachable s rq a := by
  have hInj : fabInjected (fabPeak s rq) rq = fabInjected s rq := by simp [fabInjected, fabPeak]
  have hReq : fkey (FAB.TGT.DOWN (addrTarget a)) ≠ fkey (FAB.REQ.STAT.PEAK rq) := by simp only [fkey]; omega
  have hAll : fkey (FAB.TGT.DOWN (addrTarget a)) ≠ fkey FAB.STAT.PEAK := by simp only [fkey]; omega
  have hDown : targetDown (fabPeak s rq) (addrTarget a) = targetDown s (addrTarget a) :=
    fon_congr ((fget_fmax_ne _ _ hReq).trans (fget_fmax_ne _ _ hAll))
  rw [reachable, reachable, hInj, hDown]

/-- R425: an access that gets through completes with what its register answers. -/
theorem asCoach_of_reachable {k a : Nat} {f : State → State × Nat × List Nat} (h : reachable s rq a) (hk : addrTarget a = k) :
    asCoach s rq k a f = fabComplete (f (fabPeak s rq)).1 rq k a (f (fabPeak s rq)).2.1 (f (fabPeak s rq)).2.2 := by
  subst hk
  obtain ⟨hInj, hDown⟩ := reachable_fabPeak.2 h
  simp only [asCoach, hInj, hDown, Bool.false_eq_true, if_false]

/-- R438, R627: a completion that is OK leaves no record. -/
theorem fabComplete_ok (s : State) (rq tgt a : Nat) (d : List Nat) :
    fabComplete s rq tgt a stOk d = completeWith s stOk d := by
  simp [fabComplete, fabRecord, busRecord, stOk]

/-- R438: the fabric records no ILLEGAL_STATE, only the bus does. -/
theorem fabComplete_illegal (s : State) (rq tgt a : Nat) (d : List Nat) :
    fabComplete s rq tgt a stIllegal d = busRecord (completeWith s stIllegal d) rq a stIllegal := by
  simp [fabComplete, fabRecord, stIllegal]

/-- R627: what a completion leaves on the bus's page. -/
theorem busRecord_sameBut (s : State) (rq a status : Nat) : SameBut (recKeys rq) s (busRecord s rq a status) := by
  unfold busRecord
  split
  case isFalse => exact .refl _ s
  case isTrue h =>
    obtain ⟨rfl, -⟩ := h
    have hLast : SameBut (recKeys 9) s (fset (fset s BUS.LAST.STATUS status) BUS.LAST.ADDR a) :=
      ((SameBut.refl _ s).fset _ (by decide)).fset _ (by decide)
    dsimp only
    split
    · exact (hLast.fset _ (by decide)).finc (by decide)
    · exact hLast.fset _ (by decide)

@[simp] theorem busRecord_comp (s : State) (rq a status : Nat) : (busRecord s rq a status).comp = s.comp := by
  unfold busRecord; split
  · dsimp only; split <;> simp
  · rfl

@[simp] theorem busRecord_img (s : State) (rq a status : Nat) : (busRecord s rq a status).img = s.img := by
  unfold busRecord; split
  · dsimp only; split <;> simp
  · rfl

@[simp] theorem busRecord_flash (s : State) (rq a status : Nat) : (busRecord s rq a status).flash = s.flash := by
  unfold busRecord; split
  · dsimp only; split <;> simp
  · rfl

end Sys2Proof.Machine
end

section
/-!
PROOF. The update session in Noon (R85-R87, R94, R95): what a write of UPD_CTL answers, case by case, and what the six
update commands leave of it.
-/
namespace Sys2Proof.Machine

variable {s t : State} {rq : Fin 24} {cmd key : Nat} {slot : Bool}

/-! ### What stands in UPD_CTL's way is not touched by the fabric -/

theorem updReady_fabPeak : updReady (fabPeak s rq) rq ↔ updReady s rq := by
  rw [updReady, updReady, reachable_fabPeak, fon_fabPeak s rq (by decide), stage, stage, fget_fabPeak s rq (by decide)]

theorem updHolder_fabPeak : updHolder (fabPeak s rq) rq ↔ updHolder s rq := by
  rw [updHolder, updHolder, fon_fabPeak s rq (by decide), fget_fabPeak s rq (by decide)]

theorem updOffset_fabPeak : updOffset (fabPeak s rq) = 256 * fget s CFG.UPD_ADDR.OFFSET := by
  rw [updOffset, fget_fabPeak s rq (by decide), Nat.mul_comm]

/-- R87: the 256 bytes of UPD_BUF. -/
def updBufBytes (s : State) : List Nat := (List.range 64).flatMap fun i => leBytes 4 (fget s (CFG.UPD_BUF.DATA i))

theorem updBufBytes_fabPeak : updBufBytes (fabPeak s rq) = updBufBytes s := by
  rw [updBufBytes, updBufBytes, List.flatMap_def, List.flatMap_def]
  refine congrArg List.flatten (List.map_congr_left fun i hi => ?_)
  have hBuf : inBlocks [0xA] (fkey (CFG.UPD_BUF.DATA i)) = false := by
    have := List.mem_range.1 hi
    simp [inBlocks, fkey]; omega
  rw [fget_fabPeak s rq hBuf]

/-! ### A write of UPD_CTL -/

theorem updHolds_iff {n : Nat} : updHolds s n = true ↔ updHolder s n := by simp [updHolds, updHolder]

/-- R85: in any stage but Noon no command is accepted. -/
theorem updCommand_of_not_noon (n : Nat) (hStage : stage s ≠ 2) (hCmd : 1 ≤ cmd ∧ cmd < 7) :
    updCommand s n cmd slot key = (s, stIllegal) := by
  have hKnown : ¬(cmd = 0 ∨ 7 ≤ cmd) := by omega
  simp [updCommand, hKnown, hStage]

theorem updCommand_open (h : updReady s rq) : updCommand s rq 1 slot key = updOpen s rq slot := by
  obtain ⟨hStage, hBusy, -⟩ := h
  simp [updCommand, hStage, hBusy]

theorem updCommand_close (h : updReady s rq) (hHold : updHolder s rq) : updCommand s rq 2 slot key = (updClose s, stOk) := by
  obtain ⟨hStage, hBusy, -⟩ := h
  simp [updCommand, hStage, hBusy, updHolds_iff.2 hHold]

theorem updCommand_begin (h : updReady s rq) (hHold : updHolder s rq) (hCmd : 3 ≤ cmd ∧ cmd < 7) :
    updCommand s rq cmd slot key = updBegin s cmd key := by
  obtain ⟨hStage, hBusy, -⟩ := h
  have hKnown : ¬(cmd = 0 ∨ 7 ≤ cmd) := by omega
  have hOpen : cmd ≠ 1 := by omega
  have hClose : cmd ≠ 2 := by omega
  simp [updCommand, hKnown, hStage, hBusy, hOpen, hClose, updHolds_iff.2 hHold]

/-- R86: no other port holds the session. -/
theorem updOpen_of_free (h : fon s CFG.UPD_STAT.OPEN = false ∨ fget s CFG.UPD_STAT.OWNER = rq) :
    updOpen s rq slot = (fsetB (fset (fset s CFG.UPD_STAT.OPEN 1) CFG.UPD_STAT.OWNER rq) CFG.UPD_STAT.TARGET
      (if fon s TOP.STATUS.CFG_DEFAULTS then slot else !fon s TOP.STATUS.SLOT), stOk) := by
  have hFree : (fon s CFG.UPD_STAT.OPEN && !updHolds s rq) = false := by
    rcases h with h | h <;> simp [updHolds, h]
  simp [updOpen, hFree]

/-- R95: the key decides before the address. -/
theorem updBegin_of_wrong_key (hCmd : cmd = 3 ∨ cmd = 4) (hKey : key ≠ 0x6B1D) :
    updBegin s cmd key = (fset s CFG.UPD_STAT.ERR 4, stOk) := by
  simp [updBegin, hCmd, hKey, updError]

/-- The command `u` is in progress (R88). -/
def updStarted (s : State) (u : Upd) : State := fset { s with img := { s.img with upd := some u } } CFG.UPD_STAT.BUSY 1

/-- R94, R95: an erase names a sector, and all but VERIFY a place in the slot. -/
theorem updBegin_of_accepted (hKey : cmd = 3 ∨ cmd = 4 → key = 0x6B1D) (hSector : cmd = 3 → updOffset s % 65536 = 0)
    (hInside : cmd ≠ 6 → updOffset s < slotSize s) :
    updBegin s cmd key = (updStarted s ⟨cmd, updOffset s, if cmd = 4 then updBufBytes s else []⟩, stOk) := by
  have hNoKey : ¬((cmd = 3 ∨ cmd = 4) ∧ key ≠ 0x6B1D) := fun h => h.2 (hKey h.1)
  have hNoAlign : ¬(cmd = 3 ∧ updOffset s % 65536 ≠ 0) := fun h => h.2 (hSector h.1)
  have hNoPlace : ¬(cmd ≠ 6 ∧ slotSize s ≤ updOffset s) := fun h => absurd (hInside h.1) (by omega)
  simp only [updBegin, hNoKey, hNoAlign, hNoPlace, if_false, updStarted, updBufBytes]

/-! ### The commands -/

theorem updCoach_of_reachable (h : reachable s rq 0x10020) : updCoach s rq cmd slot key =
    fabComplete (updCommand (fabPeak s rq) rq cmd slot key).1 rq 0x7F 0x10020 (updCommand (fabPeak s rq) rq cmd slot key).2 [] := by
  rw [updCoach, asCoach_of_reachable h (by decide)]

/-- A command accepted with OK leaves what it does and its completion. -/
theorem updCoach_of_ok (h : reachable s rq 0x10020) (hDo : updCommand (fabPeak s rq) rq cmd slot key = (t, stOk)) :
    updCoach s rq cmd slot key = completeWith t stOk [] := by
  rw [updCoach_of_reachable h, hDo, fabComplete_ok]

/-- What the holder finds when its command was accepted. -/
theorem updCoach_begins (hReady : updReady s rq) (hHold : updHolder s rq) (hCmd : 3 ≤ cmd ∧ cmd < 7)
    (hKey : cmd = 3 ∨ cmd = 4 → key = 0x6B1D) (hSector : cmd = 3 → fget s CFG.UPD_ADDR.OFFSET % 256 = 0)
    (hInside : cmd ≠ 6 → updInside s) :
    let t := updCoach s rq cmd slot key
    t.comp = ⟨stOk, []⟩ ∧ fget t CFG.UPD_STAT.BUSY = 1 ∧
      t.img.upd = some ⟨cmd, 256 * fget s CFG.UPD_ADDR.OFFSET, if cmd = 4 then updBufBytes s else []⟩ ∧ t.flash = s.flash := by
  have hBegin : updBegin (fabPeak s rq) cmd key = (updStarted (fabPeak s rq)
      ⟨cmd, updOffset (fabPeak s rq), if cmd = 4 then updBufBytes (fabPeak s rq) else []⟩, stOk) := by
    refine updBegin_of_accepted hKey (fun h => ?_) fun h => ?_
    · have := hSector h
      rw [updOffset_fabPeak]; omega
    · rw [updOffset_fabPeak, slotSize, fget_fabPeak s rq (by decide)]
      exact hInside h
  rw [updCoach_of_ok hReady.2.2
    ((updCommand_begin (updReady_fabPeak.2 hReady) (updHolder_fabPeak.2 hHold) hCmd).trans hBegin)]
  refine ⟨rfl, ?_, ?_, fabPeak_flash s rq⟩
  · simp [updStarted, fwidth]
  · simp [updStarted, completeWith, updOffset_fabPeak, updBufBytes_fabPeak]

theorem updCoach_of_wrong_key (hReady : updReady s rq) (hHold : updHolder s rq) (hCmd : cmd = 3 ∨ cmd = 4)
    (hKey : key ≠ 0x6B1D) :
    let t := updCoach s rq cmd slot key
    fget t CFG.UPD_STAT.ERR = 4 ∧ t.img = s.img ∧ t.flash = s.flash := by
  rw [updCoach_of_ok hReady.2.2 ((updCommand_begin (updReady_fabPeak.2 hReady) (updHolder_fabPeak.2 hHold) (by omega)).trans
    (updBegin_of_wrong_key hCmd hKey))]
  exact ⟨by simp [fwidth], by simp, by simp⟩

theorem updCoach_of_not_noon (h : reachable s rq 0x10020) (hStage : stage s ≠ 2) (hCmd : 1 ≤ cmd ∧ cmd < 7) :
    let t := updCoach s rq cmd slot key
    t.comp = ⟨stIllegal, []⟩ ∧ t.img = s.img ∧ t.flash = s.flash ∧ SameBut (recKeys rq) s t := by
  have hStage' : stage (fabPeak s rq) ≠ 2 := fun e => hStage ((fget_fabPeak s rq (by decide)).symm.trans e)
  have hPeak : SameBut (recKeys rq) s (fabPeak s rq) := (fabPeak_sameBut s rq).mono fun k hk => by
    simp only [recKeys, Bool.or_eq_false_iff] at hk
    exact hk.1
  rw [updCoach_of_reachable h, updCommand_of_not_noon rq hStage' hCmd, fabComplete_illegal]
  refine ⟨busRecord_comp .., ?_, ?_, ?_⟩
  · rw [busRecord_img, completeWith_img, fabPeak_img]
  · rw [busRecord_flash, completeWith_flash, fabPeak_flash]
  · have hDone : SameBut (recKeys rq) s (completeWith (fabPeak s rq) stIllegal []) := hPeak.regs (completeWith_regs ..)
    exact hDone.trans (busRecord_sameBut _ rq _ stIllegal)

/-- R86: a closed session has no owner. -/
theorem updClose_closes (s : State) :
    fget (updClose s) CFG.UPD_STAT.OPEN = 0 ∧ fget (updClose s) CFG.UPD_STAT.OWNER = 0xFF ∧ (updClose s).flash = s.flash :=
  ⟨by simp [updClose, fget_fset, fkey], by simp [updClose, fwidth], rfl⟩

theorem updCoach_open (hReady : updReady s rq) (hFree : fon s CFG.UPD_STAT.OPEN = false ∨ fget s CFG.UPD_STAT.OWNER = rq) :
    let t := updCoach s rq 1 slot 0
    t.comp = ⟨stOk, []⟩ ∧ fget t CFG.UPD_STAT.OPEN = 1 ∧ fget t CFG.UPD_STAT.OWNER = rq ∧ t.flash = s.flash ∧
      fon t CFG.UPD_STAT.TARGET = (if fon s TOP.STATUS.CFG_DEFAULTS then slot else !fon s TOP.STATUS.SLOT) := by
  have hFree' : fon (fabPeak s rq) CFG.UPD_STAT.OPEN = false ∨ fget (fabPeak s rq) CFG.UPD_STAT.OWNER = rq := by
    rwa [fon_fabPeak s rq (by decide), fget_fabPeak s rq (by decide)]
  have hOwner : rq.val % 256 = rq := Nat.mod_eq_of_lt (by omega)
  rw [updCoach_of_ok hReady.2.2 ((updCommand_open (updReady_fabPeak.2 hReady)).trans (updOpen_of_free hFree')),
    fon_fabPeak s rq (by decide), fon_fabPeak s rq (by decide)]
  refine ⟨rfl, ?_, ?_, fabPeak_flash s rq, ?_⟩
  · simp [fsetB, fget_fset, fkey, fwidth]
  · simp [fsetB, fget_fset, fkey, fwidth, hOwner]
  · generalize (if fon s TOP.STATUS.CFG_DEFAULTS then slot else !fon s TOP.STATUS.SLOT) = b
    cases b <;> simp [fon, fsetB, fwidth, b2n]

theorem updCoach_close (hReady : updReady s rq) (hHold : updHolder s rq) :
    let t := updCoach s rq 2 slot 0
    t.comp = ⟨stOk, []⟩ ∧ fget t CFG.UPD_STAT.OPEN = 0 ∧ fget t CFG.UPD_STAT.OWNER = 0xFF := by
  rw [updCoach_of_ok hReady.2.2 (updCommand_close (updReady_fabPeak.2 hReady) (updHolder_fabPeak.2 hHold))]
  obtain ⟨hOpen, hOwner, -⟩ := updClose_closes (fabPeak s rq)
  exact ⟨rfl, hOpen, hOwner⟩

/-- Settles O17: each command is `updCoach` with its CMD, and each clause one of the rules above. -/
theorem updateSessionAndCommands : Obligations.UpdateSessionAndCommands := by
  refine ⟨?opens, ?closes, ?erase, ?program, ?read, ?verify, ?wrongKey, ?notNoon, ?timeout⟩
  case opens =>
    rintro rq b s ⟨hReady, hFree⟩
    exact ⟨_, rfl, updCoach_open hReady hFree⟩
  case closes =>
    rintro rq s ⟨hReady, hHold⟩
    exact ⟨_, rfl, updCoach_close hReady hHold⟩
  case erase =>
    rintro rq s ⟨hReady, hHold, hInside, hSector⟩
    exact ⟨_, rfl, updCoach_begins hReady hHold (by decide) (fun _ => rfl) (fun _ => hSector) fun _ => hInside⟩
  case program =>
    rintro rq s ⟨hReady, hHold, hInside⟩
    exact ⟨_, rfl, updCoach_begins hReady hHold (by decide) (fun _ => rfl) (fun h => absurd h (by decide)) fun _ => hInside⟩
  case read =>
    rintro rq s ⟨hReady, hHold, hInside⟩
    exact ⟨_, rfl, updCoach_begins hReady hHold (by decide) (fun h => absurd h (by decide)) (fun h => absurd h (by decide))
      fun _ => hInside⟩
  case verify =>
    rintro rq s ⟨hReady, hHold⟩
    exact ⟨_, rfl, updCoach_begins hReady hHold (by decide) (fun h => absurd h (by decide)) (fun h => absurd h (by decide))
      fun h => absurd rfl h⟩
  case wrongKey =>
    rintro rq k s ⟨hReady, hHold, hKey⟩
    have hKeyNat : k.toNat ≠ 0x6B1D := fun e => hKey (BitVec.eq_of_toNat_eq e)
    exact ⟨⟨_, rfl, updCoach_of_wrong_key hReady hHold (.inl rfl) hKeyNat⟩,
      ⟨_, rfl, updCoach_of_wrong_key hReady hHold (.inr rfl) hKeyNat⟩⟩
  case notNoon =>
    rintro rq b k c s ⟨hStage, hReach, hc⟩
    rcases hc with rfl | rfl | rfl | rfl | rfl | rfl <;>
      exact ⟨_, rfl, updCoach_of_not_noon hReach hStage (by decide)⟩
  case timeout =>
    intro s hOpen
    refine ⟨updClose s, ?_, updClose_closes s⟩
    exact congrArg Host.Outcome.next (if_pos hOpen)

end Sys2Proof.Machine
end

section
/-!
PROOF. Reading the CS0 flash: the byte at an address after a stretch of bytes is replaced, and a stretch read byte by byte.
-/
namespace Sys2Proof.Machine

variable {α : Type} {d : Nat → α} {m l r : List (Nat × α)} {k a n : Nat}

theorem tabGet_cons_of_eq {e : Nat × α} (h : e.1 = k) : tabGet d (e :: m) k = e.2 := if_pos h

theorem tabGet_cons_of_ne {e : Nat × α} (h : e.1 ≠ k) : tabGet d (e :: m) k = tabGet d m k := if_neg h

theorem tabGet_of_not_listed (h : ∀ e ∈ m, e.1 ≠ k) : tabGet d m k = d k := by
  induction m with
  | nil => rfl
  | cons e m ih =>
    obtain ⟨he, hm⟩ := List.forall_mem_cons.1 h
    rw [tabGet_cons_of_ne he, ih hm]

theorem tabGet_append_right (h : ∀ e ∈ l, e.1 ≠ k) : tabGet d (l ++ r) k = tabGet d r k := by
  induction l with
  | nil => rfl
  | cons e l ih =>
    obtain ⟨he, hl⟩ := List.forall_mem_cons.1 h
    rw [List.cons_append, tabGet_cons_of_ne he, ih hl]

theorem tabGet_append_left (h : ∀ e ∈ r, e.1 ≠ k) : tabGet d (l ++ r) k = tabGet d l k := by
  induction l with
  | nil => exact tabGet_of_not_listed h
  | cons e l ih => simp [tabGet, ih]

/-- A filter on the keys that keeps the key read does not show. -/
theorem tabGet_filter_key {p : Nat → Bool} (h : p k = true) : tabGet d (m.filter fun e => p e.1) k = tabGet d m k := by
  induction m with
  | nil => rfl
  | cons e m ih =>
    by_cases he : e.1 = k
    · simp [tabGet, he, h]
    · by_cases hp : p e.1 <;> simp [tabGet, he, hp, ih]

/-- What lies outside the stretch replaced reads as before, what lies in it as the cells put there. -/
theorem tabGet_flashPut {d : Nat → BitVec 8} {m cs : List Host.Cell} (hcs : ∀ c ∈ cs, a ≤ c.1 ∧ c.1 < a + n) :
    tabGet d (flashPut m a n cs) k = if a ≤ k ∧ k < a + n then tabGet d cs k else tabGet d m k := by
  have hBelow : a ≤ k → ∀ c ∈ m.filter (fun c => decide (c.1 < a)), c.1 ≠ k := fun hk c hc => by
    have := (List.mem_filter.1 hc).2
    simp at this; omega
  have hAbove : k < a + n → ∀ c ∈ m.filter (fun c => decide (a + n ≤ c.1)), c.1 ≠ k := fun hk c hc => by
    have := (List.mem_filter.1 hc).2
    simp at this; omega
  have hOut : ¬(a ≤ k ∧ k < a + n) → ∀ c ∈ cs, c.1 ≠ k := fun hk c hc => by
    have := hcs c hc
    omega
  unfold flashPut
  split
  case isTrue hk => rw [tabGet_append_left (hAbove hk.2), tabGet_append_right (hBelow hk.1)]
  case isFalse hk =>
    by_cases hak : a ≤ k
    · rw [List.append_assoc, tabGet_append_right (hBelow hak), tabGet_append_right (hOut hk)]
      exact tabGet_filter_key (p := fun j => decide (a + n ≤ j)) (by simp; omega)
    · rw [tabGet_append_left (hAbove (by omega)), tabGet_append_left (hOut hk)]
      exact tabGet_filter_key (p := fun j => decide (j < a)) (by simp; omega)

/-- The cells that `flashStore` writes: the bytes of `b` from `a` on, without the erased ones. -/
def storedCells (a : Nat) (b : List Nat) : List Host.Cell :=
  (b.zipIdx.map fun x => (a + x.2, BitVec.ofNat 8 x.1)).filter fun c => c.2 != 0xFF#8

theorem flashStore_eq (s : State) (a : Nat) (b : List Nat) :
    flashStore s a b = { s with flash := flashPut s.flash a b.length (storedCells a b) } := rfl

theorem storedCells_cons (a x : Nat) (b : List Nat) : storedCells a (x :: b) =
    if BitVec.ofNat 8 x = 0xFF#8 then storedCells (a + 1) b else (a, BitVec.ofNat 8 x) :: storedCells (a + 1) b := by
  have hTail : (b.zipIdx 1).map (fun x => (a + x.2, BitVec.ofNat 8 x.1)) =
      b.zipIdx.map fun x => (a + 1 + x.2, BitVec.ofNat 8 x.1) := by
    rw [List.zipIdx_succ, List.map_map]
    refine List.map_congr_left fun x _ => ?_
    exact Prod.ext (by simp; omega) rfl
  split <;> simp_all [storedCells]

theorem storedCells_range {c : Host.Cell} {b : List Nat} (h : c ∈ storedCells a b) : a ≤ c.1 ∧ c.1 < a + b.length := by
  obtain ⟨x, hx, rfl⟩ := List.mem_map.1 (List.mem_filter.1 h).1
  have := List.snd_lt_of_mem_zipIdx hx
  simp; omega

/-- Each byte stored reads back, listed or erased. -/
theorem tabGet_storedCells (b : List Nat) (hk : a ≤ k ∧ k < a + b.length) :
    tabGet (fun _ => 0xFF#8) (storedCells a b) k = BitVec.ofNat 8 (b.getD (k - a) 0) := by
  induction b generalizing a with
  | nil => simp at hk; omega
  | cons x b ih =>
    simp only [List.length_cons] at hk
    rw [storedCells_cons]
    by_cases hak : a = k
    · subst hak
      split
      case isTrue hErased =>
        rw [tabGet_of_not_listed fun c hc => by have := storedCells_range hc; omega]
        rw [Nat.sub_self, List.getD_cons_zero, hErased]
      case isFalse => rw [tabGet_cons_of_eq rfl, Nat.sub_self, List.getD_cons_zero]
    · have hNext : k - a = k - (a + 1) + 1 := by omega
      have hTail := ih (a := a + 1) (by omega)
      split <;> simp [tabGet, hak, hTail, hNext]

theorem flashByte_flashStore {s : State} (b : List Nat) : flashByte (flashStore s a b) k =
    if a ≤ k ∧ k < a + b.length then b.getD (k - a) 0 % 256 else flashByte s k := by
  rw [flashStore_eq, flashByte, tabGet_flashPut fun _ => storedCells_range]
  split
  case isTrue hk => rw [tabGet_storedCells b hk, BitVec.toNat_ofNat]
  case isFalse => rfl

theorem flashByte_lt (s : State) (a : Nat) : flashByte s a < 256 := BitVec.isLt _

/-! ### A stretch read -/

/-- From sorted cells at `a` and above, `flashFrom` reads each address. -/
theorem flashFrom_eq {m : List Host.Cell} (hm : Memory.wf m = true) (ha : ∀ c ∈ m, a ≤ c.1) :
    flashFrom m a n = (List.range n).map fun i => (tabGet (fun _ => 0xFF#8) m (a + i)).toNat := by
  induction n generalizing m a with
  | zero => rfl
  | succ n ih =>
    have hSplit : ((List.range (n + 1)).map fun i => (tabGet (fun _ => 0xFF#8) m (a + i)).toNat) =
        (tabGet (fun _ => 0xFF#8) m a).toNat :: (List.range n).map fun i => (tabGet (fun _ => 0xFF#8) m (a + 1 + i)).toNat := by
      rw [List.range_succ_eq_map, List.map_cons, List.map_map]
      refine congrArg _ (List.map_congr_left fun i _ => ?_)
      rw [Nat.add_assoc, Nat.add_comm 1 i]
      rfl
    rw [hSplit]
    cases m with
    | nil => rw [flashFrom, ih (a := a + 1) rfl (by simp)]; rfl
    | cons c m =>
      obtain ⟨hHead, -⟩ := List.forall_mem_cons.1 ha
      have hSorted := hm
      simp only [Memory.wf, tabWf, Bool.and_eq_true, tabAbove_iff] at hSorted
      obtain ⟨⟨hAbove, -⟩, hTail⟩ := hSorted
      rw [flashFrom]
      split
      case isTrue hc =>
        rw [ih hTail fun e he => by have := hAbove e he; omega, tabGet_cons_of_eq hc]
        refine congrArg _ (List.map_congr_left fun i _ => ?_)
        rw [tabGet_cons_of_ne (by omega)]
      case isFalse hc =>
        have hNext : ∀ e ∈ c :: m, a + 1 ≤ e.1 := List.forall_mem_cons.2 ⟨by omega, fun e he => by
          have := hAbove e he; omega⟩
        rw [ih hm hNext, tabGet_of_not_listed (k := a) fun e he => by have := hNext e he; omega]
        rfl

/-- Passing over the cells below `a` leaves sorted cells at `a` and above. -/
theorem Memory.wf_dropWhile {m : List Host.Cell} (h : Memory.wf m = true) :
    Memory.wf (m.dropWhile fun c => decide (c.1 < a)) = true ∧ ∀ c ∈ m.dropWhile fun c => decide (c.1 < a), a ≤ c.1 := by
  induction m with
  | nil => exact ⟨rfl, by simp⟩
  | cons c m ih =>
    have hSorted := h
    simp only [Memory.wf, tabWf, Bool.and_eq_true, tabAbove_iff] at hSorted
    obtain ⟨⟨hAbove, -⟩, hTail⟩ := hSorted
    by_cases hc : c.1 < a
    · rw [List.dropWhile_cons_of_pos (by simpa using hc)]
      exact ih hTail
    · rw [List.dropWhile_cons_of_neg (by simpa using hc)]
      exact ⟨h, List.forall_mem_cons.2 ⟨by omega, fun e he => by have := hAbove e he; omega⟩⟩

theorem tabGet_dropWhile_below (h : a ≤ k) : tabGet d (m.dropWhile fun e => decide (e.1 < a)) k = tabGet d m k := by
  induction m with
  | nil => rfl
  | cons e m ih =>
    by_cases he : e.1 < a
    · rw [List.dropWhile_cons_of_pos (by simpa using he), ih, tabGet_cons_of_ne (by omega)]
    · rw [List.dropWhile_cons_of_neg (by simpa using he)]

/-- A stretch of a flash in canonical form is read byte by byte. -/
theorem flashRead_eq {s : State} (h : Memory.wf s.flash = true) (a n : Nat) :
    flashRead s a n = (List.range n).map fun i => flashByte s (a + i) := by
  obtain ⟨hSorted, hFrom⟩ := Memory.wf_dropWhile (a := a) h
  rw [flashRead, flashFrom_eq hSorted hFrom]
  refine List.map_congr_left fun i _ => ?_
  rw [tabGet_dropWhile_below (by omega), flashByte]

end Sys2Proof.Machine
end

section
/-!
PROOF. A finished update command (R79, R87, R88): what is left of the state in which it ends, and the effect of each.
-/
namespace Sys2Proof.Machine

variable {s t : State} {u : Upd} {k : Nat}

/-! ### The end of a command -/

/-- The command in progress is over and BUSY is 0 (R88). -/
def updEnded (s : State) : State := fset { s with img := { s.img with upd := none } } CFG.UPD_STAT.BUSY 0

theorem updEnded_sameBut (s : State) : SameBut (fun k => k == fkey CFG.UPD_STAT.BUSY) s (updEnded s) :=
  SameBut.fset (t := { s with img := { s.img with upd := none } }) ((SameBut.refl _ s).regs rfl) 0 (by decide)

theorem fget_updEnded {f : Fld} (h : fkey f ≠ fkey CFG.UPD_STAT.BUSY) : fget (updEnded s) f = fget s f :=
  updEnded_sameBut s f (by simpa using h)

theorem fon_updEnded {f : Fld} (h : fkey f ≠ fkey CFG.UPD_STAT.BUSY) : fon (updEnded s) f = fon s f :=
  fon_congr (fget_updEnded h)

@[simp] theorem updEnded_busy (s : State) : fget (updEnded s) CFG.UPD_STAT.BUSY = 0 := fget_fset_same ..

@[simp] theorem updEnded_flash (s : State) : (updEnded s).flash = s.flash := rfl

@[simp] theorem flashByte_updEnded (s : State) (a : Nat) : flashByte (updEnded s) a = flashByte s a := rfl

/-- R88: the command fails where the device fails it or the flash is not usable. -/
theorem updDone_eq (s : State) (u : Upd) (b : Bool) : updDone s u b =
    if b || fon s CFG.STATUS.FLASH_BAD then updFails (updEnded s) u else updEffect (updEnded s) u := rfl

theorem completes_updCommandDone {b : Bool} {P : State → Prop} (hUpd : s.img.upd = some u) (h : P (updDone s u b)) :
    Completes (.updCommandDone b) s P := by
  have hRun : execUpdCommandDone b s = .next (updDone s u b) := by rw [execUpdCommandDone, hUpd]
  exact ⟨_, hRun, h⟩

/-- A command that succeeds completes with its effect. -/
theorem completes_updEffect {P : State → Prop} (hGood : fon s CFG.STATUS.FLASH_BAD = false) (hUpd : s.img.upd = some u)
    (h : P (updEffect (updEnded s) u)) : Completes (.updCommandDone false) s P :=
  completes_updCommandDone hUpd (by simpa [updDone_eq, hGood] using h)

@[simp] theorem slotAt_updEnded (s : State) : slotAt (updEnded s) = slotAt s := by
  rw [slotAt, slotAt, fon_updEnded (by decide), fget_updEnded (by decide)]

/-! ### ERASE and PROGRAM -/

theorem flashByte_erase (s : State) (o a : Nat) (d : List Nat) : flashByte (updEffect s ⟨3, o, d⟩) a =
    if slotAt s + o ≤ a ∧ a < slotAt s + o + 65536 then 0xFF else flashByte s a := by
  have hEffect : (updEffect s ⟨3, o, d⟩).flash = flashPut s.flash (slotAt s + o) 65536 [] := rfl
  rw [flashByte, hEffect, tabGet_flashPut (by simp)]
  split <;> rfl

theorem updEffect_program (s : State) (o : Nat) (d : List Nat) : updEffect s ⟨4, o, d⟩ =
    flashStore s (slotAt s + o) (((flashRead s (slotAt s + o) 256).zip d).map fun x => x.1 &&& x.2) := rfl

theorem flashByte_program (hs : Memory.wf s.flash = true) (o a : Nat) {d : List Nat} (hd : d.length = 256) :
    flashByte (updEffect s ⟨4, o, d⟩) a = if slotAt s + o ≤ a ∧ a < slotAt s + o + 256 then
      flashByte s a &&& d.getD (a - (slotAt s + o)) 0 % 256 else flashByte s a := by
  rw [updEffect_program, flashRead_eq hs, flashByte_flashStore]
  simp only [List.length_map, List.length_zip, List.length_range, hd, Nat.min_self]
  split
  case isFalse => rfl
  case isTrue ha =>
    obtain ⟨i, rfl⟩ := Nat.exists_eq_add_of_le ha.1
    have hi : i < 256 := by omega
    have hByte : flashByte s (slotAt s + o + i) % 256 = flashByte s (slotAt s + o + i) := Nat.mod_eq_of_lt (flashByte_lt ..)
    rw [Nat.add_sub_cancel_left, List.getD_eq_getElem?_getD, List.getD_eq_getElem?_getD,
      List.getElem?_eq_getElem (by simpa [hd]), List.getElem?_eq_getElem (l := d) (by omega), Option.getD_some,
      Option.getD_some, List.getElem_map, List.getElem_zip, List.getElem_map, List.getElem_range]
    exact (Nat.and_mod_two_pow (n := 8)).trans (congrArg (· &&& _) hByte)

/-! ### READ -/

/-- Bytes taken four at a time. -/
theorem leWords_map_range (f : Nat → Nat) (n : Nat) : leWords ((List.range (4 * n)).map f) =
    (List.range n).map fun i => leNat ((List.range 4).map fun j => f (4 * i + j)) := by
  induction n generalizing f with
  | zero => rfl
  | succ n ih =>
    have hSplit : (List.range (4 * (n + 1))).map f = f 0 :: f 1 :: f 2 :: f 3 :: (List.range (4 * n)).map fun i => f (4 + i) := by
      rw [Nat.mul_succ, Nat.add_comm, List.range_add, List.map_append, List.map_map]
      rfl
    have hNext : ∀ i j, 4 + (4 * i + j) = 4 * (i + 1) + j := fun i j => by omega
    rw [hSplit, leWords, ih, List.range_succ_eq_map (n := n), List.map_cons, List.map_map]
    simp only [hNext, Function.comp_def, Nat.succ_eq_add_one]
    rfl

theorem leNat_lt (b : List Nat) : leNat b < 256 ^ b.length := by
  induction b with
  | nil => simp [leNat]
  | cons x b ih =>
    have : x % 256 < 256 := Nat.mod_lt _ (by decide)
    rw [leNat, List.length_cons, Nat.pow_succ]
    omega

/-- R87: words `l` put into UPD_BUF from its word `n` on. -/
def updBufPut (s : State) (n : Nat) (l : List Nat) : State :=
  (l.zipIdx n).foldl (fun t x => fset t (CFG.UPD_BUF.DATA x.2) x.1) s

theorem updBufPut_cons (s : State) (n w : Nat) (l : List Nat) :
    updBufPut s n (w :: l) = updBufPut (fset s (CFG.UPD_BUF.DATA n) w) (n + 1) l := rfl

@[simp] theorem updBufPut_flash (s : State) (n : Nat) (l : List Nat) : (updBufPut s n l).flash = s.flash := by
  induction l generalizing s n with
  | nil => rfl
  | cons w l ih => rw [updBufPut_cons, ih, fset_flash]

/-- What stands below the words written is not touched. -/
theorem fget_updBufPut_below {f : Fld} {n : Nat} (l : List Nat) (h : fkey f < fkey (CFG.UPD_BUF.DATA n)) :
    fget (updBufPut s n l) f = fget s f := by
  induction l generalizing s n with
  | nil => rfl
  | cons w l ih =>
    have hNext : fkey (CFG.UPD_BUF.DATA n) < fkey (CFG.UPD_BUF.DATA (n + 1)) := by simp only [fkey]; omega
    rw [updBufPut_cons, ih (Nat.lt_trans h hNext), fget_fset_ne _ _ (Nat.ne_of_lt h)]

theorem fget_updBufPut {l : List Nat} {n i : Nat} (hi : i < l.length) :
    fget (updBufPut s n l) (CFG.UPD_BUF.DATA (n + i)) = l[i] % 2 ^ 32 := by
  induction l generalizing s n i with
  | nil => cases hi
  | cons w l ih =>
    rw [updBufPut_cons]
    cases i with
    | zero =>
      rw [fget_updBufPut_below l (by simp only [fkey]; omega)]
      exact fget_fset_same ..
    | succ i =>
      have hShift : n + (i + 1) = n + 1 + i := by omega
      rw [hShift, ih (Nat.lt_of_succ_lt_succ hi), List.getElem_cons_succ]

theorem updEffect_read (hs : Memory.wf s.flash = true) (o : Nat) (d : List Nat) : updEffect s ⟨5, o, d⟩ =
    updBufPut s 0 ((List.range 64).map fun i => leNat ((List.range 4).map fun j => flashByte s (slotAt s + o + 4 * i + j))) := by
  have hWords := leWords_map_range (fun i => flashByte s (slotAt s + o + i)) 64
  simp only [← Nat.add_assoc] at hWords
  rw [← hWords, ← flashRead_eq hs]
  rfl

theorem updBuf_of_read (hs : Memory.wf s.flash = true) (o : Nat) (d : List Nat) (hk : k < 64) :
    fget (updEffect s ⟨5, o, d⟩) (CFG.UPD_BUF.DATA k) =
      leNat ((List.range 4).map fun j => flashByte s (slotAt s + o + 4 * k + j)) := by
  have hWord := fget_updBufPut (s := s) (n := 0) (i := k)
    (l := (List.range 64).map fun i => leNat ((List.range 4).map fun j => flashByte s (slotAt s + o + 4 * i + j))) (by simpa)
  rw [Nat.zero_add, List.getElem_map, List.getElem_range] at hWord
  rw [updEffect_read hs, hWord, Nat.mod_eq_of_lt]
  exact Nat.lt_of_lt_of_eq (leNat_lt _) (by simp)

/-! ### VERIFY -/

theorem updEffect_verify (s : State) (o : Nat) (d : List Nat) : updEffect s ⟨6, o, d⟩ =
    fset s CFG.UPD_STAT.VRES (slotCheck s (fon s CFG.UPD_STAT.TARGET)).result := rfl

/-- R72, R78, R79: the checks of a slot look at the flash, its density and the fuses in use. -/
theorem slotCheck_congr (hFlash : t.flash = s.flash) (hUsed : t.otp.used = s.otp.used)
    (hDensity : fget t CFG.STATUS.DENSITY = fget s CFG.STATUS.DENSITY)
    (hOtp : fon t TOP.STATUS.OTP_BAD = fon s TOP.STATUS.OTP_BAD) (b : Bool) : slotCheck t b = slotCheck s b := by
  have hRead : flashRead t = flashRead s := by funext a n; rw [flashRead, flashRead, hFlash]
  have hSize : slotSize t = slotSize s := by rw [slotSize, slotSize, hDensity]
  have hBase : slotBase t b = slotBase s b := by rw [slotBase, slotBase, hSize]
  have hKey : keyHash t = keyHash s := by simp only [keyHash, fuseWord, hUsed]
  have hSig : sigReq t = sigReq s := by simp only [sigReq, fuseBits, fuseWord, hUsed, hOtp]
  have hSeal : imageSeal t = imageSeal s := by funext l n g; simp only [imageSeal, hKey, hSig]
  have hBody : bodyCheck t = bodyCheck s := by funext l n m g; simp only [bodyCheck, hSeal]
  simp only [slotCheck, hRead, hSize, hBase, hBody]

theorem slotCheck_updEnded (s : State) (b : Bool) : slotCheck (updEnded s) b = slotCheck s b :=
  slotCheck_congr (s := s) (t := updEnded s) rfl rfl (fget_updEnded (by decide)) (fon_updEnded (by decide)) b

/-! ### A command that the flash fails -/

theorem updFails_leaves (s : State) (u : Upd) :
    fget (updFails s u) CFG.UPD_STAT.BUSY = fget s CFG.UPD_STAT.BUSY ∧ fget (updFails s u) CFG.UPD_STAT.ERR = 3 ∧
      (updFails s u).flash = s.flash := by
  unfold updFails
  refine ⟨?_, fget_fset_same .., ?_⟩
  · rw [fget_fset_ne _ _ (by decide)]
    split
    · exact fget_fset_ne _ _ (by decide)
    · rfl
  · rw [fset_flash]
    split <;> rfl

/-- Settles O18: a finished command is its effect on `updEnded s`, and each clause one of the rules above. -/
theorem updateCommandsTakeEffect : Obligations.UpdateCommandsTakeEffect := by
  refine ⟨?erase, ?program, ?read, ?verify, ?fails⟩
  case erase =>
    rintro a o d s ⟨-, hGood, hUpd⟩
    refine completes_updEffect hGood hUpd ⟨updEnded_busy s, ?_⟩
    rw [flashByte_erase, slotAt_updEnded, flashByte_updEnded]
  case program =>
    rintro a o d s ⟨hWf, hGood, hUpd, hLen⟩
    refine completes_updEffect hGood hUpd ⟨updEnded_busy s, ?_⟩
    rw [flashByte_program (s := updEnded s) hWf o a hLen, slotAt_updEnded, flashByte_updEnded]
  case read =>
    rintro a o d s ⟨hWf, hGood, hUpd, ha⟩
    have hWf' : Memory.wf (updEnded s).flash = true := hWf
    refine completes_updEffect hGood hUpd ⟨?_, ?_, ?_⟩
    · rw [updEffect_read hWf', fget_updBufPut_below _ (by decide), updEnded_busy]
    · rw [updBuf_of_read hWf' o d ha, slotAt_updEnded]
      rfl
    · rw [updEffect_read hWf', updBufPut_flash, updEnded_flash]
  case verify =>
    rintro o d s ⟨-, hGood, hUpd⟩
    refine completes_updEffect hGood hUpd ?_
    rw [updEffect_verify, slotCheck_updEnded, fon_updEnded (by decide)]
    have hElse : ∀ f, fkey f ≠ fkey CFG.UPD_STAT.VRES → fkey f ≠ fkey CFG.UPD_STAT.BUSY →
        fget (fset (updEnded s) CFG.UPD_STAT.VRES (slotCheck s (fon s CFG.UPD_STAT.TARGET)).result) f = fget s f :=
      fun f hVres hBusy => (fget_fset_ne _ _ hVres).trans (fget_updEnded hBusy)
    exact ⟨(fget_fset_ne _ _ (by decide)).trans (updEnded_busy s), fget_fset_same .., rfl,
      hElse _ (by decide) (by decide), hElse _ (by decide) (by decide), hElse _ (by decide) (by decide)⟩
  case fails =>
    intro u s hUpd
    obtain ⟨hBusy, hErr, hFlash⟩ := updFails_leaves (updEnded s) u
    exact completes_updCommandDone hUpd ⟨hBusy.trans (updEnded_busy s), hErr, hFlash⟩

end Sys2Proof.Machine
end

section
/-!
PROOF. A regulator turned on and off (R258, R261, R263): the rules of the operations that its commands are made of, then
what each command answers, state by state.
-/
namespace Sys2Proof.Machine

variable {s : State} {r c st : Nat} {f : Fld}

/-! ### The operations beside the registers -/

@[simp] theorem fget_setRegX (s : State) (r : Nat) (x : RegX) (f : Fld) : fget (setRegX s r x) f = fget s f := rfl
@[simp] theorem fget_withdraw (s : State) (p : ReqKind → Bool) (f : Fld) : fget (withdraw s p) f = fget s f := rfl
@[simp] theorem fget_request (s : State) (k : ReqKind) (mw : Nat) (f : Fld) : fget (request s k mw) f = fget s f := rfl

@[simp] theorem setRegX_ldg (s : State) (r : Nat) (x : RegX) : (setRegX s r x).ldg = s.ldg := rfl

@[simp] theorem regX_fset (s : State) (f : Fld) (v r : Nat) : regX (fset s f v) r = regX s r := rfl

@[simp] theorem regX_setRegX_same (s : State) (r : Nat) (x : RegX) : regX (setRegX s r x) r = x := tabGet_tabPut_same ..

theorem lastReq_request (s : State) (k : ReqKind) (mw : Nat) :
    lastReq (request s k mw) = some { kind := k, mw := mw, arrival := localNs s } := List.getLast?_concat

/-- What is withdrawn is no longer asked for. -/
theorem kind_of_mem_withdraw {p : ReqKind → Bool} {q : Req} (h : q ∈ (withdraw s p).ldg.reqs) : p q.kind = false := by
  simpa using (List.mem_filter.1 h).2

/-- R432: a coach to a target that is up completes with what the target answers. -/
theorem atTarget_of_up {k : Nat} {g : State → State × Nat} (h : targetDown s k = false) :
    atTarget s k g = complete (g s).1 (g s).2 := by simp [atTarget, h]

/-! ### Codes and reservations -/

theorem regCode_eq_codeOf (r c : Nat) : regCode r c = codeOf r c := by
  by_cases h : r < 4 <;> simp [regCode, codeOf, isBuck, h]

/-- R258: a code taken as its greatest one fits VTGT. -/
theorem codeOf_lt (r c : Nat) : codeOf r c < 2048 := by unfold codeOf; split <;> omega

theorem regR_eq_regResv (s : State) (r c : Nat) : regR s r c = regResv s r c := by
  by_cases h : r < 4 <;> simp [regR, regResv, isBuck, h]

/-- The reservation looks at the ledger entry alone. -/
theorem regResv_congr {t : State} (hResv : fget t (REG.LEDG.RESV_MW r) = fget s (REG.LEDG.RESV_MW r))
    (hNom : fget t (REG.LEDG_V.VNOM r) = fget s (REG.LEDG_V.VNOM r)) : regResv t r c = regResv s r c := by
  rw [regResv, regResv, hResv, hNom]

/-! ### A change of state -/

/-- The fields of STAT that a change of state may write. -/
def goKeys (r k : Nat) : Bool :=
  [REG.STAT.STATE r, REG.STAT.PG r, REG.STAT.NOIN r, REG.STAT.LIMIT r, REG.STAT.FOLD r].any fun f => fkey f == k

theorem regGo_sameBut (s : State) (r st : Nat) : SameBut (goKeys r) s (regGo s r st) := by
  have hState : SameBut (goKeys r) s (fset s (REG.STAT.STATE r) st) := (SameBut.refl _ s).fset _ (by simp [goKeys])
  have hPg : SameBut (goKeys r) s (if st = 3 then fset s (REG.STAT.STATE r) st else
      fset (fset s (REG.STAT.STATE r) st) (REG.STAT.PG r) 0) := by
    split
    · exact hState
    · exact hState.fset _ (by simp [goKeys])
  unfold regGo
  dsimp only
  split
  · exact hPg
  · refine SameBut.regs ?_ (u := setRegX _ _ _) rfl
    exact ((hPg.fset _ (by simp [goKeys])).fset _ (by simp [goKeys])).fset _ (by simp [goKeys])

theorem regState_regGo (s : State) (r : Nat) (h : st < 16) : regState (regGo s r st) r = st := by
  unfold regState regGo
  dsimp only
  split <;> split <;> simp [fget_fset, fkey, fwidth, Nat.mod_eq_of_lt h]

/-- R265: outside ON there is no power good. -/
theorem fget_regGo_pg (s : State) (r : Nat) (h : st ≠ 3) : fget (regGo s r st) (REG.STAT.PG r) = 0 := by
  unfold regGo
  dsimp only
  split <;> simp [fget_fset, fkey, fwidth]

@[simp] theorem regGo_ldg (s : State) (r st : Nat) : (regGo s r st).ldg = s.ldg := by
  unfold regGo
  dsimp only
  split <;> split <;> simp

/-- The output stage stays on, with what the part holds of it. -/
theorem regX_regGo_on (s : State) (r : Nat) : regX (regGo s r 3) r = regX s r := by simp [regGo]

theorem fget_regGo_en (s : State) (r st : Nat) : fget (regGo s r st) (REG.CTL.EN r) = fget s (REG.CTL.EN r) :=
  regGo_sameBut s r st _ (by simp +arith [goKeys, fkey])

/-! ### EN and CLR_LATCH -/

theorem regEnable_off (h : regState s r = 0) (hRun : s.start.running = true) : regEnable s r = (regPend s r, stOk) := by
  simp [regEnable, h, hRun]

theorem regEnable_active (h : 1 ≤ regState s r ∧ regState s r ≤ 5) (hRun : s.start.running = true) :
    regEnable s r = (s, stOk) := by
  have hBarred : ¬(regState s r = 6 ∨ regState s r = 7) := by omega
  have hOff : regState s r ≠ 0 := by omega
  simp [regEnable, hBarred, hRun, hOff]

theorem regEnable_barred (h : regState s r = 6 ∨ regState s r = 7) : regEnable s r = (s, stIllegal) := by
  simp [regEnable, h]

/-- R261, R263: what a turn-on leaves that waits for admission. -/
theorem regPend_pends (s : State) (r : Nat) :
    let t := regPend s r
    let code := codeOf r (fget s (REG.VSET.VSET r))
    regState t r = 1 ∧ fget t (REG.CTL.EN r) = 1 ∧ fget t (REG.STAT.PENDING r) = 1 ∧ fget t (REG.VSET.VTGT r) = code ∧
      lastReq t = some { kind := .regOn r, mw := regResv s r code, arrival := localNs s } := by
  have hCode : codeOf r (fget s (REG.VSET.VSET r)) % 2048 = codeOf r (fget s (REG.VSET.VSET r)) :=
    Nat.mod_eq_of_lt (codeOf_lt ..)
  refine ⟨?state, ?en, ?pending, ?vtgt, ?request⟩
  case request =>
    rw [regPend, lastReq_request, regR_eq_regResv, regCode_eq_codeOf, regResv_congr (s := s)]
    · rfl
    · simp +arith [fget_fset, fkey]
    · simp +arith [fget_fset, fkey]
  all_goals simp +arith [regPend, regState, fget_fset, fkey, fwidth, regCode_eq_codeOf, hCode]

theorem regDisable_active (h : 1 ≤ regState s r ∧ regState s r ≤ 5) : regDisable s r = regOff s r := by
  simp [regDisable, h]

/-- R261: a regulator that is off gives no power good and asks for nothing. -/
theorem regOff_isOff (s : State) (r : Nat) :
    let t := regOff s r
    regState t r = 0 ∧ fget t (REG.CTL.EN r) = 0 ∧ fget t (REG.STAT.PG r) = 0 ∧ fget t (REG.STAT.PENDING r) = 0 ∧
      regAsksNothing t r := by
  refine ⟨regState_regGo _ r (by decide), ?_, fget_regGo_pg _ r (by decide), ?_, fun q hq => ?_⟩
  · rw [regOff, fget_regGo_en]
    exact fget_fset_same ..
  · rw [regOff, regGo_sameBut _ r 0 _ (by simp [goKeys, fkey])]
    simp +arith [fget_fset, fkey, fwidth]
  · rw [regOff, regGo_ldg] at hq
    exact kind_of_mem_withdraw hq

theorem regClrLatch_latched (h : regState s r = 6) : regClrLatch s r = regGo (fset s (REG.CTL.EN r) 0) r 0 := by
  simp [regClrLatch, h]

/-! ### Soft start -/

/-- R269: a reference that starts at its target does not move. -/
theorem regSlewing_of_refFrom {t : State} (h : (regX t r).refFrom = regRef (fget t (REG.VSET.VTGT r))) :
    regSlewing t r = false := by
  simp [regSlewing, regNow, h]

/-! ### VSET -/

theorem regRaising_eq_false (h : ∀ q ∈ s.ldg.reqs, ∀ m, q.kind ≠ .regRaise r m) : regRaising s r = false := by
  unfold regRaising
  rw [List.any_eq_false]
  intro q hq
  have hKind := h q hq
  split
  next m code e =>
    intro hm
    exact hKind code (by simpa [e] using hm)
  next => simp

theorem regRaising_congr {t : State} (h : t.ldg = s.ldg) : regRaising t r = regRaising s r := by
  rw [regRaising, regRaising, h]

/-- R263: after an outstanding raise is withdrawn there is none. -/
theorem regRaising_regDropRaise (s : State) (r : Nat) : regRaising (regDropRaise s r) r = false := by
  unfold regDropRaise
  split
  case isTrue =>
    refine regRaising_eq_false fun q hq m e => ?_
    rw [fset_ldg] at hq
    have hKind := kind_of_mem_withdraw hq
    simp [e] at hKind
  case isFalse h => exact Bool.not_eq_true _ ▸ h

theorem fget_regDropRaise (h : fkey f ≠ fkey (REG.STAT.PENDING r)) : fget (regDropRaise s r) f = fget s f := by
  unfold regDropRaise
  split
  · rw [fget_fset_ne _ _ h, fget_withdraw]
  · rfl

@[simp] theorem localNs_regDropRaise (s : State) (r : Nat) : localNs (regDropRaise s r) = localNs s := by
  unfold regDropRaise
  split <;> rfl

/-- The state in which VSET stands and no raise is outstanding (R263). -/
def regVsetStored (s : State) (r c : Nat) : State := fset (regDropRaise s r) (REG.VSET.VSET r) c

theorem fget_regVsetStored (hPending : fkey f ≠ fkey (REG.STAT.PENDING r)) (hVset : fkey f ≠ fkey (REG.VSET.VSET r)) :
    fget (regVsetStored s r c) f = fget s f :=
  (fget_fset_ne _ _ hVset).trans (fget_regDropRaise hPending)

theorem regRaising_regVsetStored (s : State) (r c : Nat) : regRaising (regVsetStored s r c) r = false :=
  regRaising_regDropRaise s r

theorem fget_regVsetStored_vset (h : c < 2048) : fget (regVsetStored s r c) (REG.VSET.VSET r) = c := by
  simp [regVsetStored, fwidth, Nat.mod_eq_of_lt h]

theorem fget_regVsetStored_vtgt : fget (regVsetStored s r c) (REG.VSET.VTGT r) = fget s (REG.VSET.VTGT r) :=
  fget_regVsetStored (by simp only [fkey]; omega) (by simp [fkey])

theorem regVset_idle (h : regState s r = 0 ∨ regState s r = 6 ∨ regState s r = 7) :
    regVset s r c = regVsetStored s r c := by
  have hIdle : regState s r = 0 ∨ regState s r = 6 ∨ regState s r = 7 ∨ (!s.start.running) = true :=
    h.imp_right fun h => h.imp_right .inl
  exact if_pos hIdle

/-- In PENDING to THERM only a buck's raise asks for admission. -/
theorem regVset_active (h : 1 ≤ regState s r ∧ regState s r ≤ 5) (hRun : s.start.running = true) :
    regVset s r c = if r < 4 ∧ fget s (REG.VSET.VTGT r) < codeOf r c then
      request (fset (regVsetStored s r c) (REG.STAT.PENDING r) 1) (.regRaise r c)
        (regResv s r (codeOf r c) - regResv s r (fget s (REG.VSET.VTGT r)))
    else regTarget (regVsetStored s r c) r c := by
  have hIdle : ¬(regState s r = 0 ∨ regState s r = 6 ∨ regState s r = 7 ∨ (!s.start.running) = true) := by
    simp only [hRun]; simp; omega
  have hResv : ∀ d, regResv (regVsetStored s r c) r d = regResv s r d := fun d =>
    regResv_congr (fget_regVsetStored (by simp only [fkey]; omega) (by simp only [fkey]; omega))
      (fget_regVsetStored (by simp only [fkey]; omega) (by simp only [fkey]; omega))
  rw [← hResv, ← hResv, ← fget_regVsetStored_vtgt (s := s) (c := c)]
  simp only [regVset, hIdle, if_false, regR_eq_regResv, regCode_eq_codeOf, isBuck, decide_eq_true_eq, regVsetStored]
  rfl

theorem regTarget_leaves (s : State) (r c : Nat) :
    let t := regTarget s r c
    fget t (REG.VSET.VTGT r) = codeOf r c ∧ fget t (REG.VSET.VSET r) = fget s (REG.VSET.VSET r) ∧ t.ldg = s.ldg := by
  refine ⟨?_, ?_, rfl⟩
  · simp [regTarget, fwidth, regCode_eq_codeOf, codeOf_lt]
  · simp [regTarget, fget_fset, fkey]

/-! ### The commands -/

/-- R432: a command to a target that is up completes with what the target answers. -/
theorem completes_atTarget {x : Instr} {k : Nat} {g : State → State × Nat} {P : State → Prop}
    (hExec : exec x s = .next (atTarget s k g)) (hUp : targetDown s k = false) (h : P (complete (g s).1 (g s).2)) :
    Completes x s P := ⟨_, hExec, by rwa [atTarget_of_up hUp]⟩

/-- Settles O36: each command is one of the operations above on a target that is up. -/
theorem regulatorTurnOnAndOff : Obligations.RegulatorTurnOnAndOff := by
  refine ⟨?on, ?onActive, ?onBarred, ?off, ?clear, ?softStart, ?vsetIdle, ?vsetRaise, ?vsetOther⟩
  case on =>
    rintro r s ⟨hUp, hRun, hOff⟩
    refine completes_atTarget rfl hUp ?_
    rw [regEnable_off hOff hRun]
    exact ⟨rfl, regPend_pends s r⟩
  case onActive =>
    rintro r s ⟨hUp, hRun, hState⟩
    refine completes_atTarget rfl hUp ?_
    rw [regEnable_active hState hRun]
    exact ⟨rfl, rfl, rfl, .refl _ s⟩
  case onBarred =>
    rintro r s ⟨hUp, hState⟩
    refine completes_atTarget rfl hUp ?_
    rw [regEnable_barred hState]
    exact ⟨rfl, rfl, rfl, .refl _ s⟩
  case off =>
    rintro r s ⟨hUp, hState⟩
    refine completes_atTarget rfl hUp ?_
    rw [regDisable_active hState]
    exact ⟨rfl, regOff_isOff s r⟩
  case clear =>
    rintro r s ⟨hUp, hLatched⟩
    refine completes_atTarget rfl hUp ?_
    rw [regClrLatch_latched hLatched]
    refine ⟨rfl, regState_regGo _ r (by decide), ?_⟩
    rw [fget_complete, fget_regGo_en]
    exact fget_fset_same ..
  case softStart =>
    rintro r s ⟨hState, hInput⟩
    refine ⟨_, congrArg Host.Outcome.next (if_pos (by simp [hState, hInput])), regState_regGo _ r (by decide),
      regSlewing_of_refFrom ?_, regGo_ldg ..⟩
    rw [regX_regGo_on, regX_setRegX_same, regGo_sameBut _ r 3 _ (by simp +arith [goKeys, fkey]), fget_setRegX]
  case vsetIdle =>
    rintro r c s ⟨hUp, hState⟩
    refine completes_atTarget rfl hUp ?_
    rw [regVset_idle hState]
    exact ⟨rfl, fget_regVsetStored_vset c.isLt, fget_regVsetStored_vtgt, regRaising_regVsetStored s r c⟩
  case vsetRaise =>
    rintro r c s ⟨hUp, hRun, hLow, hHigh, hBuck, hAbove⟩
    refine completes_atTarget rfl hUp ?_
    rw [regVset_active ⟨hLow, hHigh⟩ hRun, if_pos ⟨hBuck, hAbove⟩]
    refine ⟨rfl, ?_, ?_, ?_, ?_⟩
    · rw [fget_complete, fget_request, fget_fset_ne _ _ (by simp only [fkey]; omega)]
      exact fget_regVsetStored_vset c.isLt
    · rw [fget_complete, fget_request, fget_fset_ne _ _ (by simp only [fkey]; omega)]
      exact fget_regVsetStored_vtgt
    · exact fget_fset_same ..
    · have hTime : localNs (fset (regVsetStored s r c) (REG.STAT.PENDING r) 1) = localNs s := localNs_regDropRaise s r
      have hLast := lastReq_request (fset (regVsetStored s r c) (REG.STAT.PENDING r) 1) (.regRaise r c)
        (regResv s r (codeOf r c) - regResv s r (fget s (REG.VSET.VTGT r)))
      exact (congrArg _ hLast).trans (by simpa using hTime)
  case vsetOther =>
    rintro r c s ⟨hUp, hRun, hLow, hHigh, hOther⟩
    refine completes_atTarget rfl hUp ?_
    rw [regVset_active ⟨hLow, hHigh⟩ hRun, if_neg (by omega)]
    obtain ⟨hVtgt, hVset, hLdg⟩ := regTarget_leaves (regVsetStored s r c) r c
    exact ⟨rfl, hVset.trans (fget_regVsetStored_vset c.isLt), hVtgt,
      (regRaising_congr hLdg).trans (regRaising_regVsetStored s r c)⟩

end Sys2Proof.Machine
end

section
/-!
PROOF. A limit condition whose source REGx_OC is contained while FLT.CFG.CONT_SHED is not 0: the raise sets the shed level
(R572), which the model also notes in the ledger's record.
-/
namespace Sys2Proof.Machine

/-- R264: regulator `r` in HICCUP, before REGx_OC is raised. -/
def regHiccuped (s : State) (r : Nat) : State :=
  let t := fset (regGo s r 4) (REG.EVT.HICCUP r) 1
  setRegX t r { regX t r with hiccupAt := localNs t }

theorem exec_regLimitCondition_of_runs {r : Fin 8} {s : State} (h : regState s r = 2 ∨ regState s r = 3) :
    exec (.regLimitCondition r) s = .next (regJournal (raise (regHiccuped s r) (0x20C + 4 * r)) r 3) :=
  if_pos h

/-- In Noon, regulator 0 in ON, its source REGA_OC set to contained, and contained raises to set shed level 1. -/
def containedOverloadState : State :=
  fset (fset (fset (fset State.reset TOP.STAGE.STAGE 2) (REG.STAT.STATE 0) 3) (FLT.SEV 0x20C) 2) FLT.CFG.CONT_SHED 1

theorem containedOverloadState_meets :
    regState containedOverloadState 0 = 3 ∧ Calm containedOverloadState 0x20C ∧ Reports containedOverloadState 0x20C := by
  decide +kernel

/-- The shed level that the raise sets waits in the ledger to be applied. -/
theorem lvl_of_containedOverloadState :
    (regJournal (raise (regHiccuped containedOverloadState 0) 0x20C) 0 3).ldg.lvl = true ∧
      containedOverloadState.ldg.lvl = false := by
  decide +kernel

/-- Refutes O37: its first clause asks that the ledger be as before for every source that is not fatal, and in
`containedOverloadState` the contained reactions set the shed level. -/
theorem not_regulatorProtectionAndPowerGood : ¬ Obligations.RegulatorProtectionAndPowerGood := by
  rintro ⟨hLimit, -⟩
  obtain ⟨hOn, hCalm, hReports⟩ := containedOverloadState_meets
  obtain ⟨t, hRun, -, -, -, -, hLedger⟩ := hLimit 0 containedOverloadState ⟨.inr hOn, hCalm, hReports⟩
  obtain rfl := Host.Outcome.next.inj ((exec_regLimitCondition_of_runs (r := 0) (.inr hOn)).symm.trans hRun)
  obtain ⟨hAfter, hBefore⟩ := lvl_of_containedOverloadState
  have hSame : (regJournal (raise (regHiccuped containedOverloadState 0) 0x20C) 0 3).ldg.lvl =
      containedOverloadState.ldg.lvl := congrArg LedgX.lvl hLedger
  exact absurd (hAfter.symm.trans (hSame.trans hBefore)) (by decide)

end Sys2Proof.Machine
end

section
/-!
PROOF. An ON step while a check error is injected on the sequencer's requester port (R583): its coach completes DATA_ERR
before it reaches the regulator, so the step fails and the rail asks for nothing.
-/
namespace Sys2Proof.Machine

/-- In Noon with the engines running, sequence 0 is to begin its one step, ON of BUCK_A, which is off. -/
def onStepState : State :=
  let s := fset (fset State.reset TOP.STAGE.STAGE 2) (SEQ.STAT.STATE 0) 1
  { s with
    start := { s.start with running := true }
    sqs := { s.sqs with heads := [{ count := 1 }], steps := [⟨1, 0x40, 0, 100, 0xFF, 0⟩] } }

/-- The same, with the next coach of port 11, the sequencer's, made a check error. -/
def injectedOnStepState : State := injFab onStepState 11

theorem injectedOnStepState_meets :
    stepReady injectedOnStepState 0 1 ∧ railOff injectedOnStepState (seqStep injectedOnStepState 0).tgt := by
  decide +kernel

theorem exec_seqOpOn_of_ready {q : Fin 16} {s : State} (h : seqReady s q 1 = true) :
    exec (.seqOpOn q) s =
      .next (seqSettle (seqCoach s q (seqStep s q).tgt fun t => railCmd t (seqStep s q).tgt true) q 1) :=
  congrArg Host.Outcome.next (if_pos h)

/-- The sequence is in FAILED with code 0x05, and BUCK_A is still off. -/
theorem failed_of_injectedOnStepState :
    let s := injectedOnStepState
    let t := seqSettle (seqCoach s 0 (seqStep s 0).tgt fun t => railCmd t (seqStep s 0).tgt true) 0 1
    fget t (SEQ.STAT.STATE 0) = 3 ∧ fget t (SEQ.STAT.FAIL_CODE 0) = 5 ∧ regState t 0 = 0 := by
  decide +kernel

/-- Refutes O38: its first clause asks every ON step of an admissible rail to wait for admission, and in
`injectedOnStepState` the injected error of R583 fails the step with the regulator still off. -/
theorem not_sequenceStepsRunInOrder : ¬ Obligations.SequenceStepsRunInOrder := by
  rintro ⟨hOn, -⟩
  obtain ⟨t, hRun, -, hWaits⟩ := hOn 0 injectedOnStepState injectedOnStepState_meets
  obtain rfl := Host.Outcome.next.inj ((exec_seqOpOn_of_ready (q := 0) (by decide +kernel)).symm.trans hRun)
  obtain ⟨hFailed, -, -⟩ := failed_of_injectedOnStepState
  exact absurd (hFailed.symm.trans hWaits.1) (by decide)

end Sys2Proof.Machine
end

section
/-!
PROOF. The registers that a journal record and a raise write, field by field: where Laws/Frame.lean names whole blocks,
this says what else in those blocks stands, and that the LAT bit of the source raised is 1 afterwards (R569).
-/
namespace Sys2Proof.Machine

variable {p : Nat → Bool} {s t : State} {i : Nat}

/-- The counters that a record or a frame may move: what the journal and the chain's queues have dropped. -/
def dropFlds : List Fld := [LNK.QDROP.C0, LNK.QDROP.C1, LNK.QDROP.C2, JRNL.CNT.LOST]

/-- What a raise may write beside RAW and LAT of its source: LNK_DROP's bits are those of its summary. -/
def alarmFlds : List Fld := dropFlds ++
  [LEDG.SHED.LEVEL, BUS.ATTN.FAULT, FLT.LAST.SEV, FLT.LAST.INJ, FLT.LAST.BRK, FLT.LAST.INDEX, FLT.EVT.CORRECTED,
   FLT.EVT.CONTAINED, FLT.EVT.FATAL, FLT.EVT.SELF, FLT.CNT.CORR, FLT.CNT.CONT, FLT.RAW 0x261, FLT.LAT 0x261,
   RTC.WAKE.CAUSE, RTC.WAKE.UNIT, RTC.WAKE.CNT, RTC.EVT.WAKE, RTC.STAT.PON, LNK.PORT.STAT.STATE 0, LNK.PORT.STAT.STATE 1]

/-- The frame `p` lets every field of the list change. -/
def Allows (p : Nat → Bool) (l : List Fld) : Prop := ∀ f ∈ l, p (fkey f) = true

/-- The keys of the fields listed. -/
def keysOf (l : List Fld) (k : Nat) : Bool := l.any fun f => fkey f == k

theorem keysOf_allows (l : List Fld) : Allows (keysOf l) l := fun f hf =>
  List.any_eq_true.2 ⟨f, hf, beq_self_eq_true _⟩

theorem keysOf_eq_false {l : List Fld} {k : Nat} : keysOf l k = false ↔ ∀ f ∈ l, fkey f ≠ k := by
  simp [keysOf]

theorem Allows.tail {g : Fld} {l : List Fld} (h : Allows p (g :: l)) : Allows p l := fun f hf =>
  h f (List.mem_cons_of_mem _ hf)

theorem Allows.drops (h : Allows p alarmFlds) : Allows p dropFlds := fun f hf => h f (List.mem_append_left _ hf)

theorem SameBut.ite {c : Prop} [Decidable c] {u : State} (h : SameBut p s t) (k : SameBut p s u) :
    SameBut p s (if c then t else u) := by
  split <;> assumption

/-! ### Frames and records -/

section Records

variable (hp : Allows p dropFlds)

theorem SameBut.setPortQ (h : SameBut p s t) (n : Nat) (q : PortQ) : SameBut p s (setPortQ t n q) := by
  unfold Machine.setPortQ
  split <;> exact h.regs rfl

include hp

theorem SameBut.pushPort (h : SameBut p s t) (n : Nat) (f : Frame) : SameBut p s (pushPort t n f).1 := by
  have hDrop : ∀ g ∈ dropFlds, SameBut p s (Machine.finc t g) := fun g hg => h.finc (hp g hg)
  unfold Machine.pushPort
  split
  · exact h
  · dsimp only
    split
    · exact h.setPortQ n _
    · dsimp only
      repeat' split
      all_goals exact hDrop _ (by decide)

theorem SameBut.pushAll (h : SameBut p s t) (f : Frame) (l : List (Nat × Bool)) : SameBut p s (pushAll t f l).1 := by
  induction l generalizing t with
  | nil => exact h
  | cons e l ih => exact ih (h.pushPort hp e.1 _)

theorem SameBut.enqueue (h : SameBut p s t) (o : Out) : SameBut p s (enqueue t o).1 := by
  unfold Machine.enqueue
  split
  · exact h
  · exact (h.regs (u := { t with lnk := { t.lnk with seq := (t.lnk.seq + 1) % 65536 } }) rfl).pushAll hp _ _

theorem SameBut.jrnlForward (h : SameBut p s t) (r : JRec) : SameBut p s (jrnlForward t r) :=
  .ite (h.enqueue hp _) h

omit hp in
theorem SameBut.jrnlFill (h : SameBut p s t) : SameBut p s (jrnlFill t) := .ite (h.regs rfl) h

theorem SameBut.jrnlQueue (h : SameBut p s t) (r : JRec) : SameBut p s (jrnlQueue t r) :=
  .ite ((h.regs (u := { t with jrn := { t.jrn with loss := true } }) rfl).finc (hp _ (by decide)))
    (((h.regs (u := { t with jrn := { t.jrn with queue := _, loss := false } }) rfl).jrnlForward hp r).jrnlFill)

theorem SameBut.journal (h : SameBut p s t) (typ sub event code : Nat) (vals : List Nat) :
    SameBut p s (journal t typ sub event code vals) :=
  .ite (h.regs rfl) (.ite (h.jrnlForward hp _) (h.jrnlQueue hp _))

end Records

/-! ### Wakes and raises -/

section Alarms

variable (hp : Allows p alarmFlds)

theorem SameBut.sendBeacon (h : SameBut p s t) (b : Nat) (d : List Nat) : SameBut p s (sendBeacon t b d) := by
  have hNext : SameBut p s { t with lnk := { t.lnk with bseq := (t.lnk.bseq + 1) % 256 } } := h.regs rfl
  unfold Machine.sendBeacon
  exact .ite ((SameBut.ite (hNext.setPortQ 0 _) hNext).setPortQ 1 _) (.ite (hNext.setPortQ 0 _) hNext)

include hp

theorem SameBut.setShedLevel (h : SameBut p s t) (c : Nat) : SameBut p s (setShedLevel t c).1 := by
  have hLevel : SameBut p s (Machine.fset { t with ldg := { t.ldg with lvl := true } } LEDG.SHED.LEVEL c) :=
    (h.regs rfl).fset c (hp _ (by decide))
  unfold Machine.setShedLevel
  split
  · exact h
  · exact .ite hLevel (hLevel.journal hp.drops _ _ _ _ _)

theorem SameBut.portWake (h : SameBut p s t) {n : Nat} (hn : LNK.PORT.STAT.STATE n ∈ alarmFlds) :
    SameBut p s (portWake t n) :=
  .ite ((h.setPortQ n _).fset 1 (hp _ hn)) h

theorem SameBut.wakeNight (h : SameBut p s t) (cause unit : Nat) (fwd : Bool) :
    SameBut p s (wakeNight t cause unit fwd) := by
  unfold Machine.wakeNight
  split
  · exact h.finc (hp _ (by decide))
  · extract_lets s1 pwr s2 s3 s4
    have hCause : SameBut p s s2 := (((h.fset cause (hp RTC.WAKE.CAUSE (by decide))).fset unit
      (hp RTC.WAKE.UNIT (by decide))).fset 1 (hp RTC.EVT.WAKE (by decide))).regs rfl
    have hPon : SameBut p s (ponAssert s2) := .ite hCause (hCause.fset 1 (hp _ (by decide)))
    have hRecord : SameBut p s s3 := (SameBut.ite hPon hCause).journal hp.drops _ _ _ _ _
    have hBeacon : SameBut p s s4 := .ite (hRecord.sendBeacon _ _) hRecord
    exact (hBeacon.portWake hp (by decide)).portWake hp (by decide)

/-- But in Evening, where it may return to Noon. -/
theorem SameBut.wakeCause (h : SameBut p s t) (cause unit : Nat) (hEve : Machine.stage t ≠ 3) :
    SameBut p s (wakeCause t cause unit) := by
  unfold Machine.wakeCause
  split
  · split
    · exact h.regs rfl
    · exact h.finc (hp _ (by decide))
  · exact .ite (h.wakeNight hp _ _ _) (by rw [if_neg fun e => hEve e.1]; exact h)

theorem SameBut.recordRaise (h : SameBut p s (Machine.fset t (FLT.LAT i) 1)) (sev : Nat) (inj brk : Bool) :
    SameBut p s (recordRaise t i sev inj brk) := by
  have hLast := (((h.fset sev (hp FLT.LAST.SEV (by decide))).fset (b2n inj) (hp FLT.LAST.INJ (by decide))).fset (b2n brk)
    (hp FLT.LAST.BRK (by decide))).fset i (hp FLT.LAST.INDEX (by decide))
  refine SameBut.journal hp.drops (.ite ?_ ?_) _ _ _ _ _
  · exact (hLast.fset 1 (hp FLT.EVT.CORRECTED (by decide))).finc (hp _ (by decide))
  · refine SameBut.finc (hLast.fset 1 ?_) (hp _ (by decide))
    split <;> exact hp _ (by decide)

theorem SameBut.containedReaction (h : SameBut p s t) : SameBut p s (containedReaction t) :=
  have hAttn : SameBut p s (if fon t FLT.CFG.CONT_ATTN then Machine.fset t BUS.ATTN.FAULT 1 else t) :=
    .ite (h.fset 1 (hp _ (by decide))) h
  .ite hAttn (hAttn.setShedLevel hp _)

/-- R571: the two bits of a source that a raise of it sets. -/
theorem SameBut.raiseCore_latched (hRaw : fon t (FLT.RAW i) = false)
    (h : SameBut p s (Machine.fset (Machine.fset t (FLT.RAW i) 1) (FLT.LAT i) 1)) (hSev : severity t i ≠ 0)
    (hCalm : severity t i ≠ 3) (inj brk : Bool) : SameBut p s (raiseCore t i inj brk).1 := by
  have hRecord := h.recordRaise hp (severity t i) inj brk
  have hReact := hRecord.containedReaction hp
  unfold Machine.raiseCore
  simp only [hRaw, hSev, hCalm, Bool.false_eq_true, if_false]
  split
  · exact hRecord
  · exact .ite (hReact.fset 1 (hp _ (by decide))) hReact

theorem SameBut.raiseCore (h : SameBut p s t) (hRaw : p (fkey (FLT.RAW i)) = true) (hLat : p (fkey (FLT.LAT i)) = true)
    (hCalm : severity t i ≠ 3) (inj brk : Bool) : SameBut p s (raiseCore t i inj brk).1 := by
  by_cases hOn : fon t (FLT.RAW i) = true
  · rw [Machine.raiseCore, if_pos hOn]
    exact h
  · by_cases hSev : severity t i = 0
    · simp only [Machine.raiseCore, hOn, hSev, if_true]
      exact h.fset 1 hRaw
    · exact SameBut.raiseCore_latched hp (Bool.not_eq_true _ ▸ hOn) ((h.fset 1 hRaw).fset 1 hLat) hSev hCalm inj brk

theorem SameBut.summarise (h : SameBut p s t) (hDrop : severity t 0x261 ≠ 3) : SameBut p s (summarise t) := by
  have hSent : SameBut p s (sendFaultSum t).1 := h.enqueue hp.drops _
  have hSev : severity (sendFaultSum t).1 0x261 ≠ 3 := by
    rwa [((Rep.refl t).sendFaultSum).severity _ (by decide)]
  have hLost := hSent.raiseCore hp (hp (FLT.RAW 0x261) (by decide)) (hp (FLT.LAT 0x261) (by decide)) hSev false false
  exact .ite (.ite (hLost.enqueue hp.drops _) hLost) hSent

/-- R571, R603: what a raise has asked for follows: the summary, and a wake. -/
theorem SameBut.follow (h : SameBut p s t) (hDrop : severity t 0x261 ≠ 3) (hEve : stage t ≠ 3) :
    SameBut p s (faultWake (Machine.summarise t)) :=
  have hSum := h.summarise hp hDrop
  .ite (hSum.wakeCause hp _ _ (by rwa [((Rep.refl t).summarise hDrop).stage])) hSum

end Alarms

/-- The fields that a raise of source `i` may write beside LAT of the source. -/
def alarmKeys (i : Nat) : Nat → Bool := keysOf (FLT.RAW i :: alarmFlds)

/-- R571: a source that reports and is not fatal is latched by a raise. -/
theorem raise_sameBut (hCalm : Calm s i) (hReports : Reports s i) :
    SameBut (alarmKeys i) (fset s (FLT.LAT i) 1) (raise s i) := by
  obtain ⟨hIndex, hSev, hRaw⟩ := hReports
  have hp : Allows (alarmKeys i) alarmFlds := (keysOf_allows _).tail
  have hRawKey : alarmKeys i (fkey (FLT.RAW i)) = true := keysOf_allows _ _ List.mem_cons_self
  have hComm : SameBut (alarmKeys i) (fset s (FLT.LAT i) 1) (fset (fset s (FLT.RAW i) 1) (FLT.LAT i) 1) := by
    intro f hf
    have hNe : fkey f ≠ fkey (FLT.RAW i) := fun e => by simp [e, hRawKey] at hf
    simp only [fget_fset, hNe, if_false]
  have hCore := SameBut.raiseCore_latched hp hRaw hComm hSev hCalm.severity false false
  have hRep := (Rep.refl s).raiseCore i false false hIndex hCalm.severity
  have hWith : SameBut (alarmKeys i) (fset s (FLT.LAT i) 1) (raiseWith s i false false) :=
    .ite (hCore.follow hp (hCalm.mono hRep).drop (hCalm.mono hRep).stage) hCore
  rw [raise, raiseEvent, if_neg (by rw [hRaw]; decide)]
  exact .ite hWith (hWith.fset 0 hRawKey)

/-- R569: a raise latches its source. -/
theorem fget_raise_lat (hCalm : Calm s i) (hReports : Reports s i) (hKey : alarmKeys i (fkey (FLT.LAT i)) = false) :
    fget (raise s i) (FLT.LAT i) = 1 := by
  rw [raise_sameBut hCalm hReports _ hKey, fget_fset_same]
  simp [fwidth]

/-- What stands elsewhere in the collector's own block is left alone. -/
theorem fget_raise_of_reports (hCalm : Calm s i) (hReports : Reports s i) {f : Fld} (hKey : alarmKeys i (fkey f) = false)
    (hLat : fkey f ≠ fkey (FLT.LAT i)) : fget (raise s i) f = fget s f := by
  rw [raise_sameBut hCalm hReports f hKey, fget_fset_ne _ _ hLat]

end Sys2Proof.Machine
end

section
/-!
PROOF. What the sequencer's own operations leave alone (R276-R293): a record, the drive of SEQ_FLT, an abort, a start.
A key modulo 512 is the place of a field among four registers, the stride of the sequences and of the monitors. The type
`Step` lets a step name any monitor, so the place alone tells MODE and ARM of its monitor from the fields of other blocks.
-/
namespace Sys2Proof.Machine

variable {p : Nat → Bool} {s t u : State} {f : Fld} {q r : Nat}

/-! ### The frame of the sequencer -/

/-- `t` has the clocks, the stage of the start and the image's sequences of `s`, and its fields but for those in `p`. -/
structure Within (p : Nat → Bool) (s t : State) : Prop where
  flds : SameBut p s t
  start : t.start = s.start
  time : t.time = s.time
  heads : t.sqs.heads = s.sqs.heads
  steps : t.sqs.steps = s.sqs.steps

/-- And what the part holds of each sequence, and the requests before E0. -/
structure Logged (p : Nat → Bool) (s t : State) : Prop extends Within p s t where
  seqs : t.sqs.seqs = s.sqs.seqs
  reqs : t.ldg.reqs = s.ldg.reqs

theorem Within.refl (p : Nat → Bool) (s : State) : Within p s s := ⟨.refl p s, rfl, rfl, rfl, rfl⟩

theorem Within.trans (h : Within p s t) (k : Within p t u) : Within p s u :=
  ⟨h.flds.trans k.flds, k.start.trans h.start, k.time.trans h.time, k.heads.trans h.heads, k.steps.trans h.steps⟩

theorem Within.mono {p' : Nat → Bool} (h : Within p s t) (hp : ∀ k, p' k = false → p k = false) : Within p' s t :=
  { h with flds := h.flds.mono hp }

theorem Within.fset (h : Within p s t) (v : Nat) (hf : p (fkey f) = true) : Within p s (fset t f v) :=
  ⟨h.flds.fset v hf, h.start, h.time, h.heads, h.steps⟩

theorem Within.ite {c : Prop} [Decidable c] (h : Within p s t) (k : Within p s u) : Within p s (if c then t else u) := by
  split <;> assumption

theorem Within.fget (h : Within p s t) (hf : p (fkey f) = false) : fget t f = fget s f := h.flds f hf

theorem Within.seqHead (h : Within p s t) : seqHead t = seqHead s := by
  funext q
  simp only [Machine.seqHead, h.heads]

theorem Logged.refl (p : Nat → Bool) (s : State) : Logged p s s := ⟨.refl p s, rfl, rfl⟩

theorem Logged.fset (h : Logged p s t) (v : Nat) (hf : p (fkey f) = true) : Logged p s (fset t f v) :=
  ⟨h.toWithin.fset v hf, h.seqs, h.reqs⟩

theorem Logged.ite {c : Prop} [Decidable c] (h : Logged p s t) (k : Logged p s u) : Logged p s (if c then t else u) := by
  split <;> assumption

theorem Logged.seqX (h : Logged p s t) : seqX t = seqX s := by
  funext q
  simp only [Machine.seqX, h.seqs]

/-- Reporting, with its fields named one by one. -/
theorem Logged.rep (h : Logged p s t) (hRep : Rep t u) (hf : SameBut p s u) : Logged p s u :=
  ⟨⟨hf, hRep.start.trans h.start, hRep.time.trans h.time, (congrArg SeqsX.heads hRep.sqs).trans h.heads,
    (congrArg SeqsX.steps hRep.sqs).trans h.steps⟩, (congrArg SeqsX.seqs hRep.sqs).trans h.seqs, hRep.reqs.trans h.reqs⟩

/-! ### Records and the line -/

/-- The counters that a sequencing record may move (R293). -/
def seqLogFlds : List Fld := SEQ.JSTAT.LOST :: dropFlds

/-- And the fields that the drive of SEQ_FLT may (R291). -/
def lineFlds : List Fld := [SEQ.FLT_STAT.LINE, SEQ.FLT_STAT.DRIVE, SEQ.FLT_STAT.EXT] ++ seqLogFlds

theorem Logged.seqDrain (hp : Allows p dropFlds) (h : Logged p s t) (n : Nat) : Logged p s (seqDrain n t) := by
  induction n generalizing t with
  | zero => exact h
  | succ n ih =>
    unfold Machine.seqDrain
    split
    · exact h
    next r rs hRecs =>
      have hTaken : Logged p s { t with sqs := { t.sqs with recs := rs } } :=
        ⟨⟨h.flds.regs rfl, h.start, h.time, h.heads, h.steps⟩, h.seqs, h.reqs⟩
      exact .ite (ih (hTaken.rep ((Rep.refl _).jrnlQueue r) (hTaken.flds.jrnlQueue hp r))) h

theorem Logged.seqRecord (hp : Allows p seqLogFlds) (h : Logged p s t) (sub event code : Nat) (vals : List Nat) :
    Logged p s (seqRecord t sub event code vals) := by
  have hQueued (l : List JRec) : Logged p s { t with sqs := { t.sqs with recs := l } } :=
    ⟨⟨h.flds.regs rfl, h.start, h.time, h.heads, h.steps⟩, h.seqs, h.reqs⟩
  have hLost : Logged p s (finc t SEQ.JSTAT.LOST) := by
    rcases finc_eq t SEQ.JSTAT.LOST with e | e <;> rw [e]
    · exact h
    · exact h.fset _ (hp _ (by decide))
  exact .ite (h.rep ((Rep.refl t).jrnlForward _) (h.flds.jrnlForward hp.tail _))
    (.ite ((hQueued _).seqDrain hp.tail 64) hLost)

theorem Logged.seqJournal (hp : Allows p seqLogFlds) (h : Logged p s t) (q event : Nat) :
    Logged p s (seqJournal t q event) := .ite h (h.seqRecord hp _ _ _ _)

theorem Logged.fltLine (hp : Allows p lineFlds) (h : Logged p s t) : Logged p s (fltLine t) :=
  .ite h ((h.fset (f := SEQ.FLT_STAT.LINE) _ (hp _ (by decide))).seqRecord hp.tail.tail.tail _ _ _ _)

theorem Logged.fltUpdate (hp : Allows p lineFlds) (h : Logged p s t) : Logged p s (fltUpdate t) := by
  have hHold : Logged p s { t with sqs := { t.sqs with minHold := true } } :=
    ⟨⟨h.flds.regs rfl, h.start, h.time, h.heads, h.steps⟩, h.seqs, h.reqs⟩
  refine .ite (.ite h ?_) (.ite ((h.fset (f := SEQ.FLT_STAT.DRIVE) _ (hp _ (by decide))).fltLine hp) h)
  exact ((hHold.fset (f := SEQ.FLT_STAT.DRIVE) _ (hp _ (by decide))).fset (f := SEQ.FLT_STAT.EXT) _
    (hp _ (by decide))).fltLine hp

/-! ### An abort -/

theorem Within.setSeqX (h : Within p s t) (q : Nat) (x : SeqX) : Within p s (setSeqX t q x) :=
  ⟨h.flds.regs rfl, h.start, h.time, h.heads, h.steps⟩

theorem Within.seqJournal (hp : Allows p seqLogFlds) (h : Within p s t) (q event : Nat) :
    Within p s (seqJournal t q event) :=
  h.trans ((Logged.refl p t).seqJournal hp q event).toWithin

@[simp] theorem fget_setSeqX (s : State) (q : Nat) (x : SeqX) (f : Fld) : fget (setSeqX s q x) f = fget s f := rfl

@[simp] theorem seqX_setSeqX_same (s : State) (q : Nat) (x : SeqX) : seqX (setSeqX s q x) q = x := tabGet_tabPut_same ..

/-- The blocks of the rails: channels, loops and regulators. -/
def railKeys (k : Nat) : Bool := decide (k / 2 ^ 21 = 2 ∨ k / 2 ^ 21 = 4 ∨ k / 2 ^ 21 = 5)

/-- What the withdrawal of a step may write: the rails' blocks, and MODE and ARM of a monitor. -/
def stepKeys (k : Nat) : Bool := railKeys k || decide (0x60400 * 32 ≤ k ∧ (k % 512 = 259 ∨ k % 512 = 31))

/-- What an abort of sequence `q` may write of its own page. -/
def abortFlds (q : Nat) : List Fld := [SEQ.TIME.ELAPSED q, SEQ.STAT.STATE q, SEQ.EVT.ABORTED q] ++ seqLogFlds

/-- What an abort of sequence `q` may write. -/
def abortKeys (q k : Nat) : Bool := stepKeys k || keysOf (abortFlds q) k

theorem abortKeys_allows (q : Nat) : Allows (abortKeys q) (abortFlds q) := fun f hf => by
  rw [abortKeys, keysOf_allows _ f hf, Bool.or_true]

theorem railKeys_iff {k : Nat} : railKeys k = true ↔ k / 2 ^ 21 = 2 ∨ k / 2 ^ 21 = 4 ∨ k / 2 ^ 21 = 5 := decide_eq_true_iff

theorem stepKeys_iff {k : Nat} : stepKeys k = true ↔
    (k / 2 ^ 21 = 2 ∨ k / 2 ^ 21 = 4 ∨ k / 2 ^ 21 = 5) ∨ 0x60400 * 32 ≤ k ∧ (k % 512 = 259 ∨ k % 512 = 31) := by
  rw [stepKeys, Bool.or_eq_true, railKeys_iff, decide_eq_true_iff]

theorem stepKeys_eq_false {k : Nat} (hRail : ¬(k / 2 ^ 21 = 2 ∨ k / 2 ^ 21 = 4 ∨ k / 2 ^ 21 = 5))
    (hMon : k < 0x60400 * 32 ∨ k % 512 ≠ 259 ∧ k % 512 ≠ 31) : stepKeys k = false := by
  rw [← Bool.not_eq_true, stepKeys_iff]
  omega

theorem Within.withdraw (h : Within p s t) (g : ReqKind → Bool) : Within p s (withdraw t g) :=
  ⟨h.flds.regs rfl, h.start, h.time, h.heads, h.steps⟩

/-- A rail's command, state and request, cleared. -/
theorem withdrawn_within (s : State) (g : ReqKind → Bool) {en st pend : Fld} (hEn : railKeys (fkey en) = true)
    (hSt : railKeys (fkey st) = true) (hPend : railKeys (fkey pend) = true) :
    Within railKeys s (fset (fset (fset (withdraw s g) en 0) st 0) pend 0) :=
  ((((Within.refl _ s).withdraw g).fset 0 hEn).fset 0 hSt).fset 0 hPend

theorem withdrawOn_within (s : State) (tgt : Nat) : Within railKeys s (withdrawOn s tgt) := by
  have hNone := Within.refl railKeys s
  have hChan (h : tgt < 0x40) := withdrawn_within s (isChanReq tgt) (en := CHN.CTL.MODE tgt) (st := CHN.STAT.STATE tgt)
    (pend := CHN.STAT.PENDING tgt) (railKeys_iff.2 (by simp only [fkey]; omega))
    (railKeys_iff.2 (by simp only [fkey]; omega)) (railKeys_iff.2 (by simp only [fkey]; omega))
  have hReg (h : tgt < 0x48) := withdrawn_within s (isRegReq (tgt - 0x40)) (en := REG.CTL.EN (tgt - 0x40))
    (st := REG.STAT.STATE (tgt - 0x40)) (pend := REG.STAT.PENDING (tgt - 0x40))
    (railKeys_iff.2 (by simp only [fkey]; omega)) (railKeys_iff.2 (by simp only [fkey]; omega))
    (railKeys_iff.2 (by simp only [fkey]; omega))
  have hLoop (h : tgt < 0x4C) := withdrawn_within s (isLoopReq (tgt - 0x48)) (en := LOOP.CTL.EN (tgt - 0x48))
    (st := LOOP.STAT.STATE (tgt - 0x48)) (pend := LOOP.STAT.PENDING (tgt - 0x48))
    (railKeys_iff.2 (by simp only [fkey]; omega)) (railKeys_iff.2 (by simp only [fkey]; omega))
    (railKeys_iff.2 (by simp only [fkey]; omega))
  unfold withdrawOn
  split
  case isTrue h => exact .ite (hChan h) hNone
  split
  case isTrue h => exact .ite (hReg h) hNone
  split
  case isTrue h => exact .ite (hLoop h) hNone
  case isFalse => exact hNone

theorem withdrawSetV_within (s : State) (tgt : Nat) : Within railKeys s (withdrawSetV s tgt) := by
  have hKeys {g : ReqKind → Bool} {vset pend : Fld} (v : Nat) (hV : railKeys (fkey vset) = true)
      (hP : railKeys (fkey pend) = true) : Within railKeys s (fset (fset (withdraw s g) vset v) pend 0) :=
    (((Within.refl _ s).withdraw g).fset v hV).fset 0 hP
  unfold withdrawSetV
  split
  case isTrue h =>
    exact hKeys _ (railKeys_iff.2 (by simp only [fkey]; omega)) (railKeys_iff.2 (by simp only [fkey]; omega))
  split
  case isTrue h =>
    exact hKeys _ (railKeys_iff.2 (by simp only [fkey]; omega)) (railKeys_iff.2 (by simp only [fkey]; omega))
  case isFalse => exact .refl _ s

theorem monUnarm_within (s : State) (m : Nat) : Within stepKeys s (monUnarm s m) :=
  ((Within.refl _ s).fset 0 (stepKeys_iff.2 (by simp only [fkey]; omega))).fset 0
    (stepKeys_iff.2 (by simp only [fkey]; omega))

theorem abortStep_within (s : State) (st : Step) : Within stepKeys s (abortStep s st) :=
  have hRail (k : Nat) (hk : stepKeys k = false) : railKeys k = false := (Bool.or_eq_false_iff.1 hk).1
  .ite ((withdrawOn_within s _).mono hRail)
    (.ite ((withdrawSetV_within s _).mono hRail) (.ite (monUnarm_within s _) (.refl _ s)))

/-- The state in which an abort of the running sequence `q` is journalled (R281). -/
def seqStopped (s : State) (q : Nat) : State :=
  let s1 := if (seqX s q).issued then abortStep s (seqStep s q) else s
  let s2 := fset s1 (SEQ.TIME.ELAPSED q) (seqElapsed s1 q)
  setSeqX (fset (fset s2 (SEQ.STAT.STATE q) 4) (SEQ.EVT.ABORTED q) 1) q { seqX s q with issued := false }

theorem seqAbort_of_running (h : fget s (SEQ.STAT.STATE q) = 1) : seqAbort s q = seqJournal (seqStopped s q) q 0x03 :=
  if_pos h

theorem seqAbort_of_not_running (h : fget s (SEQ.STAT.STATE q) ≠ 1) : seqAbort s q = s := if_neg h

theorem seqStopped_within (s : State) (q : Nat) : Within (abortKeys q) s (seqStopped s q) := by
  have hStep : Within (abortKeys q) s (if (seqX s q).issued then abortStep s (seqStep s q) else s) :=
    .ite ((abortStep_within s _).mono fun k hk => (Bool.or_eq_false_iff.1 hk).1) (.refl _ s)
  have hFld := abortKeys_allows q
  exact (((hStep.fset _ (hFld (SEQ.TIME.ELAPSED q) (by simp [abortFlds]))).fset 4
    (hFld (SEQ.STAT.STATE q) (by simp [abortFlds]))).fset 1
    (hFld (SEQ.EVT.ABORTED q) (by simp [abortFlds]))).setSeqX q _

theorem seqAbort_within (s : State) (q : Nat) : Within (abortKeys q) s (seqAbort s q) := by
  by_cases h : fget s (SEQ.STAT.STATE q) = 1
  · rw [seqAbort_of_running h]
    exact (seqStopped_within s q).seqJournal (abortKeys_allows q).tail.tail.tail q _
  · rw [seqAbort_of_not_running h]
    exact .refl _ s

/-- A record moves its counters only. -/
theorem fget_seqJournal (s : State) (q event : Nat) (hf : keysOf seqLogFlds (fkey f) = false) :
    fget (seqJournal s q event) f = fget s f :=
  ((Logged.refl _ s).seqJournal (keysOf_allows _) q event).fget hf

theorem seqLogKeys_eq_false {k : Nat} (h : k % 512 ≠ 384 ∧ k % 512 ≠ 272 ∧ k % 512 ≠ 280 ∧ k % 512 ≠ 256 ∧ k % 512 ≠ 144) :
    keysOf seqLogFlds k = false := by
  simp [keysOf_eq_false, seqLogFlds, dropFlds, fkey]
  omega

theorem seqAbort_aborts (h : fget s (SEQ.STAT.STATE q) = 1) :
    fget (seqAbort s q) (SEQ.STAT.STATE q) = 4 ∧ fget (seqAbort s q) (SEQ.EVT.ABORTED q) = 1 := by
  rw [seqAbort_of_running h, fget_seqJournal _ _ _ (seqLogKeys_eq_false (by simp only [fkey]; omega)),
    fget_seqJournal _ _ _ (seqLogKeys_eq_false (by simp only [fkey]; omega))]
  simp +arith [seqStopped, fget_fset, fkey, fwidth]

/-- R281: an abort leaves the state of every other sequence. -/
theorem fget_seqAbort_state (hne : r ≠ q) : fget (seqAbort s q) (SEQ.STAT.STATE r) = fget s (SEQ.STAT.STATE r) := by
  refine (seqAbort_within s q).fget (Bool.or_eq_false_iff.2 ⟨stepKeys_eq_false ?_ ?_, ?_⟩)
  · simp only [fkey]; omega
  · simp only [fkey]; omega
  · simp [keysOf_eq_false, abortFlds, seqLogFlds, dropFlds, fkey]; omega

/-! ### A monitor that has left discharge mode -/

/-- A field that reads 0 still does where a field is cleared, be it this one under another name or not. -/
theorem fget_fset_zero {g : Fld} (h : fget s f = 0) : fget (fset s g 0) f = 0 := by
  rw [fget_fset]
  split <;> simp [h]

theorem fget_mode_abortStep {m : Nat} (st : Step) (h : fget s (MON.STAT.MODE m) = 0) :
    fget (abortStep s st) (MON.STAT.MODE m) = 0 := by
  have hKey : railKeys (fkey (MON.STAT.MODE m)) = false := by
    rw [← Bool.not_eq_true, railKeys_iff]
    simp only [fkey]; omega
  have hUnarm : fget (monUnarm s st.mon) (MON.STAT.MODE m) = 0 := fget_fset_zero (fget_fset_zero h)
  unfold abortStep
  split
  · rwa [(withdrawOn_within s st.tgt).fget hKey]
  split
  · rwa [(withdrawSetV_within s st.tgt).fget hKey]
  split
  · exact hUnarm
  · exact h

theorem fget_mode_seqAbort {m : Nat} (q : Nat) (h : fget s (MON.STAT.MODE m) = 0) :
    fget (seqAbort s q) (MON.STAT.MODE m) = 0 := by
  by_cases hRun : fget s (SEQ.STAT.STATE q) = 1
  · have hStep : fget (if (seqX s q).issued then abortStep s (seqStep s q) else s) (MON.STAT.MODE m) = 0 := by
      split
      · exact fget_mode_abortStep _ h
      · exact h
    rw [seqAbort_of_running hRun, fget_seqJournal _ _ _ (seqLogKeys_eq_false (by simp only [fkey]; omega)), seqStopped,
      fget_setSeqX, fget_fset_ne _ _ (by simp only [fkey]; omega), fget_fset_ne _ _ (by simp only [fkey]; omega),
      fget_fset_ne _ _ (by simp only [fkey]; omega)]
    exact hStep
  · rwa [seqAbort_of_not_running hRun]

/-! ### A start -/

/-- What holds before PREEMPT acts, and after every abort, holds after it. -/
theorem seqPreempt_induction {P : State → Prop} (q : Nat) (h : P s) (hAbort : ∀ t, ∀ r < 16, P t → P (seqAbort t r)) :
    P (seqPreempt s q) := by
  unfold seqPreempt
  split
  · refine List.foldlRecOn _ _ h fun t ht r hr => ?_
    split
    · exact ht
    · exact hAbort t r (List.mem_range.1 hr) ht
  · exact h

/-- What PREEMPT may write (R281). -/
def preemptKeys (k : Nat) : Bool := (List.range 16).any fun r => abortKeys r k

theorem preemptKeys_eq_false {k : Nat} : preemptKeys k = false ↔ ∀ r < 16, abortKeys r k = false := by
  simp [preemptKeys]

/-- An abort leaves the state of a sequence that does not run. -/
theorem fget_seqAbort_of_idle {v : Nat} (q : Nat) (hv : v ≠ 1) (h : fget s (SEQ.STAT.STATE r) = v) :
    fget (seqAbort s q) (SEQ.STAT.STATE r) = v := by
  by_cases e : r = q
  · subst e
    rwa [seqAbort_of_not_running (h ▸ hv)]
  · rwa [fget_seqAbort_state e]

/-- What PREEMPT does to one sequence: it spares those that have PREEMPT themselves (R281). -/
def preemptStep (t : State) (a : Nat) : State := if bitOf (seqHead t a).flags 0 then t else seqAbort t a

theorem foldl_preemptStep_aborted (l : List Nat) (h : fget s (SEQ.STAT.STATE r) = 4) :
    fget (l.foldl preemptStep s) (SEQ.STAT.STATE r) = 4 := by
  induction l generalizing s with
  | nil => exact h
  | cons a l ih =>
    refine ih ?_
    unfold preemptStep
    split
    · exact h
    · exact fget_seqAbort_of_idle a (by decide) h

theorem foldl_preemptStep_aborts {l : List Nat} (hr : r ∈ l) (hRun : fget s (SEQ.STAT.STATE r) = 1)
    (hLow : bitOf (seqHead s r).flags 0 = false) : fget (l.foldl preemptStep s) (SEQ.STAT.STATE r) = 4 := by
  induction l generalizing s with
  | nil => cases hr
  | cons a l ih =>
    by_cases e : r = a
    · subst e
      have hAborts : preemptStep s r = seqAbort s r := if_neg (by rw [hLow]; decide)
      rw [List.foldl_cons, hAborts]
      exact foldl_preemptStep_aborted l (seqAbort_aborts hRun).1
    · have hStep : fget (preemptStep s a) (SEQ.STAT.STATE r) = fget s (SEQ.STAT.STATE r) ∧
          seqHead (preemptStep s a) = seqHead s := by
        unfold preemptStep
        split
        · exact ⟨rfl, rfl⟩
        · exact ⟨fget_seqAbort_state e, (seqAbort_within s a).seqHead⟩
      obtain ⟨hState, hHead⟩ := hStep
      exact ih (List.mem_of_ne_of_mem e hr) (hState.trans hRun) (hHead ▸ hLow)

/-- R281: PREEMPT aborts every running sequence without PREEMPT. -/
theorem seqPreempt_aborts (hFlag : bitOf (seqHead s q).flags 0 = true) (hr : r < 16)
    (hRun : fget s (SEQ.STAT.STATE r) = 1) (hLow : bitOf (seqHead s r).flags 0 = false) :
    fget (seqPreempt s q) (SEQ.STAT.STATE r) = 4 := by
  rw [seqPreempt, if_pos hFlag]
  exact foldl_preemptStep_aborts (List.mem_range.2 hr) hRun hLow

/-- The state in which the start of a sequence is journalled (R276). -/
def seqBegun (s : State) (q base : Nat) (low : Bool) : State :=
  let s1 := seqPreempt s q
  let s2 := fset (fset (fset (fset s1 (SEQ.STAT.STATE q) 1) (SEQ.STAT.STEP q) 0) (SEQ.STAT.FAIL_CODE q) 0) (SEQ.EVT.STARTED q) 1
  setSeqX s2 q { base := base, began := localNs s, stepAt := localNs s, powerFail := low }

theorem seqStart_of_running {base : Nat} {low : Bool} (h : fget s (SEQ.STAT.STATE q) = 1) :
    seqStart s q base low = (fset s (SEQ.EVT.IGNORED q) 1, stIllegal) := if_pos h

theorem seqStart_of_ready {base : Nat} {low : Bool} (hIdle : fget s (SEQ.STAT.STATE q) ≠ 1)
    (hRun : s.start.running = true) (hSafe : safe s = false) (hUsed : (seqHead s q).count ≠ 0) :
    seqStart s q base low = (seqJournal (seqBegun s q base low) q 0x00, stOk) := by
  simp only [seqStart, hIdle, hRun, hSafe, hUsed, if_false, Bool.not_true, Bool.or_self, Bool.false_eq_true]
  rfl

/-- What the start of sequence `q` writes of its own page. -/
def startFlds (q : Nat) : List Fld :=
  [SEQ.EVT.IGNORED q, SEQ.STAT.STATE q, SEQ.STAT.STEP q, SEQ.STAT.FAIL_CODE q, SEQ.EVT.STARTED q] ++ seqLogFlds

/-- What the start of sequence `q` may write. -/
def startKeys (q k : Nat) : Bool := preemptKeys k || keysOf (startFlds q) k

theorem startKeys_allows (q : Nat) : Allows (startKeys q) (startFlds q) := fun f hf => by
  rw [startKeys, keysOf_allows _ f hf, Bool.or_true]

/-- What holds before a start, after every abort and after the writes of its own page and a record, holds after it. -/
theorem seqStart_induction {P : State → Prop} {base : Nat} {low : Bool} (h : P s)
    (hAbort : ∀ t, ∀ a < 16, P t → P (seqAbort t a))
    (hOwn : ∀ t, ∀ f ∈ startFlds q, ∀ v, P t → P (fset t f v))
    (hHeld : ∀ t x, P t → P (setSeqX t q x)) (hLog : ∀ t e, P t → P (seqJournal t q e)) :
    P (seqStart s q base low).1 := by
  unfold seqStart
  split
  · exact hOwn _ _ (by simp [startFlds]) _ h
  split
  · exact h
  split
  · exact h
  · refine hLog _ _ (hHeld _ _ ?_)
    exact hOwn _ _ (by simp [startFlds]) _ (hOwn _ _ (by simp [startFlds]) _ (hOwn _ _ (by simp [startFlds]) _
      (hOwn _ _ (by simp [startFlds]) _ (seqPreempt_induction q h hAbort))))

theorem seqStart_within (s : State) (q base : Nat) (low : Bool) : Within (startKeys q) s (seqStart s q base low).1 := by
  have hFld := startKeys_allows q
  refine seqStart_induction (.refl _ s) ?_ (fun t f hf v ht => ht.fset v (hFld f hf)) (fun t x ht => ht.setSeqX q x)
    fun t e ht => ht.seqJournal hFld.tail.tail.tail.tail.tail q e
  refine fun t a ha ht => ht.trans ((seqAbort_within t a).mono fun k hk => ?_)
  exact preemptKeys_eq_false.1 (Bool.or_eq_false_iff.1 hk).1 a ha

/-- The start of one sequence leaves another that does not run where it is. -/
theorem fget_seqStart_of_idle {base : Nat} {low : Bool} (hne : r ≠ q) (h : fget s (SEQ.STAT.STATE r) ≠ 1) :
    fget (seqStart s q base low).1 (SEQ.STAT.STATE r) = fget s (SEQ.STAT.STATE r) := by
  have hOwn : ∀ f ∈ startFlds q, fkey (SEQ.STAT.STATE r) ≠ fkey f := by
    simp [startFlds, seqLogFlds, dropFlds, fkey]
    omega
  refine seqStart_induction (P := fun t => fget t (SEQ.STAT.STATE r) = _) rfl (fun t a _ ht => fget_seqAbort_of_idle a h ht)
    (fun t f hf v ht => (fget_fset_ne t v (hOwn f hf)).trans ht) (fun _ _ ht => ht) fun t e ht => ?_
  rwa [fget_seqJournal _ _ _ (seqLogKeys_eq_false (by simp only [fkey]; omega))]

/-- A start leaves a monitor that is unarmed so. -/
theorem fget_mode_seqStart {base m : Nat} {low : Bool} (h : fget s (MON.STAT.MODE m) = 0) :
    fget (seqStart s q base low).1 (MON.STAT.MODE m) = 0 := by
  have hOwn : ∀ f ∈ startFlds q, fkey (MON.STAT.MODE m) ≠ fkey f := by
    simp [startFlds, seqLogFlds, dropFlds, fkey]
    omega
  refine seqStart_induction (P := fun t => fget t (MON.STAT.MODE m) = 0) h (fun t a _ ht => fget_mode_seqAbort a ht)
    (fun t f hf v ht => (fget_fset_ne t v (hOwn f hf)).trans ht) (fun _ _ ht => ht) fun t e ht => ?_
  rwa [fget_seqJournal _ _ _ (seqLogKeys_eq_false (by simp only [fkey]; omega))]

/-- R276, R281: a sequence that starts runs at step 0. -/
theorem seqStart_begins {base : Nat} {low : Bool} (hIdle : fget s (SEQ.STAT.STATE q) ≠ 1)
    (hRun : s.start.running = true) (hSafe : safe s = false) (hUsed : (seqHead s q).count ≠ 0) :
    let t := (seqStart s q base low).1
    fget t (SEQ.STAT.STATE q) = 1 ∧ fget t (SEQ.STAT.STEP q) = 0 ∧ fget t (SEQ.STAT.FAIL_CODE q) = 0 ∧
      fget t (SEQ.EVT.STARTED q) = 1 ∧ (seqX t q).base = base := by
  have hRead (f : Fld) (hf : fkey f % 512 < 32 ∨ fkey f % 512 = 128) :
      fget (seqJournal (seqBegun s q base low) q 0x00) f = fget (seqBegun s q base low) f :=
    fget_seqJournal _ _ _ (seqLogKeys_eq_false (by omega))
  rw [seqStart_of_ready hIdle hRun hSafe hUsed]
  dsimp only
  rw [hRead _ (by simp only [fkey]; omega), hRead _ (by simp only [fkey]; omega), hRead _ (by simp only [fkey]; omega),
    hRead _ (by simp only [fkey]; omega), ((Logged.refl _ _).seqJournal (keysOf_allows _) q 0x00).seqX]
  refine ⟨?_, ?_, ?_, ?_, ?_⟩
  case refine_5 => rw [seqBegun, seqX_setSeqX_same]
  all_goals simp +arith [seqBegun, fget_fset, fkey, fwidth]

/-- The start of a sequence leaves what PREEMPT has left of the others' states. -/
theorem fget_seqStart_state {base : Nat} {low : Bool} (hne : r ≠ q) (hIdle : fget s (SEQ.STAT.STATE q) ≠ 1)
    (hRun : s.start.running = true) (hSafe : safe s = false) (hUsed : (seqHead s q).count ≠ 0) :
    fget (seqStart s q base low).1 (SEQ.STAT.STATE r) = fget (seqPreempt s q) (SEQ.STAT.STATE r) := by
  rw [seqStart_of_ready hIdle hRun hSafe hUsed, fget_seqJournal _ _ _ (seqLogKeys_eq_false (by simp only [fkey]; omega)),
    seqBegun, fget_setSeqX]
  iterate 4 rw [fget_fset_ne _ _ (by simp only [fkey]; omega)]

end Sys2Proof.Machine
end

section
/-!
PROOF. SEQ.CMD (R281): a start that is refused, a start that begins the sequence, and an abort with what it withdraws.
-/
namespace Sys2Proof.Machine

variable {s t : State} {f : Fld} {q r : Nat}

theorem lineKeys_eq_false {k : Nat}
    (h : k % 512 ≠ 258 ∧ k % 512 ≠ 257 ∧ k % 512 ≠ 384 ∧ k % 512 ≠ 272 ∧ k % 512 ≠ 280 ∧ k % 512 ≠ 256 ∧ k % 512 ≠ 144) :
    keysOf lineFlds k = false := by
  simp [keysOf_eq_false, lineFlds, seqLogFlds, dropFlds, fkey]
  omega

theorem fltUpdate_logged (s : State) : Logged (keysOf lineFlds) s (fltUpdate s) :=
  (Logged.refl _ s).fltUpdate (keysOf_allows _)

theorem seqHostStart_of_running (h : fget s (SEQ.STAT.STATE q) = 1) :
    seqHostStart s q = (fset s (SEQ.EVT.IGNORED q) 1, stIllegal) := by
  simp only [seqHostStart, h, true_or, if_true]
  exact seqStart_of_running h

/-- R279: a host start that begins the sequence releases its own drive of SEQ_FLT. -/
theorem seqHostStart_of_ready (hIdle : fget s (SEQ.STAT.STATE q) ≠ 1) (hRun : s.start.running = true)
    (hSafe : safe s = false) (hUsed : (seqHead s q).count ≠ 0) :
    seqHostStart s q = (fltUpdate (fset (seqStart s q (served s) false).1 (SEQ.STAT.FLT_HOLD q) 0), stOk) := by
  have hBegun := (seqStart_begins (base := served s) (low := false) hIdle hRun hSafe hUsed).1
  have hStatus : (seqStart s q (served s) false).2 = stOk := by rw [seqStart_of_ready hIdle hRun hSafe hUsed]
  simp only [seqHostStart, hIdle, hBegun, hStatus, ne_eq, not_true, or_self, if_false]

theorem fget_seqHostStart (hIdle : fget s (SEQ.STAT.STATE q) ≠ 1) (hRun : s.start.running = true)
    (hSafe : safe s = false) (hUsed : (seqHead s q).count ≠ 0) (hHold : fkey f ≠ fkey (SEQ.STAT.FLT_HOLD q))
    (hf : fkey f % 512 < 32 ∨ fkey f % 512 = 128) :
    fget (seqHostStart s q).1 f = fget (seqStart s q (served s) false).1 f := by
  rw [seqHostStart_of_ready hIdle hRun hSafe hUsed, (fltUpdate_logged _).fget (lineKeys_eq_false (by omega)),
    fget_fset_ne _ _ hHold]

theorem seqHostStart_begins (hIdle : fget s (SEQ.STAT.STATE q) ≠ 1) (hRun : s.start.running = true)
    (hSafe : safe s = false) (hUsed : (seqHead s q).count ≠ 0) :
    let t := (seqHostStart s q).1
    fget t (SEQ.STAT.STATE q) = 1 ∧ fget t (SEQ.STAT.STEP q) = 0 ∧ fget t (SEQ.STAT.FAIL_CODE q) = 0 ∧
      fget t (SEQ.EVT.STARTED q) = 1 ∧ fget t (SEQ.STAT.FLT_HOLD q) = 0 ∧ (seqX t q).base = served s := by
  obtain ⟨hState, hStep, hCode, hStarted, hBase⟩ :=
    seqStart_begins (base := served s) (low := false) hIdle hRun hSafe hUsed
  have hRead (f : Fld) := fget_seqHostStart (f := f) hIdle hRun hSafe hUsed
  refine ⟨(hRead _ ?_ ?_).trans hState, (hRead _ ?_ ?_).trans hStep, (hRead _ ?_ ?_).trans hCode,
    (hRead _ ?_ ?_).trans hStarted, ?hold, ?base⟩
  case hold =>
    rw [seqHostStart_of_ready hIdle hRun hSafe hUsed,
      (fltUpdate_logged _).fget (lineKeys_eq_false (by simp only [fkey]; omega)), fget_fset_same]
    rfl
  case base =>
    rw [seqHostStart_of_ready hIdle hRun hSafe hUsed, (fltUpdate_logged _).seqX]
    exact hBase
  all_goals simp only [fkey]; omega

/-- R281: with PREEMPT the start aborts the others. -/
theorem seqHostStart_aborts (hIdle : fget s (SEQ.STAT.STATE q) ≠ 1) (hRun : s.start.running = true)
    (hSafe : safe s = false) (hUsed : (seqHead s q).count ≠ 0) (hFlag : (seqHead s q).flags % 2 = 1) (hr : r < 16)
    (hne : r ≠ q) (hOther : fget s (SEQ.STAT.STATE r) = 1) (hLow : (seqHead s r).flags % 2 = 0) :
    fget (seqHostStart s q).1 (SEQ.STAT.STATE r) = 4 := by
  rw [fget_seqHostStart hIdle hRun hSafe hUsed (by simp only [fkey]; omega) (by simp only [fkey]; omega),
    fget_seqStart_state hne hIdle hRun hSafe hUsed]
  exact seqPreempt_aborts (by simp [bitOf, hFlag]) hr hOther (by simp [bitOf, hLow])

/-! ### An abort -/

/-- What an abort leaves of the step that it stops: its own writes stand on the sequence's page. -/
theorem fget_seqAbort_of_step (hRun : fget s (SEQ.STAT.STATE q) = 1) (hIssued : (seqX s q).issued = true)
    (hf : keysOf (abortFlds q) (fkey f) = false) :
    fget (seqAbort s q) f = fget (abortStep s (seqStep s q)) f := by
  obtain ⟨hOwn, hLog⟩ : (∀ g ∈ [SEQ.TIME.ELAPSED q, SEQ.STAT.STATE q, SEQ.EVT.ABORTED q], fkey g ≠ fkey f) ∧
      keysOf seqLogFlds (fkey f) = false := by
    rw [keysOf_eq_false, abortFlds, List.forall_mem_append] at hf
    exact ⟨hf.1, keysOf_eq_false.2 hf.2⟩
  rw [seqAbort_of_running hRun, fget_seqJournal _ _ _ hLog, seqStopped, fget_setSeqX, if_pos hIssued,
    fget_fset_ne _ _ (hOwn _ (by simp)).symm, fget_fset_ne _ _ (hOwn _ (by simp)).symm,
    fget_fset_ne _ _ (hOwn _ (by simp)).symm]

theorem reqs_seqAbort (hRun : fget s (SEQ.STAT.STATE q) = 1) (hIssued : (seqX s q).issued = true) :
    (seqAbort s q).ldg.reqs = (abortStep s (seqStep s q)).ldg.reqs := by
  rw [seqAbort_of_running hRun, ((Logged.refl _ _).seqJournal (keysOf_allows _) q 0x03).reqs, seqStopped, if_pos hIssued]
  rfl

/-- R281: the request of an ON step of a regulator is withdrawn. -/
theorem withdrawOn_reg {tgt : Nat} (hLow : 0x40 ≤ tgt) (hHigh : tgt < 0x48) (h : regState s (tgt - 0x40) = 1) :
    regState (withdrawOn s tgt) (tgt - 0x40) = 0 ∧ regAsksNothing (withdrawOn s tgt) (tgt - 0x40) := by
  have hOff : withdrawOn s tgt = fset (fset (fset (withdraw s (isRegReq (tgt - 0x40))) (REG.CTL.EN (tgt - 0x40)) 0)
      (REG.STAT.STATE (tgt - 0x40)) 0) (REG.STAT.PENDING (tgt - 0x40)) 0 := by
    rw [withdrawOn, if_neg (by omega), if_pos hHigh]
    exact if_pos h
  rw [hOff]
  refine ⟨?_, fun r hr => kind_of_mem_withdraw hr⟩
  rw [regState, fget_fset_ne _ _ (by simp only [fkey]; omega), fget_fset_same, Nat.zero_mod]

/-- R281: and that of a channel. -/
theorem withdrawOn_chan {tgt : Nat} (hChan : tgt < 0x40) (h : chState s tgt = 3) :
    chState (withdrawOn s tgt) tgt = 0 ∧ ∀ r ∈ (withdrawOn s tgt).ldg.reqs, isChanReq tgt r.kind = false := by
  have hOff : withdrawOn s tgt = fset (fset (fset (withdraw s (isChanReq tgt)) (CHN.CTL.MODE tgt) 0)
      (CHN.STAT.STATE tgt) 0) (CHN.STAT.PENDING tgt) 0 := by
    rw [withdrawOn, if_pos hChan]
    exact if_pos h
  rw [hOff]
  refine ⟨?_, fun r hr => kind_of_mem_withdraw hr⟩
  rw [chState, fget_fset_ne _ _ (by simp only [fkey]; omega), fget_fset_same, Nat.zero_mod]

theorem abortStep_of_on {st : Step} (h : st.op = 1) : abortStep s st = withdrawOn s st.tgt := if_pos h

theorem abortStep_of_offWait {st : Step} (h : st.op = 6) : abortStep s st = monUnarm s st.mon := by
  simp [abortStep, h]

/-- R284: a monitor that leaves discharge mode is unarmed. -/
theorem monUnarm_unarms (s : State) (m : Nat) :
    fget (monUnarm s m) (MON.STAT.MODE m) = 0 ∧ fget (monUnarm s m) (MON.CFG.ARM m) = 0 := by
  refine ⟨fget_fset_zero ?_, ?_⟩
  · rw [fget_fset_same, Nat.zero_mod]
  · rw [monUnarm, fget_fset_same, Nat.zero_mod]

theorem abortFlds_eq_false {k : Nat} (h : k < 0x60000 * 32 ∨ k % 512 = 259 ∨ k % 512 = 31) :
    keysOf (abortFlds q) k = false := by
  simp [keysOf_eq_false, abortFlds, seqLogFlds, dropFlds, fkey]
  omega

theorem seqAbort_unarms (hRun : fget s (SEQ.STAT.STATE q) = 1) (hIssued : (seqX s q).issued = true)
    (hOp : (seqStep s q).op = 6) :
    fget (seqAbort s q) (MON.STAT.MODE (seqStep s q).mon) = 0 ∧ fget (seqAbort s q) (MON.CFG.ARM (seqStep s q).mon) = 0 := by
  rw [fget_seqAbort_of_step hRun hIssued (abortFlds_eq_false (by simp only [fkey]; omega)),
    fget_seqAbort_of_step hRun hIssued (abortFlds_eq_false (by simp only [fkey]; omega)), abortStep_of_offWait hOp]
  exact monUnarm_unarms s _

theorem seqAbort_withdraws_reg (hRun : fget s (SEQ.STAT.STATE q) = 1) (hIssued : (seqX s q).issued = true)
    (hOp : (seqStep s q).op = 1) (hLow : 0x40 ≤ (seqStep s q).tgt) (hHigh : (seqStep s q).tgt < 0x48)
    (hState : regState s ((seqStep s q).tgt - 0x40) = 1) :
    regState (seqAbort s q) ((seqStep s q).tgt - 0x40) = 0 ∧ regAsksNothing (seqAbort s q) ((seqStep s q).tgt - 0x40) := by
  rw [regState, regAsksNothing, reqs_seqAbort hRun hIssued,
    fget_seqAbort_of_step hRun hIssued (abortFlds_eq_false (by simp only [fkey]; omega)), abortStep_of_on hOp]
  exact withdrawOn_reg hLow hHigh hState

theorem seqAbort_withdraws_chan (hRun : fget s (SEQ.STAT.STATE q) = 1) (hIssued : (seqX s q).issued = true)
    (hOp : (seqStep s q).op = 1) (hChan : (seqStep s q).tgt < 0x40) (hState : chState s (seqStep s q).tgt = 3) :
    chState (seqAbort s q) (seqStep s q).tgt = 0 ∧
      ∀ r ∈ (seqAbort s q).ldg.reqs, isChanReq (seqStep s q).tgt r.kind = false := by
  rw [chState, reqs_seqAbort hRun hIssued,
    fget_seqAbort_of_step hRun hIssued (abortFlds_eq_false (by simp only [fkey]; omega)), abortStep_of_on hOp]
  exact withdrawOn_chan hChan hState

end Sys2Proof.Machine
end

section
/-!
PROOF. The end of a step (R276, R278, R279, R285): a step that is over, and one that fails with a code.
-/
namespace Sys2Proof.Machine

variable {p : Nat → Bool} {s t u : State} {f : Fld} {q r i code : Nat}

/-! ### A step that is over -/

/-- What SEQ.PF_LAST holds (R285). -/
def pfFlds : List Fld := [SEQ.PF_LAST.VALID, SEQ.PF_LAST.SEQ, SEQ.PF_LAST.STEP]

/-- What the end of a step of sequence `q` writes of its page. -/
def nextFlds (q : Nat) : List Fld :=
  [SEQ.STAT.STEP q, SEQ.TIME.ELAPSED q, SEQ.STAT.STATE q, SEQ.EVT.DONE q] ++ seqLogFlds

theorem seqPfLast_logged (s : State) (q : Nat) : Logged (keysOf pfFlds) s (seqPfLast s q) := by
  have hFld := keysOf_allows pfFlds
  exact .ite ((((Logged.refl _ s).fset 1 (hFld _ (by simp [pfFlds]))).fset q (hFld _ (by simp [pfFlds]))).fset _
    (hFld _ (by simp [pfFlds]))) (.refl _ s)

/-- R285: the step that SUPPLY_LOW's sequence has ended is kept. -/
theorem seqPfLast_records (hLow : (seqX s q).powerFail = true) (hq : q < 16) :
    let t := seqPfLast s q
    fget t SEQ.PF_LAST.VALID = 1 ∧ fget t SEQ.PF_LAST.SEQ = q ∧ fget t SEQ.PF_LAST.STEP = fget s (SEQ.STAT.STEP q) := by
  have hStep : fget s (SEQ.STAT.STEP q) % 2 ^ 6 = fget s (SEQ.STAT.STEP q) := Nat.mod_eq_of_lt (fget_lt s _)
  rw [seqPfLast, if_pos hLow]
  simpa [fget_fset, fkey, fwidth, Nat.mod_eq_of_lt hq] using hStep

/-- The end of the last step. -/
def seqEnded (s : State) (q : Nat) : State :=
  let s1 := fset s (SEQ.TIME.ELAPSED q) (seqElapsed s q)
  setSeqX (fset (fset s1 (SEQ.STAT.STATE q) 2) (SEQ.EVT.DONE q) 1) q { seqX s q with issued := false }

theorem seqNext_of_more (h : fget s (SEQ.STAT.STEP q) + 1 < (seqHead s q).count) :
    seqNext s q = setSeqX (fset s (SEQ.STAT.STEP q) (fget s (SEQ.STAT.STEP q) + 1)) q
      { seqX s q with stepAt := localNs s, issued := false } := if_pos h

theorem seqNext_of_last (h : ¬fget s (SEQ.STAT.STEP q) + 1 < (seqHead s q).count) :
    seqNext s q = seqJournal (seqEnded s q) q 0x01 := if_neg h

theorem seqNext_within (s : State) (q : Nat) : Within (keysOf (nextFlds q)) s (seqNext s q) := by
  have hFld := keysOf_allows (nextFlds q)
  by_cases h : fget s (SEQ.STAT.STEP q) + 1 < (seqHead s q).count
  · rw [seqNext_of_more h]
    exact ((Within.refl _ s).fset _ (hFld _ (by simp [nextFlds]))).setSeqX q _
  · rw [seqNext_of_last h]
    exact (((((Within.refl _ s).fset _ (hFld (SEQ.TIME.ELAPSED q) (by simp [nextFlds]))).fset 2
      (hFld (SEQ.STAT.STATE q) (by simp [nextFlds]))).fset 1 (hFld (SEQ.EVT.DONE q) (by simp [nextFlds]))).setSeqX q
      _).seqJournal hFld.tail.tail.tail.tail q 0x01

/-- R276, R279: the next step begins, or the sequence has come to its end. -/
theorem seqNext_goes_on (hRun : fget s (SEQ.STAT.STATE q) = 1) (hCount : (seqHead s q).count ≤ 64) :
    let t := seqNext s q
    if fget s (SEQ.STAT.STEP q) + 1 < (seqHead s q).count then
      fget t (SEQ.STAT.STATE q) = 1 ∧ fget t (SEQ.STAT.STEP q) = fget s (SEQ.STAT.STEP q) + 1 ∧
        (seqX t q).issued = false ∧ (seqX t q).stepAt = localNs t
    else fget t (SEQ.STAT.STATE q) = 2 ∧ fget t (SEQ.EVT.DONE q) = 1 ∧
      fget t (SEQ.STAT.STEP q) = fget s (SEQ.STAT.STEP q) := by
  dsimp only
  split
  case isTrue h =>
    rw [seqNext_of_more h, seqX_setSeqX_same]
    refine ⟨?_, ?_, rfl, rfl⟩
    · rwa [fget_setSeqX, fget_fset_ne _ _ (by simp only [fkey]; omega)]
    · rw [fget_setSeqX, fget_fset_same]
      exact Nat.mod_eq_of_lt (by simp [fwidth]; omega)
  case isFalse h =>
    have hRead (f : Fld) (hf : fkey f % 512 < 32 ∨ fkey f % 512 = 129) :
        fget (seqJournal (seqEnded s q) q 0x01) f = fget (seqEnded s q) f :=
      fget_seqJournal _ _ _ (seqLogKeys_eq_false (by omega))
    rw [seqNext_of_last h, hRead _ (by simp only [fkey]; omega), hRead _ (by simp only [fkey]; omega),
      hRead _ (by simp only [fkey]; omega)]
    simp +arith [seqEnded, fget_fset, fkey, fwidth]

/-- R276, R279, R285: a step that is done is over. -/
theorem seqDone_stepOver (hq : q < 16) (hRun : fget s (SEQ.STAT.STATE q) = 1) (hCount : (seqHead s q).count ≤ 64) :
    stepOver s (seqDone s q) q := by
  have hPf := seqPfLast_logged s q
  have hPage (f : Fld) (hf : 0x60100 * 32 ≤ fkey f) : fget (seqPfLast s q) f = fget s f := hPf.fget (by
    simp [keysOf_eq_false, pfFlds, fkey] at hf ⊢; omega)
  have hState := hPage (SEQ.STAT.STATE q) (by simp only [fkey]; omega)
  have hStep := hPage (SEQ.STAT.STEP q) (by simp only [fkey]; omega)
  have hGoes := seqNext_goes_on (s := seqPfLast s q) (hState.trans hRun) (by rwa [hPf.seqHead])
  rw [hStep, hPf.seqHead] at hGoes
  refine ⟨hGoes, fun hLow => ?_⟩
  obtain ⟨hValid, hSeq, hLast⟩ := seqPfLast_records hLow hq
  have hKept (f : Fld) (hf : fkey f < 0x60100 * 32 ∧ fkey f ≠ fkey SEQ.JSTAT.LOST) :
      fget (seqDone s q) f = fget (seqPfLast s q) f :=
    (seqNext_within (seqPfLast s q) q).fget (by
      simp [keysOf_eq_false, nextFlds, seqLogFlds, dropFlds, fkey] at hf ⊢; omega)
  rw [hKept _ (by simp [fkey]), hKept _ (by simp [fkey]), hKept _ (by simp [fkey])]
  exact ⟨hValid, hSeq, hLast⟩

/-- What is over in `s` is over in a state that shows the sequence as `s` does. -/
theorem stepOver_congr_left (h : stepOver s t q) (hStep : fget u (SEQ.STAT.STEP q) = fget s (SEQ.STAT.STEP q))
    (hHead : seqHead u q = seqHead s q) (hHeld : seqX u q = seqX s q) : stepOver u t q := by
  rw [stepOver, hStep, hHead, hHeld]
  exact h

/-- And stays over while the sequencer's registers do. -/
theorem stepOver_congr_right (hq : q < 16) (h : stepOver s t q) (hPage : ∀ f, fkey f < 0x60200 * 32 → fget u f = fget t f)
    (hHeld : seqX u q = seqX t q) (hTime : localNs u = localNs t) : stepOver s u q := by
  rw [stepOver, hPage _ (by simp only [fkey]; omega), hPage _ (by simp only [fkey]; omega),
    hPage _ (by simp only [fkey]; omega), hPage _ (by simp only [fkey]; omega), hPage _ (by simp only [fkey]; omega),
    hPage _ (by simp only [fkey]; omega), hHeld, hTime]
  exact h

/-! ### What a raise finds -/

/-- The frame leaves alone what a raise looks at and latches: the stage and the collector's own fields, but where a step's
monitor that the part does not have puts MODE or ARM. -/
def Spares (p : Nat → Bool) : Prop :=
  ∀ k, k = 128 ∨ k / 2 ^ 21 = 0x12 ∧ k % 512 ≠ 259 ∧ k % 512 ≠ 31 → p k = false

/-- Source `i` may be raised: it reports, and the raise only reports. -/
abbrev Alert (s : State) (i : Nat) : Prop := Calm s i ∧ Reports s i

theorem severity_sameBut (hp : Spares p) (h : SameBut p s t) (hi : i < 640) : severity t i = severity s i := by
  unfold severity
  split
  · rfl
  · exact h _ (hp _ (.inr (by simp only [fkey]; omega)))

theorem Alert.sameBut (a : Alert s i) (hp : Spares p) (h : SameBut p s t) (hRaw : p (fkey (FLT.RAW i)) = false) :
    Alert t i := by
  obtain ⟨hCalm, hIndex, hSev, hOff⟩ := a
  refine ⟨hCalm.of_eq (fun j hj => severity_sameBut hp h hj) (h _ (hp _ (.inl rfl))), hIndex, ?_, ?_⟩
  · rwa [severity_sameBut hp h hIndex]
  · rwa [fon_congr (h _ hRaw)]

/-- The raise of another source leaves what the raise of this one looks at. -/
theorem Alert.raise (a : Alert s i) {j : Nat} (b : Alert s j) (hKey : alarmKeys j (fkey (FLT.RAW i)) = false)
    (hLat : fkey (FLT.RAW i) ≠ fkey (FLT.LAT j)) : Alert (raise s j) i := by
  obtain ⟨hCalm, hIndex, hSev, hOff⟩ := a
  refine ⟨hCalm.raise b.1, hIndex, ?_, ?_⟩
  · rwa [((Rep.refl s).raise j b.1).severity i hIndex]
  · rwa [fon_congr (fget_raise_of_reports b.1 b.2 hKey hLat)]

theorem alarmKeys_of_page {k : Nat} (h : k < 0x70000 * 32) : alarmKeys i k = false := by
  simp [keysOf_eq_false, alarmKeys, alarmFlds, dropFlds, fkey]
  omega

/-- No raise touches MODE of a monitor. -/
theorem alarmKeys_of_mode (hi : i % 32 ≠ 3) (m : Nat) : alarmKeys i (fkey (MON.STAT.MODE m)) = false := by
  simp [keysOf_eq_false, alarmKeys, alarmFlds, dropFlds, fkey]
  omega

theorem fget_raise_page (a : Alert s i) (hf : fkey f < 0x70000 * 32) : fget (raise s i) f = fget s f :=
  fget_raise_of_reports a.1 a.2 (alarmKeys_of_page hf) (by simp only [fkey] at hf ⊢; omega)

theorem fget_raise_mode (a : Alert s i) (hi : i % 32 ≠ 3) (m : Nat) :
    fget (raise s i) (MON.STAT.MODE m) = fget s (MON.STAT.MODE m) :=
  fget_raise_of_reports a.1 a.2 (alarmKeys_of_mode hi m) (by simp only [fkey]; omega)

/-! ### A step that fails -/

/-- A failing step, recorded (R278, R284, R293). -/
def seqFailNoted (s : State) (q code : Nat) : State :=
  let st := seqStep s q
  let s1 := if st.op = 6 ∧ (seqX s q).issued then monUnarm s st.mon else s
  seqJournal (fset s1 (SEQ.STAT.FAIL_CODE q) code) q 0xE0

theorem seqFail_of_cont (h : bitOf (seqStep s q).sflags 0 = true) :
    seqFail s q code = seqDone (seqFailNoted s q code) q := if_pos h

theorem seqFail_of_stop (h : bitOf (seqStep s q).sflags 0 = false) :
    seqFail s q code = seqFailed (seqPfLast (seqFailNoted s q code) q) q := if_neg (by rw [h]; decide)

/-- What the record of a failing step writes. -/
def noteKeys (q k : Nat) : Bool := stepKeys k || keysOf (SEQ.STAT.FAIL_CODE q :: seqLogFlds) k

theorem seqFailNoted_logged (s : State) (q code : Nat) : Logged (noteKeys q) s (seqFailNoted s q code) := by
  have hFld : Allows (noteKeys q) (SEQ.STAT.FAIL_CODE q :: seqLogFlds) := fun f hf => by
    rw [noteKeys, keysOf_allows _ f hf, Bool.or_true]
  have hMon {g : Fld} (h : stepKeys (fkey g) = true) : noteKeys q (fkey g) = true := by rw [noteKeys, h, Bool.true_or]
  have hUnarm (m : Nat) : Logged (noteKeys q) s (monUnarm s m) :=
    ((Logged.refl _ s).fset 0 (hMon (stepKeys_iff.2 (by simp only [fkey]; omega)))).fset 0
      (hMon (stepKeys_iff.2 (by simp only [fkey]; omega)))
  exact ((Logged.ite (hUnarm _) (.refl _ s)).fset code (hFld _ (by simp))).seqJournal hFld.tail q 0xE0

theorem noteKeys_eq_false {k : Nat} (hStep : stepKeys k = false) (hCode : k % 512 ≠ 8)
    (hLog : k % 512 ≠ 384 ∧ k % 512 ≠ 272 ∧ k % 512 ≠ 280 ∧ k % 512 ≠ 256 ∧ k % 512 ≠ 144) : noteKeys q k = false := by
  rw [noteKeys, hStep]
  simp [keysOf_eq_false, seqLogFlds, dropFlds, fkey]
  omega

theorem noteKeys_spares (q : Nat) (hq : q < 16) : Spares (noteKeys q) := fun k hk => by
  rw [noteKeys, stepKeys_eq_false (by omega) (by omega)]
  simp [keysOf_eq_false, seqLogFlds, dropFlds, fkey]
  omega

/-- R278, R284: the code stands, and the monitor of an OFF_WAIT is unarmed. -/
theorem seqFailNoted_notes (hCode : code < 256) :
    let t := seqFailNoted s q code
    fget t (SEQ.STAT.FAIL_CODE q) = code ∧
      ((seqStep s q).op = 6 ∧ (seqX s q).issued = true → fget t (MON.STAT.MODE (seqStep s q).mon) = 0) := by
  refine ⟨?_, fun h => ?_⟩
  · rw [seqFailNoted, fget_seqJournal _ _ _ (seqLogKeys_eq_false (by simp only [fkey]; omega)), fget_fset_same]
    exact Nat.mod_eq_of_lt hCode
  · rw [seqFailNoted, fget_seqJournal _ _ _ (seqLogKeys_eq_false (by simp only [fkey]; omega)),
      fget_fset_ne _ _ (by simp only [fkey]; omega), if_pos h]
    exact (monUnarm_unarms s _).1

/-- The sequence in FAILED, before SEQ_FAIL is raised (R279). -/
def seqFailMarked (s : State) (q : Nat) : State :=
  let s1 := fset s (SEQ.TIME.ELAPSED q) (seqElapsed s q)
  let s2 := fset (fset s1 (SEQ.STAT.STATE q) 3) (SEQ.EVT.FAILED q) 1
  let s3 := seqJournal (setSeqX s2 q { seqX s2 q with issued := false }) q 0x02
  if bitOf (seqHead s q).flags 1 then fltUpdate (fset s3 (SEQ.STAT.FLT_HOLD q) 1) else s3

theorem seqFailed_of_none (h : ¬(seqHead s q).failSeq < 16) : seqFailed s q = raise (seqFailMarked s q) 0x25E := if_neg h

theorem seqFailed_of_next (h : (seqHead s q).failSeq < 16) : seqFailed s q =
    (seqStart (raise (seqFailMarked s q) 0x25E) (seqHead s q).failSeq (served (raise (seqFailMarked s q) 0x25E)) false).1 :=
  if_pos h

/-- What the move to FAILED writes. -/
def markFlds (q : Nat) : List Fld :=
  [SEQ.TIME.ELAPSED q, SEQ.STAT.STATE q, SEQ.EVT.FAILED q, SEQ.STAT.FLT_HOLD q] ++ lineFlds

theorem seqFailMarked_within (s : State) (q : Nat) : Within (keysOf (markFlds q)) s (seqFailMarked s q) := by
  have hFld := keysOf_allows (markFlds q)
  have hLine : Allows (keysOf (markFlds q)) lineFlds := hFld.tail.tail.tail.tail
  have hFailed := (((((Within.refl _ s).fset (seqElapsed s q) (hFld (SEQ.TIME.ELAPSED q) (by simp [markFlds]))).fset 3
    (hFld (SEQ.STAT.STATE q) (by simp [markFlds]))).fset 1 (hFld (SEQ.EVT.FAILED q) (by simp [markFlds]))).setSeqX q
    { seqX s q with issued := false }).seqJournal hLine.tail.tail.tail q 0x02
  exact .ite ((hFailed.fset 1 (hFld (SEQ.STAT.FLT_HOLD q) (by simp [markFlds]))).trans
    ((Logged.refl _ _).fltUpdate hLine).toWithin) hFailed

theorem markFlds_spares (hq : q < 16) : Spares (keysOf (markFlds q)) := fun k hk => by
  simp [keysOf_eq_false, markFlds, lineFlds, seqLogFlds, dropFlds, fkey]
  omega

/-- R279: FAILED, with FAIL_FLT a low drive of its own. -/
theorem seqFailMarked_fails (s : State) (q : Nat) :
    let t := seqFailMarked s q
    fget t (SEQ.STAT.STATE q) = 3 ∧ fget t (SEQ.EVT.FAILED q) = 1 ∧
      (bitOf (seqHead s q).flags 1 = true → fget t (SEQ.STAT.FLT_HOLD q) = 1) := by
  have hLine (u : State) (f : Fld) (hf : fkey f % 512 < 32 ∨ fkey f % 512 = 130) : fget (fltUpdate u) f = fget u f :=
    (fltUpdate_logged u).fget (lineKeys_eq_false (by omega))
  have hLog (u : State) (f : Fld) (hf : fkey f % 512 < 32 ∨ fkey f % 512 = 130) :
      fget (seqJournal u q 0x02) f = fget u f := fget_seqJournal _ _ _ (seqLogKeys_eq_false (by omega))
  have hRead (f : Fld) (hf : fkey f % 512 = 28 ∨ fkey f % 512 = 130) : fget (seqFailMarked s q) f =
      fget (fset (fset (fset s (SEQ.TIME.ELAPSED q) (seqElapsed s q)) (SEQ.STAT.STATE q) 3) (SEQ.EVT.FAILED q) 1) f := by
    unfold seqFailMarked
    dsimp only
    split
    · rw [hLine _ _ (by omega), fget_fset_ne _ _ (by simp only [fkey] at hf ⊢; omega), hLog _ _ (by omega), fget_setSeqX]
    · rw [hLog _ _ (by omega), fget_setSeqX]
  refine ⟨?_, ?_, fun hFlag => ?_⟩
  · rw [hRead _ (by simp only [fkey]; omega), fget_fset_ne _ _ (by simp only [fkey]; omega), fget_fset_same]
    rfl
  · rw [hRead _ (by simp only [fkey]; omega), fget_fset_same]
    rfl
  · rw [seqFailMarked, if_pos hFlag, hLine _ _ (by simp only [fkey]; omega), fget_fset_same]
    rfl

/-! ### FAIL_SEQ -/

theorem startKeys_eq_false {k : Nat} (hStep : stepKeys k = false) (hAbort : ∀ a < 16, keysOf (abortFlds a) k = false)
    (hOwn : keysOf (startFlds q) k = false) : startKeys q k = false := by
  rw [startKeys, hOwn, Bool.or_false]
  exact preemptKeys_eq_false.2 fun a ha => by rw [abortKeys, hStep, hAbort a ha, Bool.or_false]

theorem startKeys_spares (hq : q < 16) : Spares (startKeys q) := fun k hk => by
  refine startKeys_eq_false (stepKeys_eq_false (by omega) (by omega)) (fun a ha => ?_) ?_
  · simp [keysOf_eq_false, abortFlds, seqLogFlds, dropFlds, fkey]
    omega
  · simp [keysOf_eq_false, startFlds, seqLogFlds, dropFlds, fkey]
    omega

/-- The start of one sequence leaves FAIL_CODE, FAILED and FLT_HOLD of the others. -/
theorem startKeys_of_other {n : Nat} (hq : q < 16) (hne : n ≠ q)
    (hf : f ∈ [SEQ.STAT.FAIL_CODE q, SEQ.EVT.FAILED q, SEQ.STAT.FLT_HOLD q]) : startKeys n (fkey f) = false := by
  obtain ⟨hLow, hMod⟩ : (0x60100 * 32 ≤ fkey f ∧ fkey f < 0x60200 * 32) ∧
      (fkey f = fkey (SEQ.STAT.FAIL_CODE q) ∨ fkey f % 512 = 130 ∨ fkey f % 512 = 0) := by
    simp only [List.mem_cons, List.not_mem_nil, or_false] at hf
    rcases hf with rfl | rfl | rfl
    · exact ⟨by simp only [fkey]; omega, .inl rfl⟩
    · exact ⟨by simp only [fkey]; omega, .inr (by simp only [fkey]; omega)⟩
    · exact ⟨by simp only [fkey]; omega, .inr (by simp only [fkey]; omega)⟩
  refine startKeys_eq_false (stepKeys_eq_false (by omega) (by omega)) (fun a ha => ?_) ?_
  · simp [keysOf_eq_false, abortFlds, seqLogFlds, dropFlds, fkey] at hMod hLow ⊢
    omega
  · simp [keysOf_eq_false, startFlds, seqLogFlds, dropFlds, fkey] at hMod hLow ⊢
    omega

/-- SEQ_FAIL has been raised (R279). -/
def seqFailRaised (s : State) (q : Nat) : State := raise (seqFailMarked s q) 0x25E

theorem Alert.marked (a : Alert s i) (hq : q < 16) (hi : i = 0x25E ∨ i = 0x25F) : Alert (seqFailMarked s q) i :=
  a.sameBut (markFlds_spares hq) (seqFailMarked_within s q).flds
    (markFlds_spares hq _ (.inr (by rcases hi with rfl | rfl <;> decide)))

theorem fget_seqFailRaised (a : Alert s 0x25E) (hq : q < 16) (hf : fkey f < 0x70000 * 32) :
    fget (seqFailRaised s q) f = fget (seqFailMarked s q) f :=
  fget_raise_page (a.marked hq (.inl rfl)) hf

/-- What decides whether FAIL_SEQ starts is as before the failure. -/
theorem seqFailRaised_admits {n : Nat} (a : Alert s 0x25E) (hq : q < 16) (hne : n ≠ q) (hn : n < 16) :
    let u := seqFailRaised s q
    fget u (SEQ.STAT.STATE n) = fget s (SEQ.STAT.STATE n) ∧ u.start = s.start ∧ safe u = safe s ∧
      seqHead u = seqHead s := by
  have hMark := seqFailMarked_within s q
  have hAlert := a.marked hq (.inl rfl)
  have hRep := (Rep.refl (seqFailMarked s q)).raise 0x25E hAlert.1
  refine ⟨?_, hRep.start.trans hMark.start, fon_congr ?_, ?_⟩
  · rw [fget_seqFailRaised a hq (by simp only [fkey]; omega)]
    refine hMark.fget ?_
    simp [keysOf_eq_false, markFlds, lineFlds, seqLogFlds, dropFlds, fkey]
    omega
  · rw [seqFailRaised, fget_raise_of_reports hAlert.1 hAlert.2 (by decide) (by decide)]
    exact hMark.fget (markFlds_spares hq _ (.inr (by decide)))
  · rw [← hMark.seqHead]
    funext m
    simp only [seqHead, seqFailRaised, hRep.sqs]

/-- R279: the sequence stops in FAILED, and FAIL_SEQ starts where it may. -/
abbrev failStops (s t : State) (q : Nat) : Prop :=
  fget t (SEQ.STAT.STATE q) = 3 ∧ fget t (SEQ.EVT.FAILED q) = 1 ∧ fget t (FLT.LAT 0x25E) = 1 ∧
    ((seqHead s q).flags / 2 % 2 = 1 → fget t (SEQ.STAT.FLT_HOLD q) = 1) ∧
    ((seqHead s q).failSeq < 16 ∧ s.start.running = true ∧ safe s = false ∧ (seqHead s (seqHead s q).failSeq).count ≠ 0 ∧
      fget s (SEQ.STAT.STATE (seqHead s q).failSeq) ≠ 1 →
      fget t (SEQ.STAT.STATE (seqHead s q).failSeq) = 1 ∧ fget t (SEQ.STAT.STEP (seqHead s q).failSeq) = 0)

/-- What is read of the failed sequence and of SEQ_FAIL once it has been raised stands when FAIL_SEQ has started. -/
theorem fget_seqFailed (a : Alert s 0x25E) (hq : q < 16) (hSelf : (seqHead s q).failSeq ≠ q)
    (hf : f ∈ [SEQ.STAT.FAIL_CODE q, SEQ.EVT.FAILED q, SEQ.STAT.FLT_HOLD q] ∨ f = SEQ.STAT.STATE q ∨ f = FLT.LAT 0x25E) :
    fget (seqFailed s q) f = fget (seqFailRaised s q) f := by
  by_cases hNext : (seqHead s q).failSeq < 16
  · rw [seqFailed_of_next hNext]
    rcases hf with hf | rfl | rfl
    · exact (seqStart_within _ _ _ _).fget (startKeys_of_other hq hSelf hf)
    · refine fget_seqStart_of_idle hSelf.symm ?_
      rw [← seqFailRaised, fget_seqFailRaised a hq (by simp only [fkey]; omega), (seqFailMarked_fails s q).1]
      decide
    · exact (seqStart_within _ _ _ _).fget (startKeys_spares hNext _ (.inr (by decide)))
  · rw [seqFailed_of_none hNext, seqFailRaised]

theorem seqFailed_stops (a : Alert s 0x25E) (hq : q < 16) (hSelf : (seqHead s q).failSeq ≠ q) :
    failStops s (seqFailed s q) q := by
  obtain ⟨hState, hFailed, hHold⟩ := seqFailMarked_fails s q
  have hRead (f : Fld) := fget_seqFailed (f := f) a hq hSelf
  have hPage (f : Fld) := fget_seqFailRaised (f := f) a hq
  have hAlert := a.marked hq (.inl rfl)
  refine ⟨?_, ?_, ?_, fun hFlag => ?_, fun ⟨hNext, hRun, hSafe, hUsed, hIdle⟩ => ?_⟩
  · rw [hRead _ (.inr (.inl rfl)), hPage _ (by simp only [fkey]; omega), hState]
  · rw [hRead _ (.inl (by simp)), hPage _ (by simp only [fkey]; omega), hFailed]
  · rw [hRead _ (.inr (.inr rfl))]
    exact fget_raise_lat hAlert.1 hAlert.2 (by decide)
  · rw [hRead _ (.inl (by simp)), hPage _ (by simp only [fkey]; omega)]
    exact hHold (by simp [bitOf, hFlag])
  · obtain ⟨hIdle', hStart, hSafe', hHead⟩ := seqFailRaised_admits a hq hSelf hNext
    obtain ⟨hBegun, hStep, -⟩ := seqStart_begins (s := seqFailRaised s q) (q := (seqHead s q).failSeq)
      (base := served (seqFailRaised s q)) (low := false) (hIdle'.symm ▸ hIdle) (by rw [hStart, hRun])
      (hSafe'.trans hSafe) (by rwa [hHead])
    rw [seqFailed_of_next hNext]
    exact ⟨hBegun, hStep⟩

end Sys2Proof.Machine
end

section
/-!
PROOF. SEQ_STEP_TIMEOUT (R278, R283): time passes to the end of TMO, the step fails with its code, and an OFF_WAIT raises
SEQ_DIS. With the start and the abort of SEQ.CMD this settles O39.
-/
namespace Sys2Proof.Machine

variable {p : Nat → Bool} {s t u : State} {f : Fld} {q r i code : Nat}

/-! ### What a failing step may not change of the sequences -/

/-- `t` shows the sequences, their present steps and whether one may start as `s` does. -/
structure Alike (s t : State) : Prop where
  state : ∀ n < 16, fget t (SEQ.STAT.STATE n) = fget s (SEQ.STAT.STATE n)
  step : ∀ n < 16, fget t (SEQ.STAT.STEP n) = fget s (SEQ.STAT.STEP n)
  safe : safe t = safe s
  start : t.start = s.start
  head : seqHead t = seqHead s
  held : seqX t = seqX s
  steps : t.sqs.steps = s.sqs.steps

theorem Logged.alike (h : Logged p s t) (hp : Spares p) (hState : ∀ n < 16, p (fkey (SEQ.STAT.STATE n)) = false)
    (hStep : ∀ n < 16, p (fkey (SEQ.STAT.STEP n)) = false) : Alike s t :=
  ⟨fun n hn => h.fget (hState n hn), fun n hn => h.fget (hStep n hn), fon_congr (h.fget (hp _ (.inr (by decide)))),
    h.start, h.seqHead, h.seqX, h.steps⟩

theorem Alike.trans (h : Alike s t) (k : Alike t u) : Alike s u :=
  ⟨fun n hn => (k.state n hn).trans (h.state n hn), fun n hn => (k.step n hn).trans (h.step n hn), k.safe.trans h.safe,
    k.start.trans h.start, k.head.trans h.head, k.held.trans h.held, k.steps.trans h.steps⟩

theorem Alike.seqStep (h : Alike s t) (hq : q < 16) : seqStep t q = seqStep s q := by
  rw [Machine.seqStep, Machine.seqStep, h.steps, h.head, h.step q hq]

theorem Alike.stepOver (h : Alike s t) (hq : q < 16) (k : stepOver t u q) : stepOver s u q :=
  stepOver_congr_left k (h.step q hq).symm (by rw [h.head]) (by rw [h.held])

theorem Alike.failStops (h : Alike s t) (k : failStops t u q) : failStops s u q := by
  obtain ⟨hState, hFailed, hLat, hHold, hNext⟩ := k
  rw [h.head] at hHold hNext
  refine ⟨hState, hFailed, hLat, hHold, fun ⟨hn, hRun, hSafe, hUsed, hIdle⟩ => hNext ⟨hn, ?_, ?_, hUsed, ?_⟩⟩
  · rw [h.start, hRun]
  · rw [h.safe, hSafe]
  · rwa [h.state _ hn]

theorem seqFailNoted_alike (s : State) (hq : q < 16) : Alike s (seqFailNoted s q code) :=
  (seqFailNoted_logged s q code).alike (noteKeys_spares q hq)
    (fun n hn => noteKeys_eq_false (stepKeys_eq_false (by simp only [fkey]; omega) (by simp only [fkey]; omega))
      (by simp only [fkey]; omega) (by simp only [fkey]; omega))
    (fun n hn => noteKeys_eq_false (stepKeys_eq_false (by simp only [fkey]; omega) (by simp only [fkey]; omega))
      (by simp only [fkey]; omega) (by simp only [fkey]; omega))

theorem pfFlds_eq_false {k : Nat} (h : k < 0x60010 * 32 ∨ 0x60011 * 32 ≤ k) : keysOf pfFlds k = false := by
  simp [keysOf_eq_false, pfFlds, fkey]
  omega

theorem pfFlds_spares : Spares (keysOf pfFlds) := fun k hk => pfFlds_eq_false (by omega)

theorem seqPfLast_alike (s : State) (q : Nat) : Alike s (seqPfLast s q) :=
  (seqPfLast_logged s q).alike pfFlds_spares (fun n _ => pfFlds_eq_false (by simp only [fkey]; omega))
    fun n _ => pfFlds_eq_false (by simp only [fkey]; omega)

theorem nextFlds_spares (hq : q < 16) : Spares (keysOf (nextFlds q)) := fun k hk => by
  simp [keysOf_eq_false, nextFlds, seqLogFlds, dropFlds, fkey]
  omega

/-! ### A step that fails -/

/-- R278, R279, R284: what a step that fails with `code` leaves. -/
abbrev failLeaves (s t : State) (q code : Nat) : Prop :=
  fget t (SEQ.STAT.FAIL_CODE q) = code ∧ ((seqStep s q).op = 6 → fget t (MON.STAT.MODE (seqStep s q).mon) = 0) ∧
    if (seqStep s q).sflags % 2 = 1 then stepOver s t q else failStops s t q

/-- The code and the monitor of a failing step whose sequence goes on. -/
theorem fget_seqDone (hf : fkey f % 512 = 8 ∧ 0x60011 * 32 ≤ fkey f ∨ fkey f % 512 = 259) :
    fget (seqDone s q) f = fget s f := by
  rw [seqDone, (seqNext_within _ q).fget, (seqPfLast_logged s q).fget]
  · refine keysOf_eq_false.2 ?_
    simp [pfFlds, fkey] at hf ⊢
    omega
  · refine keysOf_eq_false.2 ?_
    simp [nextFlds, seqLogFlds, dropFlds, fkey] at hf ⊢
    omega

theorem fget_mode_seqFailed {m : Nat} (a : Alert s 0x25E) (hq : q < 16) (h : fget s (MON.STAT.MODE m) = 0) :
    fget (seqFailed s q) (MON.STAT.MODE m) = 0 := by
  have hRaised : fget (raise (seqFailMarked s q) 0x25E) (MON.STAT.MODE m) = 0 := by
    rw [fget_raise_mode (a.marked hq (.inl rfl)) (by decide), (seqFailMarked_within s q).fget, h]
    simp [keysOf_eq_false, markFlds, lineFlds, seqLogFlds, dropFlds, fkey]
    omega
  by_cases hNext : (seqHead s q).failSeq < 16
  · rw [seqFailed_of_next hNext]
    exact fget_mode_seqStart hRaised
  · rwa [seqFailed_of_none hNext]

theorem seqFail_leaves (a : Alert s 0x25E) (hq : q < 16) (hRun : fget s (SEQ.STAT.STATE q) = 1)
    (hIssued : (seqX s q).issued = true) (hCount : (seqHead s q).count ≤ 64) (hSelf : (seqHead s q).failSeq ≠ q)
    (hCode : code < 256) : failLeaves s (seqFail s q code) q code := by
  have hNoted := seqFailNoted_alike (code := code) s hq
  obtain ⟨hNote, hMode⟩ := seqFailNoted_notes (s := s) (q := q) hCode
  rcases Nat.mod_two_eq_zero_or_one (seqStep s q).sflags with hStop | hCont
  · have hAlert : Alert (seqPfLast (seqFailNoted s q code) q) 0x25E :=
      (a.sameBut (noteKeys_spares q hq) (seqFailNoted_logged s q code).flds
        (noteKeys_spares q hq _ (.inr (by decide)))).sameBut pfFlds_spares (seqPfLast_logged _ q).flds
        (pfFlds_spares _ (.inr (by decide)))
    have hAlike := hNoted.trans (seqPfLast_alike (seqFailNoted s q code) q)
    have hSelf' : (seqHead (seqPfLast (seqFailNoted s q code) q) q).failSeq ≠ q := by rwa [hAlike.head]
    rw [failLeaves, seqFail_of_stop (by simp [bitOf, hStop]), if_neg (by omega)]
    refine ⟨?_, fun hOp => fget_mode_seqFailed hAlert hq ?_, hAlike.failStops (seqFailed_stops hAlert hq hSelf')⟩
    · rw [fget_seqFailed hAlert hq hSelf' (.inl (by simp)), fget_seqFailRaised hAlert hq (by simp only [fkey]; omega),
        (seqFailMarked_within _ q).fget, (seqPfLast_logged _ q).fget (pfFlds_eq_false (by simp only [fkey]; omega)), hNote]
      simp [keysOf_eq_false, markFlds, lineFlds, seqLogFlds, dropFlds, fkey]
      omega
    · rw [(seqPfLast_logged _ q).fget (pfFlds_eq_false (by simp only [fkey]; omega))]
      exact hMode ⟨hOp, hIssued⟩
  · rw [failLeaves, seqFail_of_cont (by simp [bitOf, hCont]), if_pos hCont]
    refine ⟨?_, fun hOp => ?_, hNoted.stepOver hq (seqDone_stepOver hq ?_ ?_)⟩
    · rw [fget_seqDone (.inl (by simp only [fkey]; omega)), hNote]
    · rw [fget_seqDone (.inr (by simp only [fkey]; omega))]
      exact hMode ⟨hOp, hIssued⟩
    · rw [hNoted.state q hq, hRun]
    · rwa [hNoted.head]

/-- SEQ_DIS may still be raised when the step has failed. -/
theorem seqFail_alert (a : Alert s 0x25E) (b : Alert s 0x25F) (hq : q < 16) : Alert (seqFail s q code) 0x25F := by
  have hPassed {i : Nat} (c : Alert s i) (hi : i = 0x25E ∨ i = 0x25F) : Alert (seqPfLast (seqFailNoted s q code) q) i := by
    have hRaw : fkey (FLT.RAW i) / 2 ^ 21 = 0x12 ∧ fkey (FLT.RAW i) % 512 ≠ 259 ∧ fkey (FLT.RAW i) % 512 ≠ 31 := by
      rcases hi with rfl | rfl <;> decide
    exact (c.sameBut (noteKeys_spares q hq) (seqFailNoted_logged s q code).flds
      (noteKeys_spares q hq _ (.inr hRaw))).sameBut pfFlds_spares (seqPfLast_logged _ q).flds (pfFlds_spares _ (.inr hRaw))
  rcases Nat.mod_two_eq_zero_or_one (seqStep s q).sflags with hStop | hCont
  · have hRaised := ((hPassed b (.inr rfl)).marked hq (.inr rfl)).raise ((hPassed a (.inl rfl)).marked hq (.inl rfl))
      (by decide) (by decide)
    rw [seqFail_of_stop (by simp [bitOf, hStop])]
    by_cases hNext : (seqHead (seqPfLast (seqFailNoted s q code) q) q).failSeq < 16
    · rw [seqFailed_of_next hNext]
      exact hRaised.sameBut (startKeys_spares hNext) (seqStart_within _ _ _ _).flds
        (startKeys_spares hNext _ (.inr (by decide)))
    · rwa [seqFailed_of_none hNext]
  · rw [seqFail_of_cont (by simp [bitOf, hCont])]
    exact (hPassed b (.inr rfl)).sameBut (nextFlds_spares hq) (seqNext_within _ q).flds
      (nextFlds_spares hq _ (.inr (by decide)))

/-- R283: SEQ_DIS leaves the failure as it is. -/
theorem failLeaves_raise (hq : q < 16) (b : Alert t 0x25F) (h : failLeaves s t q code) :
    failLeaves s (raise t 0x25F) q code := by
  obtain ⟨hCode, hMode, hRest⟩ := h
  have hPage (f : Fld) (hf : fkey f < 0x70000 * 32) := fget_raise_page b hf
  have hRep := (Rep.refl t).raise 0x25F b.1
  refine ⟨?_, fun hOp => ?_, ?_⟩
  · rw [hPage _ (by simp only [fkey]; omega), hCode]
  · rw [fget_raise_mode b (by decide), hMode hOp]
  · split at hRest
    case isTrue hCont =>
      rw [if_pos hCont]
      refine stepOver_congr_right hq hRest (fun f hf => hPage f (by omega)) ?_ (congrArg TimeX.loc hRep.time)
      simp only [seqX, hRep.sqs]
    case isFalse hStop =>
      obtain ⟨hState, hFailed, hLat, hHold, hNext⟩ := hRest
      rw [if_neg hStop]
      refine ⟨?_, ?_, ?_, fun hFlag => ?_, fun hn => ?_⟩
      · rw [hPage _ (by simp only [fkey]; omega), hState]
      · rw [hPage _ (by simp only [fkey]; omega), hFailed]
      · rw [fget_raise_of_reports b.1 b.2 (by decide) (by decide), hLat]
      · rw [hPage _ (by simp only [fkey]; omega), hHold hFlag]
      · obtain ⟨hn16, -⟩ := id hn
        rw [hPage _ (by simp only [fkey]; omega), hPage _ (by simp only [fkey]; omega)]
        exact hNext hn

theorem failLeaves_of_alike (h : Alike s t) (hq : q < 16) (k : failLeaves t u q code) : failLeaves s u q code := by
  obtain ⟨hCode, hMode, hRest⟩ := k
  rw [h.seqStep hq] at hMode hRest
  refine ⟨hCode, hMode, ?_⟩
  split at hRest
  case isTrue hCont => rw [if_pos hCont]; exact h.stepOver hq hRest
  case isFalse hStop => rw [if_neg hStop]; exact h.failStops hRest

/-! ### The commands -/

theorem pass_beside (s : State) (n : Nat) : (pass s n).start = s.start ∧ (pass s n).sqs = s.sqs := by
  unfold pass
  dsimp only
  split
  · exact ⟨rfl, rfl⟩
  split
  · exact ⟨rfl, rfl⟩
  · exact ⟨rfl, rfl⟩

theorem timeKeys_spares : Spares (inBlocks [0x8, 0x13]) := fun k hk => by
  simp [inBlocks]
  omega

theorem passLoc_sameBut (s : State) (n : Nat) : SameBut (inBlocks [0x8, 0x13]) s (passLoc s n) :=
  .ite (pass_sameBut s _) (.refl _ s)

/-- Time that passes leaves the sequences where they are. -/
theorem passLoc_alike (s : State) (n : Nat) : Alike s (passLoc s n) := by
  have hFlds := passLoc_sameBut s n
  obtain ⟨hStart, hSqs⟩ : (passLoc s n).start = s.start ∧ (passLoc s n).sqs = s.sqs := by
    unfold passLoc
    split
    · exact pass_beside s _
    · exact ⟨rfl, rfl⟩
  have hPage {f : Fld} (hf : fkey f / 2 ^ 21 = 6) : fget (passLoc s n) f = fget s f := hFlds f (by
    simp [inBlocks]; omega)
  refine ⟨fun m hm => hPage (by simp only [fkey]; omega), fun m hm => hPage (by simp only [fkey]; omega),
    fon_congr (hFlds _ (by decide)), hStart, ?_, ?_, by rw [hSqs]⟩
  · funext q
    simp only [seqHead, hSqs]
  · funext q
    simp only [seqX, hSqs]

/-- The step of sequence `q` with a TMO has not met its condition at the end of TMO (R278). -/
theorem exec_seqStepTimeout {q : Fin 16} (hRun : fget s (SEQ.STAT.STATE q) = 1) (hIssued : (seqX s q).issued = true)
    (hOp : (seqStep s q).op = 1 ∨ (seqStep s q).op = 3 ∨ (seqStep s q).op = 6 ∨ (seqStep s q).op = 8) :
    exec (.seqStepTimeout q) s =
      let s1 := passLoc s ((seqX s q).stepAt + (seqStep s q).tmo * 10000)
      .next (if (seqStep s q).op = 6 then raise (seqFail s1 q 4) 0x25F else seqFail s1 q 1) :=
  congrArg Host.Outcome.next (if_pos ⟨hRun, hIssued, hOp⟩)

/-- Settles O39: a start and an abort are `seqHostStart` and `seqAbort` on a target that is up, and a timeout is `seqFail`
after the time has passed, which SEQ_DIS follows for an OFF_WAIT. -/
theorem sequenceStartAbortAndTimeout : Obligations.SequenceStartAbortAndTimeout := by
  refine ⟨?ignored, ?start, ?abort, ?timeout⟩
  case ignored =>
    rintro q s ⟨hUp, hRun⟩
    refine completes_atTarget rfl hUp ?_
    rw [seqHostStart_of_running hRun]
    refine ⟨rfl, fget_fset_same .., rfl, ?_, ?_⟩
    · rw [fget_complete, fget_fset_ne _ _ (by simp only [fkey]; omega), hRun]
    · rw [fget_complete, fget_fset_ne _ _ (by simp only [fkey]; omega)]
  case start =>
    rintro q s ⟨hUp, hIdle, hRun, hSafe, hUsed⟩
    refine completes_atTarget rfl hUp ?_
    obtain ⟨hState, hStep, hCode, hStarted, hHold, hBase⟩ := seqHostStart_begins hIdle hRun hSafe hUsed
    refine ⟨?_, hState, hStep, hCode, hStarted, hHold, hBase, fun hFlag r hr hne hOther hLow => ?_⟩
    · rw [seqHostStart_of_ready hIdle hRun hSafe hUsed]
      rfl
    · exact seqHostStart_aborts hIdle hRun hSafe hUsed hFlag hr hne hOther hLow
  case abort =>
    rintro q s ⟨hUp, hRun⟩
    refine completes_atTarget rfl hUp ?_
    obtain ⟨hState, hAborted⟩ := seqAbort_aborts hRun
    refine ⟨rfl, hState, hAborted, fun ⟨hOp, hIssued⟩ => seqAbort_unarms hRun hIssued hOp, ?reg, ?chan⟩
    case reg =>
      rintro ⟨hOp, hIssued, hLow, hHigh, hPending⟩
      exact seqAbort_withdraws_reg hRun hIssued hOp hLow hHigh hPending
    case chan =>
      rintro ⟨hOp, hIssued, hChan, hPending⟩
      exact seqAbort_withdraws_chan hRun hIssued hOp hChan hPending
  case timeout =>
    rintro q s ⟨hBegun, hCalm, hReports, hCalmDis, hReportsDis, hSelf⟩
    obtain ⟨hRun, hIssued, hCount⟩ : fget s (SEQ.STAT.STATE q) = 1 ∧ (seqX s q).issued = true ∧ (seqHead s q).count ≤ 64 := by
      rcases hBegun with h | h | h | h <;> exact ⟨h.1, h.2.2.1, h.2.2.2⟩
    have hOp : (seqStep s q).op = 1 ∨ (seqStep s q).op = 3 ∨ (seqStep s q).op = 6 ∨ (seqStep s q).op = 8 :=
      hBegun.imp (·.2.1) (Or.imp (·.2.1) (Or.imp (·.2.1) (·.2.1)))
    have hAlike := passLoc_alike s ((seqX s q).stepAt + (seqStep s q).tmo * 10000)
    have hPassed {i : Nat} (a : Alert s i) (hRaw : inBlocks [0x8, 0x13] (fkey (FLT.RAW i)) = false) :=
      a.sameBut timeKeys_spares (passLoc_sameBut s ((seqX s q).stepAt + (seqStep s q).tmo * 10000)) hRaw
    have hFail := hPassed ⟨hCalm, hReports⟩ (by decide)
    have hDis := seqFail_alert (code := 4) hFail (hPassed ⟨hCalmDis, hReportsDis⟩ (by decide)) q.isLt
    have hLeaves {code : Nat} (hCode : code < 256) := failLeaves_of_alike hAlike q.isLt
      (seqFail_leaves (code := code) hFail q.isLt (by rw [hAlike.state q q.isLt, hRun]) (by rw [hAlike.held, hIssued])
        (by rwa [hAlike.head]) (by rwa [hAlike.head]) hCode)
    refine ⟨_, exec_seqStepTimeout hRun hIssued hOp, ?_⟩
    by_cases hOff : (seqStep s q).op = 6
    · obtain ⟨hCode, hMode, hRest⟩ := failLeaves_raise q.isLt hDis (hLeaves (code := 4) (by decide))
      dsimp only
      rw [if_pos hOff, if_pos hOff]
      exact ⟨hCode, fun _ => ⟨hMode hOff, fget_raise_lat hDis.1 hDis.2 (by decide)⟩, hRest⟩
    · obtain ⟨hCode, -, hRest⟩ := hLeaves (code := 1) (by decide)
      dsimp only
      rw [if_neg hOff, if_neg hOff]
      exact ⟨hCode, fun h => absurd h hOff, hRest⟩

end Sys2Proof.Machine
end
